-- ==== Sys2Proof/Syntax.lean ====
section
/-! DEFINITION. The commands of the block: the names its ports, lanes, engines and bases have, the data that
arrives with a command, and the one inductive Instr with a constructor for every row of the opcode table. -/

namespace Sys2Proof

/-- The two lanes (R5). -/
inductive LaneId where
  | a | b
deriving DecidableEq, Repr

/-- The four motor ports (R5). -/
inductive PortId where
  | m1 | m2 | m3 | m4
deriving DecidableEq, Repr

/-- The three engine roles of a cluster: current path, position and start-up, speed and supervision (R5). -/
inductive EngineRole where
  | e0 | e1 | e2
deriving DecidableEq, Repr

/-- The four general converters (R22). -/
inductive GcId where
  | g0 | g1 | g2 | g3
deriving DecidableEq, Repr

/-- The two pairs (R5). -/
inductive PairId where
  | p1 | p2
deriving DecidableEq, Repr

/-- The ports on which requests arrive: N1, N2, N3, the chain port, the TAP (R30). -/
inductive Origin where
  | n1 | n2 | n3 | chain | tap
deriving DecidableEq, Repr

/-- The two T1S ports, which carry 802.1AS. -/
inductive NetPort where
  | n1 | n2
deriving DecidableEq, Repr

/-- The two network time domains. -/
inductive DomId where
  | t0 | t1
deriving DecidableEq, Repr

/-- The three phases of a port. -/
inductive Phase where
  | u | v | w
deriving DecidableEq, Repr

/-- The phase of the current or voltage front end that has a shunt (R87). -/
inductive Chan where
  | u | v
deriving DecidableEq, Repr

/-- An engine: a role in the cluster of a port (R5). -/
structure EngineId where
  port : PortId
  role : EngineRole
deriving DecidableEq, Repr

/-- The lane that owns a port (R5). -/
def PortId.lane : PortId → LaneId
  | .m1 | .m2 => .a
  | .m3 | .m4 => .b

/-- The port's number minus one, the x of its object indices (R6). -/
def PortId.num : PortId → Nat
  | .m1 => 0 | .m2 => 1 | .m3 => 2 | .m4 => 3

/-- The other port of the pair that the port belongs to (R5). -/
def PortId.partner : PortId → PortId
  | .m1 => .m3 | .m3 => .m1 | .m2 => .m4 | .m4 => .m2

/-- The pair to which a port belongs when the image pairs it (R5). -/
def PortId.pair : PortId → PairId
  | .m1 | .m3 => .p1
  | .m2 | .m4 => .p2

/-- The other port of the same lane. -/
def PortId.sibling : PortId → PortId
  | .m1 => .m2 | .m2 => .m1 | .m3 => .m4 | .m4 => .m3

/-- The ports in order. -/
def PortId.all : List PortId := [.m1, .m2, .m3, .m4]

/-- The ports of a lane (R5). -/
def LaneId.ports : LaneId → List PortId
  | .a => [.m1, .m2]
  | .b => [.m3, .m4]

/-- The other lane. -/
def LaneId.other : LaneId → LaneId
  | .a => .b | .b => .a

/-- 0 for lane A, 1 for lane B. -/
def LaneId.num : LaneId → Nat
  | .a => 0 | .b => 1

/-- The lane A port and the lane B port of a pair (R5). -/
def PairId.portOf : PairId → LaneId → PortId
  | .p1, .a => .m1 | .p1, .b => .m3
  | .p2, .a => .m2 | .p2, .b => .m4

/-- 0 for P1, 1 for P2. -/
def PairId.num : PairId → Nat
  | .p1 => 0 | .p2 => 1

/-- 0, 1 or 2. -/
def EngineRole.num : EngineRole → Nat
  | .e0 => 0 | .e1 => 1 | .e2 => 2

/-- ME0 to ME11 (R5). -/
def EngineId.num (e : EngineId) : Nat := 3 * e.port.num + e.role.num

/-- The engine's lane position on the TDMA crossbar, 0 to 5 (R37). -/
def EngineId.pos (e : EngineId) : Nat := e.num % 6

/-- The lane of a converter (R28). -/
def GcId.lane : GcId → LaneId
  | .g0 | .g1 => .a
  | .g2 | .g3 => .b

/-- The converter number 0 to 3. -/
def GcId.num : GcId → Nat
  | .g0 => 0 | .g1 => 1 | .g2 => 2 | .g3 => 3

/-- 0 for T0, 1 for T1. -/
def DomId.num : DomId → Nat
  | .t0 => 0 | .t1 => 1

/-- 0 for N1, 1 for N2. -/
def NetPort.num : NetPort → Nat
  | .n1 => 0 | .n2 => 1

/-- The lane that owns a T1S port (R22). -/
def NetPort.lane : NetPort → LaneId
  | .n1 => .a | .n2 => .b

/-- 0, 1 or 2 for U, V, W. -/
def Phase.num : Phase → Nat
  | .u => 0 | .v => 1 | .w => 2

/-- The phases a current channel does not sit on (R89). -/
def Chan.others : Chan → List Phase
  | .u => [.v, .w]
  | .v => [.u, .w]

/-- The phase a current channel sits on. -/
def Chan.phase : Chan → Phase
  | .u => .u | .v => .v

/-! ### Engine operations -/

/-- The outcome of the SECDED check of a memory access (R35). -/
inductive Ecc where
  | none | single
  | double (lo hi : Word)  -- the words as read; hi for the second word of a 64-bit access
deriving DecidableEq, Repr

/-- An operand of an engine operation: a register or an immediate. -/
inductive Src where
  | reg (n : Nat)
  | imm (v : Word)
deriving DecidableEq, Repr

/-- The ALU operations; sat selects saturation on overflow, otherwise the result wraps (R31, R34). -/
inductive AluOp where
  | add (sat : Bool) | sub (sat : Bool) | and | or | xor | not
  | cmpEq | cmpLt | cmpLtU | select | shl | shr | sar
  | saturate (bits : Nat) | move
deriving DecidableEq, Repr

/-- The multiply operations: product, multiply-accumulate, product rounded by `frac` fractional bits (R31). -/
inductive MulOp where
  | mul (sat : Bool) | mac (sat : Bool) | mulQ (frac : Nat) (sat : Bool)
deriving DecidableEq, Repr

/-- A load into a register or a store of an operand. -/
inductive MemOp where
  | load (dst : Nat)
  | store (src : Src)
deriving DecidableEq, Repr

/-- The handoff cells (R75). -/
inductive CellId where
  | current | angle | setpoint | duty | bus | xw
deriving DecidableEq, Repr

/-- A stage-port access: a read of a cell into eight registers, a read of a result record of a converter, or a write of the cell
the engine produces from eight operand words' value bytes, with its FALLBACK flag (R39, R75). -/
inductive StageOp where
  | read (cell : CellId) (dst : Nat)
  | record (conv : GcId) (entry dst : Nat)
  | writeAngle (angle : Nat) (speed : Int) (conf source : Nat) (fb : Bool)
  | writeSetpoint (id iq lim : Int) (flags : Nat) (fb : Bool)
  | writeDuty (du dv dw pattern : Nat) (fb : Bool)
deriving DecidableEq, Repr

/-- What a slot monitor observes: a marker against its certified place, a missing marker, or a bundle outside
every placed instance (R56). -/
inductive MonEvent where
  | marker (isEnd : Bool) (kernel certSlot certTick : Nat) (offset : Int)
  | absent (isEnd : Bool) (kernel certSlot certTick : Nat)
  | unplaced (tick : Nat)
deriving DecidableEq, Repr

/-! ### Samples and measurements -/

/-- One sample instant of a port's current converters: raw 14-bit codes and over-range flags (R87, R90). -/
structure CurSample where
  u : Nat
  v : Nat
  uOvr : Bool
  vOvr : Bool
deriving DecidableEq, Repr

/-- One sample instant for the over-current comparator: its tag in CLK_P cycles and the sample (R88, R98). -/
structure OcSample where
  tag : Nat
  s : CurSample
deriving DecidableEq, Repr

/-- What a port's front end and drivers deliver for the carrier period that ends (R87, R126, R136, R124): the
current samples in order, the bus-voltage samples in mV, the bootstrap voltage of each phase at its high-side
turn-on in mV, and the interlock's delays in ns. -/
structure PeriodIn where
  cur : List CurSample
  bus : List Nat
  bootU : Nat
  bootV : Nat
  bootW : Nat
  interlock : List Nat
deriving DecidableEq, Repr

/-- The sums of a current-sensing calibration pass: offset, reference + and reference − codes per channel, over
2048, 1024 and 1024 conversions (R100). -/
structure CalSums where
  offU : Nat
  offV : Nat
  posU : Nat
  posV : Nat
  negU : Nat
  negV : Nat
deriving DecidableEq, Repr

/-- A gate of a port. -/
structure Gate where
  phase : Phase
  high : Bool
deriving DecidableEq, Repr

/-- The level of a phase node (R130). -/
inductive NodeLevel where
  | low | high | undefined
deriving DecidableEq, Repr

/-- What the monitored quantities of clearing class C read at the clearing slot (R252). -/
structure ClearObs where
  vgdMv : Nat            -- VGD of the lane
  sensOk : Bool          -- VSENS within its window and load
  busMv : Nat            -- DSn of the port
  memberMv : List Nat    -- latest samples of the lane's chopper member ports, M1/M3 first
deriving DecidableEq, Repr

/-- A feedback line at one CLK_A sample: its unfiltered level and for how many samples, this one included, it has held it
(R185). -/
structure LineSample where
  level : Bool
  held : Nat
deriving DecidableEq, Repr

/-- The intervals between falling edges of one SENT frame in CLK_A cycles: a pause if one was present, the calibration pulse
and the nibbles. The frame arrives at a sample of FBZ, a cycle of the present slot, at which the line has been low for `low`
samples since the edge that ends it (R185, R195). -/
structure SentFrame where
  pause : Option Nat
  cal : Nat
  nibbles : List Nat
  cycle : Nat
  low : Nat
deriving DecidableEq, Repr

/-! ### Frames -/

/-- What a datagram arrives in on N1 and N2 (R334, R335): the source MAC address, source and destination address (4 bytes for
IPv4, 16 for IPv6), the UDP ports, and whether it is a fragment. -/
structure FrameHead where
  mac : List Byte
  src : List Byte
  dst : List Byte
  srcPort : Nat
  dstPort : Nat
  fragment : Bool
deriving DecidableEq, Repr

/-- What the network ports sense at a boundary (R356): the PLCA beacon on N1 and N2, and N3's error-passive state. -/
structure NetSense where
  beacon1 : Bool
  beacon2 : Bool
  passive : Bool
deriving DecidableEq, Repr

/-- What a slot boundary samples: the levels of the GPIO pins, bit k for GPIOk, and the network ports' lines (R25, R450). -/
structure BoundarySense where
  gpio : Nat
  net : NetSense
deriving DecidableEq, Repr

/-- A look at a phase node: its level, how long its gate has been on, in ns, whether it is taken at a slot boundary, and
BSxn − SWxn in mV at the phase's turn-on of the high side while the modulator commands the high side on (R126, R130). -/
structure NodeCheck where
  level : NodeLevel
  onNs : Nat
  boundary : Bool
  bootMv : Option Nat
deriving DecidableEq, Repr

/-- What a driver measures at a gate: the drain-source voltage in mV, and BSxn − SWxn in mV at the phase's turn-on of the high side
while the modulator commands the high side on (R126, R128). -/
structure DrainSense where
  vdsMv : Nat
  bootMv : Option Nat
deriving DecidableEq, Repr

/-- LULL_N low: for how long, in ns, and whether it stays low (R429, R441). -/
structure LullLow where
  ns : Nat
  stays : Bool
deriving DecidableEq, Repr

/-- A sample of the index line FBZ of a port (R185, R191). -/
structure IndexSample where
  port : PortId
  line : LineSample
deriving DecidableEq, Repr

/-- The three Hall lines of a port at one sample: H1, H2 and H3 (R185, R193). -/
structure HallLines where
  h1 : LineSample
  h2 : LineSample
  h3 : LineSample
deriving DecidableEq, Repr

/-- How long the condition of a wake source has lasted, in the unit of its threshold, and the LFO cycle of the wake-up (R280). -/
structure WakeSpan where
  span : Nat
  cycle : Nat
deriving DecidableEq, Repr

/-- A lane's supply as it returns, in mV (R284). -/
structure LaneReturn where
  lane : LaneId
  vbatMv : Nat
deriving DecidableEq, Repr

/-- The LFO's frequency in mHz as lane A and lane B measure it (R302). -/
structure LfoSense where
  a : Nat
  b : Nat
deriving DecidableEq, Repr

/-! ### General converters -/

/-- What a converter finds at a sample instant (R258): the voltage at the input in µV, for a temperature point its temperature in
m°C, and the deviation of the raw code from the ideal one. -/
structure GcSample where
  level : Int
  err : Int
deriving DecidableEq, Repr

/-- The sums of 768 conversions at the low and the high reference for gains 1, 2 and 4 (R269). -/
structure GcSums where
  low1 : Nat
  high1 : Nat
  low2 : Nat
  high2 : Nat
  low4 : Nat
  high4 : Nat
deriving DecidableEq, Repr

/-! ### Supplies, clocks and time -/

/-- The monitored rails whose fault is FLT_SUPPLY_UV, in the order of their cause codes (R283, R297). -/
inductive SupplyRail where
  | vbat | vpre | vcore | vio
deriving DecidableEq, Repr

/-- What a lane supervisor measures every 1 ms: four temperatures in 0.1 °C and six rails in mV (R294, R297), and the
last frequency window: CLK_E cycles over 40 backup cycles (R303, R309). -/
structure LaneObs where
  drv1 : Int
  drv2 : Int
  engines : Int
  regulators : Int
  vbat : Nat
  vpre : Nat
  vcore : Nat
  vio : Nat
  vsens : Nat
  vgd : Nat
  rootWin : Nat
deriving DecidableEq, Repr

/-- What a lane's root detectors see (R303): how long the root input has had no edge, the last two frequency windows (CLK_E
cycles over 40 backup cycles, the latest second), and whether the PLL reports loss of lock. -/
structure RootObs where
  noEdgeNs : Nat
  win1 : Nat
  win2 : Nat
  unlocked : Bool
deriving DecidableEq, Repr

/-- The two comparisons of a lane's clock monitor (R306). -/
inductive ClockWindow where
  | otherLane | lfoCycle
deriving DecidableEq, Repr

/-- A received Sync, or the Follow_Up that completes one (R313, R316): domain number, source port identity, sequence,
whether it is two-step, log interval, origin in ns, correction in 2^-16 ns, and the cumulative scaled rate offset in
2^-41. -/
structure SyncMsg where
  domain : Nat
  src : Nat
  seq : Nat
  twoStep : Bool
  logInterval : Int
  origin : Nat
  correction : Int
  rateOfs : Int
deriving DecidableEq, Repr

/-- A received Announce (R313, R315): domain number, source port identity and address, priority vector, grandmaster
identity, log interval. -/
structure AnnounceMsg where
  domain : Nat
  src : Nat
  mac : List Byte
  vec : List Nat
  gm : Nat
  logInterval : Int
deriving DecidableEq, Repr

/-- A Pdelay_Resp with its Pdelay_Resp_Follow_Up (R313, R315): responder's address, sequence, request receipt and
response origin times in ns. -/
structure PdelayResp where
  mac : List Byte
  seq : Nat
  t2 : Int
  t3 : Int
deriving DecidableEq, Repr

/-- What a half of a profile slot holds when its read-back differs from what was programmed (R392): header, records,
image. -/
structure HalfBytes where
  header : List Byte
  records : List Byte
  image : List Byte
deriving DecidableEq, Repr

/-- How the programming of a fuse word went (R413, R420, R421): the data bits and the check bits that a pulse has set, whether
every bit verified, whether a window was left before a pulse, whether a free spare row took the word, and whether the word
read back is MARGINAL, had a single-bit error corrected, or an uncorrectable one. -/
structure OtpEnd where
  pulsed : Nat
  checks : Nat
  verified : Bool
  windowLeft : Bool
  spareOk : Bool
  weak : Bool
  corrected : Bool
  broken : Bool
deriving DecidableEq, Repr

/-- What a re-read of a few fuse words found (R413, R415): those that read MARGINAL, those with an uncorrectable error, and how
many single-bit errors were corrected. -/
structure WordsRead where
  weak : List Nat
  broken : List Nat
  corrected : Nat
deriving DecidableEq, Repr

/-- What a read of fuse words found (R413, R415): words with the value they read where it differs from what they read
before, the words that read MARGINAL, privileged words with an uncorrectable error, and single-bit errors corrected. -/
structure OtpReading where
  changed : List (Nat × Word)
  weak : List Nat
  broken : List Nat
  corrected : Nat
deriving DecidableEq, Repr

/-- The commands of the block: one constructor for every row of the opcode table. Operands are what arrives from outside with the command. -/
inductive Instr where
  -- slots, publication and the engines' operations
  | slotBoundary (l : LaneId) (ticks : Nat) (x : BoundarySense)
  | changePublication
  | budgetAllocation (l : LaneId)
  | alu (e : EngineId) (t : Nat) (op : AluOp) (dst : Nat) (a b c : Src)
  | multiply (e : EngineId) (t : Nat) (op : MulOp) (dst : Nat) (a b c : Src)
  | sineCosine (e : EngineId) (t : Nat) (dstSin dstCos : Nat) (angle : Src)
  | divideSquareRoot (e : EngineId) (t : Nat) (sqrt sat : Bool) (dst : Nat) (a b : Src)
  | scratchpadAccess (e : EngineId) (t : Nat) (op : MemOp) (wide : Bool) (addr : Nat) (ecc : Ecc)
  | sharedSramAccess (e : EngineId) (t : Nat) (op : MemOp) (addr : Nat) (ecc : Ecc)
  | stagePortAccess (e : EngineId) (t : Nat) (op : StageOp)
  | crosswindSend (p : PortId) (t : Nat) (angle pairByte : Nat) (speed id iq vd vq : Int) (health residual : Nat) (x : Int)
  | branch (e : EngineId) (t : Nat) (taken : Bool) (target : Nat)
  | loopSetUp (e : EngineId) (t : Nat) (second : Bool) (count : Nat)
  -- the kernels, placed by the active image, at a tick of the current slot
  | kIin (p : PortId) (t : Nat)
  | kAngIn (p : PortId) (t : Nat)
  | kVbusIn (p : PortId) (t : Nat)
  | kClarke (p : PortId) (t : Nat)
  | kPark (p : PortId) (t : Nat)
  | kPiDq (p : PortId) (t : Nat)
  | kDecouple (p : PortId) (t : Nat)
  | kMtpa (p : PortId) (t : Nat)
  | kFwVlim (p : PortId) (t : Nat)
  | kIpark (p : PortId) (t : Nat)
  | kOvm (p : PortId) (t : Nat)
  | kDtcomp (p : PortId) (t : Nat)
  | kSvm7 (p : PortId) (t : Nat)
  | kSvm5 (p : PortId) (t : Nat)
  | kZvv (p : PortId) (t : Nat)
  | kHfiInj (p : PortId) (t : Nat)
  | kDutyOut (p : PortId) (t : Nat)
  | kQepIn (p : PortId) (t : Nat)
  | kHallIn (p : PortId) (t : Nat)
  | kHallInterp (p : PortId) (t : Nat)
  | kSentIn (p : PortId) (t : Nat)
  | kAngScale (p : PortId) (t : Nat)
  | kSpdEst (p : PortId) (t : Nat)
  | kObsBemf (p : PortId) (t : Nat)
  | kObsHfi (p : PortId) (t : Nat)
  | kObsBlend (p : PortId) (t : Nat)
  | kPllAng (p : PortId) (t : Nat)
  | kAlign (p : PortId) (t : Nat)
  | kIfRamp (p : PortId) (t : Nat)
  | kHandover (p : PortId) (t : Nat)
  | kFlyCatch (p : PortId) (t : Nat)
  | kRotorLoss (p : PortId) (t : Nat)
  | kAngOut (p : PortId) (t : Nat)
  | kProcIn (p : PortId) (t : Nat)
  | kRamp (p : PortId) (t : Nat)
  | kScurve (p : PortId) (t : Nat)
  | kSpdPi (p : PortId) (t : Nat)
  | kTrqSet (p : PortId) (t : Nat)
  | kLimBudget (p : PortId) (t : Nat)
  | kCheckDq (p : PortId) (t : Nat)
  | kXwExch (p : PortId) (t : Nat)
  | kXwPlaus (p : PortId) (t : Nat)
  | kSupervise (p : PortId) (t : Nat)
  | kSetOut (p : PortId) (t : Nat)
  | kStatusOut (p : PortId) (t : Nat)
  | kStopSeq (p : PortId) (t : Nat)
  -- ports: state, monitors, carrier, current sensing
  | portStateTransition (p : PortId)
  | engineTimingFault (e : EngineId) (ev : MonEvent)
  | carrierPeriodStart (p : PortId) (obs : PeriodIn)
  | overcurrentTrip (p : PortId) (obs : List OcSample)
  | bothPoorLimit (p : PortId)
  | csStartCalibration (p : PortId)
  | calibrationInterval (p : PortId)
  | csCalibrationEnd (p : PortId) (sums : CalSums)
  -- gate drivers, safe state, choppers
  | bootUvFault (p : PortId)
  | gdSupplyFault (l : LaneId) (vgdMv heldNs : Nat)
  | desaturation (p : PortId) (g : Gate) (sense : DrainSense) (onNs aboveNs : Nat)
  | phaseNodeCheck (p : PortId) (x : Phase) (high : Bool) (c : NodeCheck)
  | gdFeedbackFault (p : PortId)
  | safeStateCommand (p : PortId) (step : Nat := 0)
  | ascRelease (p : PortId) (codes : List Nat)
  | safeStateReleaseOff (p : PortId)
  | chopperEngage (p : PortId) (t mv : Nat)
  | chopperRelease (l : LaneId) (t : Nat) (mv1 mv2 : Nat)
  | chopperDrainCheck (l : LaneId) (t brksMv : Nat)
  | chopperEffectCheck (l : LaneId) (t : Nat) (mv1 mv2 : Nat)
  | nonmemberOv2 (p : PortId) (t mv : Nat)
  | nonmemberOv2Withdraw (p : PortId) (t mv : Nat)
  | escalationDelay (p : PortId) (t mv : Nat)
  | busOv3 (p : PortId) (mv aboveNs : Nat)
  | gridPhaseMeasurement
  | coastTimeout (p : PortId)
  | standstill (p : PortId)
  | faultClear (p : PortId) (obs : ClearObs)
  -- feedback
  | quadratureEdge (p : PortId) (a b : LineSample) (cycle : Nat)
  | illegalBucketLeak (p : PortId)
  | illegalBucketLimit (p : PortId)
  | indexEvent (x : IndexSample)
  | indexMismatchLimit (p : PortId)
  | presetCount (p : PortId)
  | hallStateChange (p : PortId) (h : HallLines) (cycle : Nat)
  | hallInvalidTimeout (p : PortId)
  | zeroSpeedTimeout (p : PortId)
  | sentFrameReceived (p : PortId) (f : SentFrame)
  | sentTimeout (p : PortId)
  -- start-up of sensorless ports
  | startPhaseBoundary (p : PortId)
  | startAttemptFailure (p : PortId)
  | polarityDecision (p : PortId)
  | handoverReached (p : PortId)
  | rotorLossDetected (p : PortId)
  | catchConfirmed (p : PortId)
  -- pairs and lanes
  | crosswindRecordArrival (p : PortId) (t : Nat)
  | faultLineReceived (p : PortId)
  | pairStateTransition (p : PortId)
  | xwLineFault (p : PortId)
  | blamedPartnerDriving (p : PortId)
  | overloadTimeExpiry (p : PortId)
  | partnerLaneLost (l : LaneId)
  | degradedEntry
  -- general converters
  | gcConversionComplete (g : GcId) (x : GcSample)
  | restartSequence (g : GcId)
  | gcRestartTakesEffect (g : GcId)
  | injectedRequest (g : GcId)
  | gcStartCalibration (g : GcId)
  | gcCalibrationEnd (g : GcId) (sums : GcSums)
  -- modes, wake sources, supplies, resets and start-up
  | modeRequestSleep
  | modeRequestStandby
  | modeRequestRun
  | privilegedRequestStorage
  | privilegedRequestConfigure
  | lowPowerEntry
  | autoRun
  | wakePin (rising : Bool) (held : WakeSpan)
  | wakeTimer (elapsed : WakeSpan)
  | canWakeUp (cycle : Nat := 0)
  | vbatReconnect (mv : Nat) (low : WakeSpan)
  | supplyUv (l : LaneId) (rail : SupplyRail) (mv heldNs : Nat)
  | sensorSupplyFault (l : LaneId) (mv loadMa heldNs : Nat)
  | laneSupplyReturn (x : LaneReturn)
  | bothLanesLost (common : Bool := false)
  | powerOnReset
  | resetNPulse (lowNs : Nat)
  | deviceReset
  | resetRelease (a b : Bool) (psel : Nat) (otp : OtpReading) (bistA bistB : Bool)
  | rootClockQualified (lfo : LfoSense)
  | rootQualificationTimeout (lfo : LfoSense)
  | laneNotReady (l : LaneId)
  | startupImageCheckComplete
  | thermalMeasurement (l : LaneId) (obs : LaneObs)
  | overtemp (l : LaneId) (decidegrees : Int) (heldNs : Nat)
  | vgdBelow7v (l : LaneId) (vgdMv : Nat)
  | islandUnpowered
  -- clocks
  | rootClockLoss (l : LaneId) (obs : RootObs)
  | backupTrimAdjust (l : LaneId) (dev : Int)
  | backupSteeringStep (l : LaneId) (devPpm : Int)
  | laneClockComparison (l : LaneId) (w : ClockWindow) (count : Nat)
  | laneClockFault (l : LaneId)
  | commonTimeFault
  -- network time and timed actions
  | syncReceived (n : NetPort) (m : SyncMsg) (rx : Int)
  | followUpReceived (n : NetPort) (m : SyncMsg)
  | announceReceived (n : NetPort) (m : AnnounceMsg)
  | pdelayReqReceived (n : NetPort) (requester seq : Nat) (rx tx : Int)
  | pdelayRespReceived (n : NetPort) (m : PdelayResp) (rx : Int)
  | pdelayReqSend (n : NetPort) (tx : Int)
  | syncReceiptTimeout (x : DomId) (n : NetPort)
  | announceReceiptTimeout (x : DomId) (n : NetPort)
  | atSwitchComplete
  | atRevert
  | domainEnable (x : DomId)
  | setDt
  | timedActionArm (e : Nat)
  | timedActionCancel (e : Nat)
  | syncPulse (e : Nat)
  | syncPulseEnd (out : Nat)
  | applyValue (e : Nat)
  | reanchorCarrierGrid (e : Nat)
  | timedModeRequest (e : Nat)
  -- the journal and publication
  | journalCommitStart
  | journalCommitComplete (first second : Bool)
  | journalBlockEraseComplete
  | acknowledge
  | takeSnapshot
  -- requests, sessions and streams
  | requestArrival (o : Origin) (h : FrameHead) (canId : Nat) (pdu : List Byte)
  | read (o : Origin)
  | write (o : Origin) (vppMv : Nat)
  | readSegment (o : Origin)
  | writeSegment (o : Origin) (vppMv : Nat)
  | stagingBufferWrite (o : Origin)
  | openSession (o : Origin)
  | auth (o : Origin)
  | close (o : Origin)
  | attach (o : Origin)
  | detach (o : Origin)
  | openExpiry (id : Nat)
  | sessionTimeout (id : Nat)
  | authLockoutExpiry (o : Origin)
  | bridgeExecution (o : Origin)
  | streamFrameArrival (o : Origin) (h : FrameHead) (canId : Nat) (pdu : List Byte)
  | streamTimeout (n : Nat)
  | streamTransmit (n : Nat)
  | arpRequest (n : NetPort) (mac : List Byte) (ip : Nat)
  | neighbourSolicitation (n : NetPort) (mac target : List Byte)
  | echoRequest (n : NetPort) (h : FrameHead) (data : List Byte)
  | busOff
  | busOffRecovery
  | n3Takeover
  | n3TakeoverComplete
  | ipv4LinkLocalClaim (n : NetPort) (addr : Nat) (conflict : Bool)
  | bankStaging (o : Origin)
  -- schedule images
  | verifyStagedImage
  | imageVerificationComplete
  | activateStagedImage
  | imageHyperframeStart
  -- profiles, device records and banks
  | selectProfile
  | profileLoadComplete
  | saveProfile
  | profileSaveComplete (differs : Option HalfBytes)
  | eraseProfile
  | profileEraseComplete
  | deviceRecordWrite
  | bankEraseComplete
  | verifyInactiveBank
  | bankVerificationComplete
  | switchBanks
  -- fuses
  | programWord
  | otpProgramComplete (r : OtpEnd)
  | lockRegion
  | otpLockComplete (weak : WordsRead) (r : OtpEnd)
  | otpPeriodicReread (reading : OtpReading) (complete : Bool)
  | ordinaryWordsRead (weak : List Nat)
  -- the chain port
  | chainCsnFall (sckHigh : Bool)
  | chainCsnRise (sckHigh : Bool) (edges : Nat) (bits : List Bool)
  | chainStartUnit
  | chainDataUnit
  | chainAbortUnit
  -- the test access port
  | freeze
  | fzStatus
  | dumpAddr (v : Nat)
  | dumpData (words : Nat)
  | resume
  | sysreset
  | idcode
  | extest (pins drive : List Bool)
  | samplePreload (pins preload : List Bool)
  | highz
  | clamp
  | bypass (code : Nat) (tdi : Bool)
  | obj (cycles word : Nat)
  | tapReset
  -- the freeze, captures, traces and return consent
  | lullNTrigger (low : LullLow)
  | selfDumpStart (quietUs : Nat)
  | freezeCommand
  | selfDumpComplete
  | releaseCapture
  | captureEraseComplete
  | traceRecordWrite
  | returnConsentSet
  | returnConsentClear
deriving DecidableEq, Repr

end Sys2Proof
end

