-- ==== Sys2Proof/WellFormed.lean ====
section
/-! DEFINITION. When the operands of a command are in the ranges that the manual gives them: ticks of a slot, addresses, codes of
14-bit converters, numbers of streams, sessions and timed-action entries, fields of frames. -/

namespace Sys2Proof

/-- A saturating width is 1 to 32 bits (R34). -/
def AluOp.wf : AluOp → Bool
  | .saturate bits => decide (1 ≤ bits) && bits ≤ 32
  | _ => true

/-- A fractional width is below 32 bits (R34). -/
def MulOp.wf : MulOp → Bool
  | .mulQ frac _ => frac < 32
  | _ => true

/-- An engine writes the one cell its role produces; it reads any (R39, R75). -/
def StageOp.wf : StageOp → EngineRole → Bool
  | .read _ _, _ => true
  | .record _ n _, _ => n < 16
  | .writeAngle a _ c x _, .e1 => a < 16384 && c < 256 && x < 256
  | .writeSetpoint _ _ _ f _, .e2 => f < 65536
  | .writeDuty u v w p _, .e0 => u < 65536 && v < 65536 && w < 65536 && p < 256
  | _, _ => false

/-- The crossbar ticks of an engine: its lane position modulo 6, up to tick 197 (R37). -/
def EngineId.crossbarTick (e : EngineId) (t : Nat) : Bool := t ≤ 197 && t % 6 == e.pos

/-- A tick lies in a slot of 200 (R24). -/
def MonEvent.wf : MonEvent → Bool
  | .marker _ _ _ t _ => t < 200
  | .absent _ _ _ t => t < 200
  | .unplaced t => t < 200

/-- Codes of 14 bits (R87). -/
def CurSample.wf (x : CurSample) : Bool := x.u < 16384 && x.v < 16384

/-- The current samples of a period are at most four of 14 bits (R88). -/
def PeriodIn.wf (x : PeriodIn) : Bool := x.cur.all CurSample.wf

/-- Sums of 2048 and 1024 conversions of 14 bits (R100). -/
def CalSums.wf (x : CalSums) : Bool :=
  x.offU ≤ 2048 * 16383 && x.offV ≤ 2048 * 16383 && x.posU ≤ 1024 * 16383 && x.posV ≤ 1024 * 16383 &&
  x.negU ≤ 1024 * 16383 && x.negV ≤ 1024 * 16383

/-- Sums of 768 conversions of 14 bits (R269). -/
def GcSums.wf (x : GcSums) : Bool :=
  [x.low1, x.high1, x.low2, x.high2, x.low4, x.high4].all fun v => v ≤ 768 * 16383

/-- A line has held its level for at least the present sample, and for a time that a stamp of 32 bits can tell (R185). -/
def LineSample.wf (x : LineSample) : Bool := 0 < x.held && x.held < 2 ^ 32

/-- A SENT frame ends at a falling edge that a stamp can tell, seen at one of a slot's 50 cycles (R185, R195). -/
def SentFrame.wf (x : SentFrame) : Bool := 0 < x.low && x.low < 2 ^ 32 && x.cycle < 50

/-- The widths of a frame's fields: a MAC address of 6 bytes, two addresses of 4 or of 16, ports of 16 bits, an identifier of 29
(R334, R335, R337). -/
def FrameHead.wf (x : FrameHead) : Bool :=
  x.mac.length == 6 && (x.src.length == 4 || x.src.length == 16) && x.dst.length == x.src.length &&
  x.srcPort < 2 ^ 16 && x.dstPort < 2 ^ 16

/-- Domain number and sequence number widths (R313). -/
def SyncMsg.wf (x : SyncMsg) : Bool := x.domain < 256 && x.src < 2 ^ 80 && x.seq < 65536

/-- Fuse words have numbers below 512 (R413). -/
def OtpReading.wf (x : OtpReading) : Bool :=
  (x.changed.all fun e => e.1 < 512) && (x.weak.all fun w => w < 512) && x.broken.all fun w => w < 512

/-- The bits pulsed are those of one word and its 7 check bits (R413, R420). -/
def OtpEnd.wf (x : OtpEnd) : Bool := x.pulsed < 2 ^ 32 && x.checks < 128

/-- Fuse words re-read have numbers below 512 (R413). -/
def WordsRead.wf (x : WordsRead) : Bool := (x.weak.all fun w => w < 512) && x.broken.all fun w => w < 16

/-- Whether a command's operands are in range. -/
def Instr.wf : Instr → Bool
  | .slotBoundary _ _ x => x.gpio < 256
  | .changePublication => true
  | .budgetAllocation _ => true
  | .alu _ t op _ _ _ _ => t < 200 && op.wf
  | .multiply _ t op _ _ _ _ => t < 200 && op.wf
  | .sineCosine _ t _ _ _ => t < 200
  | .divideSquareRoot _ t _ _ _ _ _ => t < 200
  | .scratchpadAccess _ t _ wide addr _ => t < 200 && addr + b2n wide < 8192
  | .sharedSramAccess e t _ addr _ => e.crossbarTick t && addr < 524288
  | .stagePortAccess e t op => t < 200 && op.wf e.role
  | .crosswindSend _ t angle pairByte _ _ _ _ _ health residual _ => t < 200 && angle < 16384 && pairByte < 256 && health < 256 && residual < 65536
  | .branch _ t _ target => t < 200 && target < 2048
  | .loopSetUp _ t _ count => t < 200 && decide (1 ≤ count) && count ≤ 65536
  | .kIin _ t => t < 200
  | .kAngIn _ t => t < 200
  | .kVbusIn _ t => t < 200
  | .kClarke _ t => t < 200
  | .kPark _ t => t < 200
  | .kPiDq _ t => t < 200
  | .kDecouple _ t => t < 200
  | .kMtpa _ t => t < 200
  | .kFwVlim _ t => t < 200
  | .kIpark _ t => t < 200
  | .kOvm _ t => t < 200
  | .kDtcomp _ t => t < 200
  | .kSvm7 _ t => t < 200
  | .kSvm5 _ t => t < 200
  | .kZvv _ t => t < 200
  | .kHfiInj _ t => t < 200
  | .kDutyOut _ t => t < 200
  | .kQepIn _ t => t < 200
  | .kHallIn _ t => t < 200
  | .kHallInterp _ t => t < 200
  | .kSentIn _ t => t < 200
  | .kAngScale _ t => t < 200
  | .kSpdEst _ t => t < 200
  | .kObsBemf _ t => t < 200
  | .kObsHfi _ t => t < 200
  | .kObsBlend _ t => t < 200
  | .kPllAng _ t => t < 200
  | .kAlign _ t => t < 200
  | .kIfRamp _ t => t < 200
  | .kHandover _ t => t < 200
  | .kFlyCatch _ t => t < 200
  | .kRotorLoss _ t => t < 200
  | .kAngOut _ t => t < 200
  | .kProcIn _ t => t < 200
  | .kRamp _ t => t < 200
  | .kScurve _ t => t < 200
  | .kSpdPi _ t => t < 200
  | .kTrqSet _ t => t < 200
  | .kLimBudget _ t => t < 200
  | .kCheckDq _ t => t < 200
  | .kXwExch _ t => t < 200
  | .kXwPlaus _ t => t < 200
  | .kSupervise _ t => t < 200
  | .kSetOut _ t => t < 200
  | .kStatusOut _ t => t < 200
  | .kStopSeq _ t => t < 200
  | .portStateTransition _ => true
  | .engineTimingFault _ ev => ev.wf
  | .carrierPeriodStart _ obs => obs.wf
  | .overcurrentTrip _ obs => obs.all fun x => x.s.wf
  | .bothPoorLimit _ => true
  | .csStartCalibration _ => true
  | .calibrationInterval _ => true
  | .csCalibrationEnd _ sums => sums.wf
  | .bootUvFault _ => true
  | .gdSupplyFault _ _ _ => true
  | .desaturation _ _ _ _ _ => true
  | .phaseNodeCheck _ _ _ _ => true
  | .gdFeedbackFault _ => true
  | .safeStateCommand _ step => step < 400
  | .ascRelease _ codes => codes.all fun c => c < 16384
  | .safeStateReleaseOff _ => true
  | .chopperEngage _ t _ => t < 200
  | .chopperRelease _ t _ _ => t < 200
  | .chopperDrainCheck _ t _ => t < 200
  | .chopperEffectCheck _ t _ _ => t < 200
  | .nonmemberOv2 _ t _ => t < 200
  | .nonmemberOv2Withdraw _ t _ => t < 200
  | .escalationDelay _ t _ => t < 200
  | .busOv3 _ _ _ => true
  | .gridPhaseMeasurement => true
  | .coastTimeout _ => true
  | .standstill _ => true
  | .faultClear _ _ => true
  | .quadratureEdge _ a b cycle => a.wf && b.wf && cycle < 50
  | .illegalBucketLeak _ => true
  | .illegalBucketLimit _ => true
  | .indexEvent x => x.line.wf
  | .indexMismatchLimit _ => true
  | .presetCount _ => true
  | .hallStateChange _ h cycle => h.h1.wf && h.h2.wf && h.h3.wf && cycle < 50
  | .hallInvalidTimeout _ => true
  | .zeroSpeedTimeout _ => true
  | .sentFrameReceived _ f => f.wf
  | .sentTimeout _ => true
  | .startPhaseBoundary _ => true
  | .startAttemptFailure _ => true
  | .polarityDecision _ => true
  | .handoverReached _ => true
  | .rotorLossDetected _ => true
  | .catchConfirmed _ => true
  | .crosswindRecordArrival _ t => t < 200
  | .faultLineReceived _ => true
  | .pairStateTransition _ => true
  | .xwLineFault _ => true
  | .blamedPartnerDriving _ => true
  | .overloadTimeExpiry _ => true
  | .partnerLaneLost _ => true
  | .degradedEntry => true
  | .gcConversionComplete _ x => -16384 < x.err && x.err < 16384
  | .restartSequence _ => true
  | .gcRestartTakesEffect _ => true
  | .injectedRequest _ => true
  | .gcStartCalibration _ => true
  | .gcCalibrationEnd _ sums => sums.wf
  | .modeRequestSleep => true
  | .modeRequestStandby => true
  | .modeRequestRun => true
  | .privilegedRequestStorage => true
  | .privilegedRequestConfigure => true
  | .lowPowerEntry => true
  | .autoRun => true
  | .wakePin _ _ => true
  | .wakeTimer _ => true
  | .canWakeUp _ => true
  | .vbatReconnect _ _ => true
  | .supplyUv _ _ _ _ => true
  | .sensorSupplyFault _ _ _ _ => true
  | .laneSupplyReturn _ => true
  | .bothLanesLost _ => true
  | .powerOnReset => true
  | .resetNPulse _ => true
  | .deviceReset => true
  | .resetRelease _ _ psel otp _ _ => psel < 8 && otp.wf
  | .rootClockQualified _ => true
  | .rootQualificationTimeout _ => true
  | .laneNotReady _ => true
  | .startupImageCheckComplete => true
  | .thermalMeasurement _ _ => true
  | .overtemp _ _ _ => true
  | .vgdBelow7v _ _ => true
  | .islandUnpowered => true
  | .rootClockLoss _ _ => true
  | .backupTrimAdjust _ _ => true
  | .backupSteeringStep _ _ => true
  | .laneClockComparison _ _ _ => true
  | .laneClockFault _ => true
  | .commonTimeFault => true
  | .syncReceived _ m _ => m.wf
  | .followUpReceived _ m => m.wf
  | .announceReceived _ m => m.domain < 256 && m.mac.length == 6
  | .pdelayReqReceived _ requester seq _ _ => requester < 2 ^ 80 && seq < 65536
  | .pdelayRespReceived _ m _ => m.mac.length == 6 && m.seq < 65536
  | .pdelayReqSend _ _ => true
  | .syncReceiptTimeout _ _ => true
  | .announceReceiptTimeout _ _ => true
  | .atSwitchComplete => true
  | .atRevert => true
  | .domainEnable _ => true
  | .setDt => true
  | .timedActionArm e => decide (1 ≤ e) && e ≤ 32
  | .timedActionCancel e => decide (1 ≤ e) && e ≤ 32
  | .syncPulse e => decide (1 ≤ e) && e ≤ 32
  | .syncPulseEnd out => out < 4 || (decide (16 ≤ out) && out < 24)
  | .applyValue e => decide (1 ≤ e) && e ≤ 32
  | .reanchorCarrierGrid e => decide (1 ≤ e) && e ≤ 32
  | .timedModeRequest e => decide (1 ≤ e) && e ≤ 32
  | .journalCommitStart => true
  | .journalCommitComplete _ _ => true
  | .journalBlockEraseComplete => true
  | .acknowledge => true
  | .takeSnapshot => true
  | .requestArrival _ h canId _ => h.wf && canId < 2 ^ 29
  | .read _ => true
  | .write _ _ => true
  | .readSegment _ => true
  | .writeSegment _ _ => true
  | .stagingBufferWrite _ => true
  | .openSession _ => true
  | .auth _ => true
  | .close _ => true
  | .attach _ => true
  | .detach _ => true
  | .openExpiry id => decide (1 ≤ id) && id ≤ 65535
  | .sessionTimeout id => decide (1 ≤ id) && id ≤ 65535
  | .authLockoutExpiry _ => true
  | .bridgeExecution _ => true
  | .streamFrameArrival _ h canId _ => h.wf && canId < 2 ^ 29
  | .streamTimeout n => n < 16
  | .streamTransmit n => n < 16
  | .arpRequest _ mac ip => mac.length == 6 && ip < 2 ^ 32
  | .neighbourSolicitation _ mac target => mac.length == 6 && target.length == 16
  | .echoRequest _ h _ => h.wf
  | .busOff => true
  | .busOffRecovery => true
  | .n3Takeover => true
  | .n3TakeoverComplete => true
  | .ipv4LinkLocalClaim _ addr _ => addr < 2 ^ 32
  | .bankStaging _ => true
  | .verifyStagedImage => true
  | .imageVerificationComplete => true
  | .activateStagedImage => true
  | .imageHyperframeStart => true
  | .selectProfile => true
  | .profileLoadComplete => true
  | .saveProfile => true
  | .profileSaveComplete _ => true
  | .eraseProfile => true
  | .profileEraseComplete => true
  | .deviceRecordWrite => true
  | .bankEraseComplete => true
  | .verifyInactiveBank => true
  | .bankVerificationComplete => true
  | .switchBanks => true
  | .programWord => true
  | .otpProgramComplete r => r.wf
  | .lockRegion => true
  | .otpLockComplete x r => x.wf && r.wf
  | .otpPeriodicReread reading _ => reading.wf
  | .ordinaryWordsRead weak => weak.all fun w => w < 512
  | .chainCsnFall _ => true
  | .chainCsnRise _ edges bits => bits.length == edges
  | .chainStartUnit => true
  | .chainDataUnit => true
  | .chainAbortUnit => true
  | .freeze => true
  | .fzStatus => true
  | .dumpAddr v => v < 2 ^ 32
  | .dumpData _ => true
  | .resume => true
  | .sysreset => true
  | .idcode => true
  | .extest pins drive => pins.length == 74 && drive.length == 74
  | .samplePreload pins preload => pins.length == 74 && preload.length == 74
  | .highz => true
  | .clamp => true
  | .bypass code _ => code < 256
  | .obj _ word => word < 2 ^ 128
  | .tapReset => true
  | .lullNTrigger _ => true
  | .selfDumpStart _ => true
  | .freezeCommand => true
  | .selfDumpComplete => true
  | .releaseCapture => true
  | .captureEraseComplete => true
  | .traceRecordWrite => true
  | .returnConsentSet => true
  | .returnConsentClear => true

end Sys2Proof
end

