-- ==== Sys2Proof/Config.lean ====
section
/-! DEFINITION. What the manual leaves open: constants of one implementation and free values. Each is opaque, so
no proof can see what it is and every claim holds whatever it is. -/

namespace Sys2Proof.Config

/-- Whether the narrowing of the exact quotient num / den rounds up rather than down, where the quotient is not
a whole number of units: the manual fixes the formulas and not the rounding of every intermediate value
(log entry 12). -/
opaque roundUp (num den : Int) : Bool

/-- Nanoseconds between the last slot boundary and the instant a time stamp is taken, less than one slot; the
argument counts the stamps taken (log entry 9). -/
opaque stampOfs : Nat → Nat

/-- The value a bounded correction or an unstated analogue choice takes; the argument counts the choices taken
(log entry 9). -/
opaque freeValue : Nat → Int

/-- The quotient of num and 0 where the manual gives a formula and no result for a zero divisor; the result is used
as the formula uses it, saturated where it saturates (log entry 14). -/
opaque divByZero (num : Int) : Int

/-- The S16 code of 1.0 in the engines' sine and cosine pair, which the manual does not state (R31,
log entry 13). -/
opaque sineUnit : Int

/-- A byte of the device's random source (R342, R443); the argument counts the bytes drawn (log entry 9). -/
opaque randomByte : Nat → BitVec 8

/-- A byte that the manual does not fix: of a frozen device's dump (R436), of what a stream carries of an object that nobody
reads (R360), or of a flash unit or fuse word whose programming a reset cut off (R375, R421). The first argument tells one
such object from another, the second is the byte's offset in it (log entries 9 and 181). -/
opaque openByte (ix offset : Nat) : BitVec 8

/-- How many frames leave a transmit queue in a slot, which the medium decides; the argument counts the choices taken
(log entry 9). -/
opaque framesSent : Nat → Nat

/-- What the boundary cells drive on a pin of the package under EXTEST and CLAMP; none for high impedance. The manual gives the
74 cells no order (R462, log entry 153). -/
opaque cellDrive (pin : Nat) (cells : List Bool) : Option Bool

/-- Which of the 15 silicon revisions of R469 the part has. -/
opaque siliconStep : Nat

/-- The silicon revision, 1 to 15, which is also the version field of the IDCODE (R462, R469, log entry 148). -/
def siliconRevision : BitVec 4 := BitVec.ofNat 4 (siliconStep % 15 + 1)

/-- The 7 SECDED check bits of a privileged word, whose code the manual does not give (R413, log entry 148). -/
opaque checkBits : BitVec 32 → BitVec 7

/-- The boot ROM version of the part (R469). -/
opaque bootRomVersion : BitVec 32

/-- Whether a boot and catalogue bank passes its check: its CRC-32 and its CMAC under the catalogue key of the boot ROM,
whose key and layout the manual does not give (R288, R395, log entry 32). -/
opaque bankValid : List (BitVec 8) → Bool

/-- The first 8 bytes of a bank's CMAC, 0x2640.03 (R288, log entry 32). -/
opaque bankDigest : List (BitVec 8) → BitVec 64

/-- The catalogue version that a bank holds, 0x2640.01 (R59, log entry 32). -/
opaque bankCatalogue : List (BitVec 8) → BitVec 32

/-- One less than the number of kernels that a bank holds, which 0x2640.02 gives as 1 to 64 (R59, log entry 32). -/
opaque bankKernels : List (BitVec 8) → Fin 64

/-- The version of a bank, 0x1000.07 (R469, log entry 32). -/
opaque bankVersion : List (BitVec 8) → BitVec 32

end Sys2Proof.Config
end

