-- ==== Sys2Proof/Machine/Operands.lean ====
section
/-! DEFINITION. The number formats of the control path: saturation, rounding, wrapping angles, Q16 values and
the sine, cosine and square root that the kernels use (R8, R34, R145). -/

namespace Sys2Proof.Machine

/-- v limited to [lo, hi]. -/
def clampI (lo hi v : Int) : Int := if v < lo then lo else if hi < v then hi else v

/-- v limited to ±m. -/
def clampAbs (m v : Int) : Int := clampI (-m) m v

/-- Saturation to n-bit two's complement. -/
def satS (n : Nat) (v : Int) : Int := clampI (-(2 ^ (n - 1))) (2 ^ (n - 1) - 1) v

/-- Saturation to an n-bit unsigned number. -/
def satU (n : Nat) (v : Int) : Int := clampI 0 (2 ^ n - 1) v

/-- num / den rounded half away from zero (R145); a zero divisor's result is open (log entry 14). -/
def roundHA (num den : Int) : Int :=
  if den = 0 then Config.divByZero num
  else
    let n := if den < 0 then -num else num
    let d := if den < 0 then -den else den
    if 0 ≤ n then (2 * n + d) / (2 * d) else -((2 * (-n) + d) / (2 * d))

/-- The narrowing of num / den to a whole number of units: exact where it divides, otherwise one of the two
neighbours, which the manual leaves open (log entry 12); a zero divisor's result is open (log entry 14). -/
def narrow (num den : Int) : Int :=
  if den = 0 then Config.divByZero num
  else if num % den = 0 then num / den
  else if Config.roundUp num den then num / den + 1 else num / den

/-- A value with 16 fractional bits from a whole number. -/
def q16 (v : Int) : Int := v * 65536

/-- The product of two Q16 values. -/
def mulQ (a b : Int) : Int := narrow (a * b) 65536

/-- A Q16 value saturated to its 32-bit register (R145). -/
def satQ (v : Int) : Int := satS 32 v

/-- A Q16 value rounded to a whole number, half away from zero (R145). -/
def ofQ (v : Int) : Int := roundHA v 65536

/-- A Q16 value rounded and saturated to S14 (R8, R145). -/
def s14OfQ (v : Int) : Int := satS 14 (ofQ v)

/-- An angle in codes, wrapped to 0 … 16383 (R8). -/
def wrapAng (v : Int) : Int := v % 16384

/-- An angle difference in codes, wrapped to −8192 … 8191. -/
def wrapDiff (v : Int) : Int := (v + 8192) % 16384 - 8192

/-- An angle in Q16 codes, wrapped to one turn. -/
def wrapAngQ (v : Int) : Int := v % (16384 * 65536)

/-- An angle difference in Q16 codes, wrapped to ± half a turn. -/
def wrapDiffQ (v : Int) : Int := (v + 8192 * 65536) % (16384 * 65536) - 8192 * 65536

/-- Integer square root: one Newton step per unit of fuel, from above. -/
def isqrtStep : Nat → Nat → Nat → Nat
  | 0, _, x => x
  | fuel + 1, n, x =>
    if x = 0 then 0
    else if n < x * x then isqrtStep fuel n ((x + n / x) / 2) else x

/-- ⌊√n⌋. -/
def isqrt (n : Nat) : Nat := if n = 0 then 0 else isqrtStep (n.log2 + 8) n (2 ^ (n.log2 / 2 + 1))

/-- The square root narrowed to a whole number of units (R34: 0 for a negative operand). -/
def sqrtI (v : Int) : Int :=
  if v ≤ 0 then 0
  else
    let r := isqrt v.toNat
    if r * r = v.toNat then r else if Config.roundUp v 1 then r + 1 else r

/-- |(a, b)| narrowed to a whole number of units. -/
def norm2 (a b : Int) : Int := sqrtI (a * a + b * b)

/-- sin(x) for x in [0, π/4] by its series, all values with 40 fractional bits. -/
def sinSmall (x : Int) : Int :=
  let x2 := x * x / 2 ^ 40
  let t := fun (acc k : Int) => (2 ^ 40 : Int) - acc * x2 / 2 ^ 40 / k
  x * t (t (t (t (t (2 ^ 40) 110) 72) 42) 20) 6 / 2 ^ 40

/-- cos(x) for x in [0, π/4] by its series, all values with 40 fractional bits. -/
def cosSmall (x : Int) : Int :=
  let x2 := x * x / 2 ^ 40
  let t := fun (acc k : Int) => (2 ^ 40 : Int) - acc * x2 / 2 ^ 40 / k
  t (t (t (t (t (2 ^ 40) 90) 56) 30) 12) 2

/-- sin of an angle given in Q16 codes (one turn is 2^30), with 40 fractional bits. -/
def sin40 (a : Int) : Int :=
  let w := a % 2 ^ 30
  let oct := w / 2 ^ 27
  let r := w % 2 ^ 27
  -- 2π / 2^30 with 40 fractional bits of the product: r × 6908435304715 / 2^30
  let rad := fun (y : Int) => y * 6908435304715 / 2 ^ 30
  if oct = 0 then sinSmall (rad r)
  else if oct = 1 then cosSmall (rad (2 ^ 27 - r))
  else if oct = 2 then cosSmall (rad r)
  else if oct = 3 then sinSmall (rad (2 ^ 27 - r))
  else if oct = 4 then -(sinSmall (rad r))
  else if oct = 5 then -(cosSmall (rad (2 ^ 27 - r)))
  else if oct = 6 then -(cosSmall (rad r))
  else -(sinSmall (rad (2 ^ 27 - r)))

/-- sin of an angle in Q16 codes as a Q16 value, its last bit left open (R145, log entry 12). -/
def sinQ (a : Int) : Int := if a % 2 ^ 30 = 0 then 0 else narrow (sin40 a) (2 ^ 24)

/-- cos of an angle in Q16 codes as a Q16 value. -/
def cosQ (a : Int) : Int := sinQ (a + 2 ^ 28)

/-- v reduced to whole multiples of 1/2^16 of √3 and of 1/√3: √3 and 1/√3 with 32 fractional bits. -/
def sqrt3q32 : Int := 7439101574

/-- 1/√3 with 32 fractional bits. -/
def invSqrt3q32 : Int := 2479700525

/-- A Q16 value times √3. -/
def mulSqrt3 (v : Int) : Int := narrow (v * sqrt3q32) (2 ^ 32)

/-- A Q16 value divided by √3. -/
def divSqrt3 (v : Int) : Int := narrow (v * invSqrt3q32) (2 ^ 32)

/-- The angle of (a, b) in the first quadrant, a positive and b not negative, in Q16 codes: the largest whole number of
units that does not pass it, found bit by bit. -/
def atanBits (a b : Int) : Nat → Int → Int
  | 0, c => c
  | n + 1, c => if a * sin40 (c + 2 ^ n) ≤ b * sin40 (c + 2 ^ n + 2 ^ 28) then atanBits a b n (c + 2 ^ n) else atanBits a b n c

/-- The angle of a vector in Q16 codes, its last bit left open where it is no multiple of an eighth of a turn
(log entry 12); 0 for the zero vector. -/
def atanQ (a b : Int) : Int :=
  let f := fun (x y : Int) =>
    let c := atanBits x y 28 0
    if y = 0 ∨ x = y then c else if Config.roundUp y x then c + 1 else c
  if a = 0 ∧ b = 0 then 0
  else if 0 < a ∧ 0 ≤ b then f a b
  else if a ≤ 0 ∧ 0 < b then f b (-a) + 2 ^ 28
  else if a < 0 ∧ b ≤ 0 then f (-a) (-b) + 2 ^ 29
  else f (-b) a + 3 * 2 ^ 28

/-- −1, 0 or 1. -/
def sgn (v : Int) : Int := if v < 0 then -1 else if 0 < v then 1 else 0

/-- |v|. -/
def absI (v : Int) : Int := if v < 0 then -v else v

end Sys2Proof.Machine
end

