-- ==== Sys2Proof/Machine/ObjTypes.lean ====
section
/-! DEFINITION. The vocabulary of the object dictionary (R8 to R10): values, types, access, roles, classes and
the shape of one object-table row. -/

namespace Sys2Proof.Machine

/-- An object's value: a number (BOOL to U64, S8 to S32, S14, U14; TIME80 as whole nanoseconds), a byte string
(STR, OCTETS) or the elements of an ARRAY. -/
inductive ObjVal where
  | num (v : Int)
  | bytes (b : List Byte)
  | arr (xs : List Int)
deriving DecidableEq, Repr

/-- The element types that ARRAY objects use. -/
inductive ElemType where
  | u8 | u16 | u32 | s16 | u14
deriving DecidableEq, Repr

/-- The data types of R8. -/
inductive ObjType where
  | bool | u8 | u16 | u32 | u64 | s8 | s16 | s32 | s14 | u14 | time80 | str | octets
  | arr (e : ElemType)
deriving DecidableEq, Repr

/-- The access types of R10. -/
inductive Access where
  | ro | wo | rwc | rws | rwa
deriving DecidableEq, Repr

/-- The roles of R10, lowest first. -/
inductive Role where
  | o | p | i | c
deriving DecidableEq, Repr

/-- The object classes; configNoProfile is a Configuration object that no profile holds. -/
inductive ObjClass where
  | identity | config | configNoProfile | process | status | command | secret
deriving DecidableEq, Repr

/-- One permitted stretch of values: lo, lo + step, … up to hi. -/
structure Span where
  lo : Int
  hi : Int
  step : Nat
deriving DecidableEq, Repr

/-- Permitted length of a variable value, in bytes or in array elements. -/
structure LenSpan where
  min : Nat
  max : Nat
deriving DecidableEq, Repr

/-- One row of an object table. -/
structure ObjRow where
  base : Nat
  lo : Nat
  hi : Nat
  type : ObjType
  access : Access
  role : Role
  cls : ObjClass
  dflt : ObjVal
  range : List Span
  len : LenSpan
deriving DecidableEq, Repr

/-- The objects whose value differs from their default, keyed by index × 256 + sub-index, keys ascending. -/
abbrev ObjStore := List (Nat × ObjVal)

/-- The result codes of R471. -/
inductive Res where
  | ok | okDelayed | noObject | noSubindex | typeLength | readOnly | writeOnly | roleTooLow | wrongMode | locked
  | outOfRange | inconsistent | refusedBusy | sessionInvalid | authFailed | badRequest | journalFull
  | journalUnavailable | timePassed | timeTooFar | noTimeSync | imageInvalid | imageConflict | otpSupplyWindow
  | otpLockRefused | otpWordProgrammed | otpProgramFailed
deriving DecidableEq, Repr

end Sys2Proof.Machine
end

