-- ==== Sys2Proof/Machine/State.lean ====
section
/-! DEFINITION. The state of the block as plain data: everything the manual gives it to hold, and the queue of
commands that wait. Objects (settings, commands' results, measurements, status) live in one store, `Dev.objs`; the
fields below are the state behind them. Each field's comment names its width and the rule it follows. -/

namespace Sys2Proof.Machine

/-- One value for each motor port. -/
structure Quad (α : Type) where
  m1 : α
  m2 : α
  m3 : α
  m4 : α
deriving DecidableEq, Repr

/-- The value of a port. -/
def Quad.get {α : Type} (q : Quad α) : PortId → α
  | .m1 => q.m1 | .m2 => q.m2 | .m3 => q.m3 | .m4 => q.m4

/-- The four values with one port's replaced. -/
def Quad.set {α : Type} (q : Quad α) (p : PortId) (x : α) : Quad α :=
  match p with
  | .m1 => { q with m1 := x }
  | .m2 => { q with m2 := x }
  | .m3 => { q with m3 := x }
  | .m4 => { q with m4 := x }

/-- One value for each lane. -/
structure Duo (α : Type) where
  a : α
  b : α
deriving DecidableEq, Repr

/-- The value of a lane. -/
def Duo.get {α : Type} (q : Duo α) : LaneId → α
  | .a => q.a | .b => q.b

/-- The two values with one lane's replaced. -/
def Duo.set {α : Type} (q : Duo α) (l : LaneId) (x : α) : Duo α :=
  match l with
  | .a => { q with a := x }
  | .b => { q with b := x }

/-- One value for each phase, or for each engine role of a cluster. -/
structure Tri (α : Type) where
  u : α
  v : α
  w : α
deriving DecidableEq, Repr

/-- The value of a phase. -/
def Tri.get {α : Type} (q : Tri α) : Phase → α
  | .u => q.u | .v => q.v | .w => q.w

/-- The three values with one phase's replaced. -/
def Tri.set {α : Type} (q : Tri α) (x : Phase) (a : α) : Tri α :=
  match x with
  | .u => { q with u := a }
  | .v => { q with v := a }
  | .w => { q with w := a }

/-- One value for each engine of a cluster. -/
structure Engines (α : Type) where
  e0 : α
  e1 : α
  e2 : α
deriving DecidableEq, Repr

/-- The value of an engine. -/
def Engines.get {α : Type} (q : Engines α) : EngineRole → α
  | .e0 => q.e0 | .e1 => q.e1 | .e2 => q.e2

/-- The three values with one engine's replaced. -/
def Engines.set {α : Type} (q : Engines α) (r : EngineRole) (x : α) : Engines α :=
  match r with
  | .e0 => { q with e0 := x }
  | .e1 => { q with e1 := x }
  | .e2 => { q with e2 := x }

/-- A map from numbers to values, keys ascending. -/
abbrev NatMap (α : Type) := List (Nat × α)

/-! ### Engines -/

/-- A register write that waits for its operation's latency (R31, R32). -/
structure WriteBack where
  due : Nat     -- tick number from which a bundle can use the result | R31
  reg : Nat     -- register number
  val : Word    -- result
deriving DecidableEq, Repr

/-- A scratchpad store that a load of the same tick does not see (R36). -/
structure PadStore where
  tick : Nat    -- tick of issue | R36
  addr : Nat    -- word address
  val : Word    -- stored word
deriving DecidableEq, Repr

/-- The operations that one bundle of an engine holds so far, by the issue positions that they can take (R31). -/
structure Bundle where
  tick : Nat    -- tick of the bundle plus one, 0 for none | R31
  any : Nat     -- operations of positions 0, 1 and 2: the ALU's | R31
  low : Nat     -- operations of positions 0 and 1: multiplies, scratchpad accesses | R31, R36
  high : Nat    -- operations of position 2 | R31
deriving DecidableEq, Repr

/-- One Marjo engine (R31 to R36). -/
structure Engine where
  regs : NatMap Word            -- 32 bits each, ascending, zero registers not listed | R31, R32 | registers
  backs : List WriteBack        -- results not yet usable, by the tick they are due | R31, R32
  pad : NatMap Word             -- data scratchpad words, 32 bits each, zero words not listed | R36
  zeros : NatMap Unit           -- data scratchpad words last stored as zero | R436
  padStores : List PadStore     -- stores of the latest tick, visible to later ticks | R36
  loop0 : Nat                   -- first hardware loop counter, 0 or 1 to 65 536 | R33
  loop1 : Nat                   -- second hardware loop counter | R33
  divFree : Nat                 -- tick from which the divide/square-root unit accepts an operation | R31, R32
  branchTick : Nat              -- tick in which no operation issues, the second of a branch; 0 for none | R33
  pc : Nat                      -- bundle the engine issues next in its instruction scratchpad, 2048 bundles | R33
  lastSend : Nat                -- tick of the last crosswind send plus one, 0 for none | R31
  bundle : Bundle               -- the bundle issued last | R31
deriving DecidableEq, Repr

/-! ### Handoff cells and their consumers -/

/-- The fallback rules of R19, in the codes of R62's handoff-rule entry. -/
inductive Fallback where
  | hold | ramp | zvv | coast | trip
deriving DecidableEq, Repr

/-- One write of a handoff cell (R75). -/
structure CellRec (α : Type) where
  wslot : Nat    -- 32 bits, lane slot count of the write | R75
  seq : Nat      -- 16 bits, sequence number | R75
  fb : Bool      -- producer flag FALLBACK | R75
  init : Bool    -- producer flag INIT | R75
  val : α        -- value | R75
deriving DecidableEq, Repr

/-- A write that is not yet visible: from which slot on it is. -/
structure CellWrite (α : Type) where
  due : Nat            -- first slot in which the write is visible | R18, R40
  r : CellRec α        -- the write | R17
deriving DecidableEq, Repr

/-- A handoff cell: the content visible in this slot and the writes that become visible later (R17, R18). -/
structure Cell (α : Type) where
  cur : CellRec α
  writes : List (CellWrite α)
deriving DecidableEq, Repr

/-- A consumer of a cell (R19, R20, R77). -/
structure Consumer (α : Type) where
  maxAge : Nat          -- 16 bits, slots | R19, R20, R77
  rule : Fallback       -- fallback rule | R19, R20, R77
  rampLen : Nat         -- consumer frames of ramp to zero | R62, R63
  lastSeq : Nat         -- 16 bits, last_seq | R19
  wasStale : Bool       -- was_stale | R19
  staleRun : Nat        -- consecutive stale reads, the ramp's frame number | R19, R146
  held : α              -- value used at the last read | R19
deriving DecidableEq, Repr

/-- Value of the current cell (R75). -/
structure CurVal where
  iu : Int           -- S14
  iv : Int           -- S14
  uValid : Nat       -- U16 samples
  uGap : Nat         -- U16 samples
  vValid : Nat       -- U16 samples
  vGap : Nat         -- U16 samples
deriving DecidableEq, Repr

/-- Value of the angle cell (R75). -/
structure AngVal where
  angle : Int        -- U14
  speed : Int        -- S32, 1 LSB = 2^-16 codes per slot
  conf : Nat         -- U8
  source : Nat       -- U8, 0 to 5
deriving DecidableEq, Repr

/-- Value of the setpoint cell (R75). -/
structure SpVal where
  id : Int           -- S14
  iq : Int           -- S14
  lim : Int          -- S14
  flags : Nat        -- U16 command flags
deriving DecidableEq, Repr

/-- Value of the duty cell (R75). -/
structure DutyVal where
  du : Nat           -- U16
  dv : Nat           -- U16
  dw : Nat           -- U16
  pattern : Nat      -- U8 segment pattern
deriving DecidableEq, Repr

/-- Value of the bus-voltage cell (R75). -/
structure BusVal where
  v : Int            -- S14
  ov : Nat           -- U8, 0 to 3
deriving DecidableEq, Repr

/-- The crosswind record (R237). -/
structure XwVal where
  angle : Nat        -- U14
  tag : Nat          -- U8 frame tag
  pairByte : Nat     -- U8
  speed : Int        -- S32
  id : Int           -- S14
  iq : Int           -- S14
  vd : Int           -- S14
  vq : Int           -- S14
  health : Nat       -- U16 health word
  residual : Nat     -- U16
  x : Int            -- S32, speed integrator, 16 fractional bits
deriving DecidableEq, Repr

/-- The six cells of one port (R75). -/
structure Cells where
  current : Cell CurVal     -- 0x01 current cell, 32 bytes | R75
  angle : Cell AngVal       -- 0x02 angle cell, 32 bytes | R75
  setpoint : Cell SpVal     -- 0x03 setpoint cell, 32 bytes | R75
  duty : Cell DutyVal       -- 0x04 duty cell, 32 bytes | R75
  bus : Cell BusVal         -- 0x05 bus-voltage cell, 32 bytes | R75
  xw : Cell XwVal           -- 0x06 crosswind receive cell, 32 bytes | R75
deriving DecidableEq, Repr

/-- The consumers of one port's cells, in the order c = 1 … 10 of R80. -/
structure Consumers where
  cur0 : Consumer CurVal    -- c = 1, current cell in engine 0 | R80
  cur1 : Consumer CurVal    -- c = 2, current cell in engine 1 | R80
  cur2 : Consumer CurVal    -- c = 3, current cell in engine 2 | R80
  ang0 : Consumer AngVal    -- c = 4, angle cell in engine 0 | R80
  ang2 : Consumer AngVal    -- c = 5, angle cell in engine 2 | R80
  sp0 : Consumer SpVal      -- c = 6, setpoint cell in engine 0 | R80
  dutyM : Consumer DutyVal  -- c = 7, duty cell in the modulator | R80
  bus0 : Consumer BusVal    -- c = 8, bus-voltage cell in engine 0 | R80
  duty2 : Consumer DutyVal  -- c = 9, duty cell in engine 2 | R80
  xw2 : Consumer XwVal      -- c = 10, crosswind receive cell in engine 2 | R80
deriving DecidableEq, Repr

/-! ### Schedule images -/

/-- One slot-table entry of an image (R62). -/
structure SlotEntry where
  used : Bool        -- in use
  locked : Bool      -- carrier locked to a time domain
  k : Nat            -- frame, slots
  phi : Nat          -- carrier phase, slots
  m : Nat            -- speed-loop multiple
  sphase : Nat       -- speed phase
deriving DecidableEq, Repr

/-- One handoff-rule entry of an image (R62). -/
structure HandoffRule where
  port : Nat
  cell : Nat
  consumer : Nat
  fallback : Nat
  maxAge : Nat
  ramp : Nat
deriving DecidableEq, Repr

/-- One parameter binding of an instance (R66). -/
structure Binding where
  param : Nat
  object : Bool      -- source 0x01
  value : Nat        -- immediate, or index × 256 + sub-index
deriving DecidableEq, Repr

/-- One kernel-instance entry of an image with its bindings and its certificate entry (R64, R72). -/
structure Instance where
  engine : Nat
  kernel : Nat
  tick : Nat
  fbRead : Bool
  slot : Nat
  period : Nat
  count : Nat
  formula : Nat
  bindings : List Binding
  certLastSlot : Nat
  certLastTick : Nat
  certCell : Nat
  certWrite : Nat
  certAge : Nat
deriving DecidableEq, Repr

/-- One resource claim (R68). -/
structure Claim where
  cls : Nat
  owner : Nat
  flags : Nat
  number : Nat
  extent : Nat
deriving DecidableEq, Repr

/-- A parsed schedule image (R60 to R72). -/
structure Image where
  id : Nat
  sig : List Byte            -- 16 bytes
  zeroKey : Bool             -- accepted under the zero key | R61
  h : Nat                    -- hyperframe length, slots
  variants : Nat
  pairFlags : Nat
  slots : Quad SlotEntry
  rules : List HandoffRule
  insts : List Instance
  claims : List Claim
  busy : List Nat            -- certified busy ticks of ME0 to ME11
  raw : List Byte            -- the image's bytes
deriving DecidableEq, Repr

/-! ### Current sensing (chapter "In-Line Current Sensing and Period Averaging") -/

/-- One channel of the window integrator between periods (R91). -/
structure ChanInt where
  px : Int          -- last valid sample, calibrated code with 20 fractional bits | R91, R92
  pt : Int          -- its instant, CLK_P cycles after the coming E0 (zero or negative) | R91
deriving DecidableEq, Repr

/-- A running calibration pass of a port (R100). -/
structure CalPass where
  start : Nat       -- slot at which the pass started | R100, R102
  before : Nat      -- 0x3x32.01 as it read before the pass | R103
deriving DecidableEq, Repr

/-- Consecutive-instant counts of the over-current comparator for U, V and W (R98). -/
structure OcCounts where
  level : Tri Nat   -- level-test counts | R98
  hard : Tri Nat    -- hard-test counts | R98
deriving DecidableEq, Repr

/-- The correction factors of both channels of a port (R100). -/
structure Factors where
  offU : Int
  offV : Int
  gainU : Int
  gainV : Int
deriving DecidableEq, Repr

/-- The current front end of one port. -/
structure FrontEnd where
  u : ChanInt                 -- U channel | R91
  v : ChanInt                 -- V channel | R91
  oc : OcCounts               -- comparator counts | R98
  pass : Option CalPass       -- running calibration pass | R100
  calDue : Bool               -- a start event of R102 waits for its pass | R102
  lastStart : Nat             -- slot of the start of the previous pass | R102
  everValid : Bool            -- a pass has been valid since reset | R104
  reconnect : Option Nat      -- CLK_P time, in units of 5 ns, at which the inputs were reconnected | R101
  changed : Nat               -- slot from whose boundary the factors of 0x3x32 apply | R101
  former : Factors            -- the factors before them | R101
deriving DecidableEq, Repr

/-! ### Modulator (chapter "PWM Timebase, Space-Vector Modulation and Network-Locked Carriers") -/

/-- One commanded transition of a phase, in steps of 1.25 ns after the carrier start (R108). -/
structure Trans where
  toff : Int        -- outgoing gate commanded off
  ton : Int         -- incoming gate commanded on
  rising : Bool     -- the high side is the incoming gate
  cancelled : Bool  -- the turn-on was cancelled by a boundary change | R109
deriving DecidableEq, Repr

/-- How a phase stands at a period's end: both gates off, low side on, high side on. -/
inductive PhaseEnd where
  | off | low | high
deriving DecidableEq, Repr

/-- The modulator of one port. -/
structure Modulator where
  rhoR : Tri Int              -- carried residue of each phase's rising edge, in 1/131070 step | R107
  rhoF : Tri Int              -- carried residue of each phase's falling edge | R107
  trans : Tri (List Trans)    -- transitions of the running period | R108
  prevTrans : Tri (List Trans)  -- transitions of the period before, on the running period's axis | R89
  ends : Tri PhaseEnd         -- state in which each phase leaves the running period | R109
  startSlot : Nat             -- slot that opened the running period | R45
  running : Bool              -- a carrier period runs (an image is active and the port is used) | R45
  driving : Bool              -- the running period carries gate commands | R110
  taken : DutyVal             -- duty set the modulator took | R15, R110
  periods : Nat               -- carrier periods started since activation | R45
  offSeen : Bool              -- all six gates were commanded off at some instant of the running period | R206
  lowsAt : Int                -- end of the dead time with which ASC turned the low sides on from all gates off | R135, R206
deriving DecidableEq, Repr

/-- The latch of R206, taken at the carrier period end for engine 1. -/
structure CatchLatch where
  du : Nat          -- duty codes taken for the period
  dv : Nat
  dw : Nat
  vbus : Int        -- period-average bus voltage, S14
  gatesOff : Bool   -- all gates were off for the whole period
deriving DecidableEq, Repr

/-! ### Gate drivers, safe-state unit, chopper -/

/-- A command that has arrived at a safe-state unit (R131). -/
structure SafeCmd where
  code : Nat                 -- source code of R131, 1 to 17
  named : Option Bool        -- state an engine request or a freeze names: some true ASC, some false coast | R133
  ov3Chop : Bool             -- order 4 of R133 applies: brake escalation, or OV3 while the chopper fault is active
  keepArm : Bool             -- an engine request for COAST that keeps RUN re-armed | R175
deriving DecidableEq, Repr

/-- A command of a kernel that completes in a later slot than the kernel's start, with the fault it raises (R472). -/
structure LateCmd where
  due : Nat                  -- slot that contains the completion tick | R472
  cmd : SafeCmd
  fault : Nat                -- ID of the fault raised with it, 0 for none | R96, R244, R475
  line : Bool                -- the lane of a pair asserts its line with it | R225, R239
deriving DecidableEq, Repr

/-- The states of a port (R169). -/
inductive PortState where
  | off | armed | align | ramp | closed | coast | shorted | tripped
deriving DecidableEq, Repr

/-- A requested port-state transition: the slot of the request and the state asked for (R170). -/
structure StateReq where
  slot : Nat
  target : PortState
  keepArm : Bool     -- entry into COAST that keeps RUN re-armed (RUN = 0 read fresh, or a reversal) | R175
  short : Bool       -- from a brake escalation or a request for SHORTED, which COAST too takes as COAST | R171
deriving DecidableEq, Repr

/-- The port state register of one port (R170). -/
structure PortReg where
  state : PortState              -- present state | R169, R170
  entrySlot : Nat                -- slot in which it was entered | R171
  reqUnit : Option StateReq      -- request of the safe-state unit | R170
  reqE2 : Option StateReq        -- request of engine 2 | R170
  reqE1 : Option StateReq        -- request of engine 1 | R170
deriving DecidableEq, Repr

/-- The safe-state unit and the gate drivers of one port. Output, cause, ASC_INHIBIT and speed flag are the
objects 0x3x22.01 to 0x3x22.04. -/
structure SafeUnit where
  arriving : List SafeCmd        -- commands that arrived and are evaluated together | R133
  heldOff : List Nat             -- gates held off after desaturation, 0 GHU to 5 GLW | R128
  ascSign : Int                  -- sign of the U current under the hysteresis, 0 not yet known | R134
  ascQuiet : Nat                 -- sample instants since the last sign change | R134
  bootWithheld : Tri Nat         -- consecutive carrier periods with a withheld pulse per phase | R126
  withheld : Tri Bool            -- a withheld pulse lasts past the period's end, per phase | R126
  coastSlot : Option Nat         -- slot in which an engine request named the coast that is applied | R225
  nodeMiss : Tri Nat             -- consecutive mismatching check points per phase | R130
  nodeHighLow : Tri Bool         -- the last mismatch found HIGH while the low side was on | R130
  escalateAt : Option Nat        -- tick at which the escalation delay started | R140
  ov2Below : Option Nat          -- tick since which a non-member's samples lie below its release level | R139
  busMv : Nat                    -- latest bus-voltage sample, mV | R136, R139
  nonMember : Bool               -- NONMEMBER_OV2 bit of the port | R139, R159
  speedDue : Option (Nat × Bool) -- speed-flag write of K_SUPERVISE and the slot from which it holds | R132, R472
  later : List LateCmd           -- kernels' commands that complete in a later slot | R472
deriving DecidableEq, Repr

/-- The brake chopper of one lane. State, cause and counters are the objects 0x3x24.10 to 0x3x24.13. -/
structure Chopper where
  gateTick : Nat                 -- tick of the last gate command | R138, R139
  engagedMv : Nat                -- highest latest sample of the member ports at engagement, mV | R139
  onTicks : Nat                  -- accumulated ticks engaged, for 0x3x24.13 | R143
  faultAt : Option Nat           -- tick at which OPEN or INEFFECTIVE made the fault active | R139, R140
deriving DecidableEq, Repr

/-! ### Pairs -/

/-- A write of the pair register that takes effect at the next slot (R241). -/
structure PairWrite where
  slot : Nat
  prio : Nat            -- 0 hardware, 1 K_XW_PLAUS, 2 K_XW_EXCH | R241
  state : Nat           -- PAIR_STATE to enter
  ignore : Bool         -- sets LINE_IGNORED | R241
  rearm : Bool          -- re-forming of the pair: lines deasserted, PARTNER_LINE cleared | R246
deriving DecidableEq, Repr

/-- The pair register and what surrounds it in one port (R237 to R247). -/
structure PairUnit where
  lineIgnored : Bool         -- LINE_IGNORED | R241
  partnerLine : Bool         -- PARTNER_LINE | R241
  ownLine : Bool             -- this port makes its lane assert the line; OWN_LINE shows the lane's line | R239, R241
  state : Nat                -- PAIR_STATE, 0 SHARED 1 SOLO_A 2 SOLO_B 3 LOST | R241
  writes : List PairWrite    -- writes of this slot not yet in effect | R241
  lineDriving : Nat          -- consecutive frames of a fresh DRIVING partner after an assertion | R241
  sent : List XwVal          -- own records as sent, newest first, kept for pairing by tag | R236, R238, R242
  record : XwVal             -- last fresh record of the partner | R245
  wasFresh : Bool            -- the receive cell has been fresh since activation | R245
  stale : Bool               -- the receive cell was stale at the last read | R245
  prevFailed : Nat           -- checks that failed in the previous evaluated frame, bits of R242 | R244
  verdictAge : Nat           -- frames since this lane blamed its partner plus one, as last read, 0 none | R244
  verdictFrame : Nat         -- frame count at that verdict | R244
  exchSlot : Nat             -- slot of the last tick of the latest K_XW_EXCH instance | R472
  plausSlot : Nat            -- slot of the last tick of the latest K_XW_PLAUS instance | R472
  plausCmd : Nat             -- slot of the tick before it, in which a command of it completes | R472
  readFrame : Nat            -- frame count at the last read of K_XW_EXCH plus one, 0 none | R241, R244
  staleFrames : Nat          -- consecutive frames whose read found the receive cell stale | R250
  blamePartner : Bool        -- BLAME_PARTNER | R237, R244
  blameSelf : Bool           -- BLAME_SELF | R237, R244
  overloadSlot : Option Nat  -- slot of the entry into SOLO as survivor | R247
  overloadOver : Option Nat  -- slot at which the overload time elapsed | R247
  tag : Nat                  -- frame count since activation at the last record sent, its tag is the low byte | R237
  residual : Nat             -- own residual r of the last occurrence | R243
deriving DecidableEq, Repr

/-! ### Engine 0 -/

/-- What engine 0 passes from kernel to kernel within a frame; values have 16 fractional bits unless noted. -/
structure E0Frame where
  iu : Int            -- phase currents passed on, codes | R95
  iv : Int
  iw : Int
  thetaMeas : Int     -- Q16 codes | R148
  thetaApply : Int    -- Q16 codes | R148
  omega : Int         -- angle-cell speed, 2^-16 codes per slot | R148
  vbus : Int          -- bus voltage, codes | R158
  ialpha : Int        -- | R147
  ibeta : Int         -- | R147
  id : Int            -- | R149
  iq : Int            -- | R149
  ud : Int            -- | R151
  uq : Int            -- | R151
  vdCmd : Int         -- | R152
  vqCmd : Int         -- | R152
  vd : Int            -- limited | R154
  vq : Int            -- limited | R154
  valpha : Int        -- | R149
  vbeta : Int         -- | R149
  duty : DutyVal      -- duty codes and pattern of the frame | R111, R112
deriving DecidableEq, Repr

/-- Engine 0's states across frames (R153). -/
structure E0State where
  xd : Int            -- d integrator | R151
  xq : Int            -- q integrator | R151
  formed : Bool       -- K_PI_DQ has run in the frame | R150
  xdHold : Int        -- d integrator as it stands if the frame holds it | R153
  xqHold : Int        -- q integrator as it stands if the frame holds it | R153
  idFwHold : Int      -- field-weakening current as it stands if the frame holds it | R153
  deltaD : Int        -- v' − v_cmd of the last frame | R151
  deltaQ : Int        -- | R151
  idFw : Int          -- field-weakening current | R155
  idMtpa : Int        -- MTPA current of the frame | R157
  idRef : Int         -- reference formed for the next frame | R150, R158
  iqRef : Int         -- | R150, R158
  idS : Int           -- scaled reference in force | R234
  iqS : Int           -- | R234
  recId : Int         -- own record: d current of the last frame | R95
  recIq : Int         -- own record: q current of the last frame | R95
  thetaS : Int        -- θ_s recorded last, Q16 codes | R148
  thetaS1 : Int       -- θ_s as recorded two frames before | R95, R148
  thetaS2 : Int       -- θ_s as recorded one frame before | R148
  wS : Int            -- speed of the same angle-cell read as thetaS, angle-cell units | R95
  wS1 : Int           -- speed of the same angle-cell read as thetaS1 | R95
  wS2 : Int           -- speed of the same angle-cell read as thetaS2 | R95
  bothPoor : Nat      -- consecutive both-poor frames | R96
  qualSlot : Nat      -- slot of the last tick of the K_IIN instance that counted last | R472
  gLast : Nat         -- share factor of the last frame | R235
  stepLeft : Nat      -- frames in which step terms are still added | R235
  stepD : Int         -- Δid of the last change of g | R235
  stepQ : Int         -- Δiq of the last change of g | R235
deriving DecidableEq, Repr

/-- A store of engine 0 into one of its shared-SRAM words that later accesses see (R37). -/
structure WordStore where
  tick : Nat          -- tick at which the access is performed | R37
  word : Nat          -- 0 diagnostic word, 1 to 3 the check words of offsets 24, 30 and 36 | R158, R475
  val : Nat           -- 32 bits
deriving DecidableEq, Repr

/-- What K_FW_VLIM keeps while it waits for its load of the radius, performed in a later slot (R37, R114). -/
structure FwLate where
  due : Nat           -- slot in which the load is performed | R37
  tick : Nat          -- tick of the instance's start
  id : Int            -- Id setpoint in use, codes with 16 fractional bits | R153
  iq : Int            -- Iq setpoint in use | R153
deriving DecidableEq, Repr

/-- A converted gain or motor parameter in code form (R146), as an exact quotient. -/
structure Ratio where
  num : Int
  den : Int
deriving DecidableEq, Repr

/-- The gains and motor parameters in code form, as engine 0's data scratchpad holds them (R67, R146). -/
structure E0Gains where
  kpD : Ratio         -- voltage codes per current code | R146, R151
  kiD : Ratio         -- the same per frame | R146, R151
  kpQ : Ratio         -- | R146, R151
  kiQ : Ratio         -- | R146, R151
  rs : Ratio          -- Rs, voltage codes per current code | R146, R235
  ld : Ratio          -- ω Ld i, voltage codes per angle-cell speed unit and current code | R146, R152
  lq : Ratio          -- ω Lq i | R146, R152
  psi : Ratio         -- ω ψ, voltage codes per angle-cell speed unit | R146, R152
  stepD : Ratio       -- Ld / (2T), voltage codes per current code | R146, R235
  stepQ : Ratio       -- Lq / (2T) | R146, R235
  gfw : Ratio         -- G_fw × T, current codes per voltage code | R146, R155
deriving DecidableEq, Repr

/-- Engine 0's flags of the frame and its shared-SRAM words (R153, R158, R475). -/
structure E0Flags where
  hold : Bool         -- current or angle cell stale, or a coast or zero-vector fallback: states held | R153
  coast : Bool        -- a coast fallback acts in the frame | R153
  zvv : Bool          -- a zero-voltage-vector fallback acts in the frame | R153
  fallback : Bool     -- some fallback acts: the duty cell carries FALLBACK | R75, R153
  uPoor : Bool        -- U channel POOR | R94
  vPoor : Bool        -- V channel POOR | R94
  sp : SpVal          -- setpoint cell content in use | R153
  volLim : Bool       -- VOLTAGE_LIMITED | R154
  mtpaMis : Bool      -- MTPA_TABLE_MISMATCH | R157
  ovm : Bool          -- the vector was limited to the hexagon | R115
  diag : Nat          -- diagnostic word, 32 bits | R158
  chkI : Nat          -- check word at offset 24, 32 bits | R475
  chkV : Nat          -- check word at offset 30, 32 bits | R475
  chkB : Nat          -- check word at offset 36, 32 bits | R475
  stores : List WordStore  -- stores not yet performed at the last boundary, oldest first | R37
  wCell : Nat         -- write slot of the angle cell in use | R148
  angHeld : AngVal    -- angle cell content in use | R148
deriving DecidableEq, Repr

/-- Engine 0 of one port. -/
structure E0 where
  fr : E0Frame
  st : E0State
  fl : E0Flags
  gains : E0Gains          -- converted gains | R146
  frame : Nat              -- slot that opened the frame whose values and flags stand | R42, R153
  late : Option FwLate     -- K_FW_VLIM waiting for the radius | R37, R114
deriving DecidableEq, Repr

/-! ### Engine 2 -/

/-- Engine 2's copy of the motion commands (R168, R180). -/
structure E2Cmd where
  ctl : Nat           -- control word in force | R168
  spd : Int           -- speed setpoint in force, 0.1 Hz | R168
  trq : Int           -- torque setpoint in force, mN·m with 16 fractional bits | R168, R180
  freshCtl : Nat      -- last fresh control word | R180
  freshSpd : Int      -- last fresh speed setpoint | R180
  freshTrq : Int      -- last fresh torque setpoint | R180
  lastClear : Bool    -- FAULT_CLEAR at the previous slot's judgement | R252
  stale : Bool        -- STREAM_STALE | R180
  staleRun : Nat      -- consecutive stale speed frames, j of R180 | R180
  stopped : Bool      -- STREAM_STOPPED | R180
  rearmed : Bool      -- RUN re-armed | R175
  streamStop : Bool   -- the fallback stops the port in this frame | R180
deriving DecidableEq, Repr

/-- Engine 2's motion states; speeds in 0.1 Hz with 16 fractional bits, currents in codes with 16. -/
structure E2Motion where
  wf : Int            -- filtered speed w_f | R173
  wCell : Int         -- speed of the angle cell as last read, angle-cell units | R173
  r : Int             -- ramp value | R178
  a : Int             -- ramp acceleration, 0.1 Hz/s with 16 fractional bits | R178
  endZero : Bool      -- K_SCURVE has ended a deceleration at r = 0 and brings a to 0 there | R178
  held : Bool         -- held of R174, RAMP_HELD | R174
  x : Int             -- speed integrator | R174
  sat : Bool          -- SPEED_PI_SATURATED | R174
  limited : Bool      -- SETPOINT_LIMITED | R178, R179
  revPending : Bool   -- REVERSAL_PENDING | R176
  revStand : Bool     -- REVERSAL_TO_STANDSTILL | R176
  seqSlot : Nat       -- slot of the last tick of the latest K_STOP_SEQ instance | R472
  startRefused : Bool -- START_REFUSED | R171
  unknown : Bool      -- SPEED_UNKNOWN | R172
  stopCount : Nat     -- consecutive frames below the stop speed | R171
  revCount : Nat      -- consecutive frames below the restart speed | R176
  stand : Bool        -- standstill found in this COAST | R171
  view : PortState    -- port state as engine 2 last read it | R169
  startNeg : Bool     -- START_NEGATIVE | R169
  acted : NatMap Int  -- speed frame in which each once-per-frame kernel last acted, by kernel ID | R173, R174, R178
deriving DecidableEq, Repr

/-- Engine 2's outputs and limits. -/
structure E2Out where
  idSp : Int          -- Id setpoint, codes with 16 fractional bits | R174, R179, R218
  iqSp : Int          -- Iq setpoint, codes with 16 fractional bits | R174, R179
  iLim : Int          -- I_lim, codes with 16 fractional bits | R159
  iBud : Int          -- I_bud, codes with 16 fractional bits | R161
  ibF : Int           -- filtered bus-current estimate, codes with 16 fractional bits | R161
  pairLimited : Bool  -- PAIR_LIMITED | R159
  regenBlock : Bool   -- REGEN_BLOCK | R140, R159
  reqWord : Nat       -- request word in shared SRAM, 32 bits | R160
  reqNext : Option (Nat × Nat)  -- a request word stored and the slot whose allocation first sees it | R160
  grant : Nat         -- grant in mA as published | R160
  limByBudget : Bool  -- LIMITED_BY_BUDGET | R160
  checkOk : Bool      -- CHECK_OK | R237
  senseOk : Bool      -- SENSE_OK | R237
  recId : Int         -- engine 2's own record of the previous period, d current | R96
  recIq : Int         -- q current | R96
  thetaS1 : Int       -- engine 2's own θ_s record, frame before the last | R96
  thetaS2 : Int       -- engine 2's own θ_s record, last frame | R96
  wS1 : Int           -- speeds of the same reads | R96
  wS2 : Int
  wSlot : Nat         -- write slot of the angle cell in K_CHECK_DQ's use | R148, R475
  ge : Nat            -- share factor at the last K_XW_EXCH | R234
  pairView : Nat      -- PAIR_STATE as engine 2 last read it | R159, R237
deriving DecidableEq, Repr

/-- A write of a status object by K_STATUS_OUT that waits for its boundary (R473). -/
structure StatusWrite where
  due : Nat           -- slot at whose boundary the value becomes visible
  slot : Nat          -- slot in which the store is issued | R82
  key : Nat           -- object key
  val : ObjVal
deriving DecidableEq, Repr

/-- What K_PROC_IN keeps while bindings wait for their access, performed in a later slot (R37, R473). -/
structure ProcLate where
  due : Nat               -- slot in which the accesses are performed | R37
  frame : Int             -- slot at which the speed frame of the occurrence began | R180
  idle : Bool             -- the port was OFF, in ARMED or in COAST at the start tick | R175, R472
  stale : Bool            -- an object read so far was stale | R168
  vals : List (Nat × Int) -- parameters read so far | R473
  rest : List Binding     -- bindings still to be read | R473
deriving DecidableEq, Repr

/-- What K_LIM_BUDGET keeps while its load of the grant is performed in a later slot (R37, R160). -/
structure BudgetLate where
  due : Nat               -- slot in which the grant is loaded | R37
  status : Option Nat     -- lane status word, if loaded before | R159
  driving : Bool          -- the port was in ALIGN, RAMP or CLOSED at the start tick | R160, R472
  tick : Nat              -- start tick in its slot
deriving DecidableEq, Repr

/-- Engine 2 of one port. -/
structure E2 where
  cmd : E2Cmd
  mo : E2Motion
  out : E2Out
  status : List StatusWrite     -- K_STATUS_OUT stores not yet visible | R473
  proc : Option ProcLate        -- K_PROC_IN with accesses in a later slot | R37, R473
  budget : Option BudgetLate    -- K_LIM_BUDGET with its load in a later slot | R37, R160
deriving DecidableEq, Repr

/-! ### Position feedback (chapter "Position Feedback: Quadrature, Hall and SENT") -/

/-- The feedback flags kept by the interface (R204); FB_FAULT, MOTION and SENT_STALE among them. -/
structure FbFlags where
  fault : Bool          -- FB_FAULT | R201
  motion : Bool         -- MOTION | R204
  direction : Bool      -- DIRECTION | R188
  illegalEdge : Bool    -- ILLEGAL_EDGE | R188
  referenced : Bool     -- INDEX_REFERENCED | R191
  mismatch : Bool       -- INDEX_MISMATCH | R191
  hallSkip : Bool       -- HALL_SKIP | R193
  hallInvalid : Bool    -- HALL_INVALID | R193
  sentStale : Bool      -- SENT_STALE | R198
  formatMis : Bool      -- SENT_FORMAT_MISMATCH | R198
deriving DecidableEq, Repr

/-- The quadrature decoder (R188 to R192). -/
structure Quadrature where
  prevA : Bool          -- previous filtered A | R188
  prevB : Bool          -- previous filtered B | R188
  q : Nat               -- raw count | R188
  p : Nat               -- reported count | R188
  z : Bool              -- filtered index line | R185, R191
  edge : Nat            -- CLK_A time stamp of the last counted edge, 32 bits | R185, R188
  bucket : Nat          -- illegal bucket | R190
  leakSlot : Nat        -- slot of the last leak | R190
  missRun : Nat         -- consecutive index mismatches | R191
deriving DecidableEq, Repr

/-- The Hall decoder (R193, R194). -/
structure Hall where
  h : Nat               -- Hall state, 0 to 7 | R193
  last : Nat            -- last valid state, 0 none | R193
  angle : Int           -- angle set by the last edge or skip, codes | R193
  arc : Int             -- arc between the last two edge angles, codes, signed by the last direction | R194
  stamp : Nat           -- CLK_A time stamp of the last change | R186, R193
  base : Nat            -- CLK_A time stamp of the edge or skip that set the angle | R193, R194
  prev : Nat            -- CLK_A interval between the last two edges, 0 for none | R194
  edgeAng : Int         -- edge angle of the last counted edge, codes | R193
  edgeAt : Nat          -- CLK_A time stamp of the last counted edge | R193
  dir : Int             -- direction of the last edge, 0 none | R193
  invalidAt : Option Nat  -- CLK_A time stamp since which the state is invalid | R193
deriving DecidableEq, Repr

/-- The SENT receiver (R195 to R198). -/
structure Sent where
  prevCal : Option Nat  -- previous frame's calibration interval, CLK_A cycles; none after reset or rejection | R197
  v1 : Nat              -- last accepted value 1 | R195
  v2 : Nat              -- last accepted value 2 | R195
  status : Nat          -- last accepted status nibble | R195
  trx : Nat             -- CLK_A reception time of the last accepted frame | R195
  moved : Nat           -- CLK_A reception time of the last accepted frame that changed the position | R204
  got : Bool            -- a frame has been accepted since reset and since the mode was selected | R198
  count : Nat           -- frames accepted since reset | R197
deriving DecidableEq, Repr

/-- Counts and last values that the interface publishes at a boundary (R204). -/
structure FbCounts where
  illegal : Nat         -- illegal edges, 32 bits saturating | R188
  mismatches : Nat      -- index mismatches, 32 bits saturating | R191
  lastDiff : Int        -- last index difference E − q | R191
  skips : Nat           -- Hall skips, 32 bits saturating | R193
  accepted : Nat        -- SENT frames accepted, 32 bits saturating | R197
  rejected : Nat        -- SENT frames rejected, 32 bits saturating | R197
  lastRej : Nat         -- last SENT rejection cause, 0 to 7 | R197
  tick : Nat            -- measured SENT tick, ns | R195
deriving DecidableEq, Repr

/-- What the interface latches at a slot boundary for engine 1 (R186). -/
structure FbLatch where
  clk : Nat             -- CLK_A time of the boundary, 32 bits | R185
  q : Nat
  p : Nat
  edge : Nat
  h : Nat
  hall : Hall
  flags : FbFlags
  sent : Sent
deriving DecidableEq, Repr

/-- The feedback interface of one port. -/
structure Feedback where
  flags : FbFlags
  quad : Quadrature
  hall : Hall
  sent : Sent
  latch : FbLatch
  counts : FbCounts
  sentArm : Nat         -- CLK_A time from which the SENT timeout runs while no frame was accepted | R198
deriving DecidableEq, Repr

/-! ### Engine 1 -/

/-- Engine 1's feedback path (R194, R199, R200). -/
structure E1Fb where
  x : Nat               -- position read: reported count or v1 | R199
  refClk : Int          -- CLK_A instant to which the position refers | R199
  theta : Int           -- electrical angle, carried to the write slot by K_ANG_SCALE, Q16 codes | R199
  thetaH : Int          -- Hall angle θ_h at the latch, Q16 codes | R194
  got : Bool            -- a SENT frame has been accepted | R200
  w : Int               -- unfiltered speed, angle-cell units | R194, R200
  wf : Int              -- filtered speed ω_f, angle-cell units with 16 fractional bits | R200
  stamp : Nat           -- time stamp of the position read: last counted edge or reception time | R200
  lastX : Nat           -- position of the previous occurrence | R200
  lastStamp : Nat       -- its time stamp | R200
  oldX : Nat            -- position of the last earlier occurrence that differed | R200
  oldStamp : Nat        -- its time stamp | R200
  seen : Nat            -- positions held: 0, 1 (last) or 2 (last and old)
  zero : Bool           -- zero-speed timeout in force | R194
  flags : FbFlags       -- latched flags of the occurrence | R186
  hall : Hall           -- latched Hall state and its edge data | R194
deriving DecidableEq, Repr

/-- One PLL: angle in Q16 codes, speed in angle-cell units with 16 fractional bits (R210). -/
structure Pll where
  theta : Int
  w : Int
deriving DecidableEq, Repr

/-- The back-EMF observer (R209 to R211). -/
structure Bemf where
  iA : Int              -- i_n, α, Q16 codes | R209
  iB : Int              -- i_n, β | R209
  pA : Int              -- i_{n−1} of the last frame that was not a hold frame, α | R209
  pB : Int              -- β
  eA : Int              -- ê, α, Q16 voltage codes | R209
  eB : Int              -- ê, β
  ref : Int             -- slot of the boundary that ends period n | R210
  hold : Bool           -- the frame is a hold frame, HOLD_FRAME | R208
  pll : Pll             -- back-EMF PLL | R210
  epsF : Int            -- ε_f, Q16 | R211
  conf : Nat            -- conf_b | R211
  idM : Int             -- measured d current in the observer frame, Q16 codes | R224
  iqM : Int             -- measured q current in the observer frame, Q16 codes | R224
deriving DecidableEq, Repr

/-- The injection observer (R212 to R214). -/
structure Hfi where
  pll : Pll             -- θ̂_h, ω̂_h | R213
  hist : List (Int × Int)  -- |Δi_d̂| and s Δi_q̂ of the last L frames, newest first | R213
  resp : Int            -- D, Q16 codes | R213
  conf : Nat            -- conf_h | R213
  sumP : Int            -- sum of |Δi_d̂| in D+ | R214
  cntP : Nat            -- frames in D+ | R214
  sumN : Int            -- sum in D− | R214
  cntN : Nat            -- frames in D− | R214
  resolved : Bool       -- POLARITY_RESOLVED | R214
  ambiguous : Bool      -- POLARITY_AMBIGUOUS | R214
  s : Int               -- sign of the next injecting frame | R212
deriving DecidableEq, Repr

/-- The blend (R215). -/
structure Blend where
  weight : Int          -- w with 16 fractional bits | R215
  theta : Int           -- Q16 codes
  w : Int               -- angle-cell units with 16 fractional bits
  conf : Nat
  src : Nat             -- source code 1, 2 or 3
deriving DecidableEq, Repr

/-- The catch loop (R226, R227). -/
structure Catch where
  pll : Pll
  phi : Int             -- angle of v in the previous frame, Q16 codes | R226
  havePhi : Bool
  refClk : Int          -- CLK_A instant to which the angle refers | R216
  epsF : Int            -- filtered |eps| | R226
  count : Nat           -- qualifying frames | R226
  conf : Nat            -- confidence written | R226
  caught : Bool         -- CAUGHT | R226
  clamped : Bool        -- CATCH_CLAMPED | R227
  skew : Bool           -- CATCH_SKEW | R227
deriving DecidableEq, Repr

/-- The start sequence of a sensorless port (R217 to R221). -/
structure Start where
  dirNeg : Bool         -- start direction field of the port state register: negative | R217
  phase : Nat           -- start phase, codes of 0x3x81.02 | R218
  attempt : Nat         -- attempt number | R218
  alignSlot : Nat       -- entry slot of ALIGN, the reference of the timeline | R218
  phaseSlot : Nat       -- slot at which the phase began | R218
  handCount : Nat       -- handover count | R220
  handSlot : Nat        -- slot of the last tick of the K_HANDOVER instance that counted last | R472
  rampDue : Bool        -- the ramp phase has begun, and K_IF_RAMP requests RAMP with its next occurrence | R219, R472
  handed : Bool         -- the handover was requested | R220
  failed : Bool         -- START_FAILED | R221
  theta : Int           -- I/f angle, Q16 codes | R219
  freq : Int            -- I/f frequency, 0.1 Hz with 16 fractional bits | R219
  refSlot : Int         -- slot to whose boundary the I/f angle refers | R219
  polPos : Bool         -- attempt's polarity phases reached
deriving DecidableEq, Repr

/-- Rotor-loss detection (R224, R225). -/
structure RotorLoss where
  conf : Nat            -- count of condition CONF | R224
  bemf : Nat            -- count of condition BEMF | R224
  qsat : Nat            -- count of condition QSAT | R224
  wL : Int              -- ω_L, angle-cell units | R225
  slot : Nat            -- slot of the last tick of the K_ROTOR_LOSS instance that counted last | R472
  lost : Bool           -- ROTOR_LOST | R224
  cause : Nat           -- cause bits | R224
  losses : Nat          -- rotor losses since activation | R224
  failures : Nat        -- start failures since activation | R221
  eddies : Nat          -- eddy restarts since activation | R228
deriving DecidableEq, Repr

/-- The observer status as K_ANG_OUT last wrote it (R216, R230). -/
structure ObsStatus where
  flags : Nat
  phase : Nat
  attempt : Nat
  conf : Nat
  weight : Nat
  emf : Nat
  catchSpeed : Nat
  cause : Nat
  failures : Nat
  losses : Nat
  eddies : Nat
  resp : Nat
deriving DecidableEq, Repr

/-- Engine 1 of one port. -/
structure E1 where
  fb : E1Fb
  bemf : Bemf
  hfi : Hfi
  blend : Blend
  fly : Catch
  start : Start
  loss : RotorLoss
  obs : ObsStatus           -- written observer status | R216
  obsDue : List (Nat × ObsStatus)  -- writes that become visible at a later slot | R472
  latch : CatchLatch        -- latch of R206, visible | R206
  latchNext : Option CatchLatch    -- latch written in this slot, visible from the next | R206
  angle : Int               -- held angle of K_ANG_OUT, codes | R216
deriving DecidableEq, Repr

/-! ### Modes and start-up (chapter "Operating Modes, Supplies and Start-Up") -/

/-- Where the device stands between a reset source and a powered mode. -/
inductive BootPhase where
  | held          -- in reset: no lane has left its power-on reset | R285, R288
  | boot          -- released: the boot ROM runs, the root is not decided | R288
  | clocked       -- slot counters run; the image of the profile is being checked | R288, R290
  | imageDue      -- the image is activated, hyperframe index 0 is awaited | R82, R288
  | up            -- a powered mode | R274
  | goingDown     -- SLEEP or STORAGE was published and is not reached yet | R281
  | low           -- SLEEP or STORAGE | R273
  | halted        -- BIST failed in both lanes | R291
deriving DecidableEq, Repr

/-- What the always-on island holds while the lanes have no power. -/
structure Island where
  timerMs : Nat          -- wake timer, 0 off | R280, R296
  edge : Nat             -- WAKE edge, 0 rising 1 falling 2 both | R280
  can : Bool             -- CAN wake-up enabled | R280
  unpowered : Bool       -- both VBAT pins lost | R286
  cycle : Nat            -- LFO cycle in which that source, or the one that woke the device, fired | R280
  latched : Nat          -- wake source that fired on the way down, 0 none | R281
deriving DecidableEq, Repr

/-- Start-up and mode control. The mode is the object 0x2000.01. -/
structure Boot where
  phase : BootPhase
  target : Nat           -- mode being entered, 0 STORAGE or 1 SLEEP | R281
  psel : Nat             -- 3 bits, PSEL2 to PSEL0 as sampled | R288
  profile : Nat          -- profile whose image is being checked | R288, R291
  island : Island
  autoAt : Option Nat    -- slot from which the auto-run request is due | R279
  modeSlot : Option Nat  -- slot of the last mode change | R278
  everRun : Bool         -- RUN or DEGRADED has been entered since reset | R312
  laneB : Bool           -- the part has lane B: variant and LANE_B feature bit | R3, R4, R417
  lullLow : Bool         -- LULL_N stays low | R429, R441
  bistBad : List LaneId  -- released lanes whose BIST of the present start-up fails, before its step has ended | R288, R291
deriving DecidableEq, Repr

/-! ### Clocks (chapter "Clock Tree and Root Supervision") -/

/-- The clock monitor of one lane. Sources, trims and flags are the objects 0x2110. -/
structure LaneClk where
  winRun : Nat           -- consecutive windows above 3.5 % with the other lane on the root | R306
  winRoot : Bool         -- the other lane has run on the root since the window in progress opened | R306
  winAll : Bool          -- every window of the present LFO cycle was above 3.5 % | R306
  winSeen : Bool         -- a window has ended in the present LFO cycle | R306
  faultDue : Bool        -- the deciding comparisons exceeded 3.5 % | R49, R306
  steerSlot : Option Nat -- slot of the last steering step, none since the switch | R308
  lfoCount : Nat         -- cycles of the active clock over 4096 LFO cycles, 0 not measured | R302
deriving DecidableEq, Repr

/-- The carrier grid lock. State, error and trim are the objects 0x2150.10 to 0x2150.13. -/
structure Grid where
  goodRun : Nat          -- consecutive measurements within 20 ns | R118
  badRun : Nat           -- consecutive measurements beyond 40 ns | R118
  moved : Bool           -- the anchored instants have changed since the last measurement | R118
  trims : List Int       -- trims of the last 1 s, ppb, newest first, at most 10 000 | R118
  slot : Nat             -- slot of the last measurement | R118
deriving DecidableEq, Repr

/-! ### Ports and lanes -/

/-- One motor port with its cluster (R5, R22). -/
structure Port where
  reg : PortReg               -- port state register | R170
  unit : SafeUnit             -- safe-state unit and gate drivers
  pair : PairUnit             -- pair register and crosswind exchange
  fe : FrontEnd               -- current sensing
  mod : Modulator             -- modulator
  fb : Feedback               -- feedback interface
  cells : Cells               -- handoff cells
  cons : Consumers            -- consumers of the cells
  eng : Engines Engine        -- the three Marjo engines
  e0 : E0                     -- engine 0's kernels
  e1 : E1                     -- engine 1's kernels
  e2 : E2                     -- engine 2's kernels
  faults : List Nat           -- active faults in order of detection | R252, R256
  flight : List (Nat × XwVal) -- records sent and not yet arrived, with their send tick, oldest first | R40
deriving DecidableEq, Repr

/-- One lane's slot counter, shared SRAM and lane hardware (R22). -/
structure Lane where
  alive : Bool                -- the lane is powered, clocked and out of reset | R23, R288
  slots : Nat                 -- slots counted; the 32-bit slot count is this modulo 2^32 | R41, R45
  hyper : Nat                 -- hyperframe slot index | R44
  sram : NatMap Word          -- shared-SRAM words written by engines, zero words not listed | R37
  sramZeros : NatMap Unit     -- shared-SRAM words last stored as zero | R436
  status : Nat                -- lane status word, 32 bits | R159
  chop : Chopper              -- brake chopper | R138
  vgdLow : Bool               -- VGD below 7.0 V: gates held off, coast only | R127
  clamped : Bool              -- the clamps hold every gate of the lane off since its supply was lost | R125, R284
  otherLost : Bool            -- this lane treats the other as lost, OTHER_LANE_LOST | R250
  budgetSlot : Option Nat     -- slot in which the budget was last allocated | R160
  mon : LaneClk               -- clock monitor and backup steering | R306, R308
deriving DecidableEq, Repr

/-- A published change or write whose own command has yet to act on it (R364, R373). -/
structure Published where
  key : Nat                   -- object key
  val : ObjVal                -- value written
  session : Nat               -- session that wrote it, 0 for none
  origin : Nat                -- port of arrival, 1 to 5; 6 internal
deriving DecidableEq, Repr

/-! ### General converters (chapter "General Converters and Conversion Sequences") -/

/-- A conversion in progress (R261). -/
structure GcJob where
  entry : Option Nat    -- entry number, none for an injected conversion
  word : Nat            -- 16-bit entry word | R260
  deferred : Bool       -- injected and held behind a calibration | R270
  start : Nat           -- CLK_A instant at which the conversion started | R261
deriving DecidableEq, Repr

/-- An injected request that has not started (R268, R270). -/
structure GcInject where
  word : Nat            -- 16-bit entry word
  deferred : Bool       -- held behind a calibration
deriving DecidableEq, Repr

/-- One general converter. Active configuration, flags, counters, results and factors are the objects of its
0x22g3, 0x22g4 and 0x22g5. -/
structure Gc where
  job : Option GcJob           -- conversion in progress | R261, R263
  inject : Option GcInject     -- pending injected request | R268
  calReq : Bool                -- a calibration pass waits for the conversion in progress | R269
  cal : Option Nat             -- CLK_A instant at which the running calibration pass started | R269
  passEnd : Option Nat         -- CLK_A instant at which a pass ended with a restart pending | R264
  held : Bool                  -- off until b + 2000 of an activation | R266
  resume : Nat                 -- entry that follows an injected conversion | R268
  everValid : Bool             -- a calibration pass has been valid since reset | R271
  results : List (Nat × Nat)   -- records written and visible from the next slot: sub-index and 64-bit record | R267
deriving DecidableEq, Repr

/-- The four converters. -/
structure Gcs where
  g0 : Gc
  g1 : Gc
  g2 : Gc
  g3 : Gc
deriving DecidableEq, Repr

/-- The state of a converter. -/
def Gcs.get (q : Gcs) : GcId → Gc
  | .g0 => q.g0 | .g1 => q.g1 | .g2 => q.g2 | .g3 => q.g3

/-- The four converters with one replaced. -/
def Gcs.set (q : Gcs) (g : GcId) (x : Gc) : Gcs :=
  match g with
  | .g0 => { q with g0 := x }
  | .g1 => { q with g1 := x }
  | .g2 => { q with g2 := x }
  | .g3 => { q with g3 := x }

/-! ### Network time (chapter "Network Time, Redundant Domains and Timed Actions") -/

/-- A time base (R310). -/
structure TimeBase where
  val : Int              -- TIME80 with a 32-bit fraction: units of 2^-32 ns | R310
  incr : Int             -- advance per CLK_P tick, units of 2^-32 ns | R310
deriving DecidableEq, Repr

/-- What one T1S port knows of one domain's master (R313, R317). -/
structure PortMaster where
  known : Bool           -- an Announce has been received and has not timed out | R313
  vec : List Nat         -- master priority vector as received, most significant first | R313
  gm : Nat               -- 64 bits, grandmasterIdentity | R317
  src : Nat              -- 80 bits, source port identity
  mac : List Byte        -- source address of the Announce | R315
  annSlot : Nat          -- lane slot of the last Announce | R313
  annLog : Int           -- logAnnounceInterval | R313
  annOut : Bool          -- Announce receipt timed out | R317
  syncSlot : Nat         -- lane slot of the last Sync | R313
  syncLog : Int          -- logSyncInterval | R313
  syncOut : Bool         -- Sync receipt timed out | R317
  await : Option (SyncMsg × Int)  -- two-step Sync that waits for its Follow_Up, with its ingress time on DT | R313
deriving DecidableEq, Repr

/-- One time domain (R316, R317, R320). State, flags and counters are the objects 0x212y. -/
structure TimeDomain where
  base : TimeBase        -- T0 or T1 | R310
  r : Int                -- rate ratio minus one, units of 2^-41 | R316
  good : Nat             -- consecutive Syncs with an offset within 1 µs | R317
  ofs : List Int         -- offsets of the last Syncs in TRACKING, 2^-32 ns, newest first, at most 10 | R320
  diffs : List Int       -- o_X − o_Y of the same Syncs, newest first, at most 10 | R320
  last : List (Int × Int)  -- DT instant and offset of the last two Syncs, newest first | R320
  devSign : Int          -- sign of the last Sync's deviation beyond the threshold, 0 none | R320
  devDelay : Nat         -- mean link delay at the last Sync, ns | R320
  ref : Int              -- reference of the cross-check, 2^-32 ns | R320
  holdGood : Nat         -- consecutive Syncs within the cross-check threshold | R321
  trackSlot : Option Nat -- slot of the entry into TRACKING, none while elsewhere | R318
  onN1 : PortMaster      -- what N1 receives | R313
  onN2 : PortMaster      -- what N2 receives | R313
deriving DecidableEq, Repr

/-- Peer delay on one T1S port (R315). Delay, ratio and failures are the objects 0x212z. -/
structure PeerDelay where
  seq : Nat              -- 16 bits, sequence number of the last request | R315
  sentAt : Option Int    -- egress of the unanswered request on nominal ticks, 2^-32 ns | R314, R315, log entry 180
  sendSlot : Option Nat  -- lane slot of the last request | R315
  prev : Option (List Byte × Int × Int)  -- peer, t3 in ns and t4 on nominal ticks of the last exchange | R313, R315
  nrr : Int              -- neighborRateRatio minus one, units of 2^-41 | R313
  wins : List Bool       -- success of the last three exchanges, newest first | R315
  answered : Option (Nat × Nat × Int × Int)  -- last answered Pdelay_Req: requester, sequence, receipt and response times | R313
deriving DecidableEq, Repr

/-- One entry of the timed-action table; its record is the object 0x2130 (R322, R327). -/
structure TimedEntry where
  state : Nat            -- 0 EMPTY, 1 ARMED, 2 DONE, 3 CANCELLED | R327
  flags : Nat            -- 8 bits | R327
  result : Nat           -- 16 bits | R327
  executed : Nat         -- 32 bits saturating | R327
  skipped : Nat          -- 32 bits | R327
  lateness : Nat         -- 32 bits, ns | R327
  done : Nat             -- occurrences run or skipped; the next has this number | R324
  arming : Bool          -- a late occurrence executes at the arming boundary | R324
deriving DecidableEq, Repr

/-- A pulse on a SYNC or GPIO output (R325, R328). -/
structure Pulse where
  out : Nat              -- 0 to 3 SYNC, 0x10 to 0x17 GPIO | R322
  till : Int             -- end on DT, ns | R326, R328
deriving DecidableEq, Repr

/-- The timekeeping unit. -/
structure TimeUnit where
  dt : TimeBase          -- DT | R310
  nominal : Int          -- CLK_P ticks of the common domain at 5 ns each, 2^-32 ns: what no rate steers | R310, R313
  at' : TimeBase         -- AT | R310, R318
  t0 : TimeDomain
  t1 : TimeDomain
  n1 : PeerDelay
  n2 : PeerDelay
  diffF : Int            -- filtered T0 − T1, 2^-32 ns | R329
  entries : List TimedEntry   -- 32 timed actions | R322
  applied : List (Nat × Nat)  -- objects published lately, with the slot of their home that the boundary opened | R30, R326
  cross : Int × Int      -- DT and AT, ns, at the last boundary of the lane that does not clock the common domain | R24, R325
  pulses : List Pulse    -- active outputs | R325, R328
  polarity : List Nat    -- SYNC outputs whose polarity has been published | R460
deriving DecidableEq, Repr

/-- The state of a domain. -/
def TimeUnit.dom (t : TimeUnit) : DomId → TimeDomain
  | .t0 => t.t0 | .t1 => t.t1

/-- The unit with a domain replaced. -/
def TimeUnit.setDom (t : TimeUnit) (n : DomId) (x : TimeDomain) : TimeUnit :=
  match n with
  | .t0 => { t with t0 := x }
  | .t1 => { t with t1 := x }

/-- The peer delay of a port. -/
def TimeUnit.peer (t : TimeUnit) : NetPort → PeerDelay
  | .n1 => t.n1 | .n2 => t.n2

/-- The unit with a port's peer delay replaced. -/
def TimeUnit.setPeer (t : TimeUnit) (n : NetPort) (x : PeerDelay) : TimeUnit :=
  match n with
  | .n1 => { t with n1 := x }
  | .n2 => { t with n2 := x }

/-- What a port knows of the domain's master. -/
def TimeDomain.on (x : TimeDomain) : NetPort → PortMaster
  | .n1 => x.onN1 | .n2 => x.onN2

/-- The domain with what a port knows replaced. -/
def TimeDomain.setOn (x : TimeDomain) (n : NetPort) (m : PortMaster) : TimeDomain :=
  match n with
  | .n1 => { x with onN1 := m }
  | .n2 => { x with onN2 := m }

/-! ### Network ports, sessions and streams (chapter "Network Ports and the Pelnak Access Protocol") -/

/-- Where the answer to a request goes beside its partner (R335): the source address and source UDP port on N1 and N2, empty
and 0 elsewhere. -/
structure Return where
  ip : List Byte         -- 4 or 16 bytes | R334, R335
  port : Nat             -- 16 bits | R335
deriving DecidableEq, Repr

/-- What a frame in a transmit queue travels in: a UDP datagram with its destination address, source and destination ports
(R335, R355), a CAN FD frame with its identifier (R337), a reply below UDP (R334), or units (R405, R463). -/
inductive TxHead where
  | udp (ip : List Byte) (src dst : Nat)
  | can (id : Nat)
  | low
  | units
deriving DecidableEq, Repr

/-- A request in a partner's queue (R345, R349). -/
structure Request where
  opcode : Nat           -- 8 bits | R339
  session : Nat          -- 16 bits, 0 for none | R339
  seq : Nat              -- 32 bits | R346
  payload : List Byte    -- at most 1024 bytes | R339, R340
  partner : List Byte    -- 8 bytes, partner address as the journal records it | R367
  back : Return          -- where its answer goes | R335
  stamp : Nat            -- slot of the serving lane in which it was stamped | R50, R348
deriving DecidableEq, Repr

/-- A partner entry (R349). -/
structure Partner where
  who : List Byte        -- 8 bytes, partner that holds the entry
  used : Bool            -- the entry has held a partner since reset
  queue : List Request   -- at most 4, oldest first
  emptySince : Nat       -- slot since which the queue has been empty
deriving DecidableEq, Repr

/-- A frame in a transmit queue (R350). -/
structure TxFrame where
  stream : Bool          -- a stream frame, ahead of responses | R350
  head : TxHead          -- what it travels in | R335, R337
  dest : List Byte       -- 8 bytes, partner address
  pdu : List Byte        -- the PDU, padded on N3, or the payload of a reply below UDP | R337, R339
  slot : Nat             -- slot in which it was queued | R408
deriving DecidableEq, Repr

/-- A request PDU that has arrived and waits for the boundary that stamps it (R50, R345, R407). -/
structure Arrival where
  who : List Byte        -- 8 bytes, partner | R349, R367
  back : Return          -- where its answer goes | R335
  pdu : List Byte        -- the PDU as received | R339
  slot : Nat             -- slot of the serving lane that the boundary opens | R50
deriving DecidableEq, Repr

/-- One port that takes requests: N1, N2, N3, the chain port or the TAP. Counters are the objects of the port. -/
structure ReqPort where
  entries : List Partner -- 8 for a network port, 1 for the chain port and the TAP | R349, R407, R463
  next : Nat             -- entry at which the search for the next request starts | R347
  tx : List TxFrame      -- transmit queue, 32 frames, or 4 responses on the chain port and the TAP | R350, R407
  served : Option Nat    -- slot of the last service | R347
  window : Nat           -- refusal window of 2000 slots | R349
  refusals : Nat         -- immediate refusals sent in the window, at most 16 | R349
  arrived : List Arrival -- requests that no boundary has sampled yet, oldest first | R50, R345, R407
  fails : Nat            -- consecutive AUTH failures | R344
  lockAt : Option Nat    -- slot at which the 1 s lockout began | R344
  echoSlot : Option Nat  -- slot of the last answered echo request | R334
deriving DecidableEq, Repr

/-- The five ports that take requests. -/
structure ReqPorts where
  n1 : ReqPort
  n2 : ReqPort
  n3 : ReqPort
  chain : ReqPort
  tap : ReqPort
deriving DecidableEq, Repr

/-- The state of a port that takes requests. -/
def ReqPorts.get (q : ReqPorts) : Origin → ReqPort
  | .n1 => q.n1 | .n2 => q.n2 | .n3 => q.n3 | .chain => q.chain | .tap => q.tap

/-- The ports with one replaced. -/
def ReqPorts.set (q : ReqPorts) (o : Origin) (x : ReqPort) : ReqPorts :=
  match o with
  | .n1 => { q with n1 := x }
  | .n2 => { q with n2 := x }
  | .n3 => { q with n3 := x }
  | .chain => { q with chain := x }
  | .tap => { q with tap := x }

/-- A session, reserved or open (R342, R344, R346). -/
structure Session where
  id : Nat               -- 16 bits, not 0 | R342
  isOpen : Bool          -- AUTH has succeeded | R342
  role : Nat             -- 1 P, 2 I, 3 C | R10, R340
  origin : Nat           -- 1 to 5, port of the session | R342, R367
  partner : List Byte    -- 8 bytes | R342
  ip : List Byte         -- source address of its AUTH, to which stream frames are sent | R355
  key : List Byte        -- 16 bytes, session key | R342
  nh : List Byte         -- 16 bytes, host nonce | R342
  nd : List Byte         -- 16 bytes, device nonce | R342
  since : Nat            -- slot of the reservation, or of the last accepted request or frame | R342, R344
  high : Nat             -- 32 bits, highest accepted sequence number | R346
  seen : List Nat        -- accepted numbers from h − 31 to h | R346
  cache : List (Nat × List Byte)  -- the last 4 responses with their numbers, newest first | R346
  asm : Option (Nat × List Byte)  -- segment assembly: object key and data, at most 1024 bytes | R341
  base : Nat             -- 32 bits, export base | R378, R380
deriving DecidableEq, Repr

/-- A request that crossed the dictionary bridge (R28, R350). -/
structure BridgeJob where
  origin : Nat           -- port of arrival, 1 to 5
  due : Nat              -- slot of the home lane in which it is executed | R350
  home : LaneId
  delay : Nat            -- slots of delay | R348
  req : Request
deriving DecidableEq, Repr

/-- One stream. State, attachment and counters are the objects 0x116s. -/
structure Stream where
  got : Bool             -- a frame has been accepted since the stream was enabled | R351, R354
  seq : Nat              -- 32 bits, sequence of the last accepted or sent frame | R353, R355
  prevSeq : Nat          -- sequence accepted before the frame of the last stamp | R353
  stampA : Nat           -- arrival stamp in lane A's slots | R353
  stampB : Nat           -- arrival stamp in lane B's slots | R353
  prevA : Option Nat     -- arrival stamp of the frame before in lane A's slots, none before the first | R168, R353
  prevB : Option Nat     -- arrival stamp of the frame before in lane B's slots | R168, R353
  sentSlot : Option Nat  -- slot of the last transmitted frame | R355
deriving DecidableEq, Repr

/-- A value of an accepted frame on its way to its object (R353). -/
structure StreamPub where
  stream : Nat           -- stream number
  lane : LaneId          -- lane at whose boundary it is published | R353
  due : Nat              -- slot of that lane that the boundary opens | R353
  stamp : Nat            -- slot of the receiving lane with which its frame was stamped | R353
  key : Nat              -- object key
  raw : List Byte        -- value as the frame carries it
deriving DecidableEq, Repr

/-- The network side of the block. -/
structure Net where
  ports : ReqPorts
  sessions : List (Option Session)  -- 8 places of the session table | R344, R357
  streams : List Stream  -- 16 streams | R358
  pubs : List StreamPub  -- stream values not yet published | R353
  bridge : List BridgeJob  -- requests on the dictionary bridge | R350
  latchB : Bool          -- N3 ownership latch set by lane B | R338
deriving DecidableEq, Repr

/-! ### Changes, journal and flash (chapters "Object Dictionary, Roles and the Change Journal" and "Stored Profiles and the
Flash Map") -/

/-- What is answered once a change is committed or refused (R350). -/
structure Reply where
  origin : Nat           -- port of the request, 1 to 5
  partner : List Byte    -- 8 bytes
  back : Return          -- where the answer goes | R335
  session : Nat
  key : List Byte        -- session key of the request, empty without a session | R339
  seq : Nat
  opcode : Nat
  delay : Nat            -- slots of delay | R348
deriving DecidableEq, Repr

/-- A change on its way to publication (R364, R365). -/
structure Change where
  key : Nat              -- object key
  raw : List Byte        -- value as written, wire bytes
  session : Nat          -- session that wrote it, 0 internal
  role : Nat             -- role of the request
  origin : Nat           -- 1 to 5, 6 internal | R367
  reply : Option Reply   -- response to release, none for an internal change
deriving DecidableEq, Repr

/-- A Process write that is published at the next boundary (R364). -/
structure ProcWrite where
  key : Nat
  raw : List Byte
  session : Nat
  origin : Nat
  lane : LaneId          -- lane that served it
  due : Nat              -- slot that the publishing boundary opens | R364
  more : Bool            -- a segment behind data that stand: raw holds them and the segment | R81, R395
deriving DecidableEq, Repr

/-- A trace record on its way to flash or in it (R442). -/
structure TraceRec where
  fault : Nat            -- 16 bits, fault ID, 0xFFFF for a freeze
  scope : Nat            -- 8 bits
  pstate : Nat           -- 8 bits
  time : Int             -- TIME80 in ns
  base : Nat             -- time base code
  safe : Nat             -- 0 none, 1 coast, 2 ASC
  slot : Nat             -- 32 bits
  number : Nat           -- 32 bits, record number
  pairReg : Nat          -- 16 bits
  cells : List Byte      -- 192 bytes
  diag : Nat             -- 32 bits
  laneStatus : Nat       -- 32 bits
deriving DecidableEq, Repr

/-- One half of a profile slot (R384): the header's 48 bytes, or none while they read erased, and what follows. -/
structure Half where
  header : List Byte     -- 48 bytes, empty while erased | R384
  records : List Byte    -- configuration records | R384, R385
  image : List Byte      -- schedule image | R384
deriving DecidableEq, Repr

/-- One copy of the device record (R394). -/
structure DeviceRecord where
  good : Bool            -- the copy's CRC matches
  gen : Nat              -- 32 bits, generation
  bank : Nat             -- active-bank selector, 0 A 1 B
  key : List Byte        -- 16 bytes, Operator key
  policy : Nat           -- journal policy
deriving DecidableEq, Repr

/-- A capture slot (R439, R444). -/
structure Capture where
  state : Nat            -- 0 EMPTY 1 WRITING 2 VALID 3 INCOMPLETE 4 ERASING
  info : List Byte       -- bytes 1 to 31 of the directory entry | R444
  dump : List Byte       -- the dump | R436
deriving DecidableEq, Repr

/-- The consent record (R443). -/
structure Consent where
  on : Bool
  ident : Nat            -- 64 bits
  entry : Nat            -- 32 bits, entry number of the change
  serial : List Byte     -- 16 bytes
deriving DecidableEq, Repr

/-- What the flash die holds (R382); it survives every reset. -/
structure Flash where
  units : NatMap (List Byte)  -- programmed journal units: 64 bytes each; an unlisted unit is erased | R367
  head : Nat             -- unit that is programmed next | R367
  number : Nat           -- 32 bits, next entry number | R368
  oldest : Nat           -- 32 bits, oldest entry held | R380
  acked : Nat            -- 32 bits, acknowledged up to, 0xFFFFFFFF none | R379
  lost : Nat             -- 32 bits saturating, entries lost in ring | R377
  voided : Nat           -- 32 bits saturating, voided units | R375
  anchor : List Byte     -- 8 bytes, anchor tag | R379
  tag : List Byte        -- 8 bytes, tag of the last committed entry | R370
  halves : List Half     -- 16 halves, two for each of profiles 0 to 7 | R382, R384
  bankA : List Byte      -- boot and catalogue bank A | R382
  bankB : List Byte      -- boot and catalogue bank B | R382
  recA : DeviceRecord    -- device record, first block | R394
  recB : DeviceRecord    -- device record, second block | R394
  captures : List Capture  -- 3 capture slots | R439
  traces : List TraceRec -- fault traces, oldest first, at most 3840 | R442
  traceNo : Nat          -- 32 bits, next record number | R442
  consent : Option Consent  -- consent record, none while its CRC is invalid | R443
deriving DecidableEq, Repr

/-- An operation on profiles or banks (R389 to R395). -/
inductive FlashOp where
  | load (n : Nat)       -- profile being loaded by command
  | save (n h : Nat) (data : Half)  -- half h of profile n being written with the captured setup
  | erase (n : Nat)      -- profile being erased
  | bankErase            -- inactive bank being erased
  | bankCheck            -- inactive bank being checked
deriving DecidableEq, Repr


/-! ### Chain port, test access port and freeze -/

/-- Assembly and response of a link that carries Pelnak in units (R405 to R408, R463). -/
structure UnitLink where
  asm : Option (List Byte)   -- open assembly, at most 1048 bytes | R406
  inbound : Option (List Byte)  -- last inbound unit's bytes, control byte first, not yet taken | R405, R406
  shown : Nat                -- bytes of the oldest queued response already shown and consumed | R408
  loaded : Nat               -- payload bytes of the outbound unit in the section, 0 idle | R403, R408
  out : Nat                  -- outbound unit in the section, U bits | R403
  mark : Bool                -- the next outbound units carry the framing bit | R401, R463
deriving DecidableEq, Repr

/-- The chain-port controller. Flags and counters are the objects 0x2301 and 0x2310. -/
structure Chain where
  link : UnitLink
  low : Bool                 -- CSN is low | R400
  sckHigh : Bool             -- SCK was high at the falling edge of CSN | R400
  enable : Bool              -- settings taken at the falling edge | R402
  pelnak : Bool              -- unit content | R402
  frameLen : Nat             -- F | R402
  unitLen : Nat              -- U | R402
  position : Nat             -- chain position, the partner that entries name | R402, R409
  window : List Bool         -- the section as it stands, U bits, the one on SDO first | R397, R403
  sdo : Bool                 -- level of SDO | R397, R433
  sdoOut : List Bool         -- levels of SDO after each edge of SCK in the last frame | R397, R398
  rstbOut : List Bool        -- levels of RSTB after each of them, none while it is not driven | R399
  rising : Bool              -- edge mode | R402
  rstb : Bool                -- RSTB is driven | R399, R402
  sck : Bool                 -- level of SCK, which RSTB copies | R397, R399
  shadow : Nat               -- 32 bits, chain input latched | R404
  shadowNew : Bool           -- the shadow awaits its publication | R404
deriving DecidableEq, Repr

/-- The test access port (R434, R462, R463). -/
structure Tap where
  ir : Nat                   -- 8 bits, instruction | R462
  link : UnitLink            -- OBJ | R463
  dumpAddr : Nat             -- 32 bits, DUMP_ADDR | R434
  cells : List Bool          -- 74 boundary cells as preloaded | R462
  tdo : List Bool            -- what the last scan of the data register shifted out, first bit first | R434, R462
  bscan : Bool               -- EXTEST, HIGHZ or CLAMP is in effect: gates held off, units apply coast | R462
deriving DecidableEq, Repr

/-- The freeze (R431, R435, R439). `Dev.frozen` says that one is in effect. -/
structure Freeze where
  header : List Byte         -- dump header recorded at the trigger, bytes 0 to 0x47 | R431, R437
  resumable : Bool           -- RESUMABLE | R440
  readDone : Bool            -- READ_COMPLETE | R435
  running : Bool             -- SELF_DUMP_RUNNING | R435, R439
  done : Bool                -- SELF_DUMP_DONE | R435, R439
  full : Bool                -- CAPTURE_FULL | R435, R439
  refused : Bool             -- RESUME_REFUSED | R435, R440
  slot : Nat                 -- SLOT, 1 to 3 or 0 | R435, R439
  gpio : Nat                 -- 8 bits, GPIO levels held | R449
  gpioDrive : Nat            -- 8 bits, GPIO pins driven at the trigger | R449
  ix : Nat                   -- model's own: which dump the open bytes belong to | log entry 9
  trail : Nat                -- 4 bits, trailer words shifted out | R435
  torn : Bool                -- a journal commit was in progress at the trigger | R433
deriving DecidableEq, Repr

/-! ### Fuses (chapter "One-Time Fuses and Variants") -/

/-- A fuse operation in progress (R420, R423). -/
inductive OtpOp where
  | program (word : Nat) (value : Word)
  | lock (region : Nat)
deriving DecidableEq, Repr

/-- The fuse array; it keeps its bits for life. -/
structure Fuses where
  words : NatMap Word    -- 512 words of 32 bits as read at the tight-0 reference, zero words not listed | R412, R415
  checks : NatMap Word   -- check bits of the privileged words, 7 bits each, zero ones not listed | R413
  closed : List Nat      -- privileged words whose marker is programmed | R413
  weak : List Nat        -- words that last read MARGINAL, the margin map | R415
  broken : List Nat      -- privileged words with an uncorrectable error | R413
  rows : List (Nat × Word)  -- spare rows used, each with the word its redirection entry names, the highest entry first | R414
deriving DecidableEq, Repr

/-- One lane's shadow of the fuse array (R412, R416). -/
structure Shadow where
  words : NatMap Word    -- words as read at start-up or programmed since, zero words not listed | R416, R420
  weak : List Nat        -- words that read MARGINAL, partial or uncorrectable when they entered the shadow | R416
  closed : List Nat      -- privileged words that were not blank when they entered the shadow | R413, R416
deriving DecidableEq, Repr

/-- The OTP controller. Flags, counters and status are the objects 0x2400 to 0x2405. -/
structure Otp where
  shadows : Duo Shadow   -- one in each lane | R412
  op : Option OtpOp      -- operation in progress | R420
  opDue : Bool           -- its command is committed and not yet published
  waits : List (Reply × Nat × Nat)  -- pending reads of 0x2406: answer, offset and length, at most 8 | R427
  due : List (Nat × Nat)       -- words that both shadows take, with the slot at whose boundary they do | R420, R423
  left : Bool            -- a supply or temperature window has been left since the operation began | R420
  reread : Nat           -- slot of the last periodic re-read | R426
deriving DecidableEq, Repr

/-! ### Journal writer and flash controller -/

/-- A change that counts in the committed state of a judgement (R365). -/
structure Ahead where
  job : Nat              -- number of its job, 0 where it is published
  key : Nat
  val : ObjVal
deriving DecidableEq, Repr

/-- What a judgement finds beside the changes ahead of it: the block as it stood in the service slot, for the conditions that no
change sets (R365). -/
structure Seen where
  objs : ObjStore
  ports : Quad Port
  lanes : Duo Lane
  image : Option Image
  degradeDue : Bool
  gcs : Gcs
  devFaults : List Nat
  boot : Boot
  time : TimeUnit
  net : Net
  flash : Flash
  fuses : Fuses
  otp : Otp
  op : Option FlashOp    -- profile or bank operation in progress
  opDue : Bool           -- its command committed and not yet published
  staged : Option Image  -- image accepted under R81
  procs : List ProcWrite -- Process writes not yet published
  vpp : Nat              -- VPP in mV
deriving DecidableEq, Repr

/-- An entry for the journal writer (R367, R373). -/
structure JournalJob where
  id : Nat               -- model's own: number of the job | log entry 150
  body : List Byte       -- bytes 0x04 to 0x37 of the entry | R367
  write : Option (Nat × List Byte)  -- object and value of the write that it records; none for an event | R366
  change : Option Change -- the change it records; none for an event or a refused change | R366
  lane : LaneId          -- lane in whose service slot it was formed
  slot : Nat             -- slot of that lane whose opening boundary takes it into the queue | R373
  reach : Option Nat     -- slot of the common domain's lane in which it reached the queue, none before | R30, R373
  origin : Nat           -- rank among jobs of one slot | R30
  reserve : Bool         -- may use the reserve of 64 units | R376
  ahead : List Ahead     -- the changes that count in its committed state and were not yet published | R365
  seen : Option Seen     -- what its judgement found in its service slot; none for an event | R365
  rejudge : Bool         -- the changes ahead of it are no longer those it was judged with | R365
deriving DecidableEq, Repr

/-- The journal writer and the flash controller. Flags and counters are the objects 0x1300 and 0x1400. -/
structure Writer where
  nextJob : Nat               -- model's own: number of the next job, from 1 | log entry 150
  queue : List JournalJob     -- at most 64, in the order of R30 | R373
  running : Option JournalJob -- the commit in progress | R373
  done : List (JournalJob × Nat)  -- committed changes not yet published, with the slot in which the commit completed | R373
  recDue : List JournalJob    -- committed changes that wait for their device-record copy | R394
  procs : List ProcWrite      -- Process writes not yet published | R364
  pubSlot : Option Nat        -- slot whose opening boundary published last | R30
  erases : List Nat           -- journal blocks queued for erase, the first one running | R377, R379
  op : Option FlashOp         -- profile or bank operation in progress | R391
  opDue : Bool                -- the operation's command is committed and not yet published | R391
  staged : Option Image       -- image accepted under R81 and not yet replaced
  verify : Bool               -- a staged image is being verified | R81
  upload : Bool               -- a FIRST segment since reset has erased the inactive bank | R395
  traceQ : List TraceRec      -- trace records not yet written, at most 8 | R442
  erasing : List Nat          -- capture slots being erased, 1 to 3 | R444
deriving DecidableEq, Repr

/-- What the requests of a lane's slot read: values as visible at the slot's start (R362). -/
structure Shown where
  objs : ObjStore             -- the objects | R362
  sessions : List (List Byte) -- the rows of the session table | R357
  captures : List Capture     -- capture slots | R444
  traces : List TraceRec      -- fault traces | R442
deriving DecidableEq, Repr

/-- A snapshot whose objects of one lane are not yet copied (R363). -/
structure SnapJob where
  lane : LaneId               -- lane whose boundary copies the rest
  slot : Nat                  -- slot count of the capture
  session : Nat               -- session that asked for it
  vals : List (Nat × Option (List Byte))  -- keys of the list in order, with the bytes copied so far
deriving DecidableEq, Repr

/-- The whole block but the queue of commands. -/
structure Dev where
  objs : ObjStore             -- every object whose value is not its default | R467
  ports : Quad Port           -- M1 to M4
  lanes : Duo Lane            -- lanes A and B
  image : Option Image        -- active schedule image | R82
  monArmed : Bool             -- slot monitors armed | R82
  activeAt : Option Nat       -- slot at which hyperframe index 0 of the activated image begins | R82
  frozen : Bool               -- all slot counters and engines are stopped by a freeze | R432
  degradeDue : Bool           -- an event of R251 has happened since the reset | R251, R276
  published : List Published  -- published commands and WO writes that wait for their own command | R364, R373
  gcs : Gcs                   -- general converters
  devFaults : List Nat        -- active faults of device scope | R255
  boot : Boot                 -- modes and start-up
  grid : Grid                 -- carrier grid lock | R118
  time : TimeUnit             -- timekeeping unit
  net : Net                   -- network ports, sessions and streams
  wr : Writer                 -- journal writer and flash controller
  flash : Flash               -- flash die
  fuses : Fuses               -- fuse array
  otp : Otp                   -- OTP controller
  chain : Chain               -- chain port
  tap : Tap                   -- test access port
  frz : Freeze                -- freeze
  shown : Duo Shown           -- what requests served in each lane's slot read | R362
  snap : Option SnapJob       -- a snapshot that waits for the other lane | R363
  gpioIn : Nat                -- 8 bits, pin levels at the last slot boundary | R450
  freeIx : Nat                -- model's own: free values taken so far | log entry 9
deriving DecidableEq, Repr

/-- Why a run stops with a fault. What the manual calls a fault is state of the block (the fault record, the fault lists),
and the machine goes on; the one thing that stops it is an access to a word that does not exist. noSuchWord: raised by
SCRATCHPAD_ACCESS beyond the 8192 words of a data scratchpad and by SHARED_SRAM_ACCESS beyond the 524288 words of a lane's
shared SRAM, which no kernel of the catalogue makes; safe. -/
inductive Fault where
  | noSuchWord
deriving DecidableEq, Repr

/-- Why a command can have no meaning. notModelled: the command's arm has no meaning yet; raised by such an arm
alone, with the row's mnemonic; safe, since nothing can be proved of the refused command. -/
inductive Refusal where
  | notModelled (mnemonic : String)
deriving DecidableEq, Repr


/-! ### The state at reset -/

/-- Reset value. -/
def Bundle.atReset : Bundle :=
  { tick := 0, any := 0, low := 0, high := 0 }

/-- Reset value. -/
def Engine.atReset : Engine :=
  { regs := [], backs := [], pad := [], zeros := [], padStores := [], loop0 := 0, loop1 := 0, divFree := 0,
    branchTick := 0, pc := 0, lastSend := 0, bundle := Bundle.atReset }

/-- Reset value. -/
def CellRec.atReset {α : Type} (x : α) : CellRec α :=
  { wslot := 0, seq := 0, fb := false, init := false, val := x }

/-- Reset value. -/
def Cell.atReset {α : Type} (x : α) : Cell α :=
  { cur := (CellRec.atReset x), writes := [] }

/-- Reset value. -/
def Consumer.atReset {α : Type} (x : α) : Consumer α :=
  { maxAge := 0, rule := .hold, rampLen := 0, lastSeq := 0, wasStale := false, staleRun := 0, held := x }

/-- Reset value. -/
def CurVal.atReset : CurVal :=
  { iu := 0, iv := 0, uValid := 0, uGap := 0, vValid := 0, vGap := 0 }

/-- Reset value. -/
def AngVal.atReset : AngVal :=
  { angle := 0, speed := 0, conf := 0, source := 0 }

/-- Reset value. -/
def SpVal.atReset : SpVal :=
  { id := 0, iq := 0, lim := 0, flags := 0 }

/-- Reset value. -/
def DutyVal.atReset : DutyVal :=
  { du := 0, dv := 0, dw := 0, pattern := 0 }

/-- Reset value. -/
def BusVal.atReset : BusVal :=
  { v := 0, ov := 0 }

/-- Reset value. -/
def XwVal.atReset : XwVal :=
  { angle := 0, tag := 0, pairByte := 0, speed := 0, id := 0, iq := 0, vd := 0, vq := 0, health := 0, residual := 0,
    x := 0 }

/-- Reset value. -/
def Cells.atReset : Cells :=
  { current := (Cell.atReset CurVal.atReset), angle := (Cell.atReset AngVal.atReset),
    setpoint := (Cell.atReset SpVal.atReset), duty := (Cell.atReset DutyVal.atReset),
    bus := (Cell.atReset BusVal.atReset), xw := (Cell.atReset XwVal.atReset) }

/-- Reset value. -/
def Consumers.atReset : Consumers :=
  { cur0 := (Consumer.atReset CurVal.atReset), cur1 := (Consumer.atReset CurVal.atReset),
    cur2 := (Consumer.atReset CurVal.atReset), ang0 := (Consumer.atReset AngVal.atReset),
    ang2 := (Consumer.atReset AngVal.atReset), sp0 := (Consumer.atReset SpVal.atReset),
    dutyM := (Consumer.atReset DutyVal.atReset), bus0 := (Consumer.atReset BusVal.atReset),
    duty2 := (Consumer.atReset DutyVal.atReset), xw2 := (Consumer.atReset XwVal.atReset) }

/-- Reset value. -/
def SlotEntry.atReset : SlotEntry :=
  { used := false, locked := false, k := 0, phi := 0, m := 0, sphase := 0 }

/-- Reset value. -/
def ChanInt.atReset : ChanInt :=
  { px := 0, pt := 0 }

/-- Reset value. -/
def OcCounts.atReset : OcCounts :=
  { level := ⟨0, 0, 0⟩, hard := ⟨0, 0, 0⟩ }

/-- Reset value. -/
def Factors.atReset : Factors :=
  { offU := 0, offV := 0, gainU := 32768, gainV := 32768 }

/-- Reset value. -/
def FrontEnd.atReset : FrontEnd :=
  { u := ChanInt.atReset, v := ChanInt.atReset, oc := OcCounts.atReset, pass := none, calDue := false,
    lastStart := 0, everValid := false, reconnect := none, changed := 0, former := Factors.atReset }

/-- Reset value. -/
def Modulator.atReset : Modulator :=
  { rhoR := ⟨0, 0, 0⟩, rhoF := ⟨0, 0, 0⟩, trans := ⟨[], [], []⟩, prevTrans := ⟨[], [], []⟩,
    ends := ⟨.off, .off, .off⟩, startSlot := 0, running := false, driving := false, taken := DutyVal.atReset,
    periods := 0, offSeen := false, lowsAt := 0 }

/-- Reset value. -/
def CatchLatch.atReset : CatchLatch :=
  { du := 0, dv := 0, dw := 0, vbus := 0, gatesOff := false }

/-- Reset value. -/
def PortReg.atReset : PortReg :=
  { state := .off, entrySlot := 0, reqUnit := none, reqE2 := none, reqE1 := none }

/-- Reset value. -/
def SafeUnit.atReset : SafeUnit :=
  { arriving := [], heldOff := [], ascSign := 0, ascQuiet := 0, bootWithheld := ⟨0, 0, 0⟩,
    withheld := ⟨false, false, false⟩, coastSlot := none, nodeMiss := ⟨0, 0, 0⟩,
    nodeHighLow := ⟨false, false, false⟩, escalateAt := none, ov2Below := none, busMv := 0, nonMember := false,
    speedDue := none, later := [] }

/-- Reset value. -/
def Chopper.atReset : Chopper :=
  { gateTick := 0, engagedMv := 0, onTicks := 0, faultAt := none }

/-- Reset value. -/
def PairUnit.atReset : PairUnit :=
  { lineIgnored := false, partnerLine := false, ownLine := false, state := 0, writes := [], lineDriving := 0,
    sent := [], record := XwVal.atReset, wasFresh := false, stale := false, prevFailed := 0, verdictAge := 0,
    verdictFrame := 0, exchSlot := 0, plausSlot := 0, plausCmd := 0, readFrame := 0, staleFrames := 0,
    blamePartner := false, blameSelf := false, overloadSlot := none, overloadOver := none, tag := 0, residual := 0 }

/-- Reset value. -/
def E0Frame.atReset : E0Frame :=
  { iu := 0, iv := 0, iw := 0, thetaMeas := 0, thetaApply := 0, omega := 0, vbus := 0, ialpha := 0, ibeta := 0,
    id := 0, iq := 0, ud := 0, uq := 0, vdCmd := 0, vqCmd := 0, vd := 0, vq := 0, valpha := 0, vbeta := 0,
    duty := DutyVal.atReset }

/-- Reset value. -/
def E0State.atReset : E0State :=
  { xd := 0, xq := 0, formed := false, xdHold := 0, xqHold := 0, idFwHold := 0, deltaD := 0, deltaQ := 0, idFw := 0,
    idMtpa := 0, idRef := 0, iqRef := 0, idS := 0, iqS := 0, recId := 0, recIq := 0, thetaS := 0, thetaS1 := 0,
    thetaS2 := 0, wS := 0, wS1 := 0, wS2 := 0, bothPoor := 0, qualSlot := 0, gLast := 0, stepLeft := 0, stepD := 0,
    stepQ := 0 }

/-- Reset value. -/
def Ratio.atReset : Ratio :=
  { num := 0, den := 1 }

/-- Reset value. -/
def E0Gains.atReset : E0Gains :=
  { kpD := Ratio.atReset, kiD := Ratio.atReset, kpQ := Ratio.atReset, kiQ := Ratio.atReset, rs := Ratio.atReset,
    ld := Ratio.atReset, lq := Ratio.atReset, psi := Ratio.atReset, stepD := Ratio.atReset, stepQ := Ratio.atReset,
    gfw := Ratio.atReset }

/-- Reset value. -/
def E0Flags.atReset : E0Flags :=
  { hold := false, coast := false, zvv := false, fallback := false, uPoor := false, vPoor := false,
    sp := SpVal.atReset, volLim := false, mtpaMis := false, ovm := false, diag := 0, chkI := 0, chkV := 0,
    chkB := 0, stores := [], wCell := 0, angHeld := AngVal.atReset }

/-- Reset value. -/
def E0.atReset : E0 :=
  { fr := E0Frame.atReset, st := E0State.atReset, fl := E0Flags.atReset, gains := E0Gains.atReset, frame := 0,
    late := none }

/-- Reset value. -/
def E2Cmd.atReset : E2Cmd :=
  { ctl := 0, spd := 0, trq := 0, freshCtl := 0, freshSpd := 0, freshTrq := 0, lastClear := false, stale := false,
    staleRun := 0, stopped := false, rearmed := true, streamStop := false }

/-- Reset value. -/
def E2Motion.atReset : E2Motion :=
  { wf := 0, wCell := 0, r := 0, a := 0, endZero := false, held := false, x := 0, sat := false, limited := false,
    revPending := false, revStand := false, seqSlot := 0, startRefused := false, unknown := false, stopCount := 0,
    revCount := 0, stand := false, view := .off, startNeg := false, acted := [] }

/-- Reset value. -/
def E2Out.atReset : E2Out :=
  { idSp := 0, iqSp := 0, iLim := 0, iBud := 0, ibF := 0, pairLimited := false, regenBlock := false, reqWord := 0,
    reqNext := none, grant := 0, limByBudget := false, checkOk := true, senseOk := false, recId := 0, recIq := 0,
    thetaS1 := 0, thetaS2 := 0, wS1 := 0, wS2 := 0, wSlot := 0, ge := 1, pairView := 0 }

/-- Reset value. -/
def E2.atReset : E2 :=
  { cmd := E2Cmd.atReset, mo := E2Motion.atReset, out := E2Out.atReset, status := [], proc := none, budget := none }

/-- Reset value. -/
def FbFlags.atReset : FbFlags :=
  { fault := false, motion := false, direction := false, illegalEdge := false, referenced := false,
    mismatch := false, hallSkip := false, hallInvalid := false, sentStale := false, formatMis := false }

/-- Reset value. -/
def Quadrature.atReset : Quadrature :=
  { prevA := false, prevB := false, q := 0, p := 0, z := false, edge := 0, bucket := 0, leakSlot := 0,
    missRun := 0 }

/-- Reset value. -/
def Hall.atReset : Hall :=
  { h := 0, last := 0, angle := 0, arc := 0, stamp := 0, base := 0, prev := 0, edgeAng := 0, edgeAt := 0, dir := 0,
    invalidAt := none }

/-- Reset value. -/
def Sent.atReset : Sent :=
  { prevCal := none, v1 := 0, v2 := 0, status := 0, trx := 0, moved := 0, got := false, count := 0 }

/-- Reset value. -/
def FbCounts.atReset : FbCounts :=
  { illegal := 0, mismatches := 0, lastDiff := 0, skips := 0, accepted := 0, rejected := 0, lastRej := 0,
    tick := 0 }

/-- Reset value. -/
def FbLatch.atReset : FbLatch :=
  { clk := 0, q := 0, p := 0, edge := 0, h := 0, hall := Hall.atReset, flags := FbFlags.atReset,
    sent := Sent.atReset }

/-- Reset value. -/
def Feedback.atReset : Feedback :=
  { flags := FbFlags.atReset, quad := Quadrature.atReset, hall := Hall.atReset, sent := Sent.atReset,
    latch := FbLatch.atReset, counts := FbCounts.atReset, sentArm := 0 }

/-- Reset value. -/
def E1Fb.atReset : E1Fb :=
  { x := 0, refClk := 0, theta := 0, thetaH := 0, got := false, w := 0, wf := 0, stamp := 0, lastX := 0,
    lastStamp := 0, oldX := 0, oldStamp := 0, seen := 0, zero := false, flags := FbFlags.atReset,
    hall := Hall.atReset }

/-- Reset value. -/
def Pll.atReset : Pll :=
  { theta := 0, w := 0 }

/-- Reset value. -/
def Bemf.atReset : Bemf :=
  { iA := 0, iB := 0, pA := 0, pB := 0, eA := 0, eB := 0, ref := 0, hold := false, pll := Pll.atReset, epsF := 0,
    conf := 0, idM := 0, iqM := 0 }

/-- Reset value. -/
def Hfi.atReset : Hfi :=
  { pll := Pll.atReset, hist := [], resp := 0, conf := 0, sumP := 0, cntP := 0, sumN := 0, cntN := 0,
    resolved := false, ambiguous := false, s := 1 }

/-- Reset value. -/
def Blend.atReset : Blend :=
  { weight := 0, theta := 0, w := 0, conf := 0, src := 0 }

/-- Reset value. -/
def Catch.atReset : Catch :=
  { pll := Pll.atReset, phi := 0, havePhi := false, refClk := 0, epsF := 0, count := 0, conf := 0, caught := false,
    clamped := false, skew := false }

/-- Reset value. -/
def Start.atReset : Start :=
  { dirNeg := false, phase := 0, attempt := 0, alignSlot := 0, phaseSlot := 0, handCount := 0, handSlot := 0,
    rampDue := false, handed := false, failed := false, theta := 0, freq := 0, refSlot := 0, polPos := false }

/-- Reset value. -/
def RotorLoss.atReset : RotorLoss :=
  { conf := 0, bemf := 0, qsat := 0, wL := 0, slot := 0, lost := false, cause := 0, losses := 0, failures := 0,
    eddies := 0 }

/-- Reset value. -/
def ObsStatus.atReset : ObsStatus :=
  { flags := 0, phase := 0, attempt := 0, conf := 0, weight := 1000, emf := 0, catchSpeed := 0, cause := 0,
    failures := 0, losses := 0, eddies := 0, resp := 0 }

/-- Reset value. -/
def E1.atReset : E1 :=
  { fb := E1Fb.atReset, bemf := Bemf.atReset, hfi := Hfi.atReset, blend := Blend.atReset, fly := Catch.atReset,
    start := Start.atReset, loss := RotorLoss.atReset, obs := ObsStatus.atReset, obsDue := [],
    latch := CatchLatch.atReset, latchNext := none, angle := 0 }

/-- Reset value. -/
def Island.atReset : Island :=
  { timerMs := 0, edge := 0, can := false, unpowered := false, cycle := 0, latched := 0 }

/-- Reset value. -/
def Boot.atReset : Boot :=
  { phase := .held, target := 0, psel := 0, profile := 0, island := Island.atReset, autoAt := none,
    modeSlot := none, everRun := false, laneB := false, lullLow := false, bistBad := [] }

/-- Reset value. -/
def LaneClk.atReset : LaneClk :=
  { winRun := 0, winRoot := false, winAll := false, winSeen := false, faultDue := false, steerSlot := none,
    lfoCount := 0 }

/-- Reset value. -/
def Grid.atReset : Grid :=
  { goodRun := 0, badRun := 0, moved := false, trims := [], slot := 0 }

/-- Reset value. -/
def Port.atReset : Port :=
  { reg := PortReg.atReset, unit := SafeUnit.atReset, pair := PairUnit.atReset, fe := FrontEnd.atReset,
    mod := Modulator.atReset, fb := Feedback.atReset, cells := Cells.atReset, cons := Consumers.atReset,
    eng := ⟨Engine.atReset, Engine.atReset, Engine.atReset⟩, e0 := E0.atReset, e1 := E1.atReset, e2 := E2.atReset,
    faults := [], flight := [] }

/-- Reset value. -/
def Lane.atReset : Lane :=
  { alive := false, slots := 0, hyper := 0, sram := [], sramZeros := [], status := 1000, chop := Chopper.atReset,
    vgdLow := false, clamped := false, otherLost := false, budgetSlot := none, mon := LaneClk.atReset }

/-- Reset value. -/
def Gc.atReset : Gc :=
  { job := none, inject := none, calReq := false, cal := none, passEnd := none, held := false, resume := 0,
    everValid := false, results := [] }

/-- Reset value. -/
def Gcs.atReset : Gcs :=
  { g0 := Gc.atReset, g1 := Gc.atReset, g2 := Gc.atReset, g3 := Gc.atReset }

/-- Reset value. -/
def TimeBase.atReset : TimeBase :=
  { val := 0, incr := 5 * 2 ^ 32 }

/-- Reset value. -/
def PortMaster.atReset : PortMaster :=
  { known := false, vec := [], gm := 0, src := 0, mac := [], annSlot := 0, annLog := 0, annOut := true,
    syncSlot := 0, syncLog := 0, syncOut := false, await := none }

/-- Reset value. -/
def TimeDomain.atReset : TimeDomain :=
  { base := TimeBase.atReset, r := 0, good := 0, ofs := [], diffs := [], last := [], devSign := 0, devDelay := 0,
    ref := 0, holdGood := 0, trackSlot := none, onN1 := PortMaster.atReset, onN2 := PortMaster.atReset }

/-- Reset value. -/
def PeerDelay.atReset : PeerDelay :=
  { seq := 0, sentAt := none, sendSlot := none, prev := none, nrr := 0, wins := [], answered := none }

/-- Reset value. -/
def TimedEntry.atReset : TimedEntry :=
  { state := 0, flags := 0, result := 0, executed := 0, skipped := 0, lateness := 0, done := 0, arming := false }

/-- Reset value. -/
def TimeUnit.atReset : TimeUnit :=
  { dt := TimeBase.atReset, nominal := 0, at' := TimeBase.atReset, t0 := TimeDomain.atReset,
    t1 := TimeDomain.atReset, n1 := PeerDelay.atReset, n2 := PeerDelay.atReset, diffF := 0,
    entries := List.replicate 32 TimedEntry.atReset, applied := [], cross := (0, 0), pulses := [], polarity := [] }

/-- Reset value. -/
def Partner.atReset : Partner :=
  { who := [], used := false, queue := [], emptySince := 0 }

/-- Reset value. -/
def ReqPort.atReset (n : Nat) : ReqPort :=
  { entries := List.replicate n Partner.atReset, next := 0, tx := [], served := none, window := 0, refusals := 0,
    arrived := [], fails := 0, lockAt := none, echoSlot := none }

/-- Reset value. -/
def ReqPorts.atReset : ReqPorts :=
  { n1 := ReqPort.atReset 8, n2 := ReqPort.atReset 8, n3 := ReqPort.atReset 8, chain := ReqPort.atReset 1,
    tap := ReqPort.atReset 1 }

/-- Reset value. -/
def Stream.atReset : Stream :=
  { got := false, seq := 0, prevSeq := 0, stampA := 0, stampB := 0, prevA := none, prevB := none, sentSlot := none }

/-- Reset value. -/
def Net.atReset : Net :=
  { ports := ReqPorts.atReset, sessions := List.replicate 8 none, streams := List.replicate 16 Stream.atReset,
    pubs := [], bridge := [], latchB := false }

/-- Reset value. -/
def Half.atReset : Half :=
  { header := [], records := [], image := [] }

/-- Reset value. -/
def DeviceRecord.atReset : DeviceRecord :=
  { good := false, gen := 0, bank := 0, key := List.replicate 16 0, policy := 0 }

/-- Reset value. -/
def Capture.atReset : Capture :=
  { state := 0, info := List.replicate 31 0, dump := [] }

/-- Reset value. -/
def Flash.atReset : Flash :=
  { units := [], head := 0, number := 0, oldest := 0, acked := 0xFFFFFFFF, lost := 0, voided := 0,
    anchor := List.replicate 8 0, tag := List.replicate 8 0, halves := List.replicate 16 Half.atReset, bankA := [],
    bankB := [], recA := DeviceRecord.atReset, recB := DeviceRecord.atReset,
    captures := List.replicate 3 Capture.atReset, traces := [], traceNo := 0, consent := none }

/-- Reset value. -/
def UnitLink.atReset : UnitLink :=
  { asm := none, inbound := none, shown := 0, loaded := 0, out := 0, mark := false }

/-- Reset value. -/
def Chain.atReset : Chain :=
  { link := UnitLink.atReset, low := false, sckHigh := false, enable := false, pelnak := false, frameLen := 0,
    unitLen := 0, position := 0, window := [], sdo := false, sdoOut := [], rstbOut := [], rising := false,
    rstb := false, sck := false, shadow := 0, shadowNew := false }

/-- Reset value. -/
def Tap.atReset : Tap :=
  { ir := 0x01, link := UnitLink.atReset, dumpAddr := 0, cells := List.replicate 74 false, tdo := [],
    bscan := false }

/-- Reset value. -/
def Freeze.atReset : Freeze :=
  { header := [], resumable := false, readDone := false, running := false, done := false, full := false,
    refused := false, slot := 0, gpio := 0, gpioDrive := 0, ix := 0, trail := 0, torn := false }

/-- Reset value. -/
def Fuses.atReset : Fuses :=
  { words := [], checks := [], closed := [], weak := [], broken := [], rows := [] }

/-- Reset value. -/
def Shadow.atReset : Shadow :=
  { words := [], weak := [], closed := [] }

/-- Reset value. -/
def Otp.atReset : Otp :=
  { shadows := ⟨Shadow.atReset, Shadow.atReset⟩, op := none, opDue := false, waits := [], due := [], left := false,
    reread := 0 }

/-- Reset value. -/
def Writer.atReset : Writer :=
  { nextJob := 1, queue := [], running := none, done := [], recDue := [], procs := [], pubSlot := none,
    erases := [], op := none, opDue := false, staged := none, verify := false, upload := false, traceQ := [],
    erasing := [] }

/-- Reset value. -/
def Shown.atReset : Shown :=
  { objs := [], sessions := [], captures := [], traces := [] }

/-- Reset value. -/
def Dev.atReset : Dev :=
  { objs := [], ports := ⟨Port.atReset, Port.atReset, Port.atReset, Port.atReset⟩,
    lanes := ⟨Lane.atReset, Lane.atReset⟩, image := none, monArmed := false, activeAt := none, frozen := false,
    degradeDue := false, published := [], gcs := Gcs.atReset, devFaults := [], boot := Boot.atReset,
    grid := Grid.atReset, time := TimeUnit.atReset, net := Net.atReset, wr := Writer.atReset,
    flash := Flash.atReset, fuses := Fuses.atReset, otp := Otp.atReset, chain := Chain.atReset, tap := Tap.atReset,
    frz := Freeze.atReset, shown := ⟨Shown.atReset, Shown.atReset⟩, snap := none, gpioIn := 0, freeIx := 0 }

/-- The machine: the block and the commands that wait, first in, first out. -/
structure State where
  dev : Dev
  pending : List Instr        -- waiting commands, front first
deriving DecidableEq, Repr

/-- The machine right after reset: held in the power-on reset, with nothing waiting (R292). -/
def State.reset : State := { dev := Dev.atReset, pending := [] }

end Sys2Proof.Machine
end

