-- ==== Sys2Proof/Machine/CellBytes.lean ====
section
/-! DEFINITION. The 32-byte layout of the handoff cells (R75, R237). -/

namespace Sys2Proof.Machine

/-- Two bytes of a signed 16-bit field. -/
def le16 (v : Int) : List Byte := toLE 2 (unsignedOf 16 v)

/-- Four bytes of a signed 32-bit field. -/
def le32 (v : Int) : List Byte := toLE 4 (unsignedOf 32 v)

/-- Value of the current cell: 12 bytes. -/
def curBytes (v : CurVal) : List Byte :=
  le16 v.iu ++ le16 v.iv ++ toLE 2 v.uValid ++ toLE 2 v.uGap ++ toLE 2 v.vValid ++ toLE 2 v.vGap

/-- Value of the angle cell: 10 bytes. -/
def angBytes (v : AngVal) : List Byte := le16 v.angle ++ [0, 0] ++ le32 v.speed ++ toLE 1 v.conf ++ toLE 1 v.source

/-- Value of the setpoint cell: 8 bytes. -/
def spBytes (v : SpVal) : List Byte := le16 v.id ++ le16 v.iq ++ le16 v.lim ++ toLE 2 v.flags

/-- Value of the duty cell: 8 bytes. -/
def dutyBytes (v : DutyVal) : List Byte := toLE 2 v.du ++ toLE 2 v.dv ++ toLE 2 v.dw ++ toLE 1 v.pattern ++ [0]

/-- Value of the bus-voltage cell: 4 bytes. -/
def busBytes (v : BusVal) : List Byte := le16 v.v ++ toLE 1 v.ov ++ [0]

/-- The crosswind record: 24 bytes (R237). -/
def xwBytes (v : XwVal) : List Byte :=
  toLE 2 v.angle ++ toLE 1 v.tag ++ toLE 1 v.pairByte ++ le32 v.speed ++ le16 v.id ++ le16 v.iq ++ le16 v.vd ++
  le16 v.vq ++ toLE 2 v.health ++ toLE 2 v.residual ++ le32 v.x

/-- The 32 bytes of a cell: write slot, sequence, producer flags, value length, value (R75). -/
def CellRec.bytes {α : Type} (r : CellRec α) (f : α → List Byte) : List Byte :=
  toLE 4 r.wslot ++ toLE 2 r.seq ++ toLE 1 (b2n r.fb + 2 * b2n r.init) ++ toLE 1 (f r.val).length ++ f r.val ++
  List.replicate (24 - (f r.val).length) 0

end Sys2Proof.Machine
end

