-- ==== Sys2Proof/Machine/ObjTable.lean ====
section
/-! DEFINITION. The object tables of the manual as one list of rows: base index (placeholder digits at their
lowest instance), sub-indices, type, access, write role, class, default, permitted values and permitted length.
Each row's comment names the rule whose table it follows. -/

namespace Sys2Proof.Machine

/-- Object-table rows, part 0. -/
def objRows0 : List ObjRow := [
  ⟨0x1000, 0x01, 0x01, .str, .ro, .o, .identity, .bytes [65, 85, 66, 79, 78, 84, 69, 32, 77, 73, 67, 82, 79, 83, 89, 83, 84, 69, 77, 83], [], ⟨20, 20⟩⟩, -- R469 Vendor name
  ⟨0x1000, 0x02, 0x02, .str, .ro, .o, .identity, .bytes [84, 65, 82, 75, 65, 90, 69, 82], [], ⟨8, 8⟩⟩, -- R469 Family name
  ⟨0x1000, 0x03, 0x03, .u16, .ro, .o, .identity, .num 0, [], ⟨0, 0⟩⟩, -- R469 Product code
  ⟨0x1000, 0x04, 0x04, .u8, .ro, .o, .identity, .num 0, [], ⟨0, 0⟩⟩, -- R469 Silicon revision
  ⟨0x1000, 0x05, 0x05, .octets, .ro, .o, .identity, .bytes (List.replicate 16 0), [], ⟨16, 16⟩⟩, -- R469 Serial number
  ⟨0x1000, 0x06, 0x06, .u32, .ro, .o, .identity, .num 0, [], ⟨0, 0⟩⟩, -- R469 Boot ROM version
  ⟨0x1000, 0x07, 0x07, .u32, .ro, .o, .identity, .num 0, [], ⟨0, 0⟩⟩, -- R469 Active bank version
  ⟨0x1000, 0x08, 0x08, .u16, .ro, .o, .identity, .num 256, [], ⟨0, 0⟩⟩, -- R469 Dictionary version
  ⟨0x1110, 0x01, 0x01, .bool, .rws, .i, .config, .num 1, [⟨0, 1, 1⟩], ⟨0, 0⟩⟩, -- R356 Port enable
  ⟨0x1110, 0x02, 0x02, .octets, .ro, .o, .identity, .bytes (List.replicate 6 0), [], ⟨6, 6⟩⟩, -- R356 MAC address
  ⟨0x1110, 0x03, 0x03, .u32, .rws, .i, .config, .num 0, [⟨0, 4294967295, 1⟩], ⟨0, 0⟩⟩, -- R356 IPv4 address
  ⟨0x1110, 0x05, 0x05, .u8, .rws, .i, .config, .num 255, [⟨0, 255, 1⟩], ⟨0, 0⟩⟩, -- R356 PLCA node ID
  ⟨0x1110, 0x06, 0x06, .u8, .rws, .i, .config, .num 8, [⟨1, 255, 1⟩], ⟨0, 0⟩⟩, -- R356 PLCA node count
  ⟨0x1110, 0x07, 0x07, .u8, .rws, .i, .config, .num 32, [⟨1, 255, 1⟩], ⟨0, 0⟩⟩, -- R356 PLCA transmit opportunity timer
  ⟨0x1110, 0x08, 0x08, .u8, .rws, .i, .config, .num 0, [⟨0, 255, 1⟩], ⟨0, 0⟩⟩, -- R356 PLCA burst count
  ⟨0x1110, 0x09, 0x09, .u8, .rws, .i, .config, .num 128, [⟨1, 255, 1⟩], ⟨0, 0⟩⟩, -- R356 PLCA burst timer
  ⟨0x1110, 0x10, 0x10, .u8, .ro, .o, .status, .num 0, [], ⟨0, 0⟩⟩, -- R356 Port status
  ⟨0x1110, 0x11, 0x11, .u32, .ro, .o, .status, .num 0, [], ⟨0, 0⟩⟩, -- R356 IPv4 address in use
  ⟨0x1110, 0x12, 0x12, .u32, .ro, .o, .status, .num 0, [], ⟨0, 0⟩⟩, -- R356 Requests served
  ⟨0x1110, 0x13, 0x13, .u32, .ro, .o, .status, .num 0, [], ⟨0, 0⟩⟩, -- R356 Requests delayed
  ⟨0x1110, 0x14, 0x14, .u32, .ro, .o, .status, .num 0, [], ⟨0, 0⟩⟩, -- R356 Requests refused busy
  ⟨0x1110, 0x15, 0x15, .u32, .ro, .o, .status, .num 0, [], ⟨0, 0⟩⟩, -- R356 Refusals not answered
  ⟨0x1110, 0x16, 0x16, .u32, .ro, .o, .status, .num 0, [], ⟨0, 0⟩⟩, -- R356 Frames discarded
  ⟨0x1110, 0x17, 0x17, .u32, .ro, .o, .status, .num 0, [], ⟨0, 0⟩⟩, -- R356 Largest delay
  ⟨0x1130, 0x01, 0x01, .bool, .rws, .i, .config, .num 1, [⟨0, 1, 1⟩], ⟨0, 0⟩⟩, -- R356 Port enable
  ⟨0x1130, 0x02, 0x02, .u8, .rws, .i, .config, .num 1, [⟨1, 254, 1⟩], ⟨0, 0⟩⟩, -- R356 CAN node ID
  ⟨0x1130, 0x03, 0x03, .u8, .rws, .i, .config, .num 2, [⟨0, 3, 1⟩], ⟨0, 0⟩⟩, -- R356 Arbitration rate
  ⟨0x1130, 0x04, 0x04, .u8, .rws, .i, .config, .num 1, [⟨0, 3, 1⟩], ⟨0, 0⟩⟩, -- R356 Data rate
  ⟨0x1130, 0x05, 0x05, .u16, .rws, .i, .config, .num 800, [⟨600, 900, 1⟩], ⟨0, 0⟩⟩, -- R356 Arbitration sample point
  ⟨0x1130, 0x06, 0x06, .u16, .rws, .i, .config, .num 700, [⟨600, 900, 1⟩], ⟨0, 0⟩⟩, -- R356 Data sample point
  ⟨0x1130, 0x10, 0x10, .u8, .ro, .o, .status, .num 0, [], ⟨0, 0⟩⟩, -- R356 N3 owner
  ⟨0x1130, 0x11, 0x11, .u8, .ro, .o, .status, .num 0, [], ⟨0, 0⟩⟩, -- R356 CAN error state
  ⟨0x1130, 0x12, 0x12, .u32, .ro, .o, .status, .num 0, [], ⟨0, 0⟩⟩, -- R356 Requests served
  ⟨0x1130, 0x13, 0x13, .u32, .ro, .o, .status, .num 0, [], ⟨0, 0⟩⟩, -- R356 Requests delayed
  ⟨0x1130, 0x14, 0x14, .u32, .ro, .o, .status, .num 0, [], ⟨0, 0⟩⟩, -- R356 Requests refused busy
  ⟨0x1130, 0x15, 0x15, .u32, .ro, .o, .status, .num 0, [], ⟨0, 0⟩⟩, -- R356 Refusals not answered
  ⟨0x1130, 0x16, 0x16, .u32, .ro, .o, .status, .num 0, [], ⟨0, 0⟩⟩, -- R356 Frames discarded
  ⟨0x1130, 0x17, 0x17, .u32, .ro, .o, .status, .num 0, [], ⟨0, 0⟩⟩, -- R356 Largest delay
  ⟨0x1130, 0x18, 0x18, .u32, .ro, .o, .status, .num 0, [], ⟨0, 0⟩⟩, -- R356 Bus-off events
  ⟨0x1160, 0x01, 0x01, .bool, .rws, .i, .config, .num 0, [⟨0, 1, 1⟩], ⟨0, 0⟩⟩] -- R358 Stream enable

/-- Object-table rows, part 1. -/
def objRows1 : List ObjRow := [
  ⟨0x1160, 0x02, 0x02, .u8, .rws, .i, .config, .num 0, [⟨0, 1, 1⟩], ⟨0, 0⟩⟩, -- R358 Direction
  ⟨0x1160, 0x03, 0x03, .u8, .rws, .i, .config, .num 1, [⟨1, 3, 1⟩], ⟨0, 0⟩⟩, -- R358 Stream port
  ⟨0x1160, 0x04, 0x04, .u32, .rws, .i, .config, .num 1000, [⟨500, 1000000, 500⟩], ⟨0, 0⟩⟩, -- R358 Transmit period
  ⟨0x1160, 0x05, 0x05, .u32, .rws, .i, .config, .num 10000, [⟨500, 10000000, 500⟩], ⟨0, 0⟩⟩, -- R358 Stream timeout
  ⟨0x1160, 0x10, 0x10, .u8, .ro, .o, .status, .num 0, [], ⟨0, 0⟩⟩, -- R358 Stream state
  ⟨0x1160, 0x11, 0x11, .u16, .ro, .o, .status, .num 0, [], ⟨0, 0⟩⟩, -- R358 Attached session
  ⟨0x1160, 0x12, 0x12, .u32, .ro, .o, .status, .num 0, [], ⟨0, 0⟩⟩, -- R358 Frames accepted or sent
  ⟨0x1160, 0x13, 0x13, .u32, .ro, .o, .status, .num 0, [], ⟨0, 0⟩⟩, -- R358 Frames discarded
  ⟨0x1160, 0x14, 0x14, .u32, .ro, .o, .status, .num 0, [], ⟨0, 0⟩⟩, -- R358 Frames overwritten or dropped
  ⟨0x1160, 0x15, 0x15, .u32, .ro, .o, .status, .num 0, [], ⟨0, 0⟩⟩, -- R358 Timeouts
  ⟨0x1160, 0x16, 0x16, .u32, .ro, .o, .status, .num 0, [], ⟨0, 0⟩⟩, -- R358 Last arrival
  ⟨0x1200, 0x01, 0x01, .u32, .rws, .i, .config, .num 10000, [⟨1000, 600000, 1⟩], ⟨0, 0⟩⟩, -- R357 Session timeout
  ⟨0x1200, 0x02, 0x02, .u8, .ro, .o, .status, .num 0, [], ⟨0, 0⟩⟩, -- R357 Open sessions
  ⟨0x1200, 0x03, 0x03, .u32, .ro, .o, .status, .num 0, [], ⟨0, 0⟩⟩, -- R357 Authentication failures
  ⟨0x1200, 0x04, 0x04, .u8, .ro, .o, .status, .num 7, [], ⟨0, 0⟩⟩, -- R357 Zero keys accepted
  ⟨0x1200, 0x05, 0x05, .u32, .ro, .o, .status, .num 0, [], ⟨0, 0⟩⟩, -- R357 Event entries lost
  ⟨0x1201, 0x01, 0x08, .octets, .ro, .o, .status, .bytes (List.replicate 16 0), [], ⟨16, 16⟩⟩, -- R357 Session table
  ⟨0x1210, 0x00, 0x00, .octets, .wo, .i, .secret, .bytes (List.replicate 16 0), [], ⟨16, 16⟩⟩, -- R357 Operator key
  ⟨0x1300, 0x01, 0x01, .u8, .rwa, .c, .config, .num 0, [⟨0, 1, 1⟩], ⟨0, 0⟩⟩, -- R380 Journal policy
  ⟨0x1300, 0x02, 0x02, .u32, .ro, .o, .status, .num 0, [], ⟨0, 0⟩⟩, -- R380 Next entry number
  ⟨0x1300, 0x03, 0x03, .u32, .ro, .o, .status, .num 0, [], ⟨0, 0⟩⟩, -- R380 Oldest entry held
  ⟨0x1300, 0x04, 0x04, .u32, .ro, .o, .status, .num 4294967295, [], ⟨0, 0⟩⟩, -- R380 Acknowledged up to
  ⟨0x1300, 0x05, 0x05, .u32, .ro, .o, .status, .num 524288, [], ⟨0, 0⟩⟩, -- R380 Free units
  ⟨0x1300, 0x06, 0x06, .u32, .ro, .o, .status, .num 0, [], ⟨0, 0⟩⟩, -- R380 Entries lost in ring
  ⟨0x1300, 0x07, 0x07, .u32, .ro, .o, .status, .num 0, [], ⟨0, 0⟩⟩, -- R380 Voided units
  ⟨0x1300, 0x08, 0x08, .u8, .ro, .o, .status, .num 4, [], ⟨0, 0⟩⟩, -- R380 Journal flags
  ⟨0x1300, 0x09, 0x09, .octets, .ro, .o, .status, .bytes (List.replicate 8 0), [], ⟨8, 8⟩⟩, -- R380 Anchor tag
  ⟨0x1300, 0x0A, 0x0A, .u32, .ro, .o, .status, .num 0, [], ⟨0, 0⟩⟩, -- R380 Unjournaled refusals
  ⟨0x1300, 0x0B, 0x0B, .u32, .ro, .o, .status, .num 0, [], ⟨0, 0⟩⟩, -- R380 Writer queue overflows
  ⟨0x1310, 0x01, 0x01, .u32, .rwa, .p, .process, .num 0, [⟨0, 4294967295, 1⟩], ⟨0, 0⟩⟩, -- R380 Export base
  ⟨0x1310, 0x02, 0x02, .octets, .wo, .c, .command, .bytes [], [], ⟨12, 12⟩⟩, -- R380 Acknowledge
  ⟨0x1320, 0x00, 0x00, .octets, .ro, .o, .status, .bytes [], [], ⟨0, 0⟩⟩, -- R380 Export window
  ⟨0x1400, 0x01, 0x01, .u8, .ro, .o, .status, .num 0, [], ⟨0, 0⟩⟩, -- R396 Selected profile
  ⟨0x1400, 0x02, 0x02, .u8, .ro, .o, .status, .num 0, [], ⟨0, 0⟩⟩, -- R396 Selection source
  ⟨0x1400, 0x03, 0x03, .u8, .ro, .o, .status, .num 0, [], ⟨0, 0⟩⟩, -- R396 PSEL code
  ⟨0x1400, 0x04, 0x04, .u8, .ro, .o, .status, .num 0, [], ⟨0, 0⟩⟩, -- R396 Operation status
  ⟨0x1400, 0x05, 0x05, .u8, .ro, .o, .status, .num 0, [], ⟨0, 0⟩⟩, -- R396 Operation failure
  ⟨0x1400, 0x06, 0x06, .u8, .ro, .o, .status, .num 0, [], ⟨0, 0⟩⟩, -- R396 Device record flags
  ⟨0x1401, 0x00, 0x00, .u8, .wo, .i, .command, .num 0, [⟨0, 7, 1⟩], ⟨0, 0⟩⟩, -- R396 Select profile
  ⟨0x1402, 0x00, 0x00, .u8, .wo, .i, .command, .num 0, [⟨0, 7, 1⟩], ⟨0, 0⟩⟩] -- R396 Save profile

/-- Object-table rows, part 2. -/
def objRows2 : List ObjRow := [
  ⟨0x1403, 0x00, 0x00, .u8, .wo, .i, .command, .num 0, [⟨0, 7, 1⟩], ⟨0, 0⟩⟩, -- R396 Erase profile
  ⟨0x1404, 0x01, 0x08, .octets, .ro, .o, .status, .bytes (List.replicate 16 0), [], ⟨16, 16⟩⟩, -- R396 Profile directory 0–7
  ⟨0x1410, 0x00, 0x00, .octets, .rwc, .c, .process, .bytes [], [], ⟨0, 2097152⟩⟩, -- R396 Bank staging
  ⟨0x1411, 0x00, 0x00, .u8, .wo, .c, .command, .num 0, [⟨1, 1, 1⟩], ⟨0, 0⟩⟩, -- R396 Verify inactive bank
  ⟨0x1412, 0x00, 0x00, .u8, .wo, .c, .command, .num 0, [⟨1, 1, 1⟩], ⟨0, 0⟩⟩, -- R396 Switch banks
  ⟨0x1413, 0x01, 0x01, .u8, .ro, .o, .status, .num 0, [], ⟨0, 0⟩⟩, -- R396 Bank at next reset
  ⟨0x1413, 0x02, 0x02, .u8, .ro, .o, .status, .num 0, [], ⟨0, 0⟩⟩, -- R396 Inactive bank status
  ⟨0x2000, 0x01, 0x01, .u8, .ro, .o, .status, .num 2, [], ⟨0, 0⟩⟩, -- R296 Device mode
  ⟨0x2000, 0x02, 0x02, .u16, .ro, .o, .status, .num 0, [], ⟨0, 0⟩⟩, -- R296 Start-up alarms
  ⟨0x2000, 0x03, 0x03, .u8, .ro, .o, .status, .num 1, [], ⟨0, 0⟩⟩, -- R296 Reset cause
  ⟨0x2000, 0x04, 0x04, .u8, .ro, .o, .status, .num 0, [], ⟨0, 0⟩⟩, -- R296 Wake source
  ⟨0x2000, 0x05, 0x05, .u32, .ro, .o, .status, .num 0, [], ⟨0, 0⟩⟩, -- R296 Start-up time
  ⟨0x2000, 0x06, 0x06, .u16, .ro, .o, .status, .num 0, [], ⟨0, 0⟩⟩, -- R296 DEGRADED cause
  ⟨0x2000, 0x07, 0x07, .u8, .ro, .o, .status, .num 0, [], ⟨0, 0⟩⟩, -- R296 BIST result
  ⟨0x2001, 0x00, 0x00, .u8, .wo, .p, .command, .num 0, [⟨1, 2, 1⟩, ⟨4, 4, 1⟩], ⟨0, 0⟩⟩, -- R296 Mode request
  ⟨0x2002, 0x01, 0x01, .bool, .rwc, .i, .config, .num 0, [⟨0, 1, 1⟩], ⟨0, 0⟩⟩, -- R296 Auto-run
  ⟨0x2003, 0x00, 0x00, .u8, .wo, .i, .command, .num 0, [⟨0, 0, 1⟩, ⟨3, 3, 1⟩], ⟨0, 0⟩⟩, -- R296 Privileged mode request
  ⟨0x2004, 0x00, 0x00, .u8, .wo, .i, .command, .num 0, [⟨1, 1, 1⟩], ⟨0, 0⟩⟩, -- R296 Device reset
  ⟨0x2005, 0x01, 0x01, (.arr .u32), .rwa, .p, .process, .arr [], [], ⟨0, 16⟩⟩, -- R381 Snapshot list
  ⟨0x2005, 0x02, 0x02, .u8, .wo, .p, .process, .num 0, [⟨1, 1, 1⟩], ⟨0, 0⟩⟩, -- R381 Take snapshot
  ⟨0x2005, 0x03, 0x03, .u32, .ro, .o, .status, .num 0, [], ⟨0, 0⟩⟩, -- R381 Snapshot generation
  ⟨0x2005, 0x04, 0x04, .octets, .ro, .o, .status, .bytes [], [], ⟨0, 1024⟩⟩, -- R381 Snapshot data
  ⟨0x2005, 0x05, 0x05, .u16, .ro, .o, .status, .num 0, [], ⟨0, 0⟩⟩, -- R381 Snapshot owner
  ⟨0x2006, 0x01, 0x01, .u32, .rws, .i, .config, .num 0, [⟨0, 0, 1⟩, ⟨1000, 604800000, 1⟩], ⟨0, 0⟩⟩, -- R296 Wake timer
  ⟨0x2006, 0x02, 0x02, .u8, .rws, .i, .config, .num 0, [⟨0, 2, 1⟩], ⟨0, 0⟩⟩, -- R296 WAKE edge in SLEEP
  ⟨0x2006, 0x03, 0x03, .bool, .rws, .i, .config, .num 1, [⟨0, 1, 1⟩], ⟨0, 0⟩⟩, -- R296 CAN wake-up enable
  ⟨0x2010, 0x01, 0x01, .u8, .rws, .i, .config, .num 0, [⟨0, 255, 1⟩], ⟨0, 0⟩⟩, -- R450 GPIO direction
  ⟨0x2010, 0x02, 0x02, .u8, .rwa, .p, .process, .num 0, [⟨0, 255, 1⟩], ⟨0, 0⟩⟩, -- R450 GPIO output
  ⟨0x2010, 0x03, 0x03, .u8, .ro, .o, .status, .num 0, [], ⟨0, 0⟩⟩, -- R450 GPIO input
  ⟨0x2010, 0x04, 0x04, (.arr .u8), .ro, .o, .status, .arr (List.replicate 8 0), [], ⟨8, 8⟩⟩, -- R450 GPIO source
  ⟨0x2100, 0x01, 0x01, .time80, .ro, .o, .status, .num 0, [], ⟨0, 0⟩⟩, -- R329 DT
  ⟨0x2100, 0x02, 0x02, .time80, .ro, .o, .status, .num 0, [], ⟨0, 0⟩⟩, -- R329 AT
  ⟨0x2100, 0x03, 0x03, .time80, .ro, .o, .status, .num 0, [], ⟨0, 0⟩⟩, -- R329 T0
  ⟨0x2100, 0x04, 0x04, .time80, .ro, .o, .status, .num 0, [], ⟨0, 0⟩⟩, -- R329 T1
  ⟨0x2100, 0x05, 0x05, .u8, .ro, .o, .status, .num 0, [], ⟨0, 0⟩⟩, -- R329 AT state
  ⟨0x2100, 0x06, 0x06, .u8, .ro, .o, .status, .num 0, [], ⟨0, 0⟩⟩, -- R329 AT source
  ⟨0x2100, 0x07, 0x07, .u8, .rws, .i, .config, .num 1, [⟨1, 2, 1⟩], ⟨0, 0⟩⟩, -- R329 Preferred domain
  ⟨0x2100, 0x08, 0x08, .bool, .rws, .i, .config, .num 0, [⟨0, 1, 1⟩], ⟨0, 0⟩⟩, -- R329 Revertive
  ⟨0x2100, 0x09, 0x09, .u16, .rws, .i, .config, .num 10, [⟨1, 3600, 1⟩], ⟨0, 0⟩⟩, -- R329 Revert delay
  ⟨0x2100, 0x0A, 0x0A, .u16, .ro, .o, .status, .num 0, [], ⟨0, 0⟩⟩] -- R329 Time flags

/-- Object-table rows, part 3. -/
def objRows3 : List ObjRow := [
  ⟨0x2100, 0x0B, 0x0B, .s32, .ro, .o, .status, .num 0, [], ⟨0, 0⟩⟩, -- R329 AT slew remaining
  ⟨0x2100, 0x0C, 0x0C, .u64, .ro, .o, .status, .num 21474836480, [], ⟨0, 0⟩⟩, -- R329 DT increment
  ⟨0x2100, 0x0D, 0x0D, .time80, .wo, .i, .command, .num 0, [⟨0, 281474976710655999999999, 1⟩], ⟨0, 0⟩⟩, -- R329 Set DT
  ⟨0x2100, 0x0E, 0x0E, .u32, .rws, .i, .config, .num 200, [⟨20, 1000000, 1⟩], ⟨0, 0⟩⟩, -- R329 Cross-check threshold
  ⟨0x2100, 0x0F, 0x0F, .s32, .ro, .o, .status, .num 0, [], ⟨0, 0⟩⟩, -- R329 Domain difference
  ⟨0x2110, 0x01, 0x01, .u8, .ro, .o, .status, .num 0, [], ⟨0, 0⟩⟩, -- R309 Root state
  ⟨0x2110, 0x02, 0x02, .u8, .ro, .o, .status, .num 0, [], ⟨0, 0⟩⟩, -- R309 Lane A clock source
  ⟨0x2110, 0x03, 0x03, .u8, .ro, .o, .status, .num 0, [], ⟨0, 0⟩⟩, -- R309 Lane B clock source
  ⟨0x2110, 0x04, 0x04, .u8, .ro, .o, .status, .num 0, [], ⟨0, 0⟩⟩, -- R309 Root loss cause
  ⟨0x2110, 0x05, 0x05, .time80, .ro, .o, .status, .num 0, [], ⟨0, 0⟩⟩, -- R309 Root loss time
  ⟨0x2110, 0x06, 0x06, .s16, .ro, .o, .status, .num 0, [], ⟨0, 0⟩⟩, -- R309 Root deviation
  ⟨0x2110, 0x07, 0x07, .s16, .ro, .o, .status, .num 0, [], ⟨0, 0⟩⟩, -- R309 Backup trim lane A
  ⟨0x2110, 0x08, 0x08, .s16, .ro, .o, .status, .num 0, [], ⟨0, 0⟩⟩, -- R309 Backup trim lane B
  ⟨0x2110, 0x09, 0x09, .u8, .ro, .o, .status, .num 0, [], ⟨0, 0⟩⟩, -- R309 Clock flags
  ⟨0x2110, 0x0A, 0x0A, .u32, .ro, .o, .status, .num 0, [], ⟨0, 0⟩⟩, -- R309 LFO frequency
  ⟨0x2120, 0x01, 0x01, .bool, .rws, .i, .config, .num 1, [⟨0, 1, 1⟩], ⟨0, 0⟩⟩, -- R330 Domain enable
  ⟨0x2120, 0x02, 0x02, .u8, .rws, .i, .config, .num 0, [⟨0, 127, 1⟩], ⟨0, 0⟩⟩, -- R330 Domain number
  ⟨0x2120, 0x03, 0x03, .u8, .rws, .i, .config, .num 3, [⟨0, 3, 1⟩], ⟨0, 0⟩⟩, -- R330 Ports
  ⟨0x2120, 0x04, 0x04, .u16, .rws, .i, .config, .num 1000, [⟨100, 60000, 1⟩], ⟨0, 0⟩⟩, -- R330 Phase time constant
  ⟨0x2120, 0x05, 0x05, .u16, .rws, .i, .config, .num 100, [⟨1, 10000, 1⟩], ⟨0, 0⟩⟩, -- R330 Slew limit
  ⟨0x2120, 0x06, 0x06, .s32, .rwa, .i, .config, .num 0, [⟨-1000000, 1000000, 1⟩], ⟨0, 0⟩⟩, -- R330 Asymmetry correction
  ⟨0x2120, 0x07, 0x07, .u32, .rws, .i, .config, .num 500, [⟨50, 1000000, 1⟩], ⟨0, 0⟩⟩, -- R330 Asymmetry step threshold
  ⟨0x2120, 0x10, 0x10, .u8, .ro, .o, .status, .num 1, [], ⟨0, 0⟩⟩, -- R330 Base state
  ⟨0x2120, 0x11, 0x11, .u16, .ro, .o, .status, .num 0, [], ⟨0, 0⟩⟩, -- R330 Domain flags
  ⟨0x2120, 0x12, 0x12, .u64, .ro, .o, .status, .num 0, [], ⟨0, 0⟩⟩, -- R330 Grandmaster identity
  ⟨0x2120, 0x13, 0x13, .u8, .ro, .o, .status, .num 0, [], ⟨0, 0⟩⟩, -- R330 Slave port
  ⟨0x2120, 0x14, 0x14, .s32, .ro, .o, .status, .num 0, [], ⟨0, 0⟩⟩, -- R330 Offset
  ⟨0x2120, 0x15, 0x15, .u32, .ro, .o, .status, .num 0, [], ⟨0, 0⟩⟩, -- R330 Mean link delay
  ⟨0x2120, 0x16, 0x16, .s32, .ro, .o, .status, .num 0, [], ⟨0, 0⟩⟩, -- R330 Rate ratio
  ⟨0x2120, 0x17, 0x17, .u32, .ro, .o, .status, .num 0, [], ⟨0, 0⟩⟩, -- R330 Grandmaster changes
  ⟨0x2120, 0x18, 0x18, .u32, .ro, .o, .status, .num 0, [], ⟨0, 0⟩⟩, -- R330 Asymmetry suspects
  ⟨0x2128, 0x01, 0x01, .s16, .rws, .i, .config, .num 0, [⟨-1000, 1000, 1⟩], ⟨0, 0⟩⟩, -- R331 Ingress adjustment
  ⟨0x2128, 0x02, 0x02, .s16, .rws, .i, .config, .num 0, [⟨-1000, 1000, 1⟩], ⟨0, 0⟩⟩, -- R331 Egress adjustment
  ⟨0x2128, 0x03, 0x03, .s32, .rws, .i, .config, .num 0, [⟨-100000, 100000, 1⟩], ⟨0, 0⟩⟩, -- R331 Link delay asymmetry
  ⟨0x2128, 0x04, 0x04, .octets, .rws, .i, .config, .bytes (List.replicate 6 0), [], ⟨6, 6⟩⟩, -- R331 Designated peer
  ⟨0x2128, 0x05, 0x05, .s8, .rws, .i, .config, .num 0, [⟨-3, 3, 1⟩], ⟨0, 0⟩⟩, -- R331 Pdelay interval
  ⟨0x2128, 0x10, 0x10, .u32, .ro, .o, .status, .num 0, [], ⟨0, 0⟩⟩, -- R331 Mean link delay
  ⟨0x2128, 0x11, 0x11, .s32, .ro, .o, .status, .num 0, [], ⟨0, 0⟩⟩, -- R331 Neighbour rate ratio
  ⟨0x2128, 0x12, 0x12, .u32, .ro, .o, .status, .num 0, [], ⟨0, 0⟩⟩, -- R331 Pdelay failures
  ⟨0x2130, 0x01, 0x20, .octets, .rwa, .p, .configNoProfile, .bytes [], [], ⟨44, 44⟩⟩] -- R332 Timed-action entries

/-- Object-table rows, part 4. -/
def objRows4 : List ObjRow := [
  ⟨0x2131, 0x01, 0x20, .octets, .ro, .o, .status, .bytes (List.replicate 32 0), [], ⟨32, 32⟩⟩, -- R332 Timed-action status
  ⟨0x2132, 0x00, 0x00, .u8, .ro, .o, .status, .num 0, [], ⟨0, 0⟩⟩, -- R332 Armed entries
  ⟨0x2140, 0x01, 0x04, .u32, .rws, .i, .config, .num 1000, [⟨20, 1000000000, 1⟩], ⟨0, 0⟩⟩, -- R332 SYNC pulse width
  ⟨0x2140, 0x11, 0x14, .u32, .ro, .o, .status, .num 0, [], ⟨0, 0⟩⟩, -- R332 SYNC overlaps
  ⟨0x2141, 0x01, 0x04, .u8, .rws, .i, .config, .num 0, [⟨0, 1, 1⟩], ⟨0, 0⟩⟩, -- R332 SYNC polarity
  ⟨0x2150, 0x01, 0x01, .u8, .rwa, .i, .config, .num 0, [⟨0, 3, 1⟩], ⟨0, 0⟩⟩, -- R122 Lock source
  ⟨0x2150, 0x02, 0x02, .time80, .rwa, .i, .config, .num 0, [⟨0, 281474976710655999999999, 1⟩], ⟨0, 0⟩⟩, -- R122 Grid anchor
  ⟨0x2150, 0x03, 0x03, .u16, .rws, .i, .config, .num 100, [⟨10, 10000, 1⟩], ⟨0, 0⟩⟩, -- R122 Phase time constant
  ⟨0x2150, 0x10, 0x10, .u8, .ro, .o, .status, .num 0, [], ⟨0, 0⟩⟩, -- R122 Grid lock state
  ⟨0x2150, 0x11, 0x11, .s32, .ro, .o, .status, .num 0, [], ⟨0, 0⟩⟩, -- R122 Grid phase error
  ⟨0x2150, 0x12, 0x12, .s32, .ro, .o, .status, .num 0, [], ⟨0, 0⟩⟩, -- R122 Rate trim
  ⟨0x2150, 0x13, 0x13, .u32, .ro, .o, .status, .num 0, [], ⟨0, 0⟩⟩, -- R122 Lock losses
  ⟨0x2200, 0x01, 0x01, .u8, .rwa, .i, .config, .num 0, [⟨0, 2, 1⟩], ⟨0, 0⟩⟩, -- R272 Requested mode
  ⟨0x2200, 0x02, 0x02, .u8, .rwa, .i, .config, .num 1, [⟨1, 16, 1⟩], ⟨0, 0⟩⟩, -- R272 Requested length
  ⟨0x2201, 0x01, 0x10, .u16, .rwa, .i, .config, .num 12288, [⟨0, 65535, 1⟩], ⟨0, 0⟩⟩, -- R272 Requested entries 0–15
  ⟨0x2202, 0x01, 0x01, .u8, .wo, .i, .command, .num 0, [⟨1, 1, 1⟩], ⟨0, 0⟩⟩, -- R272 Restart sequence
  ⟨0x2202, 0x02, 0x02, .u16, .wo, .p, .process, .num 0, [⟨0, 65535, 1⟩], ⟨0, 0⟩⟩, -- R272 Injected request
  ⟨0x2202, 0x03, 0x03, .u8, .wo, .i, .command, .num 0, [⟨1, 1, 1⟩], ⟨0, 0⟩⟩, -- R272 Start calibration
  ⟨0x2203, 0x01, 0x01, .u8, .ro, .o, .status, .num 0, [], ⟨0, 0⟩⟩, -- R272 Active mode
  ⟨0x2203, 0x02, 0x02, .u8, .ro, .o, .status, .num 0, [], ⟨0, 0⟩⟩, -- R272 Active length
  ⟨0x2203, 0x03, 0x03, .u16, .ro, .o, .status, .num 0, [], ⟨0, 0⟩⟩, -- R272 Converter flags
  ⟨0x2203, 0x04, 0x04, .u32, .ro, .o, .status, .num 0, [], ⟨0, 0⟩⟩, -- R272 Pass count
  ⟨0x2203, 0x05, 0x05, .u32, .ro, .o, .status, .num 0, [], ⟨0, 0⟩⟩, -- R272 Restart overruns
  ⟨0x2203, 0x06, 0x06, .u32, .ro, .o, .status, .num 0, [], ⟨0, 0⟩⟩, -- R272 Injected conversions
  ⟨0x2203, 0x07, 0x07, .u32, .ro, .o, .status, .num 0, [], ⟨0, 0⟩⟩, -- R272 Deferred injections
  ⟨0x2203, 0x08, 0x08, .u32, .ro, .o, .status, .num 0, [], ⟨0, 0⟩⟩, -- R272 Failed calibrations
  ⟨0x2203, 0x09, 0x09, (.arr .u16), .ro, .o, .status, .arr [], [], ⟨0, 0⟩⟩, -- R272 Active entries
  ⟨0x2204, 0x01, 0x10, .u64, .ro, .o, .status, .num 0, [], ⟨0, 0⟩⟩, -- R272 Entry results 0–15
  ⟨0x2204, 0x11, 0x11, .u64, .ro, .o, .status, .num 0, [], ⟨0, 0⟩⟩, -- R272 Injected result
  ⟨0x2205, 0x01, 0x01, .u8, .ro, .o, .status, .num 0, [], ⟨0, 0⟩⟩, -- R272 Calibration status
  ⟨0x2205, 0x02, 0x04, .s16, .ro, .o, .status, .num 0, [], ⟨0, 0⟩⟩, -- R272 Offset at gain 1, 2, 4
  ⟨0x2205, 0x05, 0x07, .u16, .ro, .o, .status, .num 32768, [], ⟨0, 0⟩⟩, -- R272 Gain factor at gain 1, 2, 4
  ⟨0x2205, 0x08, 0x08, .time80, .ro, .o, .status, .num 0, [], ⟨0, 0⟩⟩, -- R272 Time of last valid pass
  ⟨0x2300, 0x01, 0x01, .bool, .rws, .i, .config, .num 1, [⟨0, 1, 1⟩], ⟨0, 0⟩⟩, -- R411 Chain enable
  ⟨0x2300, 0x02, 0x02, .u8, .rws, .i, .config, .num 1, [⟨0, 1, 1⟩], ⟨0, 0⟩⟩, -- R411 Unit content
  ⟨0x2300, 0x03, 0x03, .u16, .rws, .i, .config, .num 16, [⟨2, 4096, 1⟩], ⟨0, 0⟩⟩, -- R411 Frame length
  ⟨0x2300, 0x04, 0x04, .u8, .rws, .i, .config, .num 32, [⟨4, 32, 4⟩], ⟨0, 0⟩⟩, -- R411 Unit length
  ⟨0x2300, 0x05, 0x05, .u8, .rws, .i, .config, .num 0, [⟨0, 1, 1⟩], ⟨0, 0⟩⟩, -- R411 Edge mode
  ⟨0x2300, 0x06, 0x06, .u8, .rws, .i, .config, .num 1, [⟨1, 64, 1⟩], ⟨0, 0⟩⟩, -- R411 Chain position
  ⟨0x2300, 0x07, 0x07, .bool, .rws, .i, .config, .num 1, [⟨0, 1, 1⟩], ⟨0, 0⟩⟩] -- R411 RSTB drive

/-- Object-table rows, part 5. -/
def objRows5 : List ObjRow := [
  ⟨0x2301, 0x01, 0x01, .u8, .ro, .o, .status, .num 0, [], ⟨0, 0⟩⟩, -- R411 Chain flags
  ⟨0x2301, 0x02, 0x02, .u32, .ro, .o, .status, .num 0, [], ⟨0, 0⟩⟩, -- R411 Good frames
  ⟨0x2301, 0x03, 0x03, .u32, .ro, .o, .status, .num 0, [], ⟨0, 0⟩⟩, -- R411 Failed frames
  ⟨0x2301, 0x04, 0x04, .u8, .ro, .o, .status, .num 0, [], ⟨0, 0⟩⟩, -- R411 Last framing cause
  ⟨0x2301, 0x05, 0x05, .u16, .ro, .o, .status, .num 0, [], ⟨0, 0⟩⟩, -- R411 Last failed edge count
  ⟨0x2301, 0x06, 0x06, .u32, .ro, .o, .status, .num 0, [], ⟨0, 0⟩⟩, -- R411 Units discarded
  ⟨0x2301, 0x07, 0x07, .u32, .ro, .o, .status, .num 0, [], ⟨0, 0⟩⟩, -- R411 Assemblies dropped
  ⟨0x2301, 0x08, 0x08, .u32, .ro, .o, .status, .num 0, [], ⟨0, 0⟩⟩, -- R411 Requests served
  ⟨0x2301, 0x09, 0x09, .u32, .ro, .o, .status, .num 0, [], ⟨0, 0⟩⟩, -- R411 Requests refused busy
  ⟨0x2301, 0x0A, 0x0A, .u32, .ro, .o, .status, .num 0, [], ⟨0, 0⟩⟩, -- R411 Largest delay
  ⟨0x2310, 0x01, 0x01, .u32, .ro, .o, .status, .num 0, [], ⟨0, 0⟩⟩, -- R411 Chain input
  ⟨0x2310, 0x02, 0x02, .u32, .rwa, .p, .process, .num 0, [⟨0, 4294967295, 1⟩], ⟨0, 0⟩⟩, -- R411 Chain output
  ⟨0x2400, 0x01, 0x01, .u8, .ro, .o, .identity, .num 0, [], ⟨0, 0⟩⟩, -- R428 Variant
  ⟨0x2400, 0x02, 0x02, .u32, .ro, .o, .identity, .num 0, [], ⟨0, 0⟩⟩, -- R428 Variant word
  ⟨0x2400, 0x03, 0x03, .u32, .ro, .o, .identity, .num 0, [], ⟨0, 0⟩⟩, -- R428 Feature enables
  ⟨0x2400, 0x04, 0x04, .u8, .ro, .o, .status, .num 0, [], ⟨0, 0⟩⟩, -- R428 Lock state
  ⟨0x2400, 0x05, 0x05, .u8, .ro, .o, .status, .num 0, [], ⟨0, 0⟩⟩, -- R428 OTP flags
  ⟨0x2400, 0x06, 0x06, .u32, .ro, .o, .status, .num 0, [], ⟨0, 0⟩⟩, -- R428 Drift events
  ⟨0x2400, 0x07, 0x07, .u16, .ro, .o, .status, .num 65535, [], ⟨0, 0⟩⟩, -- R428 Last drift word
  ⟨0x2400, 0x08, 0x08, .u8, .ro, .o, .status, .num 0, [], ⟨0, 0⟩⟩, -- R428 Spare rows used
  ⟨0x2400, 0x09, 0x09, .u32, .ro, .o, .status, .num 0, [], ⟨0, 0⟩⟩, -- R428 Corrected ECC reads
  ⟨0x2401, 0x00, 0x00, .octets, .ro, .o, .status, .bytes (List.replicate 64 0), [], ⟨64, 64⟩⟩, -- R428 Margin map
  ⟨0x2402, 0x00, 0x00, .octets, .wo, .i, .command, .bytes [], [], ⟨8, 8⟩⟩, -- R428 Program word
  ⟨0x2403, 0x00, 0x00, .u8, .wo, .i, .command, .num 0, [⟨1, 3, 1⟩], ⟨0, 0⟩⟩, -- R428 Lock region
  ⟨0x2404, 0x01, 0x01, .u8, .rwc, .i, .config, .num 0, [⟨0, 1, 1⟩], ⟨0, 0⟩⟩, -- R428 Programming supply
  ⟨0x2405, 0x01, 0x01, .u8, .ro, .o, .status, .num 0, [], ⟨0, 0⟩⟩, -- R428 Operation status
  ⟨0x2405, 0x02, 0x02, .u16, .ro, .o, .status, .num 0, [], ⟨0, 0⟩⟩, -- R428 Operation result
  ⟨0x2405, 0x03, 0x03, .u16, .ro, .o, .status, .num 65535, [], ⟨0, 0⟩⟩, -- R428 Operation word
  ⟨0x2406, 0x00, 0x00, .octets, .ro, .o, .status, .bytes (List.replicate 1984 0), [], ⟨1984, 1984⟩⟩, -- R428 Ordinary words
  ⟨0x2500, 0x01, 0x01, .u8, .ro, .o, .status, .num 0, [], ⟨0, 0⟩⟩, -- R255 Lane A state
  ⟨0x2500, 0x02, 0x02, .u8, .ro, .o, .status, .num 0, [], ⟨0, 0⟩⟩, -- R255 Lane B state
  ⟨0x2500, 0x03, 0x03, .u16, .ro, .o, .status, .num 0, [], ⟨0, 0⟩⟩, -- R255 Lane A lost cause
  ⟨0x2500, 0x04, 0x04, .u16, .ro, .o, .status, .num 0, [], ⟨0, 0⟩⟩, -- R255 Lane B lost cause
  ⟨0x2500, 0x05, 0x05, (.arr .u16), .ro, .o, .status, .arr [], [], ⟨0, 0⟩⟩, -- R255 Active device faults
  ⟨0x2510, 0x01, 0x01, .u8, .ro, .o, .status, .num 0, [], ⟨0, 0⟩⟩, -- R254 Pair state
  ⟨0x2510, 0x02, 0x02, .u16, .rws, .i, .config, .num 0, [⟨0, 8191, 1⟩], ⟨0, 0⟩⟩, -- R254 Rated set current
  ⟨0x2510, 0x03, 0x03, .u16, .rws, .i, .config, .num 2000, [⟨1000, 3000, 1⟩], ⟨0, 0⟩⟩, -- R254 Overload factor
  ⟨0x2510, 0x04, 0x04, .u16, .rws, .i, .config, .num 10000, [⟨0, 60000, 1⟩], ⟨0, 0⟩⟩, -- R254 Overload time
  ⟨0x2510, 0x05, 0x05, .u16, .rws, .i, .config, .num 100, [⟨0, 10000, 1⟩], ⟨0, 0⟩⟩, -- R254 Release ramp
  ⟨0x2510, 0x06, 0x06, .u16, .rws, .i, .config, .num 455, [⟨16, 4096, 1⟩], ⟨0, 0⟩⟩] -- R254 Angle tolerance

/-- Object-table rows, part 6. -/
def objRows6 : List ObjRow := [
  ⟨0x2510, 0x07, 0x07, .u16, .rws, .i, .config, .num 50, [⟨5, 500, 1⟩], ⟨0, 0⟩⟩, -- R254 Speed tolerance
  ⟨0x2510, 0x08, 0x08, .u16, .rws, .i, .config, .num 20, [⟨1, 10000, 1⟩], ⟨0, 0⟩⟩, -- R254 Speed tolerance floor
  ⟨0x2510, 0x09, 0x09, .u16, .rws, .i, .config, .num 50, [⟨10, 500, 1⟩], ⟨0, 0⟩⟩, -- R254 Current tolerance
  ⟨0x2510, 0x0A, 0x0A, .u16, .rws, .i, .config, .num 200, [⟨10, 4096, 1⟩], ⟨0, 0⟩⟩, -- R254 Voltage tolerance
  ⟨0x2510, 0x0B, 0x0B, .u16, .rws, .i, .config, .num 150, [⟨10, 4096, 1⟩], ⟨0, 0⟩⟩, -- R254 Residual tolerance
  ⟨0x2510, 0x0C, 0x0C, .u16, .rws, .i, .config, .num 50, [⟨1, 4096, 1⟩], ⟨0, 0⟩⟩, -- R254 Arbitration margin
  ⟨0x2510, 0x10, 0x10, .u32, .ro, .o, .status, .num 0, [], ⟨0, 0⟩⟩, -- R254 Implausible frames
  ⟨0x2510, 0x11, 0x11, .u8, .ro, .o, .status, .num 0, [], ⟨0, 0⟩⟩, -- R254 Last failed checks
  ⟨0x2510, 0x12, 0x12, .u32, .ro, .o, .status, .num 0, [], ⟨0, 0⟩⟩, -- R254 Handovers
  ⟨0x2510, 0x13, 0x13, .u16, .ro, .o, .status, .num 0, [], ⟨0, 0⟩⟩, -- R254 Allowance remaining
  ⟨0x2510, 0x14, 0x14, .u8, .ro, .o, .status, .num 0, [], ⟨0, 0⟩⟩, -- R254 Pair flags
  ⟨0x2520, 0x01, 0x01, .u16, .rws, .i, .config, .num 2, [⟨0, 64, 1⟩], ⟨0, 0⟩⟩, -- R255 Recompute current tolerance
  ⟨0x2520, 0x02, 0x02, .u16, .rws, .i, .config, .num 8, [⟨0, 256, 1⟩], ⟨0, 0⟩⟩, -- R255 Recompute voltage tolerance
  ⟨0x2520, 0x03, 0x03, .u32, .ro, .o, .status, .num 0, [], ⟨0, 0⟩⟩, -- R255 Recompute comparisons skipped
  ⟨0x2600, 0x01, 0x01, .u32, .ro, .o, .status, .num 0, [], ⟨0, 0⟩⟩, -- R83 Active image ID
  ⟨0x2600, 0x02, 0x02, .octets, .ro, .o, .status, .bytes (List.replicate 8 0), [], ⟨8, 8⟩⟩, -- R83 Active image digest
  ⟨0x2600, 0x03, 0x03, .u8, .ro, .o, .status, .num 255, [], ⟨0, 0⟩⟩, -- R83 Active image source
  ⟨0x2600, 0x04, 0x04, .u8, .ro, .o, .status, .num 0, [], ⟨0, 0⟩⟩, -- R83 Active image key
  ⟨0x2610, 0x00, 0x00, .u8, .wo, .i, .command, .num 0, [⟨1, 1, 1⟩], ⟨0, 0⟩⟩, -- R83 Verify staged image
  ⟨0x2611, 0x00, 0x00, .octets, .rwc, .i, .process, .bytes [], [], ⟨0, 262144⟩⟩, -- R83 Staging buffer
  ⟨0x2612, 0x00, 0x00, .u8, .wo, .i, .command, .num 0, [⟨1, 1, 1⟩], ⟨0, 0⟩⟩, -- R83 Activate staged image
  ⟨0x2620, 0x01, 0x01, .u8, .ro, .o, .status, .num 0, [], ⟨0, 0⟩⟩, -- R83 Staged image status
  ⟨0x2620, 0x02, 0x02, .u16, .ro, .o, .status, .num 0, [], ⟨0, 0⟩⟩, -- R83 Verification result
  ⟨0x2620, 0x03, 0x03, .u8, .ro, .o, .status, .num 0, [], ⟨0, 0⟩⟩, -- R83 Refusal reason
  ⟨0x2620, 0x04, 0x04, .u8, .ro, .o, .status, .num 255, [], ⟨0, 0⟩⟩, -- R83 Refusing lane
  ⟨0x2620, 0x05, 0x05, .u32, .ro, .o, .status, .num 0, [], ⟨0, 0⟩⟩, -- R83 Offending offset
  ⟨0x2630, 0x00, 0x00, .octets, .ro, .o, .status, .bytes [], [], ⟨0, 0⟩⟩, -- R83 Active resource claims
  ⟨0x2640, 0x01, 0x01, .u32, .ro, .o, .identity, .num 0, [], ⟨0, 0⟩⟩, -- R59 Catalogue version
  ⟨0x2640, 0x02, 0x02, .u8, .ro, .o, .identity, .num 0, [], ⟨0, 0⟩⟩, -- R59 Kernel count
  ⟨0x2640, 0x03, 0x03, .octets, .ro, .o, .identity, .bytes (List.replicate 8 0), [], ⟨8, 8⟩⟩, -- R59 Catalogue digest
  ⟨0x2640, 0x04, 0x04, .u8, .ro, .o, .identity, .num 0, [], ⟨0, 0⟩⟩, -- R59 Catalogue bank
  ⟨0x2641, 0x01, 0x0C, .u32, .ro, .o, .status, .num 0, [], ⟨0, 0⟩⟩, -- R59 Timing mismatches ME0–ME11
  ⟨0x2642, 0x01, 0x01, .u8, .ro, .o, .status, .num 255, [], ⟨0, 0⟩⟩, -- R59 Last mismatch engine
  ⟨0x2642, 0x02, 0x02, .u8, .ro, .o, .status, .num 0, [], ⟨0, 0⟩⟩, -- R59 Last mismatch kernel ID
  ⟨0x2642, 0x03, 0x03, .u16, .ro, .o, .status, .num 0, [], ⟨0, 0⟩⟩, -- R59 Last mismatch slot index
  ⟨0x2642, 0x04, 0x04, .u8, .ro, .o, .status, .num 0, [], ⟨0, 0⟩⟩, -- R59 Last mismatch certified tick
  ⟨0x2642, 0x05, 0x05, .s32, .ro, .o, .status, .num 0, [], ⟨0, 0⟩⟩, -- R59 Last mismatch offset
  ⟨0x2642, 0x06, 0x06, .u8, .ro, .o, .status, .num 0, [], ⟨0, 0⟩⟩, -- R59 Last mismatch marker
  ⟨0x2642, 0x07, 0x07, .time80, .ro, .o, .status, .num 0, [], ⟨0, 0⟩⟩, -- R59 Last mismatch time
  ⟨0x2643, 0x01, 0x0C, .u32, .ro, .o, .status, .num 0, [], ⟨0, 0⟩⟩] -- R59 Certified busy ticks ME0–ME11

/-- Object-table rows, part 7. -/
def objRows7 : List ObjRow := [
  ⟨0x2644, 0x00, 0x00, .u16, .ro, .o, .status, .num 0, [], ⟨0, 0⟩⟩, -- R59 Active hyperframe length
  ⟨0x2646, 0x01, 0x0C, .u32, .ro, .o, .status, .num 0, [], ⟨0, 0⟩⟩, -- R59 Corrected ECC errors ME0–ME11
  ⟨0x2650, 0x01, 0x0A, .u32, .ro, .o, .status, .num 0, [], ⟨0, 0⟩⟩, -- R83 Skipped writes
  ⟨0x2650, 0x11, 0x1A, .u32, .ro, .o, .status, .num 0, [], ⟨0, 0⟩⟩, -- R83 Stale events
  ⟨0x2700, 0x01, 0x01, .bool, .rws, .i, .config, .num 0, [⟨0, 1, 1⟩], ⟨0, 0⟩⟩, -- R444 Freeze in RUN
  ⟨0x2700, 0x02, 0x02, .u32, .ro, .o, .status, .num 0, [], ⟨0, 0⟩⟩, -- R444 Ignored freeze triggers
  ⟨0x2700, 0x03, 0x03, .u32, .ro, .o, .status, .num 0, [], ⟨0, 0⟩⟩, -- R444 Freezes resumed
  ⟨0x2701, 0x00, 0x00, .u8, .wo, .c, .command, .num 0, [⟨1, 1, 1⟩], ⟨0, 0⟩⟩, -- R444 Freeze
  ⟨0x2710, 0x01, 0x03, .octets, .ro, .o, .status, .bytes (List.replicate 32 0), [], ⟨32, 32⟩⟩, -- R444 Capture directory
  ⟨0x2711, 0x01, 0x03, .octets, .ro, .o, .status, .bytes [], [], ⟨0, 0⟩⟩, -- R444 Capture data
  ⟨0x2712, 0x00, 0x00, .u8, .wo, .c, .command, .num 0, [⟨1, 3, 1⟩], ⟨0, 0⟩⟩, -- R444 Release capture
  ⟨0x2720, 0x00, 0x00, .octets, .ro, .o, .status, .bytes [], [], ⟨0, 0⟩⟩, -- R444 Fault traces
  ⟨0x2721, 0x01, 0x01, .u32, .ro, .o, .status, .num 0, [], ⟨0, 0⟩⟩, -- R444 Next trace record
  ⟨0x2721, 0x02, 0x02, .u32, .ro, .o, .status, .num 0, [], ⟨0, 0⟩⟩, -- R444 Traces dropped
  ⟨0x2721, 0x03, 0x03, .u32, .ro, .o, .status, .num 0, [], ⟨0, 0⟩⟩, -- R444 Oldest trace held
  ⟨0x2730, 0x01, 0x01, .bool, .rwc, .c, .config, .num 0, [⟨0, 1, 1⟩], ⟨0, 0⟩⟩, -- R444 Return consent
  ⟨0x2730, 0x02, 0x02, .u64, .ro, .o, .status, .num 0, [], ⟨0, 0⟩⟩, -- R444 Consent identifier
  ⟨0x2800, 0x01, 0x01, .u16, .ro, .o, .status, .num 0, [], ⟨0, 0⟩⟩, -- R297 VBAT
  ⟨0x2800, 0x02, 0x02, .u16, .ro, .o, .status, .num 0, [], ⟨0, 0⟩⟩, -- R297 VPRE
  ⟨0x2800, 0x03, 0x03, .u16, .ro, .o, .status, .num 0, [], ⟨0, 0⟩⟩, -- R297 VCORE
  ⟨0x2800, 0x04, 0x04, .u16, .ro, .o, .status, .num 0, [], ⟨0, 0⟩⟩, -- R297 VIO
  ⟨0x2800, 0x05, 0x05, .u16, .ro, .o, .status, .num 0, [], ⟨0, 0⟩⟩, -- R297 VSENS
  ⟨0x2800, 0x06, 0x06, .u16, .ro, .o, .status, .num 0, [], ⟨0, 0⟩⟩, -- R297 VGD
  ⟨0x2800, 0x07, 0x07, .u8, .ro, .o, .status, .num 0, [], ⟨0, 0⟩⟩, -- R297 Supply flags
  ⟨0x2800, 0x08, 0x08, .u8, .ro, .o, .status, .num 0, [], ⟨0, 0⟩⟩, -- R297 Last supply fault cause
  ⟨0x2802, 0x01, 0x04, .s16, .ro, .o, .status, .num 0, [], ⟨0, 0⟩⟩, -- R297 Temperature points
  ⟨0x2802, 0x05, 0x05, .s16, .ro, .o, .status, .num 0, [], ⟨0, 0⟩⟩, -- R297 Hottest point
  ⟨0x2810, 0x01, 0x01, .u32, .rwa, .i, .config, .num 0, [⟨0, 64000000, 1⟩], ⟨0, 0⟩⟩, -- R165 Bus-current budget
  ⟨0x2810, 0x02, 0x02, .u16, .rwa, .i, .config, .num 500, [⟨0, 1000, 1⟩], ⟨0, 0⟩⟩, -- R165 Lane A share
  ⟨0x2810, 0x03, 0x03, .u16, .rwa, .i, .config, .num 4660, [⟨0, 65535, 1⟩], ⟨0, 0⟩⟩, -- R165 Priority order
  ⟨0x2810, 0x10, 0x10, .u32, .ro, .o, .status, .num 0, [], ⟨0, 0⟩⟩, -- R165 Lane A budget
  ⟨0x2810, 0x11, 0x11, .u32, .ro, .o, .status, .num 0, [], ⟨0, 0⟩⟩, -- R165 Lane B budget
  ⟨0x2820, 0x01, 0x01, .s16, .rws, .i, .config, .num 1250, [⟨0, 1550, 1⟩], ⟨0, 0⟩⟩, -- R298 Derating start
  ⟨0x2820, 0x02, 0x02, .s16, .rws, .i, .config, .num 1450, [⟨50, 1600, 1⟩], ⟨0, 0⟩⟩, -- R298 Derating end
  ⟨0x2820, 0x03, 0x03, .u16, .rws, .i, .config, .num 500, [⟨0, 1000, 1⟩], ⟨0, 0⟩⟩, -- R298 Minimum factor
  ⟨0x2820, 0x10, 0x10, .u16, .ro, .o, .status, .num 1000, [], ⟨0, 0⟩⟩, -- R298 Derating factor lane A
  ⟨0x2820, 0x11, 0x11, .u16, .ro, .o, .status, .num 1000, [], ⟨0, 0⟩⟩, -- R298 Derating factor lane B
  ⟨0x3000, 0x01, 0x01, .bool, .ro, .o, .status, .num 0, [], ⟨0, 0⟩⟩, -- R470 Port in use
  ⟨0x3000, 0x02, 0x02, .u16, .ro, .o, .status, .num 0, [], ⟨0, 0⟩⟩, -- R470 Frame length
  ⟨0x3000, 0x03, 0x03, .u16, .ro, .o, .status, .num 0, [], ⟨0, 0⟩⟩] -- R470 Carrier phase

/-- Object-table rows, part 8. -/
def objRows8 : List ObjRow := [
  ⟨0x3000, 0x04, 0x04, .u8, .ro, .o, .status, .num 0, [], ⟨0, 0⟩⟩, -- R470 Speed-loop multiple
  ⟨0x3000, 0x05, 0x05, .u8, .ro, .o, .status, .num 0, [], ⟨0, 0⟩⟩, -- R470 Speed phase
  ⟨0x3000, 0x06, 0x06, .bool, .ro, .o, .status, .num 0, [], ⟨0, 0⟩⟩, -- R470 Carrier locked
  ⟨0x3000, 0x07, 0x07, .u8, .ro, .o, .status, .num 0, [], ⟨0, 0⟩⟩, -- R470 Pair
  ⟨0x3000, 0x08, 0x08, .u8, .ro, .o, .status, .num 0, [], ⟨0, 0⟩⟩, -- R470 Winding shift
  ⟨0x3000, 0x09, 0x09, .u8, .ro, .o, .status, .num 0, [], ⟨0, 0⟩⟩, -- R470 Lane
  ⟨0x3010, 0x01, 0x01, .u8, .rws, .i, .config, .num 1, [⟨1, 32, 1⟩], ⟨0, 0⟩⟩, -- R162 Pole pairs
  ⟨0x3010, 0x02, 0x02, .u32, .rws, .i, .config, .num 0, [⟨0, 10000000, 1⟩], ⟨0, 0⟩⟩, -- R162 Stator resistance
  ⟨0x3010, 0x03, 0x03, .u32, .rws, .i, .config, .num 0, [⟨0, 100000000, 1⟩], ⟨0, 0⟩⟩, -- R162 Ld
  ⟨0x3010, 0x04, 0x04, .u32, .rws, .i, .config, .num 0, [⟨0, 100000000, 1⟩], ⟨0, 0⟩⟩, -- R162 Lq
  ⟨0x3010, 0x05, 0x05, .u32, .rws, .i, .config, .num 0, [⟨0, 1000000, 1⟩], ⟨0, 0⟩⟩, -- R162 Flux linkage
  ⟨0x3020, 0x01, 0x01, .u8, .rws, .i, .config, .num 7, [⟨0, 15, 1⟩], ⟨0, 0⟩⟩, -- R142 High-side source strength
  ⟨0x3020, 0x02, 0x02, .u8, .rws, .i, .config, .num 7, [⟨0, 15, 1⟩], ⟨0, 0⟩⟩, -- R142 High-side sink strength
  ⟨0x3020, 0x03, 0x03, .u8, .rws, .i, .config, .num 7, [⟨0, 15, 1⟩], ⟨0, 0⟩⟩, -- R142 Low-side source strength
  ⟨0x3020, 0x04, 0x04, .u8, .rws, .i, .config, .num 7, [⟨0, 15, 1⟩], ⟨0, 0⟩⟩, -- R142 Low-side sink strength
  ⟨0x3020, 0x05, 0x05, .u8, .rws, .i, .config, .num 7, [⟨0, 15, 1⟩], ⟨0, 0⟩⟩, -- R142 Desaturation threshold
  ⟨0x3020, 0x06, 0x06, .u8, .rws, .i, .config, .num 1, [⟨0, 7, 1⟩], ⟨0, 0⟩⟩, -- R142 Desaturation blanking
  ⟨0x3020, 0x07, 0x07, .u8, .rws, .i, .config, .num 0, [⟨0, 15, 1⟩], ⟨0, 0⟩⟩, -- R142 Soft turn-off strength
  ⟨0x3020, 0x08, 0x08, .u16, .rws, .i, .config, .num 1000, [⟨200, 4000, 10⟩], ⟨0, 0⟩⟩, -- R142 Feedback window
  ⟨0x3020, 0x09, 0x09, .u8, .rws, .i, .config, .num 0, [⟨0, 2, 1⟩], ⟨0, 0⟩⟩, -- R142 Safe-state policy
  ⟨0x3020, 0x0A, 0x0A, .u16, .rws, .i, .config, .num 500, [⟨1, 60000, 1⟩], ⟨0, 0⟩⟩, -- R142 ASC entry speed
  ⟨0x3020, 0x0B, 0x0B, .u16, .rws, .i, .config, .num 200, [⟨1, 60000, 1⟩], ⟨0, 0⟩⟩, -- R142 ASC release speed
  ⟨0x3020, 0x0C, 0x0C, .u16, .rws, .i, .config, .num 64, [⟨1, 4096, 1⟩], ⟨0, 0⟩⟩, -- R142 ASC sign hysteresis
  ⟨0x3020, 0x0D, 0x0D, .u16, .rws, .i, .config, .num 5400, [⟨600, 6800, 1⟩], ⟨0, 0⟩⟩, -- R142 OV1
  ⟨0x3020, 0x0E, 0x0E, .u16, .rws, .i, .config, .num 5600, [⟨650, 6850, 1⟩], ⟨0, 0⟩⟩, -- R142 OV2
  ⟨0x3020, 0x0F, 0x0F, .u16, .rws, .i, .config, .num 6000, [⟨700, 6900, 1⟩], ⟨0, 0⟩⟩, -- R142 OV3
  ⟨0x3020, 0x10, 0x10, .u16, .rws, .i, .config, .num 250, [⟨0, 1000, 1⟩], ⟨0, 0⟩⟩, -- R142 Regeneration at OV2
  ⟨0x3020, 0x11, 0x11, .bool, .rws, .i, .config, .num 0, [⟨0, 1, 1⟩], ⟨0, 0⟩⟩, -- R142 Brake chopper member
  ⟨0x3020, 0x12, 0x12, .u16, .rws, .i, .config, .num 200, [⟨50, 10000, 1⟩], ⟨0, 0⟩⟩, -- R142 Escalation delay
  ⟨0x3020, 0x13, 0x13, .u16, .rws, .i, .config, .num 50, [⟨10, 500, 1⟩], ⟨0, 0⟩⟩, -- R142 OV2 hysteresis
  ⟨0x3022, 0x01, 0x01, .u8, .ro, .o, .status, .num 0, [], ⟨0, 0⟩⟩, -- R142 Safe-state output
  ⟨0x3022, 0x02, 0x02, .u8, .ro, .o, .status, .num 0, [], ⟨0, 0⟩⟩, -- R142 Safe-state cause
  ⟨0x3022, 0x03, 0x03, .bool, .ro, .o, .status, .num 0, [], ⟨0, 0⟩⟩, -- R142 ASC_INHIBIT
  ⟨0x3022, 0x04, 0x04, .bool, .ro, .o, .status, .num 1, [], ⟨0, 0⟩⟩, -- R142 Speed flag
  ⟨0x3022, 0x05, 0x05, .u32, .ro, .o, .status, .num 0, [], ⟨0, 0⟩⟩, -- R142 Desaturation events
  ⟨0x3022, 0x06, 0x06, .u8, .ro, .o, .status, .num 255, [], ⟨0, 0⟩⟩, -- R142 Last desaturating gate
  ⟨0x3022, 0x07, 0x07, .u32, .ro, .o, .status, .num 0, [], ⟨0, 0⟩⟩, -- R142 Feedback mismatches
  ⟨0x3022, 0x08, 0x08, .u32, .ro, .o, .status, .num 0, [], ⟨0, 0⟩⟩, -- R142 Withheld pulses
  ⟨0x3022, 0x09, 0x09, .u16, .ro, .o, .status, .num 0, [], ⟨0, 0⟩⟩, -- R142 Bus voltage
  ⟨0x3022, 0x0A, 0x0A, .u32, .ro, .o, .status, .num 0, [], ⟨0, 0⟩⟩] -- R142 Safe-state entries

/-- Object-table rows, part 9. -/
def objRows9 : List ObjRow := [
  ⟨0x3022, 0x0B, 0x0B, .u32, .ro, .o, .status, .num 0, [], ⟨0, 0⟩⟩, -- R142 Interlock delays
  ⟨0x3024, 0x01, 0x01, .bool, .rws, .i, .config, .num 0, [⟨0, 1, 1⟩], ⟨0, 0⟩⟩, -- R143 Chopper enable
  ⟨0x3024, 0x02, 0x02, .u16, .rws, .i, .config, .num 2000, [⟨500, 10000, 1⟩], ⟨0, 0⟩⟩, -- R143 Drain check time
  ⟨0x3024, 0x03, 0x03, .u16, .rws, .i, .config, .num 20, [⟨5, 500, 1⟩], ⟨0, 0⟩⟩, -- R143 Rise margin
  ⟨0x3024, 0x10, 0x10, .u8, .ro, .o, .status, .num 0, [], ⟨0, 0⟩⟩, -- R143 Chopper state
  ⟨0x3024, 0x11, 0x11, .u8, .ro, .o, .status, .num 0, [], ⟨0, 0⟩⟩, -- R143 Chopper fault cause
  ⟨0x3024, 0x12, 0x12, .u32, .ro, .o, .status, .num 0, [], ⟨0, 0⟩⟩, -- R143 Engagements
  ⟨0x3024, 0x13, 0x13, .u32, .ro, .o, .status, .num 0, [], ⟨0, 0⟩⟩, -- R143 Engaged time
  ⟨0x3030, 0x01, 0x01, .u8, .rws, .i, .config, .num 1, [⟨0, 3, 1⟩], ⟨0, 0⟩⟩, -- R105 Sense gain
  ⟨0x3030, 0x02, 0x02, .u16, .rws, .i, .config, .num 1000, [⟨100, 50000, 1⟩], ⟨0, 0⟩⟩, -- R105 Shunt resistance
  ⟨0x3030, 0x03, 0x03, .u16, .rws, .i, .config, .num 600, [⟨300, 1200, 5⟩], ⟨0, 0⟩⟩, -- R105 Blanking tail
  ⟨0x3030, 0x04, 0x04, .u16, .rws, .i, .config, .num 0, [⟨0, 0, 1⟩, ⟨100, 1200, 5⟩], ⟨0, 0⟩⟩, -- R105 Cross-phase tail
  ⟨0x3030, 0x05, 0x05, .u16, .rws, .i, .config, .num 8, [⟨1, 5000, 1⟩], ⟨0, 0⟩⟩, -- R105 Minimum valid samples
  ⟨0x3030, 0x06, 0x06, .u16, .rws, .i, .config, .num 20, [⟨1, 5000, 1⟩], ⟨0, 0⟩⟩, -- R105 Maximum gap
  ⟨0x3030, 0x07, 0x07, .u8, .rws, .i, .config, .num 4, [⟨1, 16, 1⟩], ⟨0, 0⟩⟩, -- R105 Both-poor limit
  ⟨0x3030, 0x08, 0x08, .u16, .rws, .i, .config, .num 7372, [⟨1000, 8191, 1⟩], ⟨0, 0⟩⟩, -- R105 Over-current level
  ⟨0x3030, 0x09, 0x09, .u8, .rws, .i, .config, .num 2, [⟨1, 3, 1⟩], ⟨0, 0⟩⟩, -- R105 Over-current count
  ⟨0x3030, 0x0A, 0x0A, .u16, .rws, .i, .config, .num 0, [⟨0, 0, 1⟩, ⟨1000, 8192, 1⟩], ⟨0, 0⟩⟩, -- R105 Hard level
  ⟨0x3030, 0x0B, 0x0B, .u16, .rws, .i, .config, .num 1000, [⟨0, 0, 1⟩, ⟨100, 60000, 1⟩], ⟨0, 0⟩⟩, -- R105 Calibration interval
  ⟨0x3030, 0x0C, 0x0C, .u32, .ro, .o, .status, .num 15258789, [], ⟨0, 0⟩⟩, -- R105 Current LSB
  ⟨0x3031, 0x00, 0x00, .u8, .wo, .i, .command, .num 0, [⟨1, 1, 1⟩], ⟨0, 0⟩⟩, -- R105 Start calibration
  ⟨0x3032, 0x01, 0x01, .u8, .ro, .o, .status, .num 0, [], ⟨0, 0⟩⟩, -- R105 Calibration status
  ⟨0x3032, 0x02, 0x02, .s16, .ro, .o, .status, .num 0, [], ⟨0, 0⟩⟩, -- R105 Offset U
  ⟨0x3032, 0x03, 0x03, .s16, .ro, .o, .status, .num 0, [], ⟨0, 0⟩⟩, -- R105 Offset V
  ⟨0x3032, 0x04, 0x04, .u16, .ro, .o, .status, .num 32768, [], ⟨0, 0⟩⟩, -- R105 Gain factor U
  ⟨0x3032, 0x05, 0x05, .u16, .ro, .o, .status, .num 32768, [], ⟨0, 0⟩⟩, -- R105 Gain factor V
  ⟨0x3032, 0x06, 0x06, .time80, .ro, .o, .status, .num 0, [], ⟨0, 0⟩⟩, -- R105 Time of last valid pass
  ⟨0x3033, 0x01, 0x01, .u32, .ro, .o, .status, .num 0, [], ⟨0, 0⟩⟩, -- R105 OVR samples U
  ⟨0x3033, 0x02, 0x02, .u32, .ro, .o, .status, .num 0, [], ⟨0, 0⟩⟩, -- R105 OVR samples V
  ⟨0x3033, 0x03, 0x03, .u32, .ro, .o, .status, .num 0, [], ⟨0, 0⟩⟩, -- R105 POOR periods U
  ⟨0x3033, 0x04, 0x04, .u32, .ro, .o, .status, .num 0, [], ⟨0, 0⟩⟩, -- R105 POOR periods V
  ⟨0x3033, 0x05, 0x05, .u32, .ro, .o, .status, .num 0, [], ⟨0, 0⟩⟩, -- R105 Abandoned passes
  ⟨0x3033, 0x06, 0x06, .u32, .ro, .o, .status, .num 0, [], ⟨0, 0⟩⟩, -- R105 Failed passes
  ⟨0x3033, 0x07, 0x07, .u32, .ro, .o, .status, .num 0, [], ⟨0, 0⟩⟩, -- R105 Over-current trips
  ⟨0x3040, 0x01, 0x01, .u16, .rwa, .i, .config, .num 950, [⟨500, 1155, 1⟩], ⟨0, 0⟩⟩, -- R121 Voltage-limit radius
  ⟨0x3040, 0x02, 0x02, .u16, .rws, .i, .config, .num 400, [⟨16, 1600, 1⟩], ⟨0, 0⟩⟩, -- R121 Dead time
  ⟨0x3040, 0x03, 0x03, .u8, .rws, .i, .config, .num 1, [⟨0, 1, 1⟩], ⟨0, 0⟩⟩, -- R121 Dead-time compensation
  ⟨0x3040, 0x04, 0x04, .u16, .rws, .i, .config, .num 0, [⟨0, 1600, 1⟩], ⟨0, 0⟩⟩, -- R121 Compensation time
  ⟨0x3040, 0x05, 0x05, .u16, .rws, .i, .config, .num 200, [⟨1, 8191, 1⟩], ⟨0, 0⟩⟩, -- R121 Compensation band
  ⟨0x3040, 0x06, 0x06, .u16, .rws, .i, .config, .num 80, [⟨0, 1600, 1⟩], ⟨0, 0⟩⟩] -- R121 Minimum pulse

/-- Object-table rows, part 10. The control word takes bit 2 as it is written (R167; DESIGN CHOICE, log entry 162). -/
def objRows10 : List ObjRow := [
  ⟨0x3040, 0x07, 0x07, .u8, .rws, .i, .config, .num 0, [⟨0, 1, 1⟩], ⟨0, 0⟩⟩, -- R121 Five-segment clamp
  ⟨0x3040, 0x10, 0x10, .u8, .ro, .o, .status, .num 0, [], ⟨0, 0⟩⟩, -- R121 Modulation kernel
  ⟨0x3040, 0x11, 0x11, .u32, .ro, .o, .status, .num 0, [], ⟨0, 0⟩⟩, -- R121 Carrier frequency
  ⟨0x3040, 0x12, 0x12, .u16, .ro, .o, .status, .num 950, [], ⟨0, 0⟩⟩, -- R121 Effective radius
  ⟨0x3040, 0x13, 0x13, .u32, .ro, .o, .status, .num 0, [], ⟨0, 0⟩⟩, -- R121 Clamped pulses
  ⟨0x3040, 0x14, 0x14, .u32, .ro, .o, .status, .num 0, [], ⟨0, 0⟩⟩, -- R121 Overmodulated frames
  ⟨0x3040, 0x15, 0x15, .s32, .ro, .o, .status, .num 2147483647, [], ⟨0, 0⟩⟩, -- R121 Carrier phase error
  ⟨0x3040, 0x16, 0x16, .u8, .ro, .o, .status, .num 0, [], ⟨0, 0⟩⟩, -- R121 Carrier lock flags
  ⟨0x3050, 0x01, 0x01, .u16, .rws, .i, .config, .num 8000, [⟨1000, 8000, 1⟩], ⟨0, 0⟩⟩, -- R163 Voltage full scale
  ⟨0x3050, 0x02, 0x02, .u32, .rws, .i, .config, .num 0, [⟨0, 100000000, 1⟩], ⟨0, 0⟩⟩, -- R163 Kp d-axis
  ⟨0x3050, 0x03, 0x03, .u32, .rws, .i, .config, .num 0, [⟨0, 1000000000, 1⟩], ⟨0, 0⟩⟩, -- R163 Ki d-axis
  ⟨0x3050, 0x04, 0x04, .u32, .rws, .i, .config, .num 0, [⟨0, 100000000, 1⟩], ⟨0, 0⟩⟩, -- R163 Kp q-axis
  ⟨0x3050, 0x05, 0x05, .u32, .rws, .i, .config, .num 0, [⟨0, 1000000000, 1⟩], ⟨0, 0⟩⟩, -- R163 Ki q-axis
  ⟨0x3050, 0x06, 0x06, .u16, .rws, .i, .config, .num 500, [⟨0, 1000, 1⟩], ⟨0, 0⟩⟩, -- R163 Anti-windup gain
  ⟨0x3050, 0x07, 0x07, .u8, .rws, .i, .config, .num 2, [⟨0, 2, 1⟩], ⟨0, 0⟩⟩, -- R163 Decoupling mode
  ⟨0x3050, 0x08, 0x08, .u8, .rws, .i, .config, .num 0, [⟨0, 1, 1⟩], ⟨0, 0⟩⟩, -- R163 Decoupling source
  ⟨0x3050, 0x09, 0x09, .u8, .rws, .i, .config, .num 0, [⟨0, 1, 1⟩], ⟨0, 0⟩⟩, -- R163 Limit rule
  ⟨0x3050, 0x0A, 0x0A, .bool, .rws, .i, .config, .num 1, [⟨0, 1, 1⟩], ⟨0, 0⟩⟩, -- R163 Field-weakening enable
  ⟨0x3050, 0x0B, 0x0B, .u16, .rws, .i, .config, .num 950, [⟨800, 1000, 1⟩], ⟨0, 0⟩⟩, -- R163 Voltage margin
  ⟨0x3050, 0x0C, 0x0C, .u32, .rws, .i, .config, .num 1000000, [⟨0, 1000000000, 1⟩], ⟨0, 0⟩⟩, -- R163 Field-weakening gain
  ⟨0x3050, 0x0D, 0x0D, .u16, .rws, .i, .config, .num 0, [⟨0, 8191, 1⟩], ⟨0, 0⟩⟩, -- R163 Maximum negative Id
  ⟨0x3050, 0x10, 0x10, (.arr .s16), .rws, .i, .config, .arr (List.replicate 8 0), [], ⟨8, 64⟩⟩, -- R163 MTPA table
  ⟨0x3050, 0x11, 0x11, (.arr .s16), .rws, .i, .config, .arr (List.replicate 16 0), [], ⟨16, 16⟩⟩, -- R163 Feed-forward table
  ⟨0x3060, 0x01, 0x01, .u8, .rws, .i, .config, .num 0, [⟨0, 1, 1⟩], ⟨0, 0⟩⟩, -- R181 Operating mode
  ⟨0x3060, 0x02, 0x02, .u32, .rws, .i, .config, .num 0, [⟨0, 100000000, 1⟩], ⟨0, 0⟩⟩, -- R181 Speed Kp
  ⟨0x3060, 0x03, 0x03, .u32, .rws, .i, .config, .num 0, [⟨0, 1000000000, 1⟩], ⟨0, 0⟩⟩, -- R181 Speed Ki
  ⟨0x3060, 0x04, 0x04, .u32, .rws, .i, .config, .num 0, [⟨0, 4000000000, 1⟩], ⟨0, 0⟩⟩, -- R181 Inertia for feed-forward
  ⟨0x3060, 0x05, 0x05, .u32, .rws, .i, .config, .num 10000, [⟨1, 10000000, 1⟩], ⟨0, 0⟩⟩, -- R181 Acceleration limit
  ⟨0x3060, 0x06, 0x06, .u32, .rws, .i, .config, .num 10000, [⟨1, 10000000, 1⟩], ⟨0, 0⟩⟩, -- R181 Deceleration limit
  ⟨0x3060, 0x07, 0x07, .u32, .rws, .i, .config, .num 100000, [⟨1, 100000000, 1⟩], ⟨0, 0⟩⟩, -- R181 Jerk limit
  ⟨0x3060, 0x08, 0x08, .u32, .rws, .i, .config, .num 0, [⟨0, 60000, 1⟩], ⟨0, 0⟩⟩, -- R181 Maximum speed
  ⟨0x3060, 0x09, 0x09, .u8, .rws, .i, .config, .num 1, [⟨0, 7, 1⟩], ⟨0, 0⟩⟩, -- R181 Speed filter
  ⟨0x3060, 0x0A, 0x0A, .u16, .rws, .i, .config, .num 50, [⟨1, 10000, 1⟩], ⟨0, 0⟩⟩, -- R181 Stop speed
  ⟨0x3060, 0x0B, 0x0B, .u8, .rws, .i, .config, .num 4, [⟨1, 255, 1⟩], ⟨0, 0⟩⟩, -- R181 Stop confirmation
  ⟨0x3060, 0x0C, 0x0C, .u16, .rws, .i, .config, .num 5000, [⟨10, 60000, 1⟩], ⟨0, 0⟩⟩, -- R181 Coast timeout
  ⟨0x3060, 0x0D, 0x0D, .u16, .rws, .i, .config, .num 0, [⟨0, 60000, 1⟩], ⟨0, 0⟩⟩, -- R181 Reversal speed
  ⟨0x3060, 0x0E, 0x0E, .u8, .rws, .i, .config, .num 0, [⟨0, 1, 1⟩, ⟨3, 4, 1⟩], ⟨0, 0⟩⟩, -- R181 Stream-loss fallback
  ⟨0x3060, 0x0F, 0x0F, .u16, .rws, .i, .config, .num 10, [⟨1, 1000, 1⟩], ⟨0, 0⟩⟩, -- R181 Stream-loss ramp length
  ⟨0x3061, 0x01, 0x01, .u16, .rwa, .p, .process, .num 0, [⟨0, 15, 1⟩], ⟨0, 0⟩⟩, -- R182 Control word
  ⟨0x3061, 0x02, 0x02, .s32, .rwa, .p, .process, .num 0, [⟨-60000, 60000, 1⟩], ⟨0, 0⟩⟩] -- R182 Speed setpoint

/-- Object-table rows, part 11. -/
def objRows11 : List ObjRow := [
  ⟨0x3061, 0x03, 0x03, .s32, .rwa, .p, .process, .num 0, [⟨-1000000, 1000000, 1⟩], ⟨0, 0⟩⟩, -- R182 Torque setpoint
  ⟨0x3070, 0x01, 0x01, .u8, .rws, .i, .config, .num 0, [⟨0, 4, 1⟩], ⟨0, 0⟩⟩, -- R203 Feedback mode
  ⟨0x3070, 0x02, 0x02, .u8, .rws, .i, .config, .num 2, [⟨0, 200, 1⟩], ⟨0, 0⟩⟩, -- R203 A/B filter
  ⟨0x3070, 0x03, 0x03, .u8, .rws, .i, .config, .num 2, [⟨0, 200, 1⟩], ⟨0, 0⟩⟩, -- R203 Z filter
  ⟨0x3070, 0x04, 0x04, .bool, .rws, .i, .config, .num 0, [⟨0, 1, 1⟩], ⟨0, 0⟩⟩, -- R203 Direction invert
  ⟨0x3070, 0x05, 0x05, .u32, .rws, .i, .config, .num 4096, [⟨2, 4194304, 1⟩], ⟨0, 0⟩⟩, -- R203 Counts per revolution
  ⟨0x3070, 0x06, 0x06, .u32, .rws, .i, .config, .num 0, [⟨0, 4194303, 1⟩], ⟨0, 0⟩⟩, -- R203 Index count
  ⟨0x3070, 0x07, 0x07, .u8, .rws, .i, .config, .num 0, [⟨0, 1, 1⟩], ⟨0, 0⟩⟩, -- R203 Index action
  ⟨0x3070, 0x08, 0x08, .u8, .rws, .i, .config, .num 4, [⟨1, 255, 1⟩], ⟨0, 0⟩⟩, -- R203 Illegal-edge limit
  ⟨0x3070, 0x09, 0x09, .u16, .rws, .i, .config, .num 10, [⟨1, 10000, 1⟩], ⟨0, 0⟩⟩, -- R203 Illegal-edge leak period
  ⟨0x3070, 0x0A, 0x0A, .u14, .rws, .i, .config, .num 0, [⟨0, 16383, 1⟩], ⟨0, 0⟩⟩, -- R203 Angle offset
  ⟨0x3070, 0x0B, 0x0B, .u8, .rws, .i, .config, .num 2, [⟨0, 7, 1⟩], ⟨0, 0⟩⟩, -- R203 Feedback speed filter
  ⟨0x3070, 0x0C, 0x0C, .u16, .rws, .i, .config, .num 20, [⟨1, 10000, 1⟩], ⟨0, 0⟩⟩, -- R203 Zero-speed timeout
  ⟨0x3070, 0x0D, 0x0D, (.arr .u14), .rws, .i, .config, .arr [1365, 6827, 4096, 12288, 15019, 9557], [], ⟨6, 6⟩⟩, -- R203 Hall table
  ⟨0x3070, 0x0E, 0x0E, .u16, .rws, .i, .config, .num 1000, [⟨10, 60000, 1⟩], ⟨0, 0⟩⟩, -- R203 Hall invalid time
  ⟨0x3070, 0x0F, 0x0F, .u8, .rws, .i, .config, .num 0, [⟨0, 1, 1⟩], ⟨0, 0⟩⟩, -- R203 SENT format
  ⟨0x3070, 0x10, 0x10, .u8, .rws, .i, .config, .num 0, [⟨0, 1, 1⟩], ⟨0, 0⟩⟩, -- R203 SENT CRC form
  ⟨0x3070, 0x11, 0x11, .u8, .rws, .i, .config, .num 0, [⟨0, 1, 1⟩], ⟨0, 0⟩⟩, -- R203 SENT pause pulse
  ⟨0x3070, 0x12, 0x12, .u16, .rws, .i, .config, .num 2000, [⟨500, 60000, 1⟩], ⟨0, 0⟩⟩, -- R203 SENT timeout
  ⟨0x3070, 0x13, 0x13, .u8, .rws, .i, .config, .num 1, [⟨0, 1, 1⟩], ⟨0, 0⟩⟩, -- R203 SENT dual relation
  ⟨0x3070, 0x14, 0x14, .u16, .rws, .i, .config, .num 16, [⟨0, 4095, 1⟩], ⟨0, 0⟩⟩, -- R203 SENT dual tolerance
  ⟨0x3070, 0x15, 0x15, .u16, .rws, .i, .config, .num 0, [⟨0, 5000, 1⟩], ⟨0, 0⟩⟩, -- R203 SENT latency
  ⟨0x3070, 0x16, 0x16, .u16, .rws, .i, .config, .num 0, [⟨0, 4095, 1⟩], ⟨0, 0⟩⟩, -- R203 SENT code minimum
  ⟨0x3070, 0x17, 0x17, .u16, .rws, .i, .config, .num 4095, [⟨0, 4095, 1⟩], ⟨0, 0⟩⟩, -- R203 SENT code maximum
  ⟨0x3071, 0x01, 0x01, .u16, .ro, .o, .status, .num 0, [], ⟨0, 0⟩⟩, -- R204 Feedback flags
  ⟨0x3071, 0x02, 0x02, .u32, .ro, .o, .status, .num 0, [], ⟨0, 0⟩⟩, -- R204 Raw count
  ⟨0x3071, 0x03, 0x03, .u32, .ro, .o, .status, .num 0, [], ⟨0, 0⟩⟩, -- R204 Reported count
  ⟨0x3071, 0x04, 0x04, .u32, .ro, .o, .status, .num 0, [], ⟨0, 0⟩⟩, -- R204 Illegal edges
  ⟨0x3071, 0x05, 0x05, .u32, .ro, .o, .status, .num 0, [], ⟨0, 0⟩⟩, -- R204 Index mismatches
  ⟨0x3071, 0x06, 0x06, .s32, .ro, .o, .status, .num 0, [], ⟨0, 0⟩⟩, -- R204 Last index difference
  ⟨0x3071, 0x07, 0x07, .u8, .ro, .o, .status, .num 0, [], ⟨0, 0⟩⟩, -- R204 Hall state
  ⟨0x3071, 0x08, 0x08, .u32, .ro, .o, .status, .num 0, [], ⟨0, 0⟩⟩, -- R204 Hall skips
  ⟨0x3071, 0x09, 0x09, .u16, .ro, .o, .status, .num 0, [], ⟨0, 0⟩⟩, -- R204 SENT value 1
  ⟨0x3071, 0x0A, 0x0A, .u16, .ro, .o, .status, .num 0, [], ⟨0, 0⟩⟩, -- R204 SENT value 2
  ⟨0x3071, 0x0B, 0x0B, .u8, .ro, .o, .status, .num 0, [], ⟨0, 0⟩⟩, -- R204 SENT status nibble
  ⟨0x3071, 0x0C, 0x0C, .u32, .ro, .o, .status, .num 0, [], ⟨0, 0⟩⟩, -- R204 SENT frames accepted
  ⟨0x3071, 0x0D, 0x0D, .u32, .ro, .o, .status, .num 0, [], ⟨0, 0⟩⟩, -- R204 SENT frames rejected
  ⟨0x3071, 0x0E, 0x0E, .u8, .ro, .o, .status, .num 0, [], ⟨0, 0⟩⟩, -- R204 Last SENT rejection
  ⟨0x3071, 0x0F, 0x0F, .u16, .ro, .o, .status, .num 0, [], ⟨0, 0⟩⟩, -- R204 Measured SENT tick
  ⟨0x3071, 0x10, 0x10, .u14, .ro, .o, .status, .num 0, [], ⟨0, 0⟩⟩] -- R204 Feedback angle

/-- Object-table rows, part 12. -/
def objRows12 : List ObjRow := [
  ⟨0x3071, 0x11, 0x11, .s32, .ro, .o, .status, .num 0, [], ⟨0, 0⟩⟩, -- R204 Feedback speed
  ⟨0x3072, 0x00, 0x00, .u32, .wo, .i, .command, .num 0, [⟨0, 4194303, 1⟩], ⟨0, 0⟩⟩, -- R203 Preset count
  ⟨0x3080, 0x01, 0x01, .u8, .rws, .i, .config, .num 0, [⟨0, 1, 1⟩], ⟨0, 0⟩⟩, -- R229 Start method
  ⟨0x3080, 0x02, 0x02, .u14, .rws, .i, .config, .num 0, [⟨0, 16383, 1⟩], ⟨0, 0⟩⟩, -- R229 Align angle
  ⟨0x3080, 0x03, 0x03, .u16, .rws, .i, .config, .num 0, [⟨0, 8191, 1⟩], ⟨0, 0⟩⟩, -- R229 Align current
  ⟨0x3080, 0x04, 0x04, .u16, .rws, .i, .config, .num 20, [⟨0, 10000, 1⟩], ⟨0, 0⟩⟩, -- R229 Align rise time
  ⟨0x3080, 0x05, 0x05, .u16, .rws, .i, .config, .num 100, [⟨1, 60000, 1⟩], ⟨0, 0⟩⟩, -- R229 Align time
  ⟨0x3080, 0x06, 0x06, .u16, .rws, .i, .config, .num 0, [⟨0, 8191, 1⟩], ⟨0, 0⟩⟩, -- R229 I/f current
  ⟨0x3080, 0x07, 0x07, .u16, .rws, .i, .config, .num 20, [⟨0, 10000, 1⟩], ⟨0, 0⟩⟩, -- R229 Ramp start frequency
  ⟨0x3080, 0x08, 0x08, .u16, .rws, .i, .config, .num 500, [⟨1, 60000, 1⟩], ⟨0, 0⟩⟩, -- R229 Ramp end frequency
  ⟨0x3080, 0x09, 0x09, .u32, .rws, .i, .config, .num 1000, [⟨1, 10000000, 1⟩], ⟨0, 0⟩⟩, -- R229 Ramp acceleration
  ⟨0x3080, 0x0A, 0x0A, .u16, .rws, .i, .config, .num 300, [⟨1, 60000, 1⟩], ⟨0, 0⟩⟩, -- R229 Handover speed
  ⟨0x3080, 0x0B, 0x0B, .u8, .rws, .i, .config, .num 200, [⟨2, 255, 1⟩], ⟨0, 0⟩⟩, -- R229 Handover confidence
  ⟨0x3080, 0x0C, 0x0C, .u8, .rws, .i, .config, .num 8, [⟨1, 255, 1⟩], ⟨0, 0⟩⟩, -- R229 Handover frames
  ⟨0x3080, 0x0D, 0x0D, .u8, .rws, .i, .config, .num 3, [⟨0, 7, 1⟩], ⟨0, 0⟩⟩, -- R229 Start retries
  ⟨0x3080, 0x0E, 0x0E, .u16, .rws, .i, .config, .num 200, [⟨0, 60000, 1⟩], ⟨0, 0⟩⟩, -- R229 Retry pause
  ⟨0x3080, 0x0F, 0x0F, .u16, .rws, .i, .config, .num 0, [⟨0, 8191, 1⟩], ⟨0, 0⟩⟩, -- R229 Handover torque current
  ⟨0x3080, 0x10, 0x10, .u16, .rws, .i, .config, .num 100, [⟨1, 2000, 1⟩], ⟨0, 0⟩⟩, -- R229 Observer bandwidth
  ⟨0x3080, 0x11, 0x11, .u16, .rws, .i, .config, .num 500, [⟨10, 60000, 1⟩], ⟨0, 0⟩⟩, -- R229 Back-EMF reference
  ⟨0x3080, 0x12, 0x12, .u16, .rws, .i, .config, .num 0, [⟨0, 10000, 1⟩], ⟨0, 0⟩⟩, -- R229 Injection voltage
  ⟨0x3080, 0x13, 0x13, .u16, .rws, .i, .config, .num 50, [⟨1, 1000, 1⟩], ⟨0, 0⟩⟩, -- R229 Injection bandwidth
  ⟨0x3080, 0x14, 0x14, .u16, .rws, .i, .config, .num 16, [⟨1, 8191, 1⟩], ⟨0, 0⟩⟩, -- R229 Injection minimum response
  ⟨0x3080, 0x15, 0x15, .u16, .rws, .i, .config, .num 100, [⟨0, 60000, 1⟩], ⟨0, 0⟩⟩, -- R229 Blend lower speed
  ⟨0x3080, 0x16, 0x16, .u16, .rws, .i, .config, .num 200, [⟨1, 60000, 1⟩], ⟨0, 0⟩⟩, -- R229 Blend upper speed
  ⟨0x3080, 0x17, 0x17, .u16, .rws, .i, .config, .num 20, [⟨1, 10000, 1⟩], ⟨0, 0⟩⟩, -- R229 Convergence time
  ⟨0x3080, 0x18, 0x18, .u16, .rws, .i, .config, .num 0, [⟨0, 8191, 1⟩], ⟨0, 0⟩⟩, -- R229 Polarity current
  ⟨0x3080, 0x19, 0x19, .u16, .rws, .i, .config, .num 10, [⟨1, 10000, 1⟩], ⟨0, 0⟩⟩, -- R229 Polarity time
  ⟨0x3080, 0x1A, 0x1A, .u16, .rws, .i, .config, .num 50, [⟨1, 1000, 1⟩], ⟨0, 0⟩⟩, -- R229 Polarity margin
  ⟨0x3080, 0x1B, 0x1B, .u8, .rws, .i, .config, .num 64, [⟨1, 255, 1⟩], ⟨0, 0⟩⟩, -- R229 Rotor-loss confidence
  ⟨0x3080, 0x1C, 0x1C, .u16, .rws, .i, .config, .num 16, [⟨1, 1000, 1⟩], ⟨0, 0⟩⟩, -- R229 Rotor-loss frames
  ⟨0x3080, 0x1D, 0x1D, .u16, .rws, .i, .config, .num 300, [⟨50, 1000, 1⟩], ⟨0, 0⟩⟩, -- R229 Back-EMF tolerance
  ⟨0x3080, 0x1E, 0x1E, .u16, .rws, .i, .config, .num 980, [⟨500, 1000, 1⟩], ⟨0, 0⟩⟩, -- R229 q saturation level
  ⟨0x3080, 0x1F, 0x1F, .u16, .rws, .i, .config, .num 500, [⟨1, 60000, 1⟩], ⟨0, 0⟩⟩, -- R229 Rotor-loss minimum speed
  ⟨0x3080, 0x20, 0x20, .u16, .rws, .i, .config, .num 1100, [⟨1000, 2000, 1⟩], ⟨0, 0⟩⟩, -- R229 Short-circuit margin
  ⟨0x3080, 0x21, 0x21, .u16, .rws, .i, .config, .num 1000, [⟨50, 60000, 1⟩], ⟨0, 0⟩⟩, -- R229 Catch threshold
  ⟨0x3080, 0x22, 0x22, .u32, .rws, .i, .config, .num 4883, [⟨1, 100000, 1⟩], ⟨0, 0⟩⟩, -- R229 Terminal-voltage LSB
  ⟨0x3081, 0x01, 0x01, .u16, .ro, .o, .status, .num 0, [], ⟨0, 0⟩⟩, -- R230 Sensorless flags
  ⟨0x3081, 0x02, 0x02, .u8, .ro, .o, .status, .num 0, [], ⟨0, 0⟩⟩, -- R230 Start phase
  ⟨0x3081, 0x03, 0x03, .u8, .ro, .o, .status, .num 0, [], ⟨0, 0⟩⟩, -- R230 Start attempt
  ⟨0x3081, 0x04, 0x04, .u8, .ro, .o, .status, .num 0, [], ⟨0, 0⟩⟩] -- R230 Observer confidence

/-- Object-table rows, part 13. -/
def objRows13 : List ObjRow := [
  ⟨0x3081, 0x05, 0x05, .u16, .ro, .o, .status, .num 1000, [], ⟨0, 0⟩⟩, -- R230 Blend weight
  ⟨0x3081, 0x06, 0x06, .u16, .ro, .o, .status, .num 0, [], ⟨0, 0⟩⟩, -- R230 Back-EMF magnitude
  ⟨0x3081, 0x07, 0x07, .u16, .ro, .o, .status, .num 0, [], ⟨0, 0⟩⟩, -- R230 Catch speed
  ⟨0x3081, 0x08, 0x08, .u8, .ro, .o, .status, .num 0, [], ⟨0, 0⟩⟩, -- R230 Last rotor-loss cause
  ⟨0x3081, 0x09, 0x09, .u32, .ro, .o, .status, .num 0, [], ⟨0, 0⟩⟩, -- R230 Start failures
  ⟨0x3081, 0x0A, 0x0A, .u32, .ro, .o, .status, .num 0, [], ⟨0, 0⟩⟩, -- R230 Rotor losses
  ⟨0x3081, 0x0B, 0x0B, .u32, .ro, .o, .status, .num 0, [], ⟨0, 0⟩⟩, -- R230 Eddy restarts
  ⟨0x3081, 0x0C, 0x0C, .u16, .ro, .o, .status, .num 0, [], ⟨0, 0⟩⟩, -- R230 Injection response
  ⟨0x3090, 0x01, 0x01, .u16, .rws, .i, .config, .num 0, [⟨0, 8191, 1⟩], ⟨0, 0⟩⟩, -- R164 Current-magnitude limit
  ⟨0x3090, 0x02, 0x02, .u16, .rws, .i, .config, .num 8191, [⟨0, 8191, 1⟩], ⟨0, 0⟩⟩, -- R164 Regenerative current limit
  ⟨0x3090, 0x03, 0x03, .u32, .rws, .i, .config, .num 0, [⟨0, 16000000, 1⟩], ⟨0, 0⟩⟩, -- R164 Bus-current request
  ⟨0x3090, 0x04, 0x04, .u16, .rws, .i, .config, .num 250, [⟨1, 1000, 1⟩], ⟨0, 0⟩⟩, -- R164 Budget regulator gain
  ⟨0x3090, 0x05, 0x05, .u8, .rws, .i, .config, .num 3, [⟨0, 7, 1⟩], ⟨0, 0⟩⟩, -- R164 Bus-current filter
  ⟨0x30A0, 0x01, 0x01, .u8, .ro, .o, .status, .num 0, [], ⟨0, 0⟩⟩, -- R183 Port state
  ⟨0x30A0, 0x02, 0x02, .s32, .ro, .o, .status, .num 0, [], ⟨0, 0⟩⟩, -- R183 Filtered speed
  ⟨0x30A0, 0x03, 0x03, .s32, .ro, .o, .status, .num 0, [], ⟨0, 0⟩⟩, -- R183 Ramp value
  ⟨0x30A0, 0x04, 0x04, .u16, .ro, .o, .status, .num 0, [], ⟨0, 0⟩⟩, -- R183 Motion flags
  ⟨0x30A0, 0x05, 0x05, .u32, .ro, .o, .status, .num 0, [], ⟨0, 0⟩⟩, -- R183 Refused state requests
  ⟨0x30A4, 0x01, 0x01, .s14, .ro, .o, .status, .num 0, [], ⟨0, 0⟩⟩, -- R166 Id measured
  ⟨0x30A4, 0x02, 0x02, .s14, .ro, .o, .status, .num 0, [], ⟨0, 0⟩⟩, -- R166 Iq measured
  ⟨0x30A4, 0x03, 0x03, .s14, .ro, .o, .status, .num 0, [], ⟨0, 0⟩⟩, -- R166 Vd applied
  ⟨0x30A4, 0x04, 0x04, .s14, .ro, .o, .status, .num 0, [], ⟨0, 0⟩⟩, -- R166 Vq applied
  ⟨0x30A4, 0x05, 0x05, .s14, .ro, .o, .status, .num 0, [], ⟨0, 0⟩⟩, -- R166 Id reference
  ⟨0x30A4, 0x06, 0x06, .s14, .ro, .o, .status, .num 0, [], ⟨0, 0⟩⟩, -- R166 Iq reference
  ⟨0x30A4, 0x07, 0x07, .u16, .ro, .o, .status, .num 0, [], ⟨0, 0⟩⟩, -- R166 Effective current limit
  ⟨0x30A4, 0x08, 0x08, .u16, .ro, .o, .status, .num 0, [], ⟨0, 0⟩⟩, -- R166 Voltage ratio
  ⟨0x30A4, 0x09, 0x09, .u16, .ro, .o, .status, .num 0, [], ⟨0, 0⟩⟩, -- R166 Limit flags
  ⟨0x30A4, 0x0A, 0x0A, .u32, .ro, .o, .status, .num 0, [], ⟨0, 0⟩⟩, -- R166 Budget grant
  ⟨0x30A4, 0x0B, 0x0B, .u32, .ro, .o, .status, .num 0, [], ⟨0, 0⟩⟩, -- R166 Budget request
  ⟨0x30A4, 0x0C, 0x0C, .s32, .ro, .o, .status, .num 0, [], ⟨0, 0⟩⟩, -- R166 Bus-current estimate
  ⟨0x30B0, 0x01, 0x01, (.arr .u16), .ro, .o, .status, .arr [], [], ⟨0, 0⟩⟩, -- R256 Active faults
  ⟨0x30B0, 0x02, 0x02, .u16, .ro, .o, .status, .num 0, [], ⟨0, 0⟩⟩, -- R256 First fault
  ⟨0x30B0, 0x03, 0x03, .time80, .ro, .o, .status, .num 0, [], ⟨0, 0⟩⟩, -- R256 First fault time
  ⟨0x30B0, 0x04, 0x04, .u16, .ro, .o, .status, .num 0, [], ⟨0, 0⟩⟩, -- R256 Last fault
  ⟨0x30B0, 0x05, 0x05, .time80, .ro, .o, .status, .num 0, [], ⟨0, 0⟩⟩, -- R256 Last fault time
  ⟨0x30B0, 0x06, 0x06, .u32, .ro, .o, .status, .num 0, [], ⟨0, 0⟩⟩, -- R256 Fault detections
  ⟨0x30B0, 0x07, 0x07, .u16, .ro, .o, .status, .num 0, [], ⟨0, 0⟩⟩, -- R256 Pair register
  ⟨0x4000, 0x00, 0x00, .u8, .rws, .i, .config, .num 0, [⟨0, 8, 1⟩], ⟨0, 0⟩⟩, -- R358 Mapping entries
  ⟨0x4000, 0x01, 0x08, .u32, .rws, .i, .config, .num 0, [⟨0, 4294967295, 1⟩], ⟨0, 0⟩⟩] -- R358 Mapping entry

/-- Every row of every object table (R467: the only objects of the device). -/
def objRows : List ObjRow :=
  objRows0 ++ objRows1 ++ objRows2 ++ objRows3 ++ objRows4 ++ objRows5 ++ objRows6 ++ objRows7 ++ objRows8 ++ objRows9 ++ objRows10 ++ objRows11 ++ objRows12 ++ objRows13

end Sys2Proof.Machine
end

