-- ==== Sys2Proof/Machine/Objects.lean ====
section
/-! DEFINITION. The object dictionary as data: which objects exist, where each has its home, how a value lies on
the wire, and the store that holds every object whose value is not its default (R6 to R10, R28, R359, R467, R468). -/

namespace Sys2Proof.Machine

/-- The key of an object in the store. -/
def objKey (idx sub : Nat) : Nat := idx * 256 + sub

/-- The index with its placeholder digit at the lowest instance (R6, R467); 0 where no table has the index. -/
def normIdx (idx : Nat) : Nat :=
  if 0x3000 ≤ idx ∧ idx < 0x3400 then
    (if idx % 256 = 0x24 then (if idx / 256 % 2 = 0 then 0x3024 else 0) else 0x3000 + idx % 256)
  else if idx = 0x1120 then 0x1110
  else if 0x1160 ≤ idx ∧ idx < 0x1170 then 0x1160
  else if 0x4000 ≤ idx ∧ idx < 0x4010 then 0x4000
  else if 0x2200 ≤ idx ∧ idx < 0x2240 then 0x2200 + idx % 16
  else if idx = 0x2121 then 0x2120
  else if idx = 0x2129 then 0x2128
  else if idx = 0x2511 then 0x2510
  else if idx = 0x2801 then 0x2800
  else if idx = 0x2803 then 0x2802
  else if 0x2650 ≤ idx ∧ idx < 0x2654 then 0x2650
  else idx

/-- The table row of an object. -/
def objRow (idx sub : Nat) : Option ObjRow :=
  objRows.find? fun r => r.base == normIdx idx && r.lo ≤ sub && sub ≤ r.hi

/-- Whether an index exists on a part that has lane B (R467). -/
def idxExists (idx : Nat) : Bool := objRows.any fun r => r.base == normIdx idx

/-- The indices of lane B's own resources, which a part without lane B does not have (R3, R143, R468); the pairs' are with the
pairs (R417). -/
def laneBIdx (idx : Nat) : Bool :=
  (0x3200 ≤ idx && idx < 0x3400) || (0x2220 ≤ idx && idx < 0x2240) ||
  [0x1120, 0x2129, 0x2652, 0x2653, 0x2801, 0x2803].contains idx

/-- The value an object has while the store lists none: the default of its table row, with the default domain
number of T1 (R330). -/
def objDefault (key : Nat) : ObjVal :=
  if key = 0x212102 then .num 20
  else match objRow (key / 256) (key % 256) with
    | some r => r.dflt
    | none => .num 0

/-- The listed value of a key. -/
def ObjStore.find (k : Nat) : ObjStore → Option ObjVal
  | [] => none
  | (k', v) :: r => if k' = k then some v else ObjStore.find k r

/-- The store without a key. -/
def ObjStore.erase (k : Nat) : ObjStore → ObjStore
  | [] => []
  | (k', v) :: r => if k' = k then ObjStore.erase k r else (k', v) :: ObjStore.erase k r

/-- The store with a key's value entered at its place. -/
def ObjStore.insert (k : Nat) (v : ObjVal) : ObjStore → ObjStore
  | [] => [(k, v)]
  | (k', v') :: r =>
    if k < k' then (k, v) :: (k', v') :: r
    else if k = k' then (k, v) :: r
    else (k', v') :: ObjStore.insert k v r

/-- The value of an object. -/
def ObjStore.get (st : ObjStore) (k : Nat) : ObjVal :=
  match st.find k with
  | some v => v
  | none => objDefault k

/-- The store after a write: a value equal to the default is not listed. -/
def ObjStore.put (st : ObjStore) (k : Nat) (v : ObjVal) : ObjStore :=
  if v = objDefault k then st.erase k else st.insert k v

/-- The canonical form: keys ascend and no entry holds its default. -/
def ObjStore.wf : ObjStore → Bool
  | [] => true
  | (k, v) :: r => (v ≠ objDefault k) && (r.all fun e => k < e.1) && ObjStore.wf r

/-- The number an object's value holds; 0 where it holds none. -/
def ObjVal.toInt : ObjVal → Int
  | .num v => v
  | _ => 0

/-- The bytes an object's value holds. -/
def ObjVal.toBytes : ObjVal → List Byte
  | .bytes b => b
  | _ => []

/-- The elements an object's value holds. -/
def ObjVal.toArr : ObjVal → List Int
  | .arr xs => xs
  | _ => []

/-- The size of an ARRAY element in bytes. -/
def ElemType.size : ElemType → Nat
  | .u8 => 1
  | .u16 | .s16 | .u14 => 2
  | .u32 => 4

/-- Whether the ARRAY element is signed. -/
def ElemType.signed : ElemType → Bool
  | .s16 => true
  | _ => false

/-- The size of a fixed-size type in bytes; none for the variable ones (R8). -/
def ObjType.size : ObjType → Option Nat
  | .bool | .u8 | .s8 => some 1
  | .u16 | .s16 | .s14 | .u14 => some 2
  | .u32 | .s32 => some 4
  | .u64 => some 8
  | .time80 => some 10
  | .str | .octets | .arr _ => none

/-- The size of an object in bytes where its table fixes it (R8, R351): a variable type has one where its length has one value. -/
def ObjRow.size (r : ObjRow) : Option Nat :=
  match r.type with
  | .arr e => if r.len.min = r.len.max ∧ 0 < r.len.min then some (e.size * r.len.min) else none
  | .octets | .str => if r.len.min = r.len.max ∧ 0 < r.len.min then some r.len.min else none
  | t => t.size

/-- Whether the type is signed (R8). -/
def ObjType.signed : ObjType → Bool
  | .s8 | .s16 | .s32 | .s14 => true
  | _ => false

/-- The wire bytes of a TIME80 value (R8). -/
def time80Bytes (ns : Int) : List Byte :=
  toLE 6 (ns.toNat / 1000000000) ++ toLE 4 (ns.toNat % 1000000000)

/-- The bytes of an array. -/
def arrBytes (e : ElemType) (xs : List Int) : List Byte :=
  xs.flatMap fun x => toLE e.size (unsignedOf (8 * e.size) x)

/-- The wire bytes of a value under its type (R7, R8, R359). -/
def encodeVal (t : ObjType) : ObjVal → List Byte
  | .bytes b => b
  | .arr xs => match t with
    | .arr e => arrBytes e xs
    | _ => []
  | .num v => match t, t.size with
    | .time80, _ => time80Bytes v
    | _, some n => toLE n (unsignedOf (8 * n) v)
    | _, none => []

/-- Split a byte list into chunks of n bytes, at most fuel of them. -/
def chunks (n : Nat) : Nat → List Byte → List (List Byte)
  | 0, _ => []
  | _, [] => []
  | fuel + 1, b :: bs => (b :: bs).take n :: chunks n fuel ((b :: bs).drop n)

/-- The elements of an array's bytes. -/
def arrOfBytes (e : ElemType) (bs : List Byte) : List Int :=
  (chunks e.size bs.length bs).map fun c =>
    if e.signed then signedOf (8 * e.size) (leNat c) else ((leNat c : Nat) : Int)

/-- The value that wire bytes spell under a type. -/
def decodeVal (t : ObjType) (bs : List Byte) : ObjVal :=
  match t with
  | .str | .octets => .bytes bs
  | .arr e => .arr (arrOfBytes e bs)
  | .time80 => .num (((leNat (bs.take 6) * 1000000000 + leNat (bs.drop 6) : Nat)) : Int)
  | .bool | .u8 | .u16 | .u32 | .u64 | .u14 => .num ((leNat bs : Nat) : Int)
  | .s8 => .num (signedOf 8 (leNat bs))
  | .s16 | .s14 => .num (signedOf 16 (leNat bs))
  | .s32 => .num (signedOf 32 (leNat bs))

/-- Whether an object's elements form pairs, of which none may be left alone: the MTPA table (R157, R163). -/
def ObjRow.paired (r : ObjRow) : Bool := r.base == 0x3050 && r.lo == 0x10

/-- Whether a value's length fits its type (R157, R359). -/
def lengthOk (r : ObjRow) (bs : List Byte) : Bool :=
  match r.type with
  | .arr e =>
    let n := bs.length / e.size
    bs.length % e.size == 0 && r.len.min ≤ n && n ≤ r.len.max && !(r.paired && n % 2 == 1)
  | .str => bs.length ≤ 64
  | .octets => r.len.min ≤ bs.length && bs.length ≤ r.len.max
  | t => t.size == some bs.length

/-- Whether one permitted stretch holds a value. -/
def Span.holds (s : Span) (v : Int) : Bool := s.lo ≤ v && v ≤ s.hi && (v - s.lo) % (s.step : Int) == 0

/-- Whether a value lies in the object's range and has a valid encoding (R8, R9, R359, R361 step 7). -/
def valueOk (r : ObjRow) (bs : List Byte) : Bool :=
  match r.type with
  | .bool => leNat bs ≤ 1 && rangeOk (leNat bs : Nat)
  | .s14 => rangeOk (signedOf 16 (leNat bs)) && (-8192 ≤ signedOf 16 (leNat bs)) && (signedOf 16 (leNat bs) ≤ 8191)
  | .u14 => leNat bs < 16384 && rangeOk (leNat bs : Nat)
  | .time80 => leNat (bs.drop 6) < 1000000000
  | .str => bs.all fun b => 0x20 ≤ b.toNat && b.toNat ≤ 0x7E
  | .octets => true
  | .arr .u14 => (arrOfBytes .u14 bs).all fun x => 0 ≤ x && x < 16384
  | .arr _ => true
  | t => rangeOk (decodeVal t bs).toInt
where
  /-- The value lies in one of the row's stretches. -/
  rangeOk (v : Int) : Bool := r.range.any fun s => s.holds v

/-- The homes of R28: common domain, both lanes, or one lane. -/
inductive Home where
  | common | replicated | lane (l : LaneId)
deriving DecidableEq, Repr

/-- The home of an object (R28). -/
def homeOf (idx : Nat) : Home :=
  if 0x3000 ≤ idx ∧ idx < 0x3200 then .lane .a
  else if 0x3200 ≤ idx ∧ idx < 0x3400 then .lane .b
  else if idx = 0x2128 then .lane .a
  else if idx = 0x2129 then .lane .b
  else if 0x2200 ≤ idx ∧ idx < 0x2220 then .lane .a
  else if 0x2220 ≤ idx ∧ idx < 0x2240 then .lane .b
  else if [0x10, 0x13, 0x14, 0x21, 0x23, 0x24, 0x27].contains (idx / 256) then .common
  else .replicated

/-- The numeric order of the roles (R10). -/
def Role.rank : Role → Nat
  | .o => 0 | .p => 1 | .i => 2 | .c => 3

/-- The wire value of a result code (R471). -/
def Res.code : Res → Nat
  | .ok => 0x0000 | .okDelayed => 0x0001
  | .noObject => 0x0101 | .noSubindex => 0x0102 | .typeLength => 0x0103
  | .readOnly => 0x0201 | .writeOnly => 0x0202 | .roleTooLow => 0x0203 | .wrongMode => 0x0204 | .locked => 0x0205
  | .outOfRange => 0x0301 | .inconsistent => 0x0302
  | .refusedBusy => 0x0401 | .sessionInvalid => 0x0402 | .authFailed => 0x0403 | .badRequest => 0x0404
  | .journalFull => 0x0501 | .journalUnavailable => 0x0502
  | .timePassed => 0x0601 | .timeTooFar => 0x0602 | .noTimeSync => 0x0603
  | .imageInvalid => 0x0701 | .imageConflict => 0x0702
  | .otpSupplyWindow => 0x0801 | .otpLockRefused => 0x0802 | .otpWordProgrammed => 0x0803
  | .otpProgramFailed => 0x0804

end Sys2Proof.Machine
end

