-- ==== Sys2Proof/Machine/Ops.lean ====
section
/-! DEFINITION. The named operations over the state: objects, counters, lanes and ports, time stamps, faults,
commands to the safe-state units, handoff cells and their consumers. -/

namespace Sys2Proof.Machine

/-- A command that ends in a state of the block: the queue is not the command's to change. -/
def State.upd (s : State) (f : Dev → Dev) : State := { s with dev := f s.dev }

/-- A command that ends in a state of the block while its clocks run; in a freeze they stand still, and what they would
clock waits or is not seen (R431, R432). -/
def State.awake (s : State) (f : Dev → Dev) : State := s.upd fun d => if d.frozen then d else f d

/-! ### Ports and lanes -/

/-- The state of a port. -/
def Dev.port (d : Dev) (p : PortId) : Port := d.ports.get p

/-- The block with a port's state replaced. -/
def Dev.setPort (d : Dev) (p : PortId) (x : Port) : Dev := { d with ports := d.ports.set p x }

/-- The block with a port's state changed by f. -/
def Dev.onPort (d : Dev) (p : PortId) (f : Port → Port) : Dev := d.setPort p (f (d.port p))

/-- The state of a lane. -/
def Dev.lane (d : Dev) (l : LaneId) : Lane := d.lanes.get l

/-- The block with a lane's state replaced. -/
def Dev.setLane (d : Dev) (l : LaneId) (x : Lane) : Dev := { d with lanes := d.lanes.set l x }

/-- The block with a lane's state changed by f. -/
def Dev.onLane (d : Dev) (l : LaneId) (f : Lane → Lane) : Dev := d.setLane l (f (d.lane l))

/-- The slots a port's lane has counted. -/
def Dev.slotOf (d : Dev) (p : PortId) : Nat := (d.lane p.lane).slots

/-- The 32-bit slot count of a lane (R41, R45). -/
def Lane.count (l : Lane) : Nat := l.slots % 2 ^ 32

/-- The tick number of tick t of a lane's present slot (R37). -/
def Lane.tick (l : Lane) (t : Nat) : Nat := l.slots * 200 + t

/-- The CLK_A time of cycle c of a lane's present slot: 50 cycles per slot (R185). -/
def Lane.clk (l : Lane) (c : Nat) : Nat := l.slots * 50 + c

/-- The time stamp of a line's first sample at a level that it has held for a number of samples up to cycle c: a 32-bit count
(R185). -/
def Lane.stamp (l : Lane) (c held : Nat) : Nat := (l.clk c + 2 ^ 32 + 1 - held) % 2 ^ 32

/-- The CLK_A cycles from one time stamp to another on the 32-bit counter (R185). -/
def since (now stamp : Int) : Int := (now - stamp) % 2 ^ 32

/-- A feedback interface at a change of its mode: INDEX_REFERENCED cleared (R191), and the SENT timeout running from now (R198,
log entry 59). The illegal bucket, the previous A/B pair, the filtered index line, the consecutive-mismatch count,
INDEX_MISMATCH, the Hall and SENT decoders, SENT_STALE and SENT_FORMAT_MISMATCH stay as they are (DESIGN CHOICE, log entry
143). -/
def Feedback.selected (f : Feedback) (now : Nat) : Feedback :=
  { f with
    flags := { f.flags with referenced := false }
    sent := { f.sent with got := false }
    latch := { f.latch with sent := { f.latch.sent with got := false } }
    sentArm := now % 2 ^ 32 }

/-- A port at a change of its feedback mode: the positions that engine 1 holds for a speed are those of the former mode (R200). -/
def Port.fbSelected (x : Port) (now : Nat) : Port :=
  { x with fb := x.fb.selected now, e1 := { x.e1 with fb := { x.e1.fb with got := false, seen := 0 } } }

/-! ### Objects -/

/-- The number an object holds. -/
def Dev.num (d : Dev) (idx sub : Nat) : Int := (d.objs.get (objKey idx sub)).toInt

/-- The number an object holds, as a natural number. -/
def Dev.nat (d : Dev) (idx sub : Nat) : Nat := (d.num idx sub).toNat

/-- The elements an ARRAY object holds. -/
def Dev.arr (d : Dev) (idx sub : Nat) : List Int := (d.objs.get (objKey idx sub)).toArr

/-- The bytes an object holds. -/
def Dev.bytes (d : Dev) (idx sub : Nat) : List Byte := (d.objs.get (objKey idx sub)).toBytes

/-- An object's value replaced. -/
def Dev.putVal (d : Dev) (idx sub : Nat) (v : ObjVal) : Dev := { d with objs := d.objs.put (objKey idx sub) v }

/-- A number object's value replaced. -/
def Dev.put (d : Dev) (idx sub : Nat) (v : Int) : Dev := d.putVal idx sub (.num v)

/-- A 32-bit saturating counter object advanced by n. -/
def Dev.incBy (d : Dev) (idx sub n : Nat) : Dev := d.put idx sub (min (d.num idx sub + n) 4294967295)

/-- A 32-bit saturating counter object advanced by one. -/
def Dev.inc (d : Dev) (idx sub : Nat) : Dev := d.incBy idx sub 1

/-- Bit k of an object's number. -/
def Dev.bit (d : Dev) (idx sub k : Nat) : Bool := bitOf (d.nat idx sub) k

/-- Bit k of an object's number set to b. -/
def Dev.putBit (d : Dev) (idx sub k : Nat) (b : Bool) : Dev :=
  d.put idx sub ((d.nat idx sub : Nat) + (if d.bit idx sub k = b then 0 else if b then (2 ^ k : Int) else -(2 ^ k : Int)))

/-- The index of a port object from its last two hexadecimal digits (R6). -/
def pidx (p : PortId) (blk : Nat) : Nat := 0x3000 + 0x100 * p.num + blk

/-- The number a port object holds. -/
def Dev.pnum (d : Dev) (p : PortId) (blk sub : Nat) : Int := d.num (pidx p blk) sub

/-- The number a port object holds, as a natural number. -/
def Dev.pnat (d : Dev) (p : PortId) (blk sub : Nat) : Nat := d.nat (pidx p blk) sub

/-- A port object's number replaced. -/
def Dev.pput (d : Dev) (p : PortId) (blk sub : Nat) (v : Int) : Dev := d.put (pidx p blk) sub v

/-- A port's saturating counter advanced by one. -/
def Dev.pinc (d : Dev) (p : PortId) (blk sub : Nat) : Dev := d.inc (pidx p blk) sub

/-- The index of a lane's chopper objects (R143). -/
def chopIdx : LaneId → Nat
  | .a => 0x3024
  | .b => 0x3224

/-- The index of a pair's objects (R254). -/
def pairIdx (y : PairId) : Nat := 0x2510 + y.num

/-- The index of a stream's objects (R358). -/
def streamIdx (s : Nat) : Nat := 0x1160 + s

/-! ### Modes and lanes -/

/-- The mode codes of 0x2000.01 (R273): STORAGE 0, SLEEP 1, STANDBY 2, CONFIGURE 3, RUN 4, DEGRADED 5. -/
def Dev.mode (d : Dev) : Nat := d.nat 0x2000 1

/-- Whether the device is in a powered mode with start-up complete (R274). -/
def Dev.powered (d : Dev) : Bool := d.boot.phase == .up

/-- Whether the journal writer works: in the powered modes, and until SLEEP or STORAGE is reached (R281, R373). -/
def Dev.writerRuns (d : Dev) : Bool := d.powered || d.boot.phase == .goingDown

/-- A lane's state object (R255). -/
def laneStateSub : LaneId → Nat
  | .a => 1
  | .b => 2

/-- Whether a lane is lost (R250, R255). -/
def Dev.laneLost (d : Dev) (l : LaneId) : Bool := d.num 0x2500 (laneStateSub l) == 1

/-- The lane whose clocks the common domain takes: A, or B while A is lost (R300). -/
def Dev.clkLane (d : Dev) : LaneId := if (d.lane .a).alive && !d.laneLost .a then .a else .b

/-- The slots counted by the lane that clocks the common domain. -/
def Dev.slotNow (d : Dev) : Nat := (d.lane d.clkLane).slots

/-- Whether a lane runs on the root clock (R309). -/
def Dev.onRoot (d : Dev) (l : LaneId) : Bool := d.nat 0x2110 (match l with | .a => 2 | .b => 3) == 1

/-- A field padded with zeros to 8 bytes. -/
def pad8 (b : List Byte) : List Byte := (b ++ List.replicate 8 0).take 8

/-- The origin code of a port: 1 N1, 2 N2, 3 N3, 4 chain, 5 JTAG (R367). -/
def originCode : Origin → Nat
  | .n1 => 1 | .n2 => 2 | .n3 => 3 | .chain => 4 | .tap => 5

/-- The port of an origin code. -/
def originOf (n : Nat) : Origin :=
  match n with
  | 1 => .n1
  | 2 => .n2
  | 3 => .n3
  | 4 => .chain
  | _ => .tap

/-- The lane that serves a port: A for N1, B for N2, the owner for N3, and lane A, or B while A is lost, for the chain port
and the TAP (R347, R407, R463). -/
def Dev.serveLane (d : Dev) (o : Origin) : LaneId :=
  match o with
  | .n1 => .a
  | .n2 => .b
  | .n3 => if d.num 0x1130 0x10 = 1 then .b else .a
  | .chain | .tap => d.clkLane

/-- Whether a lane counts slots at boundaries of its own, apart from the lane that clocks the common domain (R24). -/
def Dev.apart (d : Dev) (l : LaneId) : Bool :=
  l != d.clkLane && (d.lane l).alive && !d.laneLost l && !(d.onRoot l && d.onRoot d.clkLane)

/-- The slot of the lane that serves a port. -/
def Dev.serveSlot (d : Dev) (o : Origin) : Nat := (d.lane (d.serveLane o)).slots

/-- The session of an ID, reserved or open. -/
def Dev.session (d : Dev) (id : Nat) : Option Session :=
  (d.net.sessions.filterMap fun s => s).find? fun s => s.id == id

/-- A partner as the session table and the journal show it: the chain's one partner as the chain position, taken with the other
settings at the fall of CSN (R367, R402, R407, R409). -/
def Dev.partnerShown (d : Dev) (origin : Nat) (who : List Byte) : List Byte :=
  if origin = 4 then pad8 (toLE 1 d.chain.position) else who

/-- The entry of the session table: ID, role, port, partner, idle time in ms (R357). -/
def Dev.sessionRow (d : Dev) (k : Nat) : List Byte :=
  match (d.net.sessions[k]?).join with
  | none => List.replicate 16 0
  | some s => toLE 2 s.id ++ toLE 1 s.role ++ toLE 1 s.origin ++ pad8 (d.partnerShown s.origin s.partner) ++
      toLE 4 ((d.serveSlot (originOf s.origin) - s.since) / 2000)

/-- What requests would read now (R362). -/
def Dev.showing (d : Dev) : Shown :=
  ⟨d.objs, (List.range 8).map d.sessionRow, d.flash.captures, d.flash.traces⟩

/-- An event of R251: 0x2000.06 keeps the fault of the first since reset (R276, R296). -/
def Dev.degradeEvent (d : Dev) (code : Nat) : Dev :=
  if d.degradeDue then d else { d.put 0x2000 6 code with degradeDue := true }

/-- The lanes that the part has. -/
def Dev.lanesPresent (d : Dev) : List LaneId := if d.boot.laneB then [.a, .b] else [.a]

/-- Whether the part has a pair: its feature bit and the variant grant it (R417, 0x2400.03). -/
def Dev.hasPair (d : Dev) (y : PairId) : Bool := d.boot.laneB && d.bit 0x2400 3 y.num

/-- Whether an index is absent on this part, as the objects of lane B and of a pair that it does not have are (R3, R143, R417,
R468). -/
def Dev.absent (d : Dev) (idx : Nat) : Bool :=
  (laneBIdx idx && !d.boot.laneB) || (idx == 0x2510 && !d.hasPair .p1) || (idx == 0x2511 && !d.hasPair .p2)

/-- The supply and temperature windows of step 7 of R419, on the lane supervisors' last measurements. -/
def Dev.supplyWindow (d : Dev) : Bool :=
  d.lanesPresent.all fun l =>
    decide (3200 ≤ d.num (0x2800 + l.num) 4) && decide (d.num (0x2800 + l.num) 4 ≤ 3400) &&
    decide (-100 ≤ d.num (0x2802 + l.num) 5) && decide (d.num (0x2802 + l.num) 5 ≤ 850)

/-! ### Time stamps and free values -/

/-- The whole nanoseconds of a time base (R310). -/
def TimeBase.ns (b : TimeBase) : Int := b.val / 2 ^ 32

/-- A fresh index for a free value, and the block with the next one. -/
def Dev.fresh (d : Dev) : Nat × Dev := (d.freeIx, { d with freeIx := d.freeIx + 1 })

/-- The instant of an event inside the present slot, in nanoseconds on AT, or DT if AT is invalid: the base at
the last slot boundary plus less than one slot, which is open (log entry 9). -/
def Dev.stampNow (d : Dev) : Int :=
  (if d.bit 0x2100 0xA 0 then d.time.at'.ns else d.time.dt.ns) + (Config.stampOfs d.freeIx % 500 : Nat)

/-- The block after a time stamp was taken. -/
def Dev.stamped (d : Dev) : Dev := { d with freeIx := d.freeIx + 1 }

/-! ### The active image -/

/-- Whether an occurrence of an instance starts at a hyperframe slot index (R64). -/
def Instance.startsAt (i : Instance) (h : Nat) : Bool :=
  if i.period = 0 then h == i.slot
  else i.slot ≤ h && (h - i.slot) % i.period == 0 && (h - i.slot) / i.period < i.count

/-- The placed instance of a kernel on an engine that starts at a slot index and tick. -/
def Image.placedAt (im : Image) (engine kernel h tick : Nat) : Option Instance :=
  im.insts.find? fun i => i.engine == engine && i.kernel == kernel && i.tick == tick && i.startsAt h

/-- Whether the active image places a kernel anywhere on an engine of a port's cluster. -/
def Dev.places (d : Dev) (p : PortId) (r : EngineRole) (kernel : Nat) : Bool :=
  match d.image with
  | none => false
  | some im => im.insts.any fun i => i.engine == (EngineId.num ⟨p, r⟩) && i.kernel == kernel

/-- The instance of a kernel that the active image starts on an engine of a port's cluster at tick t of the
present slot. -/
def Dev.placed (d : Dev) (p : PortId) (r : EngineRole) (kernel t : Nat) : Option Instance :=
  match d.image with
  | none => none
  | some im => im.placedAt (EngineId.num ⟨p, r⟩) kernel (d.lane p.lane).hyper t

/-- Whether a lane's clocks run: it is powered and out of reset, and no freeze holds the device. -/
def Dev.clocked (d : Dev) (l : LaneId) : Bool := (d.lane l).alive && !d.frozen

/-- The lanes whose boundary a lane's is: all that run on the root clock with it, else itself (R24). -/
def Dev.lanesWith (d : Dev) (l : LaneId) : List LaneId :=
  if d.onRoot l then [LaneId.a, .b].filter fun x => d.clocked x && d.onRoot x else [l]

/-- The slots of these lanes show what their opening boundary leaves (R50, R362). -/
def Dev.showLanes (d : Dev) (ls : List LaneId) : Dev :=
  let s := d.showing
  { d with shown := ls.foldl (fun x l => x.set l s) d.shown }

/-- What acts at a lane's boundary is visible to the requests of the slots that it opens (R50, R362). -/
def Dev.showAt (d : Dev) (l : LaneId) : Dev := d.showLanes (d.lanesWith l)

/-- What acts at a boundary of the common domain is visible to the requests of the slots that it opens (R50, R362). -/
def Dev.show (d : Dev) : Dev := d.showAt d.clkLane

/-- Whether a kernel runs at tick t of the present slot: the lane is clocked and the active image places it
there (R44, R64). -/
def Dev.runs (d : Dev) (p : PortId) (r : EngineRole) (kernel t : Nat) : Bool :=
  d.clocked p.lane && d.monArmed && (d.placed p r kernel t).isSome

/-- The slot-table entry of a port in the active image. -/
def Dev.slotEntry (d : Dev) (p : PortId) : Option SlotEntry :=
  match d.image with
  | none => none
  | some im => if (im.slots.get p).used then some (im.slots.get p) else none

/-- Frame length k of a port in slots; 0 while no image uses the port. -/
def Dev.frame (d : Dev) (p : PortId) : Nat :=
  match d.slotEntry p with
  | some e => e.k
  | none => 0

/-- The slot that opened the present current-loop frame of a port (R42, R45). -/
def Dev.frameStart (d : Dev) (p : PortId) : Nat :=
  match d.slotEntry p with
  | some e => d.slotOf p - ((d.lane p.lane).hyper + e.k - e.phi % e.k) % e.k
  | none => d.slotOf p

/-- Whether the active image declares a pair (R60, R231). -/
def Dev.pairDeclared (d : Dev) (y : PairId) : Bool :=
  match d.image with
  | none => false
  | some im => bitOf im.pairFlags y.num

/-- Whether a port is one of a declared pair (R231). -/
def Dev.paired (d : Dev) (p : PortId) : Bool := d.pairDeclared p.pair

/-- Whether a port has its crosswind link: the image pairs it, and its lane is not lost (R12, R23). -/
def Dev.linked (d : Dev) (p : PortId) : Bool := d.paired p && !d.laneLost p.lane

/-- A converter's result record of an entry, named as 16 × g + e (R207, R267). -/
def Dev.gcRecord (d : Dev) (n : Nat) : Nat := d.nat (0x2204 + 16 * (n / 16)) (n % 16 + 1)

/-- Whether the active image claims an entry of a converter, named as 16 × g + e, for an engine (R12, R265). -/
def Dev.gcClaimedFor (d : Dev) (n : Nat) (e : EngineId) : Bool :=
  match d.image with
  | none => false
  | some im => im.claims.any fun c => c.cls == 4 && c.number == 0x100 + n && c.owner == e.num

/-- Whether the active image claims a resource for one of the owners (R68, R71). -/
def Dev.claims (d : Dev) (cls number : Nat) (owners : List Nat) : Bool :=
  match d.image with
  | none => false
  | some im => im.claims.any fun c => c.cls == cls && c.number == number && owners.contains c.owner

/-! ### Port states -/

/-- The code of a port state (R169). -/
def PortState.code : PortState → Nat
  | .off => 0 | .armed => 1 | .align => 2 | .ramp => 3 | .closed => 4 | .coast => 5 | .shorted => 6 | .tripped => 7

/-- Whether a port drives its motor: ALIGN, RAMP or CLOSED. -/
def PortState.driving : PortState → Bool
  | .align | .ramp | .closed => true
  | _ => false

/-- The state of a port. -/
def Dev.pstate (d : Dev) (p : PortId) : PortState := (d.port p).reg.state

/-- Whether every port is OFF. -/
def Dev.allOff (d : Dev) : Bool := PortId.all.all fun p => d.pstate p == .off

/-! ### Faults and safe-state commands -/

/-- The IDs of the master fault table (R253). -/
inductive FaultId where
  | engineTiming | engineEcc | recompute | handoffStale
  | overcurrent | csQuality | csCal
  | gdDesat | gdFeedback | gdBootUv | gdSupply | brkFault | busOv3
  | fbIllegal | fbIndex | fbHall | fbSent
  | xwPlaus | xwLink | xwLine
  | rootClock | laneClock | supplyUv | sensorSupply | overtemp
  | commonFlash | commonOtp | commonTime
deriving DecidableEq, Repr

/-- The number of a fault (R253). -/
def FaultId.code : FaultId → Nat
  | .engineTiming => 0x0101 | .engineEcc => 0x0102 | .recompute => 0x0103 | .handoffStale => 0x0104
  | .overcurrent => 0x0201 | .csQuality => 0x0202 | .csCal => 0x0203
  | .gdDesat => 0x0301 | .gdFeedback => 0x0302 | .gdBootUv => 0x0303 | .gdSupply => 0x0304 | .brkFault => 0x0305
  | .busOv3 => 0x0306
  | .fbIllegal => 0x0401 | .fbIndex => 0x0402 | .fbHall => 0x0403 | .fbSent => 0x0404
  | .xwPlaus => 0x0501 | .xwLink => 0x0502 | .xwLine => 0x0503
  | .rootClock => 0x0601 | .laneClock => 0x0602 | .supplyUv => 0x0603 | .sensorSupply => 0x0604 | .overtemp => 0x0605
  | .commonFlash => 0x0701 | .commonOtp => 0x0702 | .commonTime => 0x0703

/-- The faults of clearing class C (R253). -/
def classC : List Nat :=
  [0x0104, 0x0201, 0x0202, 0x0203, 0x0301, 0x0302, 0x0303, 0x0304, 0x0305, 0x0306, 0x0401, 0x0402, 0x0403, 0x0404,
   0x0501, 0x0604]

/-- The faults of lane scope (R253). -/
def laneScope : List Nat := [0x0304, 0x0305, 0x0602, 0x0603, 0x0604, 0x0605]

/-- Whether a fault is active on a port. -/
def Dev.faulted (d : Dev) (p : PortId) (f : FaultId) : Bool := (d.port p).faults.contains f.code

/-- The code of the base that time stamps are taken on: 0 DT, 1 AT from T0, 2 AT from T1 (R367). -/
def Dev.stampBase (d : Dev) : Nat := if d.bit 0x2100 0xA 0 then (if d.nat 0x2100 6 = 2 then 2 else 1) else 0

/-- The unit's output: 0 none, 1 coast, 2 ASC (R142). -/
def Dev.safeOut (d : Dev) (p : PortId) : Nat := d.pnat p 0x22 1

/-- The six handoff cells of a port as they lie in memory (R75). -/
def Cells.bytes (c : Cells) : List Byte :=
  c.current.cur.bytes curBytes ++ c.angle.cur.bytes angBytes ++ c.setpoint.cur.bytes spBytes ++
  c.duty.cur.bytes dutyBytes ++ c.bus.cur.bytes busBytes ++ c.xw.cur.bytes xwBytes

/-- A trace record queued for the flash controller, or dropped and counted when eight wait; none under
FLT_COMMON_FLASH (R27, R442). -/
def Dev.queueTrace (d : Dev) (r : TraceRec) : Dev :=
  if d.devFaults.contains 0x0701 then d
  else if d.wr.traceQ.length < 8 then { d with wr := { d.wr with traceQ := d.wr.traceQ ++ [r] } }
  else d.inc 0x2721 2

/-- Whether a lane asserts its fault line: the one line it has towards the other lane, for any of its paired ports (R23,
R239). -/
def Dev.lineAsserted (d : Dev) (l : LaneId) : Bool := l.ports.any fun p => d.paired p && (d.port p).pair.ownLine

/-- The pair register of a port as a word (R241). -/
def Dev.pairWord (d : Dev) (p : PortId) : Nat :=
  let u := (d.port p).pair
  u.state + 32 * b2n (d.lineAsserted p.lane) + 64 * b2n u.partnerLine + 128 * b2n u.lineIgnored

/-- The trace record of a port's fault (R442). -/
def Dev.portTrace (d : Dev) (p : PortId) (code : Nat) : TraceRec :=
  let x := d.port p
  { fault := code, scope := p.num, pstate := (d.pstate p).code, time := d.stampNow, base := d.stampBase,
    safe := d.safeOut p, slot := (d.lane p.lane).count, number := 0
    pairReg := if d.paired p then d.pairWord p else 0
    cells := x.cells.bytes, diag := x.e0.fl.diag, laneStatus := (d.lane p.lane).status }

/-- The trace record of a fault that no port owns: scope 0x10 or 0x11 for a lane, 0x20 for the device (R442). -/
def Dev.wideTrace (d : Dev) (l : LaneId) (scope code : Nat) : TraceRec :=
  { fault := code, scope := scope, pstate := 0xFF, time := d.stampNow, base := d.stampBase, safe := 0
    slot := (d.lane l).count, number := 0, pairReg := 0, cells := List.replicate 192 0, diag := 0
    laneStatus := (d.lane l).status }

/-- A port's list of active faults replaced, with its object (R256: the earliest eight are listed). -/
def Dev.setFaults (d : Dev) (p : PortId) (fs : List Nat) : Dev :=
  (d.onPort p fun x => { x with faults := fs }).putVal (pidx p 0xB0) 1 (.arr ((fs.take 8).map Int.ofNat))

/-- A detection entered in a port's fault record (R252, R256). -/
def Dev.noteFault (d : Dev) (p : PortId) (f : FaultId) : Dev :=
  let fs := (d.port p).faults
  let at' := d.stampNow
  let d := d.setFaults p (if fs.contains f.code then fs else fs ++ [f.code])
  let d := if d.pnum p 0xB0 2 = 0 then (d.pput p 0xB0 2 f.code).pput p 0xB0 3 at' else d
  (((d.pput p 0xB0 4 f.code).pput p 0xB0 5 at').pinc p 0xB0 6).stamped

/-- A detection of a port's fault: its record and its trace (R252, R256, R442). -/
def Dev.recordFault (d : Dev) (p : PortId) (f : FaultId) : Dev :=
  (d.queueTrace (d.portTrace p f.code)).noteFault p f

/-- A detection of a lane's fault: the records of every port of the lane and its trace (R252, R442). -/
def Dev.recordLaneFault (d : Dev) (l : LaneId) (f : FaultId) : Dev :=
  l.ports.foldl (fun d p => d.noteFault p f) (d.queueTrace (d.wideTrace l (0x10 + l.num) f.code))

/-- A device fault raised: listed in 0x2500.05 (R252, R255). -/
def Dev.recordDeviceFault (d : Dev) (f : FaultId) : Dev :=
  let fs := if d.devFaults.contains f.code then d.devFaults else d.devFaults ++ [f.code]
  let d := d.queueTrace (d.wideTrace d.clkLane 0x20 f.code)
  { d with devFaults := fs }.putVal 0x2500 5 (.arr ((fs.take 8).map Int.ofNat))

/-- Whether a device fault is active. -/
def Dev.devFaulted (d : Dev) (f : FaultId) : Bool := d.devFaults.contains f.code

/-- A device fault raised for the first time is an event of R251. -/
def Dev.deviceFault (d : Dev) (f : FaultId) : Dev :=
  if d.devFaulted f then d
  else
    let d := (d.recordDeviceFault f).degradeEvent f.code
    if f = .commonFlash ∨ f = .commonTime then d.putBit 0x1300 8 3 true else d

/-- A command sent to a port's safe-state unit (R131). -/
def Dev.commandUnit (d : Dev) (p : PortId) (c : SafeCmd) : Dev :=
  d.onPort p fun x => { x with unit := { x.unit with arriving := x.unit.arriving ++ [c] } }

/-- A plain command of a source code (R131). -/
def Dev.command (d : Dev) (p : PortId) (code : Nat) : Dev := d.commandUnit p ⟨code, none, false, false⟩

/-- A port fault raised with its safe-state command. -/
def Dev.trip (d : Dev) (p : PortId) (f : FaultId) (code : Nat) : Dev := (d.recordFault p f).command p code

/-! ### Handoff cells and consumers -/

/-- A write appended to a cell: visible from slot `due` on (R17, R18, R40). -/
def Cell.write {α : Type} (c : Cell α) (due wslot : Nat) (fb : Bool) (v : α) : Cell α :=
  let last := match c.writes.getLast? with
    | some w => w.r.seq
    | none => c.cur.seq
  { c with writes := c.writes ++ [⟨due, ⟨wslot % 2 ^ 32, (last + 1) % 65536, fb, false, v⟩⟩] }

/-- The cell at the start of a slot: the newest write that is due becomes the content (R18, R50). -/
def Cell.atBoundary {α : Type} (c : Cell α) (slot : Nat) : Cell α :=
  { cur := match (c.writes.filter fun w => w.due ≤ slot).getLast? with
      | some w => w.r
      | none => c.cur
    writes := c.writes.filter fun w => slot < w.due }

/-- The cell without the writes that complete in a slot or later: they would become visible after it (R18, R82). -/
def Cell.cutFrom {α : Type} (c : Cell α) (slot : Nat) : Cell α := { c with writes := c.writes.filter fun w => w.due ≤ slot }

/-- The cell at activation (R79). -/
def Cell.activated {α : Type} (v : α) (slot : Nat) : Cell α :=
  { cur := ⟨(slot + 2 ^ 32 - 20001) % 2 ^ 32, 0, false, true, v⟩, writes := [] }

/-- The consumer at activation (R79). -/
def Consumer.activated {α : Type} (c : Consumer α) : Consumer α :=
  { c with lastSeq := 0, wasStale := true, staleRun := 0 }

/-- The age of a cell at a slot count (R19). -/
def CellRec.age {α : Type} (r : CellRec α) (slot : Nat) : Nat := (slot % 2 ^ 32 + 2 ^ 32 - r.wslot) % 2 ^ 32

/-- Whether a consumer judges a cell stale (R19). -/
def Consumer.stale {α : Type} (c : Consumer α) (r : CellRec α) (slot : Nat) : Bool :=
  if r.seq = c.lastSeq ∧ c.wasStale then true else decide (c.maxAge < r.age slot)

/-- The writes a consumer has skipped (R19). -/
def Consumer.skipped {α : Type} (c : Consumer α) (r : CellRec α) : Nat :=
  if r.seq = c.lastSeq then 0 else (r.seq + 2 * 65536 - c.lastSeq - 1) % 65536

/-- The consumer after a read: the value is taken when fresh and held when stale (R19). -/
def Consumer.after {α : Type} (c : Consumer α) (r : CellRec α) (slot : Nat) : Consumer α :=
  if c.stale r slot then { c with lastSeq := r.seq, wasStale := true, staleRun := c.staleRun + 1 }
  else { c with lastSeq := r.seq, wasStale := false, staleRun := 0, held := r.val }

/-- The counters of R80 after a read of consumer c of a port: skipped writes when fresh, one stale event when
stale. -/
def Dev.countRead (d : Dev) (p : PortId) (c : Nat) (stale : Bool) (skipped : Nat) : Dev :=
  if stale then d.inc (0x2650 + p.num) (0x10 + c) else d.incBy (0x2650 + p.num) c skipped

/-- A trip rule that acts: FLT_HANDOFF_STALE and the command of source 9 (R78). -/
def Dev.tripIf (d : Dev) (p : PortId) (b : Bool) : Dev := if b then d.trip p .handoffStale 9 else d

/-- The slot that contains the tick in which a write issued at offset `o` of an instance that starts at tick t
completes (R39): slots after the present one. -/
def writeSlots (t o : Nat) : Nat := (t + o + 4) / 200

/-- The slot, counted from the present one, that contains the last tick of an instance (R472). -/
def lastSlots (t cycles : Nat) : Nat := (t + cycles - 1) / 200

/-- A fault of those that kernels raise with a command, by its ID (R96, R244, R475). -/
def Dev.recordCode (d : Dev) (p : PortId) (code : Nat) : Dev :=
  if code = FaultId.recompute.code then d.recordFault p .recompute
  else if code = FaultId.xwPlaus.code then d.recordFault p .xwPlaus
  else if code = FaultId.csQuality.code then d.recordFault p .csQuality
  else d

/-- A kernel's command, which completes n slots after the present one, with the fault it raises (R39, R472): at once, or
when that slot has come. -/
def Dev.commandAt (d : Dev) (p : PortId) (n : Nat) (c : SafeCmd) (fault : Nat) : Dev :=
  if n = 0 then (d.recordCode p fault).commandUnit p c
  else d.onPort p fun x =>
    { x with unit := { x.unit with later := x.unit.later ++ [⟨(d.lane p.lane).slots + n, c, fault, false⟩] } }

/-- The kernels' commands whose slot has come reach the unit (R472). -/
def Dev.releaseLate (d : Dev) (p : PortId) : Dev :=
  let s := (d.lane p.lane).slots
  let due := (d.port p).unit.later.filter fun c => c.due ≤ s
  let d := d.onPort p fun x => { x with unit := { x.unit with later := x.unit.later.filter fun c => s < c.due } }
  due.foldl (fun d c => (d.recordCode p c.fault).commandUnit p c.cmd) d

/-! ### Published commands -/

/-- The published entry of an object that waits first. -/
def Dev.pubOf (d : Dev) (idx sub : Nat) : Option Published := d.published.find? fun e => e.key == objKey idx sub

/-- The block without the entry of an object that waits first. -/
def Dev.dropPub (d : Dev) (idx sub : Nat) : Dev :=
  { d with published := d.published.eraseP fun e => e.key == objKey idx sub }

/-! ### Sparse maps -/

/-- The value a map holds for a key. -/
def mapFind {α : Type} (k : Nat) : NatMap α → Option α
  | [] => none
  | (k', v) :: r => if k' = k then some v else mapFind k r

/-- The map without a key. -/
def mapErase {α : Type} (k : Nat) (m : NatMap α) : NatMap α := m.filter fun e => e.1 ≠ k

/-- The map with a key's value entered in ascending order. -/
def mapInsert {α : Type} (k : Nat) (v : α) : NatMap α → NatMap α
  | [] => [(k, v)]
  | (k', v') :: r =>
    if k < k' then (k, v) :: (k', v') :: r
    else if k = k' then (k, v) :: r
    else (k', v') :: mapInsert k v r

/-- A word map's value: zero where no word is listed. -/
def wordGet (m : NatMap Word) (k : Nat) : Word := (mapFind k m).getD 0

/-- A word map after a write: zero words are not listed. -/
def wordSet (m : NatMap Word) (k : Nat) (v : Word) : NatMap Word :=
  if v = 0 then mapErase k m else mapInsert k v m

/-- The canonical form of a word map: word numbers strictly rising, and no zero word listed. -/
def wordsWf : NatMap Word → Bool
  | [] => true
  | (k, v) :: r => (v != 0) && (r.all fun e => k < e.1) && wordsWf r

/-- The words last stored as zero, with a store of v at k: the map of words lists no zero (R436). -/
def markZero (z : NatMap Unit) (k : Nat) (v : Word) : NatMap Unit := if v = 0 then mapInsert k () z else mapErase k z

/-- A word that was stored, zero included; none where nothing was stored (R436). -/
def wordStored (m : NatMap Word) (z : NatMap Unit) (k : Nat) : Option Word :=
  match mapFind k m with
  | some w => some w
  | none => (mapFind k z).map fun _ => 0

/-! ### Resets -/

/-- Flash after a reset: a journal unit whose programming was cut off holds open bytes (R375), and a capture that was being
written or erased is INCOMPLETE (R439). -/
def Flash.cutOff (f : Flash) (torn : Bool) (ix : Nat) : Flash :=
  let f := if torn then { f with
      units := mapInsert f.head ((List.range 64).map fun i => Config.openByte ix i) f.units
      head := (f.head + 1) % 524288 }
    else f
  { f with captures := f.captures.map fun c => if c.state = 1 ∨ c.state = 4 then { c with state := 3, dump := [] } else c }

/-- The spare rows used (R414, R428). -/
def Fuses.spares (f : Fuses) : Nat := f.rows.length

/-- A trace record appended; a full region loses its oldest block of 256 records (R442). -/
def Flash.addTrace (f : Flash) (t : TraceRec) : Flash :=
  let old := if 3840 ≤ f.traces.length then f.traces.drop 256 else f.traces
  { f with traces := old ++ [{ t with number := f.traceNo }], traceNo := (f.traceNo + 1) % 2 ^ 32 }

/-- A word of the array as it reads: from the spare row of its highest redirection entry, or from its own row (R414). -/
def Fuses.word (f : Fuses) (w : Nat) : Word := (f.rows.lookup w).getD (wordGet f.words w)

/-- The spare rows with the newest one of a word at a value (R414). -/
def putRow (w : Nat) (v : Word) : List (Nat × Word) → List (Nat × Word)
  | [] => []
  | e :: r => if e.1 = w then (w, v) :: r else e :: putRow w v r

/-- The row that a word reads from, set to a value (R414). -/
def Fuses.put (f : Fuses) (w : Nat) (v : Word) : Fuses :=
  if (f.rows.lookup w).isSome then { f with rows := putRow w v f.rows } else { f with words := wordSet f.words w v }

/-- The check bits of a privileged word (R413). -/
def Fuses.check (f : Fuses) (w : Nat) : Word := wordGet f.checks w

/-- The array with the check bits of a word's new value set where a pulse of the mask reached them; ordinary words have no check
row (R413, R419). -/
def Fuses.pulseChecks (f : Fuses) (w : Nat) (v mask : Word) : Fuses :=
  if w < 16 then { f with checks := wordSet f.checks w (f.check w ||| ((Config.checkBits v).setWidth 32 &&& mask)) } else f

/-- The array with a privileged word's marker set (R413). -/
def Fuses.close (f : Fuses) (w : Nat) : Fuses :=
  if w < 16 then { f with closed := w :: f.closed.filter fun x => x ≠ w } else f

/-- The fuse array after a reset: a word whose programming was cut off holds some of its data and check bits, and a privileged
word that has them all may have its marker (R413, R421). -/
def Fuses.cutOff (f : Fuses) (op : Option OtpOp) (ix : Nat) : Fuses :=
  let part := fun (w : Nat) (v : Word) =>
    let some' := fun (i n : Nat) => BitVec.ofNat 32 (leNat ((List.range n).map fun k => Config.openByte ix (i + k)))
    let mask := some' 64 4
    let f := (f.put w (f.word w ||| (v &&& mask))).pulseChecks w v (some' 69 1)
    let all := v &&& mask = v ∧ (Config.checkBits v).setWidth 32 &&& some' 69 1 = (Config.checkBits v).setWidth 32
    if all ∧ Config.openByte ix 68 = 1#8 then f.close w else f
  match op with
  | none => f
  | some (.program w v) => part w v
  | some (.lock r) => part (if r = 1 then 3 else if r = 2 then 4 else 511) 0x4C4F434B#32

/-- The settings of 0x2300 taken at the falling edge of CSN (R402), and as start-up ends (log entry 146). -/
def Dev.chainSettings (d : Dev) : Dev :=
  { d with chain := { d.chain with
    enable := d.num 0x2300 1 == 1, pelnak := d.num 0x2300 2 == 1, frameLen := d.nat 0x2300 3, unitLen := d.nat 0x2300 4
    rising := d.num 0x2300 5 == 1, position := d.nat 0x2300 6, rstb := d.num 0x2300 7 == 1 } }

/-- Every safe-state unit coasts, as EXTEST, HIGHZ and CLAMP have it (R462). -/
def Dev.unitsCoast (d : Dev) : Dev :=
  PortId.all.foldl (fun d p => (d.onPort p fun x => { x with mod := { x.mod with offSeen := true } }).pput p 0x22 1 1) d

/-- A reset state with what a reset keeps (R292): flash and fuses, the TAP, which has a reset of its own, the level of LULL_N, and
whether the part has a lane B. The trace records that a freeze held are appended by the reset that ends it (R442, log entry 154).
-/
def Dev.keep (e d : Dev) : Dev :=
  { e with
    freeIx := d.freeIx + 1
    boot := { e.boot with lullLow := d.boot.lullLow, laneB := d.boot.laneB }
    flash :=
      let f := d.flash.cutOff d.wr.running.isSome d.freeIx
      if d.frozen && !d.devFaulted .commonFlash then d.wr.traceQ.foldl Flash.addTrace f else f
    fuses := d.fuses.cutOff d.otp.op d.freeIx
    tap := { d.tap with link := UnitLink.atReset } }

end Sys2Proof.Machine
end

