-- ==== Sys2Proof/Machine/Sensing.lean ====
section
/-! DEFINITION. In-line current sensing: calibrated samples, blanking windows, the window integrator and
the calibration pass (R84 to R97, R100 to R105). -/

namespace Sys2Proof.Machine

/-- The sense gain of a port (R84). -/
def Dev.gain (d : Dev) (p : PortId) : Int := 5 * 2 ^ (d.pnat p 0x30 1)

/-- The current LSB in nA: 1.25 V / (G × R_sh × 8192) (R85). -/
def lsbNa (gainCode shuntUohm : Int) : Int :=
  roundHA (1250000000 * 1000000) (5 * 2 ^ gainCode.toNat * shuntUohm * 8192)

/-- 0x3x30.0C from the gain and the shunt (R85). -/
def Dev.putLsb (d : Dev) (p : PortId) : Dev := d.pput p 0x30 0xC (lsbNa (d.pnum p 0x30 1) (d.pnum p 0x30 2))

/-- The offset of a channel in use: 0 until a pass has been valid (R104). -/
def Dev.calOffset (d : Dev) (p : PortId) : Chan → Int
  | .u => d.pnum p 0x32 2
  | .v => d.pnum p 0x32 3

/-- The gain factor of a channel in use, 32 768 for 1.0. -/
def Dev.calGain (d : Dev) (p : PortId) : Chan → Int
  | .u => d.pnum p 0x32 4
  | .v => d.pnum p 0x32 5

/-- A calibrated sample with 20 fractional bits: (code − 8192 − offset) × factor (R100). It is integrated so, neither rounded nor
saturated to an S14 code (R85; DESIGN CHOICE, log entry 158). -/
def calibrated (code offset factor : Int) : Int := (code - 8192 - offset) * factor * 32

/-- A channel's offset and gain among a port's factors. -/
def Factors.chan (f : Factors) : Chan → Int × Int
  | .u => (f.offU, f.gainU)
  | .v => (f.offV, f.gainV)

/-- A code of the running period corrected (R100, R101): with the factors of 0x3x32 from the instant on at which they were
published, before it with the former ones. -/
def Dev.corrected (d : Dev) (p : PortId) (c : Chan) (tag code : Int) : Int :=
  let x := d.port p
  if tag < ((x.fe.changed : Int) - x.mod.startSlot) * 100 then
    calibrated code (x.fe.former.chan c).1 (x.fe.former.chan c).2
  else calibrated code (d.calOffset p c) (d.calGain p c)

/-- The tail of a blanking window in steps of 1.25 ns. -/
def tailSteps (ns : Int) : Int := ns * 4 / 5

/-- Whether a transition's window with a tail holds an instant, both in steps (R89). -/
def inWindow (tail : Int) (x : Int) (t : Trans) : Bool := t.toff - 80 ≤ x && x ≤ t.ton + tail

/-- Whether an instant, `tag` CLK_P cycles after the running period's start, is windowed for a channel, given the
transitions of the period and of the one before (R89, R101). -/
def windowed (tr prev : Tri (List Trans)) (tail cross : Int) (reconnect : Option Int) (c : Chan) (tag : Int) : Bool :=
  let x := tag * 4
  let own := tr.get c.phase ++ prev.get c.phase
  own.any (inWindow (tailSteps tail) x) ||
  (cross ≠ 0 && (c.others.any fun o => (tr.get o ++ prev.get o).any (inWindow (tailSteps cross) x))) ||
  (match reconnect with
    | some r => r ≤ tag && tag ≤ r + 400
    | none => false)

/-- The instant of the inputs' reconnection on the running period's axis, in CLK_P cycles (R101). -/
def Port.reconnectTag (x : Port) : Option Int :=
  x.fe.reconnect.map fun t => (t : Int) - x.mod.startSlot * 100

/-- Whether an instant of the running period is windowed for a channel of a port. `next` are the transitions of the period after
it, on its axis, as far as they are placed: at the period's end the boundary changes of R109 are, whose windows begin 100 ns
before it. -/
def Dev.winAt (d : Dev) (p : PortId) (next : Tri (List Trans)) (c : Chan) (tag : Int) : Bool :=
  let x := d.port p
  let prev := x.mod.prevTrans
  windowed x.mod.trans ⟨prev.u ++ next.u, prev.v ++ next.v, prev.w ++ next.w⟩ (d.pnum p 0x30 3) (d.pnum p 0x30 4)
    x.reconnectTag c tag

/-! ### The window integrator -/

/-- The integrator of one channel inside a period: accumulator with 21 fractional bits, valid count, longest
gap, present run, last valid sample and its tag (R91). -/
structure Integ where
  acc : Int
  valid : Nat
  gap : Nat
  run : Nat
  px : Int
  pt : Int
deriving DecidableEq, Repr

/-- One sample instant (R91): t its tag, x its calibrated value, excised or valid. -/
def Integ.sample (g : Integ) (t x : Int) (excised : Bool) : Integ :=
  if excised then { g with run := g.run + 1, gap := max g.gap (g.run + 1) }
  else
    let add := if 0 ≤ g.pt then (t - g.pt) * (g.px + x)
      else t * (g.px + narrow ((x - g.px) * (-g.pt)) (t - g.pt) + x)
    { acc := g.acc + add, valid := g.valid + 1, gap := g.gap, run := 0, px := x, pt := t }

/-- The period average as an S14 code: the last value held to the end, the integral divided by the length
(R91). len is the period in CLK_P cycles. -/
def Integ.average (g : Integ) (len : Int) : Int :=
  satS 14 (roundHA (g.acc + 2 * g.px * (len - max g.pt 0)) (len * 2 * 2 ^ 20))

/-- The tag of the n-th sample instant of a period that starts on an even or odd slot boundary (R88). -/
def sampleTag (startSlot n : Nat) : Int := (if startSlot % 2 = 0 then 0 else 20) + 40 * n

/-- One channel of one period, through every sample instant in order; cal corrects the code of an instant. -/
def integrate (win : Int → Bool) (cal : Int → Int → Int) (startSlot : Nat) (pick : CurSample → Nat × Bool) :
    Nat → List CurSample → Integ → Integ
  | _, [], g => g
  | n, s :: r, g =>
    let t := sampleTag startSlot n
    integrate win cal startSlot pick (n + 1) r (g.sample t (cal t (pick s).1) (win t || (pick s).2))

/-- The channel's code and over-range flag in a sample. -/
def chanPick : Chan → CurSample → Nat × Bool
  | .u, s => (s.u, s.uOvr)
  | .v, s => (s.v, s.vOvr)

/-- The channel's integrator between periods. -/
def FrontEnd.chan (f : FrontEnd) : Chan → ChanInt
  | .u => f.u | .v => f.v

/-- A channel's integrator after the samples of the ending period (R91, R92). -/
def Dev.channel (d : Dev) (p : PortId) (next : Tri (List Trans)) (c : Chan) (ss : List CurSample) : Integ :=
  let x := d.port p
  let g0 : Integ := ⟨0, 0, 0, 0, (x.fe.chan c).px, (x.fe.chan c).pt⟩
  integrate (d.winAt p next c) (d.corrected p c) x.mod.startSlot (chanPick c) 0 ss g0

/-- The value of the current cell for the ending period of k slots: zeros with full gaps during a calibration
pass (R91, R92, R100). In the period in which a pass has ended the samples taken before its end count as any others (DESIGN CHOICE,
log entry 159). -/
def Dev.currentValue (d : Dev) (p : PortId) (next : Tri (List Trans)) (k : Nat) (ss : List CurSample) : CurVal :=
  let u := d.channel p next .u ss
  let v := d.channel p next .v ss
  if (d.port p).fe.pass.isSome then ⟨0, 0, 0, ss.length, 0, ss.length⟩
  else ⟨u.average (k * 100), v.average (k * 100), u.valid, u.gap, v.valid, v.gap⟩

/-- Whether a channel's period is POOR (R94). -/
def Dev.poor (d : Dev) (p : PortId) (valid gap : Nat) : Bool :=
  decide (valid < d.pnat p 0x30 5) || decide (d.pnat p 0x30 6 < gap)

/-- The counters of a finished period: OVR samples and POOR periods per channel (R90, R97). -/
def Dev.countPeriod (d : Dev) (p : PortId) (ss : List CurSample) (v : CurVal) : Dev :=
  let d := d.incBy (pidx p 0x33) 1 (ss.filter fun s => s.uOvr).length
  let d := d.incBy (pidx p 0x33) 2 (ss.filter fun s => s.vOvr).length
  let d := if d.poor p v.uValid v.uGap then d.pinc p 0x33 3 else d
  if d.poor p v.vValid v.vGap then d.pinc p 0x33 4 else d

/-- The integrators carried into the next period: the last valid sample on the new axis (R91); a calibration pass has no
valid sample. -/
def Dev.carryChannels (d : Dev) (p : PortId) (next : Tri (List Trans)) (k : Nat) (ss : List CurSample) : FrontEnd :=
  let f := (d.port p).fe
  if f.pass.isSome then { f with u := ⟨f.u.px, f.u.pt - k * 100⟩, v := ⟨f.v.px, f.v.pt - k * 100⟩ }
  else
    let u := d.channel p next .u ss
    let v := d.channel p next .v ss
    { f with u := ⟨u.px, u.pt - k * 100⟩, v := ⟨v.px, v.pt - k * 100⟩ }

/-- How many sample instants a period of k slots holds (R88). -/
def instants (startSlot k : Nat) : Nat := if startSlot % 2 = 0 then (5 * k + 1) / 2 else (5 * k) / 2

/-! ### Sensing quality -/

/-- BOTH_POOR_LIMIT (R96, R472): the count of both-poor frames has reached 0x3x30.07. K_IIN's command counts in the slot of its
instance's last tick. The count starts again with the fault, so one run of poor frames raises it once. -/
def bothPoorLimitStep (p : PortId) (d : Dev) : Dev :=
  let st := (d.port p).e0.st
  if d.pnat p 0x30 7 ≤ st.bothPoor then
    (d.onPort p fun x => { x with e0 := { x.e0 with st := { x.e0.st with bothPoor := 0 } } }).commandAt p
      (st.qualSlot - d.slotOf p) ⟨7, none, false, false⟩ FaultId.csQuality.code
  else d

/-! ### Calibration -/

/-- A calibration pass started at the present slot, unless one runs (R100, R102). -/
def Dev.startPass (d : Dev) (p : PortId) : Dev :=
  if (d.port p).fe.pass.isSome then d.onPort p fun x => { x with fe := { x.fe with calDue := false } }
  else
    let s := d.slotOf p
    (d.onPort p fun x => { x with fe := { x.fe with pass := some ⟨s, d.pnat p 0x32 1⟩, calDue := false, lastStart := s } }).pput p
      0x32 1 1

/-- A pass abandoned because the port leaves ARMED (R103): the factors stay, the inputs are reconnected, the
abandonment is counted and the status reads as before the pass (log entry 30). -/
def Dev.abandonPass (d : Dev) (p : PortId) : Dev :=
  match (d.port p).fe.pass with
  | some q =>
    let s := d.slotOf p
    let d := d.onPort p fun x => { x with fe := { x.fe with pass := none, reconnect := some (s * 100) } }
    (d.pput p 0x32 1 q.before).pinc p 0x33 5
  | none => d

/-- CALIBRATION_INTERVAL (R102): in ARMED, the interval 0x3x30.0B after the start of the previous pass starts a
new one. -/
def calibrationIntervalStep (p : PortId) (d : Dev) : Dev :=
  let ms := d.pnat p 0x30 0xB
  if d.pstate p == .armed && ms ≠ 0 && (d.port p).fe.lastStart + ms * 2000 ≤ d.slotOf p && (d.port p).fe.pass.isNone
  then d.startPass p else d

/-- The offset of a channel: the average of 2048 codes minus 8192, a whole number of codes (R100). -/
def calOffsetOf (sum : Nat) : Int := roundHA (sum - 8192 * 2048) 2048

/-- The gain factor of a channel: 2 × 6553.6 / (c+ − c−) with 32 768 for 1.0, from sums of 1024 codes (R100). -/
def calGainOf (pos neg : Nat) : Int := roundHA (131072 * 32768 * 1024) (10 * ((pos : Int) - neg))

/-- Whether a pass is within its limits (R100). -/
def calOk (off gain : Int) : Bool := -200 ≤ off && off ≤ 200 && 31785 ≤ gain && gain ≤ 33751

/-- CS_CALIBRATION_END (R100, R101, R104): the factors are published at this boundary, or FLT_CS_CAL is raised and the former
factors stay; the inputs were reconnected 979.2 µs after the start. -/
def csCalibrationEndStep (p : PortId) (c : CalSums) (d : Dev) : Dev :=
  match (d.port p).fe.pass with
  | none => d
  | some q =>
    let s := d.slotOf p
    let back := q.start * 100 + 195840
    let ou := calOffsetOf c.offU
    let ov := calOffsetOf c.offV
    let gu := calGainOf c.posU c.negU
    let gv := calGainOf c.posV c.negV
    if calOk ou gu && calOk ov gv then
      let old : Factors := ⟨d.calOffset p .u, d.calOffset p .v, d.calGain p .u, d.calGain p .v⟩
      let d := d.onPort p fun x => { x with fe := { x.fe with
        pass := none, reconnect := some back, everValid := true, changed := s, former := old } }
      let at' := d.stampNow
      ((((((d.pput p 0x32 1 2).pput p 0x32 2 ou).pput p 0x32 3 ov).pput p 0x32 4 gu).pput p 0x32 5 gv).pput p 0x32 6
        at').stamped
    else
      let d := d.onPort p fun x => { x with fe := { x.fe with pass := none, reconnect := some back } }
      ((d.pput p 0x32 1 (if (d.port p).fe.everValid then 3 else 0)).recordFault p .csCal).pinc p 0x33 6

/-- BOTH_POOR_LIMIT. -/
def execBothPoorLimit (p : PortId) (s : State) : Host.Outcome State Fault Refusal :=
  .next (s.awake (bothPoorLimitStep p))

/-- CALIBRATION_INTERVAL. -/
def execCalibrationInterval (p : PortId) (s : State) : Host.Outcome State Fault Refusal :=
  .next (s.awake (calibrationIntervalStep p))

/-- CS_CALIBRATION_END. -/
def execCsCalibrationEnd (p : PortId) (sums : CalSums) (s : State) : Host.Outcome State Fault Refusal :=
  .next (s.awake (csCalibrationEndStep p sums))

end Sys2Proof.Machine
end

