-- ==== Sys2Proof/Machine/General.lean ====
section
/-! DEFINITION. General converters: conversions, sequences, injected requests and calibration (R257 to R272). -/

namespace Sys2Proof.Machine

/-- The index of a converter's objects (R272). -/
def gcIdx (g : GcId) (blk : Nat) : Nat := 0x2200 + 16 * g.num + blk

/-- Whether a converter can convert: its lane is clocked and not lost (R266). -/
def Dev.gcRuns (d : Dev) (g : GcId) : Bool := d.clocked g.lane && !d.laneLost g.lane

/-- The converters in order. -/
def GcId.all : List GcId := [.g0, .g1, .g2, .g3]

/-- A converter's state changed by f. -/
def Dev.onGc (d : Dev) (g : GcId) (f : Gc → Gc) : Dev := { d with gcs := d.gcs.set g (f (d.gcs.get g)) }

/-- The sampling time of an entry word in CLK_A cycles of 10 ns (R260). -/
def gcSampleCycles (word : Nat) : Nat := [4, 8, 16, 32, 64, 100, 160, 256].getD (field word 14 12) 4

/-- Whether an entry word's input is divided, or a temperature point (R257). -/
def gcDivided (input : Nat) : Bool := (0x10 ≤ input && input ≤ 0x18) || (0x30 ≤ input && input ≤ 0x34)

/-- Whether an entry word's input is a temperature point (R257). -/
def gcTemperature (input : Nat) : Bool := 0x20 ≤ input && input ≤ 0x23

/-- Whether an entry word lies in the encoding of R257 and R260. -/
def gcWordValid (w : Nat) : Bool :=
  let i := w % 256
  w / 32768 == 0 && field w 9 8 == 0 && field w 11 10 != 3 &&
  (i ≤ 7 || gcDivided i || gcTemperature i || i == 0x3E || i == 0x3F)

/-- The sampling-time rule of R262. -/
def gcWordSettles (w : Nat) : Bool :=
  !(gcDivided (w % 256) && field w 14 12 < 3) && !(gcTemperature (w % 256) && field w 14 12 < 4)

/-- The gain selector of an entry word: 0 gain 1, 1 gain 2, 2 gain 4 (R260). -/
def gcGain (word : Nat) : Nat := field word 11 10

/-- The conversion phase in CLK_A cycles for an active mode (R261); 16 where an injected conversion held behind a calibration runs
on a converter that is off (DESIGN CHOICE, log entry 175). -/
def gcPhase (mode : Nat) : Nat := if mode = 2 then 196 else 16

/-- The active mode of a converter. -/
def Dev.gcMode (d : Dev) (g : GcId) : Nat := d.nat (gcIdx g 3) 1

/-- The claim number of an entry (R265). -/
def gcClaimNo (g : GcId) (e : Nat) : Nat := 0x100 + 16 * g.num + e

/-- The owners under which a converter may convert an entry: itself or an engine of its lane (R265). -/
def gcOwners (g : GcId) : List Nat := (0x20 + g.num) :: (if g.lane = .a then [0, 1, 2, 3, 4, 5] else [6, 7, 8, 9, 10, 11])

/-- Whether the active image claims an entry for the converter or an engine of its lane (R265). -/
def Dev.gcClaimed (d : Dev) (g : GcId) (e : Nat) : Bool :=
  match d.image with
  | none => false
  | some im => im.claims.any fun c => c.cls == 4 && c.number == gcClaimNo g e && (gcOwners g).contains c.owner

/-- Whether every entry below the requested length is claimed (R266). -/
def Dev.gcAllClaimed (d : Dev) (g : GcId) : Bool :=
  (List.range (d.nat (gcIdx g 0) 2)).all fun e => d.gcClaimed g e

/-- A conversion started at a CLK_A instant. -/
def Dev.gcJob (d : Dev) (g : GcId) (j : GcJob) : Dev := d.onGc g fun c => { c with job := some j }

/-- A pass from entry 0 started at a CLK_A instant: the pass count advances (R263). -/
def Dev.gcStartPass (d : Dev) (g : GcId) (clk : Nat) : Dev :=
  (d.put (gcIdx g 3) 4 ((d.num (gcIdx g 3) 4 + 1) % 4294967296)).gcJob g
    ⟨some 0, ((d.arr (gcIdx g 3) 9).getD 0 0).toNat, false, clk⟩

/-- The requested configuration copied into the active one (R264); RESTART_PENDING and GC_UNCLAIMED are cleared and
RUNNING follows the mode. -/
def Dev.gcCopy (d : Dev) (g : GcId) : Dev :=
  let m := d.num (gcIdx g 0) 1
  let n := d.nat (gcIdx g 0) 2
  let es := (List.range n).map fun e => d.num (gcIdx g 1) (e + 1)
  (((((d.put (gcIdx g 3) 1 m).put (gcIdx g 3) 2 n).putVal (gcIdx g 3) 9 (.arr es)).putBit (gcIdx g 3) 3 1 false).putBit
    (gcIdx g 3) 3 5 false).putBit (gcIdx g 3) 3 0 (m ≠ 0)

/-- A restart that takes effect at a CLK_A instant: the requested configuration becomes active and a pass starts from
entry 0, or the converter stops (R264). -/
def Dev.gcRestart (d : Dev) (g : GcId) (clk : Nat) : Dev :=
  let d := (d.onGc g fun c => { c with passEnd := none, job := none }).gcCopy g
  if d.gcMode g = 0 then d else d.gcStartPass g clk

/-- A converter that runs no pass: off, with what waits beside the sequence kept (R263, R266). -/
def Dev.gcPause (d : Dev) (g : GcId) : Dev :=
  (((d.onGc g fun c => { c with job := none, passEnd := none }).put (gcIdx g 3) 1 0).putBit (gcIdx g 3) 3 0 false).putBit
    (gcIdx g 3) 3 1 false

/-- A converter stopped in SLEEP and STORAGE, or with its lane: it converts nothing, and nothing waits (R263, R266). -/
def Dev.gcStop (d : Dev) (g : GcId) : Dev :=
  [2, 3, 4].foldl (fun d k => d.putBit (gcIdx g 3) 3 k false)
    ((d.onGc g fun c => { c with inject := none, calReq := false, cal := none }).gcPause g)

/-- The converters of a lane stopped for good (R250, R266). -/
def Dev.gcLost (d : Dev) (l : LaneId) : Dev := (GcId.all.filter fun g => g.lane == l).foldl Dev.gcStop d

/-- A calibration pass started at a CLK_A instant: CALIBRATING set, status RUNNING (R269). -/
def Dev.gcBeginCal (d : Dev) (g : GcId) (clk : Nat) : Dev :=
  (((d.onGc g fun c => { c with job := none, calReq := false, cal := some clk, passEnd := none }).putBit (gcIdx g 3) 3 4
    true).put (gcIdx g 5) 1 1)

/-- The injected request started at a CLK_A instant. -/
def Dev.gcBeginInject (d : Dev) (g : GcId) (i : GcInject) (clk : Nat) : Dev :=
  (d.onGc g fun c => { c with inject := none }).gcJob g ⟨none, i.word, i.deferred, clk⟩

/-- The voltage of an entry word's input in µV (R257, R258): a temperature point in m°C gives 0.750 V at 25 °C and 2.00 mV/°C;
the internal reference and ground give theirs whatever lies outside. -/
def gcInputUv (word : Nat) (level : Int) : Int :=
  let i := word % 256
  if i = 0x3E then 1500000 else if i = 0x3F then 0
  else if gcTemperature i then 750000 + 2 * (level - 25000)
  else level

/-- The sampled voltage over the span in parts of 80 × 3.000 V: behind the divider of ratio 3/80 where there is one, at the
word's gain (R258). -/
def gcScaled (word : Nat) (level : Int) : Int :=
  gcInputUv word level * (if gcDivided (word % 256) then 3 else 80) * 2 ^ gcGain word

/-- Whether the input lay above the span or below 0 V at the sample instant, and which: OVR (R259). -/
def gcBeyond (word : Nat) (level : Int) : Option Bool :=
  let v := gcScaled word level
  if 80 * 3000000 < v then some true else if v < 0 then some false else none

/-- The raw code: V × G × 16384 / 3.000 V, with the converter's own deviation in codes (R258, log entry 138). -/
def gcRaw (word : Nat) (x : GcSample) : Int :=
  clampI 0 16383 (gcScaled word x.level * 16384 / (80 * 3000000) + x.err)

/-- The calibrated code (R258, R259, R269): with OVR the end of the span. -/
def Dev.gcCode (d : Dev) (g : GcId) (word : Nat) (x : GcSample) : Nat :=
  match gcBeyond word x.level with
  | some true => 16383
  | some false => 0
  | none =>
    let off := d.num (gcIdx g 5) (2 + gcGain word)
    let fac := d.num (gcIdx g 5) (5 + gcGain word)
    (clampI 0 16383 (roundHA (512 * 32768 + (gcRaw word x - 512 - off) * fac) 32768)).toNat

/-- A result record (R267). -/
def gcRecordOf (clk : Nat) (ovr deferred : Bool) (pass code : Nat) : Nat :=
  (clk / 50 % 2 ^ 32) * 2 ^ 32 + clk % 50 * 2 ^ 26 + b2n ovr * 2 ^ 25 + b2n deferred * 2 ^ 24 + pass % 256 * 2 ^ 16 + code

/-- What a converter does at the instant a conversion is ready: held for an image it stops; otherwise an injected request comes
first, then a calibration pass that waits, then the next entry or the next pass; a pass that ends with a restart pending waits
for it (R263, R264, R266, R268, R269). `next` is the entry that follows. -/
def Dev.gcNext (d : Dev) (g : GcId) (next clk : Nat) : Dev :=
  let c := d.gcs.get g
  if c.held then d.gcPause g
  else
    match c.inject, c.calReq with
    | some i, false => d.gcBeginInject g i clk
    | some i, true => if i.deferred then d.gcBeginCal g clk else d.gcBeginInject g i clk
    | none, true => d.gcBeginCal g clk
    | none, false =>
      if d.gcMode g = 0 then (if d.bit (gcIdx g 3) 3 1 then d.gcRestart g clk else d.gcPause g)
      else if next < d.nat (gcIdx g 3) 2 then
        d.gcJob g ⟨some next, ((d.arr (gcIdx g 3) 9).getD next 0).toNat, false, clk⟩
      else if d.bit (gcIdx g 3) 3 1 then d.onGc g fun c => { c with passEnd := some clk }
      else d.gcStartPass g clk

/-- A converter started at a CLK_A instant, behind a calibration pass or at hyperframe index 0: an injected conversion and a
calibration that wait go first, then a pass from entry 0 with the requested configuration. With an unclaimed entry below the
length it stays off with GC_UNCLAIMED (R266, R269, R270, log entry 24). -/
def Dev.gcStart (d : Dev) (g : GcId) (clk : Nat) : Dev :=
  let d := if d.gcAllClaimed g then d.gcCopy g else (d.gcPause g).putBit (gcIdx g 3) 3 5 true
  let c := d.gcs.get g
  match c.inject with
  | some i => (d.onGc g fun c => { c with resume := 16 }).gcBeginInject g i clk
  | none => if c.calReq then d.gcBeginCal g clk else if d.gcMode g = 0 then d else d.gcStartPass g clk

/-- GC_CONVERSION_COMPLETE (R258 to R261, R263, R267 to R270): the conversion in progress is ready; its record becomes
visible at the next slot, and the next conversion starts at the same instant. The record of an injected conversion that runs
between a pass abandoned for a calibration and the next one carries the count of the abandoned pass (DESIGN CHOICE, log entry
176). -/
def gcConversionCompleteStep (g : GcId) (x : GcSample) (d : Dev) : Dev :=
  let c := d.gcs.get g
  match c.job with
  | none => d
  | some j =>
    let smp := j.start + gcSampleCycles j.word
    let ready := smp + gcPhase (d.gcMode g)
    if d.gcRuns g && ready / 50 ≤ (d.lane g.lane).slots then
      let r := gcRecordOf smp (gcBeyond j.word x.level).isSome j.deferred (d.nat (gcIdx g 3) 4) (d.gcCode g j.word x)
      let sub := match j.entry with
        | some e => e + 1
        | none => 0x11
      let d := d.onGc g fun c => { c with job := none, results := c.results ++ [(sub, r)] }
      match j.entry with
      | some e => (d.onGc g fun c => { c with resume := e + 1 }).gcNext g (e + 1) ready
      | none =>
        let d := ((d.inc (gcIdx g 3) 6).putBit (gcIdx g 3) 3 2 false).putBit (gcIdx g 3) 3 3
          (d.bit (gcIdx g 3) 3 3 && j.deferred)
        d.gcNext g c.resume ready
    else d

/-- RESTART_SEQUENCE (R264, R270): the request waits for the pass's end, takes effect at once on a converter that is off, or
counts an overrun. An injected request or a calibration command of the same boundary is taken before it. -/
def restartSequenceStep (g : GcId) (d : Dev) : Dev :=
  match d.pubOf (gcIdx g 2) 1 with
  | none => d
  | some _ =>
    if (d.pubOf (gcIdx g 2) 2).isSome || (d.pubOf (gcIdx g 2) 3).isSome then d
    else
    let d := d.dropPub (gcIdx g 2) 1
    let c := d.gcs.get g
    (if d.bit (gcIdx g 3) 3 1 then d.inc (gcIdx g 3) 5
    else if d.gcMode g = 0 && c.job.isNone && c.cal.isNone && !c.calReq && !c.held && d.gcRuns g then
      d.gcRestart g ((d.lane g.lane).clk 0)
    else d.putBit (gcIdx g 3) 3 1 true).showAt g.lane

/-- GC_RESTART_TAKES_EFFECT (R264): at the end of the pass. -/
def gcRestartTakesEffectStep (g : GcId) (d : Dev) : Dev :=
  match (d.gcs.get g).passEnd with
  | none => d
  | some clk => if d.gcRuns g && d.bit (gcIdx g 3) 3 1 then d.gcRestart g clk else d

/-- Whether an injected request is taken at its publication: none other is pending, the converter runs, the image claims one of
its entries for it, and the word meets R262 (R268). One accepted whose conditions do not hold at its publication, as the second
of a slot, is dropped (DESIGN CHOICE, log entry 178). -/
def Dev.gcInjects (d : Dev) (g : GcId) (w : Nat) : Bool :=
  !d.bit (gcIdx g 3) 3 2 && d.gcMode g != 0 && gcWordValid w && gcWordSettles w &&
  (List.range 16).any fun e => d.claims 4 (gcClaimNo g e) [0x20 + g.num]

/-- INJECTED_REQUEST (R268, R270): one conversion after the one in progress, or held behind a calibration. -/
def injectedRequestStep (g : GcId) (d : Dev) : Dev :=
  match d.pubOf (gcIdx g 2) 2 with
  | none => d
  | some e =>
    let d := d.dropPub (gcIdx g 2) 2
    let c := d.gcs.get g
    let w := e.val.toInt.toNat
    let behind := c.cal.isSome || c.calReq
    if d.gcInjects g w then
      let d := (d.onGc g fun c => { c with inject := some ⟨w, behind⟩ }).putBit (gcIdx g 3) 3 2 true
      (if behind then (d.putBit (gcIdx g 3) 3 3 true).inc (gcIdx g 3) 7
      else if c.job.isNone && c.passEnd.isNone && !c.held then d.gcBeginInject g ⟨w, false⟩ ((d.lane g.lane).clk 0)
      else d).showAt g.lane
    else d

/-- GC_START_CALIBRATION (R269, R270): the pass starts once the conversion in progress and a pending injected one have
finished. An injected request of the same boundary is taken before it, and a command published while another waits for its pass is
dropped (DESIGN CHOICE, log entry 177). -/
def gcStartCalibrationStep (g : GcId) (d : Dev) : Dev :=
  match d.pubOf (gcIdx g 2) 3 with
  | none => d
  | some _ =>
    if (d.pubOf (gcIdx g 2) 2).isSome then d
    else
      let d := d.dropPub (gcIdx g 2) 3
      let c := d.gcs.get g
      if c.cal.isSome || c.calReq || !d.gcRuns g then d
      else if c.job.isNone && c.inject.isNone then (d.gcBeginCal g ((d.lane g.lane).clk 0)).showAt g.lane
      else d.onGc g fun c => { c with calReq := true }

/-- Offset of a gain from the sum of 768 conversions at the low reference (R269, log entry 12). -/
def gcOffsetOf (low : Nat) : Int := narrow ((low : Int) - 512 * 768) 768

/-- Factor of a gain (R269, log entry 12). -/
def gcFactorOf (low high : Nat) : Int := narrow (11776 * 32768 * 768) ((high : Int) - low)

/-- Whether offset and factor lie within the limits of R269. -/
def gcFactorsOk (off fac : Int) : Bool := -64 ≤ off && off ≤ 64 && 32113 ≤ fac && fac ≤ 33423

/-- The end of a calibration pass (R269, R271): factors published, or kept on failure. -/
def Dev.gcFinishCal (d : Dev) (g : GcId) (q : GcSums) : Dev :=
  let i := gcIdx g 5
  let o1 := gcOffsetOf q.low1
  let o2 := gcOffsetOf q.low2
  let o4 := gcOffsetOf q.low4
  let f1 := gcFactorOf q.low1 q.high1
  let f2 := gcFactorOf q.low2 q.high2
  let f4 := gcFactorOf q.low4 q.high4
  let d := (d.onGc g fun c => { c with cal := none }).putBit (gcIdx g 3) 3 4 false
  if gcFactorsOk o1 f1 && gcFactorsOk o2 f2 && gcFactorsOk o4 f4 then
    let d := d.onGc g fun c => { c with everValid := true }
    ((((((((d.put i 2 o1).put i 3 o2).put i 4 o4).put i 5 f1).put i 6 f2).put i 7 f4).put i 8 d.stampNow).put i 1 2).stamped
  else (d.put i 1 (if (d.gcs.get g).everValid then 3 else 0)).inc (gcIdx g 3) 8

/-- GC_CALIBRATION_END (R266, R269 to R271): not before 1041.6 µs of the pass; then the deferred injection, and a pass from
entry 0 with the requested configuration unless the converter stays off. Held for an image it stops. -/
def gcCalibrationEndStep (g : GcId) (q : GcSums) (d : Dev) : Dev :=
  match (d.gcs.get g).cal with
  | none => d
  | some t0 =>
    let clk := (d.lane g.lane).clk 0
    if d.gcRuns g && t0 + 104160 ≤ clk then
      let d := d.gcFinishCal g q
      (if (d.gcs.get g).held then d.gcPause g else d.gcStart g clk).showAt g.lane
    else d

/-- GC_CONVERSION_COMPLETE. -/
def execGcConversionComplete (g : GcId) (x : GcSample) (s : State) : Host.Outcome State Fault Refusal :=
  .next (s.awake (gcConversionCompleteStep g x))

/-- RESTART_SEQUENCE. -/
def execRestartSequence (g : GcId) (s : State) : Host.Outcome State Fault Refusal := .next (s.awake (restartSequenceStep g))

/-- GC_RESTART_TAKES_EFFECT. -/
def execGcRestartTakesEffect (g : GcId) (s : State) : Host.Outcome State Fault Refusal :=
  .next (s.awake (gcRestartTakesEffectStep g))

/-- INJECTED_REQUEST. -/
def execInjectedRequest (g : GcId) (s : State) : Host.Outcome State Fault Refusal := .next (s.awake (injectedRequestStep g))

/-- GC_START_CALIBRATION. -/
def execGcStartCalibration (g : GcId) (s : State) : Host.Outcome State Fault Refusal :=
  .next (s.awake (gcStartCalibrationStep g))

/-- GC_CALIBRATION_END. -/
def execGcCalibrationEnd (g : GcId) (sums : GcSums) (s : State) : Host.Outcome State Fault Refusal :=
  .next (s.awake (gcCalibrationEndStep g sums))

end Sys2Proof.Machine
end

