-- ==== Sys2Proof/Machine/Journal.lean ====
section
/-! DEFINITION. Keys, the journal's entries and the writer's queue (R343, R366 to R372, R376 to R379), and the responses
of Pelnak requests (R339, R346, R348, R350). -/

namespace Sys2Proof.Machine

/-! ### Keys -/

/-- The word of a lane's shadow (R412). -/
def Dev.shadowWord (d : Dev) (l : LaneId) (w : Nat) : Word := wordGet (d.otp.shadows.get l).words w

/-- Consecutive shadow words as bytes (R7, R412). -/
def Dev.shadowBytes (d : Dev) (l : LaneId) (w n : Nat) : List Byte :=
  (List.range n).flatMap fun i => toLE 4 (d.shadowWord l (w + i)).toNat

/-- Whether a shadow word was MARGINAL, partial or uncorrectable when it was read (R416). -/
def Dev.shadowWeak (d : Dev) (l : LaneId) (w : Nat) : Bool := (d.otp.shadows.get l).weak.contains w

/-- Whether a lock closes its region: 2 vendor, 3 Integrator key, 4 Custodian key, 511 customer region (R416). -/
def Dev.lockedBy (d : Dev) (l : LaneId) (w : Nat) : Bool :=
  d.shadowWeak l w || d.shadowWord l w != 0 || (d.otp.shadows.get l).closed.contains w

/-- The key of a role, 1 Operator, 2 Integrator, 3 Custodian, in the shadow of a lane; none where the role cannot
authenticate (R343, R416, R424). -/
def Dev.roleKey (d : Dev) (l : LaneId) (role : Nat) : Option (List Byte) :=
  let fuse := fun (first lock : Nat) =>
    if (List.range 5).any fun i => d.shadowWeak l (first + i) then none
    else if d.lockedBy l lock then some (d.shadowBytes l first 4) else some (List.replicate 16 (0 : Byte))
  if role = 1 then some (d.bytes 0x1210 0)
  else if role = 2 then fuse 6 3
  else if role = 3 then fuse 11 4
  else none

/-- The Custodian key that the chain key derives from, zero while it is unlocked or treated as absent (R370, R371). -/
def Dev.chainRoot (d : Dev) : List Byte := (d.roleKey d.clkLane 3).getD (List.replicate 16 0)

/-- The chain key K_J (R370). -/
def Dev.chainKey (d : Dev) : List Byte := cmac d.chainRoot [0x04, 0x4A, 0x52, 0x4E, 0x4C]

/-- Whether the chain key derives from zero: CHAIN_KEY_ZERO (R370, R371). -/
def Dev.chainZero (d : Dev) : Bool := (d.roleKey d.clkLane 3).isNone || !d.lockedBy d.clkLane 4

/-! ### Entries -/

/-- Who a request comes from: role, session and port of arrival (R10, R367). -/
structure Ctx where
  role : Nat
  session : Nat
  origin : Nat
  partner : List Byte
deriving DecidableEq, Repr

/-- The internal origin (R367). -/
def Ctx.internal : Ctx := ⟨0xFF, 0, 6, List.replicate 8 0⟩

/-- The value fields of an entry: flags, lengths, old value, new value (R369). -/
def Dev.entryValues (d : Dev) (key : Nat) (old new : List Byte) : Nat × Nat × List Byte × List Byte :=
  let cls := match objRow (key / 256) (key % 256) with
    | some r => r.cls
    | none => .status
  if cls = .secret then (8, 0, pad8 [], pad8 [])
  else
    let old := if cls = .command then [] else old
    if old.length ≤ 8 ∧ new.length ≤ 8 then (0, 16 * old.length + new.length, pad8 old, pad8 new)
    else
      let k := d.chainKey
      let dig := fun (b : List Byte) => if cls = .command ∧ b = [] then pad8 [] else cmac8 k b
      (4, 16 * (if cls = .command then 0 else 8) + 8, dig old, dig new)

/-- Bytes 0x04 to 0x37 of an entry (R367): time, flags, origin, partner, role, event code, session, object, values, result,
judging slot. -/
def Dev.entryBody (d : Dev) (c : Ctx) (slot event key : Nat) (vals : Nat × Nat × List Byte × List Byte) (res : Nat) :
    List Byte :=
  time80Bytes d.stampNow ++ toLE 1 (d.stampBase + vals.1) ++ toLE 1 c.origin ++ pad8 c.partner ++ toLE 1 c.role ++
  toLE 1 event ++ toLE 2 c.session ++ toLE 2 (key / 256) ++ toLE 1 (key % 256) ++ toLE 1 vals.2.1 ++ vals.2.2.1 ++
  vals.2.2.2 ++ toLE 2 res ++ toLE 4 slot ++ [0, 0]

/-- Whether a job of the queue stays ahead of one that comes in: it reached the writer in another slot, which was an earlier one,
or in the same one from an origin that goes before (R30). Jobs that have not reached it yet are behind all that have. -/
def jobBefore (a b : JournalJob) : Bool := a.reach != b.reach || a.origin ≤ b.origin

/-- A job put at its place in the queue (R30). -/
def insertJob (j : JournalJob) : List JournalJob → List JournalJob
  | [] => [j]
  | k :: r => if jobBefore k j then k :: insertJob j r else j :: k :: r

/-- The value that a change writes. -/
def Change.val (c : Change) : ObjVal :=
  match objRow (c.key / 256) (c.key % 256) with
  | some r => decodeVal r.type c.raw
  | none => .num 0

/-- A job's change as those behind it count it (R365). -/
def JournalJob.counts (j : JournalJob) : List Ahead := (j.change.map fun c => (⟨j.id, c.key, c.val⟩ : Ahead)).toList

/-- The queue with the changes ahead of each of its jobs as its order gives them: those of `ids` count from the queue alone, `acc`
being the ones before its first job. A job judged with others is judged again (R30, R365). -/
def recount (ids : List Nat) : List Ahead → List JournalJob → List JournalJob
  | _, [] => []
  | acc, j :: r =>
    let a := if j.write.isSome then (j.ahead.filter fun e => !ids.contains e.job) ++ acc else []
    { j with ahead := a, rejudge := j.rejudge || a != j.ahead } :: recount ids (acc ++ j.counts) r

/-- Whether the writer's queue has room (R373). -/
def Dev.queueRoom (d : Dev) : Bool := d.wr.queue.length < 64

/-- The queue settled after it has taken or lost jobs; `gone` are those that have dropped out of the committed state (R365). -/
def Dev.settleQueue (d : Dev) (gone : List Nat) : Dev :=
  { d with wr := { d.wr with queue := recount (gone ++ d.wr.queue.map fun j => j.id) [] d.wr.queue } }

/-- What a judgement in the present slot finds (R365). -/
def Dev.seen (d : Dev) (vpp : Nat) : Seen :=
  ⟨d.objs, d.ports, d.lanes, d.image, d.degradeDue, d.gcs, d.devFaults, d.boot, d.time, d.net, d.flash, d.fuses, d.otp,
    d.wr.op, d.wr.opDue, d.wr.staged, d.wr.procs, vpp⟩

/-- The block as a judgement found it. -/
def Dev.asSeen (d : Dev) (x : Seen) : Dev :=
  { d with
    objs := x.objs, ports := x.ports, lanes := x.lanes, image := x.image, degradeDue := x.degradeDue, gcs := x.gcs
    devFaults := x.devFaults, boot := x.boot, time := x.time, net := x.net, flash := x.flash, fuses := x.fuses, otp := x.otp
    wr := { d.wr with op := x.op, opDue := x.opDue, staged := x.staged, procs := x.procs } }

/-- A job formed in a service slot of a lane, on its way to the writer's queue, which it reaches at the boundary that closes the
slot (R30, R373). -/
def Dev.formJob (d : Dev) (l : LaneId) (origin : Nat) (body : List Byte) (write : Option (Nat × List Byte))
    (change : Option Change) (reserve : Bool) (ahead : List Ahead) (seen : Option Seen) : Dev :=
  let j : JournalJob :=
    ⟨d.wr.nextJob, body, write, change, l, (d.lane l).slots + 1, none, origin, reserve, ahead, seen, false⟩
  let d := { d with wr := { d.wr with nextJob := d.wr.nextJob + 1, queue := insertJob j d.wr.queue } }
  d.settleQueue []

/-- Whether a job reaches the queue as lanes ls open a slot: its own lane opens the slot after its service slot, or has stopped
(R373, log entry 150). -/
def Dev.jobArrives (d : Dev) (ls : List LaneId) (j : JournalJob) : Bool :=
  j.reach.isNone && ((ls.contains j.lane && decide (j.slot ≤ (d.lane j.lane).slots)) || !(d.lane j.lane).alive)

/-- The jobs that reach the writer's queue as lanes ls open a slot (R30, R373). -/
def Dev.takeJobs (d : Dev) (ls : List LaneId) : Dev :=
  let q := d.wr.queue
  let new := (q.filter fun j => d.jobArrives ls j).map fun j => { j with reach := some d.slotNow }
  if new = [] then d
  else
    let reached := new.foldl (fun q j => insertJob j q) (q.filter fun (j : JournalJob) => j.reach.isSome)
    let rest := q.filter fun j => j.reach.isNone && !d.jobArrives ls j
    { d with wr := { d.wr with queue := reached ++ rest } }.settleQueue []

/-- The lane in whose slot an event is recorded: the one that serves the port of who acts, while it counts slots (R347, R367,
R373). -/
def Dev.eventLane (d : Dev) (c : Ctx) : LaneId :=
  let l := d.serveLane (originOf c.origin)
  if (d.lane l).alive = true ∧ d.laneLost l = false then l else d.clkLane

/-- An event entry for the writer; one that finds the queue full is lost and counted (R344, R372, R373). -/
def Dev.journalEvent (d : Dev) (c : Ctx) (code key : Nat) (new : List Byte) : Dev :=
  let l := d.eventLane c
  let s := (d.lane l).slots
  if d.queueRoom then
    (d.formJob l c.origin (d.entryBody c (s % 2 ^ 32) code key (16, new.length, pad8 [], pad8 new) 0) none none true []
      none).stamped
  else d.inc 0x1200 5

/-! ### The region -/

/-- Units of the journal region (R367). -/
def journalUnits : Nat := 524288

/-- The successor of an entry number (R368). -/
def nextNumber (n : Nat) : Nat := if n = 0xFFFFFFFE then 0 else (n + 1) % 2 ^ 32

/-- Whether a unit is voided: every byte zero (R375). -/
def voidUnit (u : List Byte) : Bool := u.all fun b => b == 0

/-- The programmed units, oldest first: those from the next unit on, then those before it (R367). -/
def Flash.inOrder (f : Flash) : List (Nat × List Byte) :=
  (f.units.filter fun u => f.head ≤ u.1) ++ f.units.filter fun u => u.1 < f.head

/-- The entries held, oldest first: voided units are not part of the chain (R370). -/
def Flash.entries (f : Flash) : List (List Byte) := (f.inOrder.map fun u => u.2).filter fun u => !voidUnit u

/-- An entry's number. -/
def entryNumber (u : List Byte) : Nat := leNat (u.take 4)

/-- An entry's tag. -/
def entryTag (u : List Byte) : List Byte := u.drop 56

/-- The held entry of a number. -/
def Flash.entry (f : Flash) (n : Nat) : Option (List Byte) := f.entries.find? fun u => entryNumber u == n

/-- The distance of an entry number from the oldest held entry, with 0xFFFFFFFF skipped (R368). -/
def Flash.dist (f : Flash) (n : Nat) : Nat := (n + (2 ^ 32 - 1) - f.oldest) % (2 ^ 32 - 1)

/-- Erased units, the reserve included (R376, R380). -/
def Flash.free (f : Flash) : Nat := journalUnits - f.units.length

/-- Whether the erased units outside the reserve are exhausted (R376). -/
def Flash.full (f : Flash) : Bool := f.free ≤ 64

/-- The journal's objects as its region and policy give them (R380). -/
def Dev.journalObjects (d : Dev) : Dev :=
  let f := d.flash
  let d := ((((d.put 0x1300 2 f.number).put 0x1300 3 f.oldest).put 0x1300 4 f.acked).put 0x1300 5 f.free).put 0x1300 6
    f.lost
  let d := ((d.put 0x1300 7 f.voided).putVal 0x1300 9 (.bytes f.anchor)).putBit 0x1300 8 0 f.full
  (d.putBit 0x1300 8 1 (d.num 0x1300 1 == 1)).putBit 0x1300 8 4 (!d.wr.erases.isEmpty)

/-- The next unit programmed with a job's entry: number, body and tag (R367, R370, R373). -/
def Dev.program (d : Dev) (j : JournalJob) : Dev :=
  let f := d.flash
  let pre := toLE 4 f.number ++ j.body
  let tag := cmac8 d.chainKey (f.tag ++ pre)
  { d with flash := { f with
    units := mapInsert f.head (pre ++ tag) f.units
    head := (f.head + 1) % journalUnits
    number := nextNumber f.number
    tag := tag } }.putBit 0x1300 8 2 d.chainZero

/-- The event entries that wait are committed at once, where the writer is free and a unit is erased (R344, R373, R376). -/
def Dev.commitEvents (d : Dev) : Dev :=
  if d.wr.running.isSome || d.devFaulted .commonFlash || d.devFaulted .commonTime then d
  else
    let js := d.wr.queue.filter fun j => j.change.isNone && j.reserve
    { js.foldl (fun d j => if d.flash.free = 0 then d else d.program j) d with wr := { d.wr with queue := [] } }

/-! ### Responses -/

/-- The open session of an ID. -/
def Dev.openSession (d : Dev) (id : Nat) : Option Session := (d.session id).filter fun s => s.isOpen

/-- The session of an ID changed by f. -/
def Dev.onSession (d : Dev) (id : Nat) (f : Session → Session) : Dev :=
  { d with net := { d.net with sessions := d.net.sessions.map fun s => s.map fun x => if x.id = id then f x else x } }

/-- The state of a request port. -/
def Dev.reqPort (d : Dev) (o : Origin) : ReqPort := d.net.ports.get o

/-- A request port changed by f. -/
def Dev.onReqPort (d : Dev) (o : Origin) (f : ReqPort → ReqPort) : Dev :=
  { d with net := { d.net with ports := d.net.ports.set o (f (d.net.ports.get o)) } }

/-- A response PDU without its tag (R339). -/
def pduBytes (typ opcode session seq res delay : Nat) (payload : List Byte) : List Byte :=
  toLE 1 (16 + typ) ++ toLE 1 opcode ++ toLE 2 session ++ toLE 4 seq ++ toLE 2 payload.length ++ toLE 2 res ++
  toLE 4 delay ++ payload

/-- A PDU with its tag under a session key, or without one where it carries no session (R339). -/
def taggedPdu (session : Nat) (key pdu : List Byte) : List Byte := if session = 0 then pdu else pdu ++ cmac8 key pdu

/-- The data lengths of CAN FD frames (R337). -/
def canLengths : List Nat := [0, 1, 2, 3, 4, 5, 6, 7, 8, 12, 16, 20, 24, 32, 48, 64]

/-- The next data length that CAN FD permits (R337). -/
def canLength (n : Nat) : Nat := (canLengths.find? fun l => n ≤ l).getD 0

/-- The data field of a CAN FD frame: the PDU, padded with 0xCC (R337). -/
def canData (pdu : List Byte) : List Byte := pdu ++ List.replicate (canLength pdu.length - pdu.length) 0xCC

/-- The kinds of a frame on N3 (R337) that the device sends: 1 response, 2 stream frame. -/
def Dev.canIdOf (d : Dev) (kind : Nat) (who : List Byte) : Nat :=
  (if kind = 2 then 2 else 3) * 2 ^ 26 + kind * 2 ^ 24 + 0x50 * 2 ^ 16 + leNat (who.take 1) * 2 ^ 8 + d.nat 0x1130 2

/-- A PDU in the frame that carries it to a partner (R335, R337, R355): kind 1 a response, from port 47120 to the source of its
request, kind 2 a stream frame, between the ports 47121. -/
def Dev.framed (d : Dev) (o : Origin) (kind : Nat) (who : List Byte) (back : Return) (pdu : List Byte) : TxFrame :=
  let now := d.serveSlot o
  match o with
  | .n1 | .n2 =>
    ⟨kind == 2, if kind = 2 then .udp back.ip 47121 47121 else .udp back.ip 47120 back.port, who, pdu, now⟩
  | .n3 => ⟨kind == 2, .can (d.canIdOf kind who), who, canData pdu, now⟩
  | .chain | .tap => ⟨kind == 2, .units, who, pdu, now⟩

/-- The frames a port's transmit queue holds at most (R350, R407, R463). -/
def txRoom : Origin → Nat
  | .n1 | .n2 | .n3 => 32
  | .chain | .tap => 4

/-- A frame queued for transmission: a stream frame goes ahead of responses (R350). One that finds the queue full is
dropped. -/
def Dev.transmit (d : Dev) (o : Origin) (f : TxFrame) : Dev :=
  d.onReqPort o fun x =>
    if txRoom o ≤ x.tx.length then x
    else { x with
      tx := if f.stream then (x.tx.filter fun g => g.stream) ++ f :: x.tx.filter fun g => !g.stream else x.tx ++ [f] }

/-- A delay in slots as whole µs at 0.5 µs per slot (R348). -/
def delayUs (slots : Nat) : Nat := (narrow slots 2).toNat

/-- The response to a request: queued on its port, and kept among the session's last four (R339, R346, R348, R350). A
success after a delay is OK_DELAYED. -/
def Dev.respond (d : Dev) (r : Reply) (res : Res) (payload : List Byte) : Dev :=
  let o := originOf r.origin
  let code := if res = .ok ∧ r.delay ≠ 0 then Res.okDelayed.code else res.code
  let pl := if res = .ok ∨ res = .okDelayed then payload else []
  let pdu := taggedPdu r.session r.key (pduBytes 1 r.opcode r.session r.seq code (delayUs r.delay) pl)
  let d := d.transmit o (d.framed o 1 r.partner r.back pdu)
  if r.session = 0 then d
  else d.onSession r.session fun s => if s.key = r.key then { s with cache := ((r.seq, pdu) :: s.cache).take 4 } else s

/-- The response of a change that is released at its publication, or when its commit is refused (R350, R373). -/
def Dev.release (d : Dev) (c : Change) (res : Res) : Dev :=
  match c.reply with
  | some r => d.respond r res []
  | none => d

/-- The session table shows the number of sessions, reserved ones counted (R344, R357). -/
def Dev.countSessions (d : Dev) : Dev := d.put 0x1200 2 ((d.net.sessions.filter fun s => s.isSome).length : Nat)

/-! ### What requests read -/

/-- The bytes of a fault trace record (R442). -/
def TraceRec.bytes (t : TraceRec) : List Byte :=
  let b := toLE 2 t.fault ++ toLE 1 t.scope ++ toLE 1 t.pstate ++ time80Bytes t.time ++ toLE 1 t.base ++ toLE 1 t.safe ++
    toLE 4 t.slot ++ toLE 4 t.number ++ toLE 2 t.pairReg ++ List.replicate 6 0 ++ t.cells ++ toLE 4 t.diag ++ toLE 4 t.laneStatus
  b ++ List.replicate (252 - b.length) 0 ++ toLE 4 (crc32 (b ++ List.replicate (252 - b.length) 0))

/-- The value of an object as a request sees it (R362), with its session's export base: the value in the store, or what an object
that is kept elsewhere shows. -/
def Shown.value (x : Shown) (base key : Nat) : List Byte :=
  let idx := key / 256
  let sub := key % 256
  if idx = 0x1201 then x.sessions.getD (sub - 1) (List.replicate 16 0)
  else if key = 0x131001 then toLE 4 base
  else if idx = 0x2711 then (match x.captures[sub - 1]? with
    | some c => if c.state = 2 ∨ c.state = 3 then c.dump else []
    | none => [])
  else if idx = 0x2710 then (match x.captures[sub - 1]? with
    | some c => toLE 1 c.state ++ c.info
    | none => [])
  else if key = 0x272000 then x.traces.flatMap TraceRec.bytes
  else match objRow idx sub with
    | some r => encodeVal r.type (x.objs.get key)
    | none => []

/-! ### Sessions and streams that end -/

/-- Who acts in a session; the internal origin where there is none. -/
def Dev.sessionCtx (d : Dev) (id : Nat) : Ctx :=
  match d.session id with
  | some s => ⟨s.role, s.id, s.origin, d.partnerShown s.origin s.partner⟩
  | none => Ctx.internal

/-- An event of a stream for the journal: index 0x116s, sub-index 0x10 (R354, R372). -/
def Dev.streamEvent (d : Dev) (s code : Nat) : Dev :=
  d.journalEvent (d.sessionCtx (d.nat (streamIdx s) 0x11)) code (objKey (streamIdx s) 0x10) []

/-- A stream detached: an event where it was LIVE, and an unattached transmit stream no longer sends (R352, R354). -/
def Dev.detach (d : Dev) (s : Nat) : Dev :=
  if d.num (streamIdx s) 0x11 = 0 then d
  else
    let d := if d.num (streamIdx s) 0x10 = 2 then d.streamEvent s 0x12 else d
    (if d.num (streamIdx s) 0x10 = 4 then d.put (streamIdx s) 0x10 1 else d).put (streamIdx s) 0x11 0

/-- A session taken from the table. -/
def Dev.dropSession (d : Dev) (id : Nat) : Dev :=
  let ss : List (Option Session) := d.net.sessions.map fun s => s.filter fun x => x.id != id
  { d with net := { d.net with sessions := ss } }.countSessions

/-- A session closed with a cause: its streams are detached and its assembly dropped (R341, R344, R352, R372). -/
def Dev.closeSession (d : Dev) (id cause : Nat) : Dev :=
  let c := d.sessionCtx id
  let d := (List.range 16).foldl (fun d s => if d.nat (streamIdx s) 0x11 = id then d.detach s else d) d
  (d.journalEvent c 0x03 0 (toLE 1 cause)).dropSession id

end Sys2Proof.Machine
end

