-- ==== Sys2Proof/Machine/Gains.lean ====
section
/-! DEFINITION. Gains and motor parameters of engine 0 in code form, as the conversion of R146 leaves them in its data
scratchpad. -/

namespace Sys2Proof.Machine

/-- G × R_sh × V_FS: gain, µΩ and 10 mV; 125 × 10⁶ over it is I_LSB / V_LSB (R85, R144). -/
def Dev.grv (d : Dev) (p : PortId) : Int := d.gain p * d.pnum p 0x30 2 * d.pnum p 0x50 1

/-- 2π with 40 fractional bits. -/
def twoPi40 : Int := 6908435304715

/-- The code form of engine 0's gains and motor parameters for the objects and the frame of a port (R146). -/
def Dev.codeGains (d : Dev) (p : PortId) : E0Gains :=
  let g := d.grv p
  let k : Int := d.frame p
  let ld := d.pnum p 0x10 3
  let lq := d.pnum p 0x10 4
  { kpD := ⟨d.pnum p 0x50 2 * 125, g⟩, kiD := ⟨d.pnum p 0x50 3 * k, 16 * g⟩
    kpQ := ⟨d.pnum p 0x50 4 * 125, g⟩, kiQ := ⟨d.pnum p 0x50 5 * k, 16 * g⟩
    rs := ⟨d.pnum p 0x10 2 * 125, g⟩
    ld := ⟨ld * twoPi40 * 250000, 2 ^ 70 * g⟩, lq := ⟨lq * twoPi40 * 250000, 2 ^ 70 * g⟩
    psi := ⟨d.pnum p 0x10 5 * twoPi40 * 1638400 * 65536, 2 ^ 70 * d.pnum p 0x50 1⟩
    stepD := ⟨ld * 125000, k * g⟩, stepQ := ⟨lq * 125000, k * g⟩
    gfw := ⟨d.pnum p 0x50 0xC * k * g * 4, 10 ^ 18⟩ }

/-- Whether a conversion reads an object of a port's cluster (R146): motor parameters, gain and shunt, current-control
settings. -/
def convertsFrom (p : PortId) (idx : Nat) : Bool := [0x10, 0x30, 0x50].any fun b => idx == pidx p b

/-- The conversion (R146): the gains in code form copied into engine 0's data scratchpad. -/
def Dev.convert (d : Dev) (p : PortId) : Dev :=
  let g := d.codeGains p
  d.onPort p fun x => { x with e0 := { x.e0 with gains := g } }

end Sys2Proof.Machine
end

