-- ==== Sys2Proof/Machine/PortState.lean ====
section
/-! DEFINITION. The port state register: which transitions each source may request and what an entry into a state
does (R102, R103, R125, R170, R171, R173, R175, R217, R222, R228). -/

namespace Sys2Proof.Machine

/-- The transitions the safe-state unit writes (R170, R171); one to COAST out of COAST only for a brake escalation or a request
for SHORTED. -/
def unitMay (a b : PortState) (short : Bool) : Bool :=
  match b with
  | .tripped => a ≠ .off && a ≠ .tripped
  | .shorted => a == .align || a == .ramp || a == .closed || a == .coast
  | .coast => a == .align || a == .ramp || a == .closed || a == .shorted || (a == .coast && short)
  | _ => false

/-- The transitions engine 2 requests (R170, R171). -/
def e2May (a b : PortState) : Bool :=
  match a, b with
  | .off, .armed | .armed, .off | .armed, .closed | .armed, .align => true
  | .align, .coast | .ramp, .coast | .closed, .coast => true
  | .coast, .armed | .coast, .off | .coast, .closed => true
  | .tripped, .off => true
  | _, _ => false

/-- The transitions engine 1 requests: among ALIGN, RAMP and CLOSED (R170, R171). -/
def e1May (a b : PortState) : Bool :=
  match a, b with
  | .align, .ramp | .align, .closed | .ramp, .closed => true
  | _, _ => false

/-- The request that prevails among those of the slots before (R170), with whether the table permits it. -/
def PortReg.winner (r : PortReg) (slot : Nat) : Option (StateReq × Bool) :=
  let due := fun (q : Option StateReq) => q.filter fun x => x.slot < slot
  match due r.reqUnit, due r.reqE2, due r.reqE1 with
  | some q, _, _ => some (q, unitMay r.state q.target q.short)
  | none, some q, _ => some (q, e2May r.state q.target)
  | none, none, some q => some (q, e1May r.state q.target)
  | none, none, none => none

/-- The register without the requests of the slots before. -/
def PortReg.cleared (r : PortReg) (slot : Nat) : PortReg :=
  let keep := fun (q : Option StateReq) => q.filter fun x => slot ≤ x.slot
  { r with reqUnit := keep r.reqUnit, reqE2 := keep r.reqE2, reqE1 := keep r.reqE1 }

/-- A transition that engine 2 requests n slots after the present one (R169, R170): a request for COAST is also an engine request
to the safe-state unit. -/
def Dev.requestIn (d : Dev) (p : PortId) (n : Nat) (goal : PortState) (keepArm : Bool) : Dev :=
  let d := d.onPort p fun x => { x with
    reg := { x.reg with reqE2 := some ⟨d.slotOf p + n, goal, keepArm, false⟩ }
    e2 := { x.e2 with mo := { x.e2.mo with view := goal } } }
  if goal = .coast then d.commandAt p n ⟨11, some false, false, keepArm⟩ 0 else d

/-- The speed of the angle cell in Q16 of 0.1 Hz: one 0.1 Hz is 2^30 × 0.1 / 2 000 000 = 53.687 codes (R145, R173). -/
def speedOfCell (w : Int) : Int := narrow (w * 65536 * 2000000 * 10) (2 ^ 30)

/-- The angle-cell speed code of a speed in Q16 of 0.1 Hz, with 16 fractional bits. -/
def cellOfSpeed (v : Int) : Int := narrow (v * 2 ^ 30) 20000000

/-- Whether a port is sensorless (R184). -/
def Dev.sensorless (d : Dev) (p : PortId) : Bool := d.pnum p 0x70 1 == 0

/-- The sign of the start direction. -/
def Start.dir (s : Start) : Int := if s.dirNeg then -1 else 1

/-- Engine 2's motion states at an entry into CLOSED (R171, R173, R176, R222): w_f from the angle cell, the ramp at
the measured speed, the integrator at the handover current for a sensorless port. -/
def Dev.enterClosed (d : Dev) (p : PortId) (src : PortState) : Dev :=
  let x := d.port p
  let wf := speedOfCell x.e2.mo.wCell
  let hand := q16 (d.pnum p 0x80 0xF)
  let sl := d.sensorless p
  let eddy := sl && (src == .armed || src == .coast)
  let xi : Int := if !sl then 0 else if eddy then hand * sgn wf else hand * x.e1.start.dir
  let d := d.onPort p fun x => { x with
    e2 := { x.e2 with mo := { x.e2.mo with
      wf := wf, r := wf, a := 0, x := xi, held := false, revPending := false, startRefused := false,
      revCount := 0, stopCount := 0, stand := false } }
    e1 := { x.e1 with loss := { x.e1.loss with lost := false, conf := 0, bemf := 0, qsat := 0 } } }
  if eddy then
    d.onPort p fun x => { x with e1 := { x.e1 with
      bemf := { x.e1.bemf with pll := x.e1.fly.pll }
      hfi := { x.e1.hfi with
        pll := if d.places p .e1 0x27 then x.e1.fly.pll else x.e1.hfi.pll
        resolved := true }
      loss := { x.e1.loss with eddies := min (x.e1.loss.eddies + 1) 4294967295 } } }
  else d

/-- The start sequence at an entry into ALIGN (R214, R217, R218, R221). -/
def Dev.enterAlign (d : Dev) (p : PortId) : Dev :=
  let s := d.slotOf p
  let inj := d.pnum p 0x80 1 == 1
  d.onPort p fun x => { x with
    e1 := { x.e1 with
      start := { x.e1.start with
        phase := if inj then 4 else 1, attempt := 0, alignSlot := s, phaseSlot := s, handCount := 0, handed := false,
        failed := false, polPos := false }
      hfi := { x.e1.hfi with resolved := false, ambiguous := false, sumP := 0, cntP := 0, sumN := 0, cntN := 0 } }
    e2 := { x.e2 with mo := { x.e2.mo with startRefused := false } } }

/-- The unit releases the gates to the modulator: no safe state applies (R125, R171); under EXTEST, HIGHZ and CLAMP it coasts
on (R462). -/
def Dev.releaseGates (d : Dev) (p : PortId) : Dev :=
  ((d.onPort p fun x => { x with unit := { x.unit with heldOff := [], ascSign := 0, ascQuiet := 0 } }).pput p 0x22 1
    (b2n d.tap.bscan : Nat)).pput p 0x22 2 0

/-- The transitions a modulator has commanded before an instant of its period, in steps; a turn-on not yet commanded
is cancelled (R110). -/
def stoppedTrans (now : Int) (ts : List Trans) : List Trans :=
  (ts.filter fun t => t.toff < now).map fun t => { t with cancelled := t.cancelled || now ≤ t.ton }

/-- Whether a phase's low side is commanded on at an instant of the running period, in steps: after its last transition, or
before its first as that one left it (R108). -/
def lowOnAt (now : Int) (ts : List Trans) (fin : PhaseEnd) : Bool :=
  match (ts.filter fun t => t.toff ≤ now).getLast? with
  | some t => !t.rising && decide (t.ton ≤ now) && !t.cancelled
  | none => match ts with
    | t :: _ => t.rising
    | [] => fin == .low

/-- Whether a low side of the bridge is commanded on at an instant of the running period (R108, R135). -/
def Modulator.lowOn (m : Modulator) (now : Int) : Bool :=
  m.driving && (lowOnAt now (m.prevTrans.u ++ m.trans.u) m.ends.u || lowOnAt now (m.prevTrans.v ++ m.trans.v) m.ends.v ||
    lowOnAt now (m.prevTrans.w ++ m.trans.w) m.ends.w)

/-- A port left ALIGN, RAMP and CLOSED: the modulator commands all six gates off and produces no further transition
(R110). -/
def Dev.stopModulator (d : Dev) (p : PortId) : Dev :=
  let s := d.slotOf p
  d.onPort p fun x =>
    let now : Int := 400 * ((s : Int) - x.mod.startSlot)
    { x with mod := { x.mod with
      trans := ⟨stoppedTrans now x.mod.trans.u, stoppedTrans now x.mod.trans.v, stoppedTrans now x.mod.trans.w⟩
      ends := ⟨.off, .off, .off⟩
      driving := false } }

/-- The catch loop's run of frames begins anew where a port enters ARMED or COAST out of a state in which the loop does not run
(R226); its confidence, filtered error, angle and speed stay until K_FLY_CATCH forms new ones (DESIGN CHOICE, log entry 173). -/
def Dev.forgetCatch (d : Dev) (p : PortId) (src : PortState) : Dev :=
  if src == .armed || src == .coast then d
  else d.onPort p fun x => { x with e1 := { x.e1 with fly := { x.e1.fly with count := 0, caught := false, havePhi := false } } }

/-- What an entry into a state does beside the register itself (R102, R103, R110, R171, R173, R175, R230).
Standstill in COAST is counted from the entry on (DESIGN CHOICE, log entry 161). -/
def Dev.entered (d : Dev) (p : PortId) (src : PortState) (q : StateReq) : Dev :=
  let d := if src == .armed then d.abandonPass p else d
  let d := if src.driving && !q.target.driving then d.stopModulator p else d
  let d := if q.target == .align || q.target == .ramp then d
    else d.onPort p fun x => { x with e1 := { x.e1 with start := { x.e1.start with phase := 0 } } }
  match q.target with
  | .off => d.onPort p fun x => { x with
      e2 := { x.e2 with mo := { x.e2.mo with wf := 0, revPending := false, stand := false } }
      unit := if src == .coast then { x.unit with heldOff := [] } else x.unit }
  | .armed => ((d.forgetCatch p src).releaseGates p).startPass p
  | .align => (d.releaseGates p).enterAlign p
  | .ramp => d
  | .closed => (d.releaseGates p).enterClosed p src
  | .coast => (d.forgetCatch p src).onPort p fun x => { x with
      mod := { x.mod with offSeen := true }
      e2 := { x.e2 with
        mo := { x.e2.mo with wf := speedOfCell x.e2.mo.wCell, stopCount := 0, revCount := 0, stand := false }
        cmd := { x.e2.cmd with rearmed := x.e2.cmd.rearmed && q.keepArm } } }
  | .shorted => d
  | .tripped => d.onPort p fun x => { x with
      e2 := { x.e2 with
        cmd := { x.e2.cmd with rearmed := false }
        mo := { x.e2.mo with revPending := false } } }

/-- A port entering OFF from COAST has its gates released (R171). -/
def Dev.offRelease (d : Dev) (p : PortId) (src : PortState) (dst : PortState) : Dev :=
  if src == .coast && dst == .off then d.releaseGates p else d

/-- PORT_STATE_TRANSITION (R170, R171): the request that prevails takes effect at the start of the slot after it, or
is ignored and counted in 0x3xA0.05 if the table does not permit it; one to the present state leaves it (log entry 147). In STANDBY and CONFIGURE no port leaves OFF, and
the refusal is not counted (R275). -/
def portStateTransitionStep (p : PortId) (d : Dev) : Dev :=
  let r := (d.port p).reg
  let s := d.slotOf p
  match r.winner s with
  | none => d
  | some (q, ok) =>
    let d' := d.onPort p fun x => { x with reg := x.reg.cleared s }
    if r.state == .off && (d.mode == 2 || d.mode == 3) then d'
    else if ok && r.state == q.target then d'
    else if ok then
      let d' := d'.onPort p fun x => { x with reg := { x.reg with state := q.target, entrySlot := s } }
      (d'.entered p r.state q).offRelease p r.state q.target
    else d'.pinc p 0xA0 5

/-- PORT_STATE_TRANSITION. -/
def execPortStateTransition (p : PortId) (s : State) : Host.Outcome State Fault Refusal :=
  .next (s.awake (portStateTransitionStep p))

end Sys2Proof.Machine
end

