-- ==== Sys2Proof/Machine/Power.lean ====
section
/-! DEFINITION. Gate drivers, the safe-state unit, brake choppers, over-voltage and fault clearing (R123 to R143,
R239, R240, R252, R256). -/

namespace Sys2Proof.Machine

/-- A lane's chopper fault is active: OPEN or INEFFECTIVE (R139, R140). -/
def Dev.chopFault (d : Dev) (l : LaneId) : Bool := (d.lane l).chop.faultAt.isSome

/-- Whether a port is a member of its lane's chopper (R138). -/
def Dev.member (d : Dev) (p : PortId) : Bool :=
  d.pnum p 0x20 0x11 == 1 && d.num (chopIdx p.lane) 1 == 1

/-- Order 1 of R133: ASC_INHIBIT, or VGD below 7.0 V. Under EXTEST, HIGHZ and CLAMP every unit applies coast in the same
way (R462). -/
def Dev.order1 (d : Dev) (p : PortId) : Bool := d.pnum p 0x22 3 == 1 || (d.lane p.lane).vgdLow || d.tap.bscan

/-- The choice between coast (1) and ASC (2) for the commands evaluated together: the lowest order of R133 that
applies decides. Of two engine requests that name different states, both of order 5, the one for ASC wins (R225: SHORTED
prevails; only K_ROTOR_LOSS requests SHORTED). -/
def Dev.choose (d : Dev) (p : PortId) (cs : List SafeCmd) : Nat :=
  if d.order1 p then 1
  else if d.pnum p 0x20 9 = 1 then 1
  else if d.pnum p 0x20 9 = 2 then 2
  else if cs.any fun c => c.ov3Chop then 2
  else if cs.any fun c => c.named == some true then 2
  else if cs.any fun c => c.named == some false then 1
  else if d.pnum p 0x22 4 = 1 then 2 else 1

/-- Whether a request for SHORTED meets the coast that an engine request of the same slot named: SHORTED prevails, as if the two
had arrived together (R225). -/
def Dev.shortsLate (d : Dev) (p : PortId) (cs : List SafeCmd) : Bool :=
  (d.port p).unit.coastSlot == some (d.slotOf p) && (cs.any fun c => c.named == some true) && d.choose p cs == 2

/-- The unit's output after the commands: a state already applied changes only under R133's three events, and where SHORTED
prevails over a coast of the same slot (R225). -/
def Dev.nextOut (d : Dev) (p : PortId) (cs : List SafeCmd) : Nat :=
  if d.pstate p == .off then 1
  else if d.safeOut p = 0 then d.choose p cs
  else if d.safeOut p = 2 then (if d.order1 p then 1 else 2)
  else if d.shortsLate p cs || (cs.any fun c => c.ov3Chop) && !d.order1 p && d.pnum p 0x20 9 ≠ 1 then 2
  else 1

/-- The code of the command that brings the state about (R131, R133): that of order 4 or of the engine request that decides;
else the first. -/
def Dev.decidingCode (d : Dev) (p : PortId) (cs : List SafeCmd) : Nat :=
  let first := (cs.head?.map fun c => c.code).getD 0
  if d.pstate p == .off || d.order1 p || d.pnum p 0x20 9 == 1 || d.pnum p 0x20 9 == 2 then first
  else match (cs.find? fun c => c.ov3Chop) <|> (cs.find? fun c => c.named == some true) <|>
      cs.find? fun c => c.named.isSome with
    | some c => c.code
    | none => first

/-- Whether a source code enters TRIPPED (R131). Codes 10 and 11 enter COAST or SHORTED; code 12 is the freeze. -/
def tripsCode (c : Nat) : Bool := c ≠ 10 && c ≠ 11 && c ≠ 12

/-- The port state the commands ask for (R131): TRIPPED for a fault command, otherwise SHORTED or COAST by what the
unit applies; none for a freeze alone and for a port that is OFF. -/
def Dev.askedState (d : Dev) (p : PortId) (cs : List SafeCmd) (out : Nat) : Option PortState :=
  if d.pstate p == .off then none
  else if cs.any fun c => tripsCode c.code then some .tripped
  else if cs.any fun c => c.code == 10 || c.code == 11 then some (if out = 2 then .shorted else .coast)
  else none

/-- The SOLO state of a lane: 1 SOLO_A, 2 SOLO_B (R241). -/
def soloOf (l : LaneId) : Nat := l.num + 1

/-- The objects that show the pair registers: 0x251y.01, 0x251y.14 bit 1, 0x3xB0.07 (R254, R256). -/
def Dev.pairObjects (d : Dev) (p : PortId) : Dev :=
  let y := p.pair
  let a := (d.port (y.portOf .a)).pair
  let b := (d.port (y.portOf .b)).pair
  let d := d.pput p 0xB0 7 (d.pairWord p)
  let d := if d.paired p.sibling then d.pput p.sibling 0xB0 7 (d.pairWord p.sibling) else d
  (d.put (pairIdx y) 1 (4 * a.state + b.state : Nat)).putBit (pairIdx y) 0x14 1 (a.lineIgnored || b.lineIgnored)

/-- The pair state that a port commanded into TRIPPED or SHORTED leaves (R244, R246): in SHARED the partner becomes the
survivor, and with the partner's line asserted or an unresolved verdict of the same slot, both ports being commanded, or as
survivor, the pair is lost. -/
def PairUnit.commanded (u : PairUnit) (l : LaneId) (slot : Nat) : Nat :=
  let both := (u.partnerLine && !u.lineIgnored) || u.writes.any fun w => w.prio == 1 && w.state == 3 && w.slot == slot
  if u.state = 0 then (if both then 3 else soloOf l.other) else if u.state = soloOf l then 3 else u.state

/-- The pair register of a port commanded into TRIPPED or SHORTED (R239, R246): the lane asserts its line, and the state is
written. -/
def Dev.pairCommanded (d : Dev) (p : PortId) : Dev :=
  if d.paired p then
    let u := (d.port p).pair
    let s := d.slotOf p
    let st := u.commanded p.lane s
    (d.onPort p fun x => { x with pair := { x.pair with
      ownLine := true
      writes := if st = u.state then x.pair.writes else x.pair.writes ++ [⟨s, 0, st, false, false⟩] } }).pairObjects p
  else d

/-- Whether the port state asked for makes the lane assert its line (R239). -/
def assertsLine (q : Option PortState) : Bool := q == some .tripped || q == some .shorted

/-- The register with a request of the safe-state unit: a request for TRIPPED that waits is not replaced by another (R131,
R170), and what one request of a slot cancels of the re-arming, no other of that slot keeps (R175, R225). -/
def PortReg.ask (r : PortReg) (q : StateReq) : PortReg :=
  match r.reqUnit with
  | some o =>
    if o.target == .tripped && q.target ≠ .tripped then r
    else { r with reqUnit := some { q with keepArm := q.keepArm && (o.keepArm || o.slot != q.slot) } }
  | none => { r with reqUnit := some q }

/-- SAFE_STATE_COMMAND (R131, R133, R135, R239): the commands that have arrived are evaluated together; the unit applies coast or
ASC, reports it and writes the port state that follows. `step` is their instant in steps of 1.25 ns after the slot's start: where
no low side is on then, ASC begins with all six gates off for a dead time (R135, R206). -/
def safeStateCommandStep (p : PortId) (step : Nat) (d : Dev) : Dev :=
  let x := d.port p
  let cs := x.unit.arriving
  if cs = [] then d
  else
    let out := d.nextOut p cs
    let q := d.askedState p cs out
    let s := d.slotOf p
    let was := d.safeOut p
    let keep := cs.all fun c => c.keepArm
    let short := cs.any fun c => c.ov3Chop || c.named == some true
    let now : Int := 400 * ((s : Int) - x.mod.startSlot) + step
    let dark := out == 2 && was ≠ 2 && (was == 1 || !x.mod.lowOn now)
    let d' := d.onPort p fun x => { x with
      unit := { x.unit with
        arriving := []
        ascSign := if was = 2 then x.unit.ascSign else 0
        ascQuiet := if was = 2 then x.unit.ascQuiet else 0
        coastSlot := if was = 0 ∧ out = 1 ∧ (cs.any fun c => c.named == some false) = true then some s
          else x.unit.coastSlot }
      mod := { x.mod with
        offSeen := x.mod.offSeen || out == 1 || dark
        lowsAt := if dark then now + 8 * ((d.pnum p 0x40 2 + 7) / 8) else x.mod.lowsAt }
      reg := match q with
        | some t => x.reg.ask ⟨s, t, keep, short⟩
        | none => x.reg }
    let d' := if was = out then d' else (d'.pput p 0x22 1 out).pput p 0x22 2 (d.decidingCode p cs)
    let d' := if was = 0 then d'.pinc p 0x22 0xA else d'
    if assertsLine q then d'.pairCommanded p else d'

/-- Order 1 arising in ASC switches the unit to coast at once (R133). -/
def Dev.order1Arises (d : Dev) (p : PortId) : Dev :=
  if d.safeOut p = 2 && d.order1 p then
    (d.onPort p fun x => { x with mod := { x.mod with offSeen := true } }).pput p 0x22 1 1
  else d

/-- One U sample of the ASC release watch (R134): sign against mid-scale with hysteresis h. The first sign after the entry, before
which none is known, is no change (DESIGN CHOICE, log entry 170). -/
def ascSample (h : Int) (u : SafeUnit) (code : Nat) : SafeUnit :=
  let x : Int := (code : Int) - 8192
  let sg : Int := if h < x then 1 else if x < -h then -1 else u.ascSign
  if sg ≠ u.ascSign ∧ u.ascSign ≠ 0 then { u with ascSign := sg, ascQuiet := 0 }
  else { u with ascSign := sg, ascQuiet := u.ascQuiet + 1 }

/-- No sign change for longer than 1 / (2 f_rel): n instants of 200 ns against a release speed in 0.1 Hz (R134). -/
def ascQuietLong (n rel : Nat) : Bool := decide (5000000000 < n * 200 * rel)

/-- The watch through a run of samples, up to the one with which the release interval has elapsed (R134). -/
def ascRun (h : Int) (rel : Nat) : List Nat → SafeUnit → SafeUnit
  | [], u => u
  | c :: r, u =>
    let v := ascSample h u c
    if ascQuietLong v.ascQuiet rel then v else ascRun h rel r v

/-- ASC_RELEASE (R134, R140, R171): the U samples of the front end are watched in ASC; the release switches the unit
to coast, takes SHORTED to COAST and leaves TRIPPED. -/
def ascReleaseStep (p : PortId) (codes : List Nat) (d : Dev) : Dev :=
  if d.safeOut p = 2 then
    let d := d.onPort p fun x => { x with unit := ascRun (d.pnum p 0x20 0xC) (d.pnat p 0x20 0xB) codes x.unit }
    if ascQuietLong (d.port p).unit.ascQuiet (d.pnat p 0x20 0xB) then
      let s := d.slotOf p
      let d := d.onPort p fun x => { x with
        mod := { x.mod with offSeen := true }
        reg := if x.reg.state == .shorted then x.reg.ask ⟨s, .coast, false, false⟩ else x.reg }
      d.pput p 0x22 1 1
    else d
  else d

/-- SAFE_STATE_RELEASE_OFF (R131, R462): an OFF port without an active fault is released; under EXTEST, HIGHZ and CLAMP the unit
coasts on. -/
def safeStateReleaseOffStep (p : PortId) (d : Dev) : Dev :=
  let x := d.port p
  if x.reg.state == .off && d.safeOut p ≠ 0 && x.faults == [] && x.unit.arriving == [] && !d.tap.bscan then d.releaseGates p else d

/-- BOOT_UV_FAULT (R126): pulses of one phase withheld in two consecutive carrier periods. -/
def bootUvFaultStep (p : PortId) (d : Dev) : Dev :=
  let w := (d.port p).unit.bootWithheld
  if 2 ≤ w.u ∨ 2 ≤ w.v ∨ 2 ≤ w.w then
    (d.onPort p fun x => { x with unit := { x.unit with bootWithheld := ⟨0, 0, 0⟩ } }).trip p .gdBootUv 4
  else d

/-- A command of a source to every port of a lane that is not OFF. -/
def Dev.commandLane (d : Dev) (l : LaneId) (code : Nat) : Dev :=
  l.ports.foldl (fun d p => if d.pstate p == .off then d else d.command p code) d

/-- GD_SUPPLY_FAULT (R127, R283, R297): VGD below 9.0 V for 2 µs, cause 6 in 0x280y.08. -/
def gdSupplyFaultStep (l : LaneId) (vgdMv heldNs : Nat) (d : Dev) : Dev :=
  if (d.lane l).alive && vgdMv < 9000 && 2000 ≤ heldNs then
    let d := (d.recordLaneFault l .gdSupply).commandLane l 5
    if d.laneLost l then d else d.put (0x2800 + l.num) 8 6
  else d

/-- VGD_BELOW_7V (R127, R133): every gate of the lane is held off and the units apply coast only. -/
def vgdBelow7vStep (l : LaneId) (vgdMv : Nat) (d : Dev) : Dev :=
  let d := d.onLane l fun x => { x with vgdLow := decide (vgdMv < 7000) }
  l.ports.foldl (fun d p => d.order1Arises p) d

/-- The number of a gate: 0 GHU, 1 GLU, 2 GHV, 3 GLV, 4 GHW, 5 GLW (R142). -/
def gateNum (g : Gate) : Nat := 2 * g.phase.num + (if g.high then 0 else 1)

/-- Whether the driver withholds the high-side pulse that the modulator commands: the bootstrap voltage at its turn-on was below
7.5 V (R126). -/
def pulseWithheld (boot : Option Nat) : Bool := boot.any fun mv => decide (mv < 7500)

/-- Whether a gate can be commanded on: the lane is not lost, the modulator drives, no safe state applies and no pulse of the
phase is withheld, or a low side in ASC; and it is not held off (R110, R126, R128, R133, R284). -/
def Dev.gateOn (d : Dev) (p : PortId) (g : Gate) (boot : Option Nat) : Bool :=
  let x := d.port p
  (!x.unit.heldOff.contains (gateNum g)) && !(d.lane p.lane).vgdLow && !d.tap.bscan && !(d.lane p.lane).clamped &&
  ((x.mod.driving && d.safeOut p == 0 && !x.unit.withheld.get g.phase && !pulseWithheld boot) || (d.safeOut p == 2 && !g.high))

/-- Whether a drain-source voltage is a desaturation (R128): above the threshold for 100 ns after the blanking. -/
def Dev.desaturated (d : Dev) (p : PortId) (vdsMv onNs aboveNs : Nat) : Bool :=
  decide (200 + 120 * d.pnat p 0x20 5 < vdsMv) && decide (500 * (d.pnat p 0x20 6 + 1) + 100 ≤ onNs) &&
  decide (100 ≤ aboveNs)

/-- DESATURATION (R128, R129, R133): the gate is turned off softly and held off, FLT_GD_DESAT is raised; a low side
sets ASC_INHIBIT, which switches ASC to coast. -/
def desaturationStep (p : PortId) (g : Gate) (x : DrainSense) (onNs aboveNs : Nat) (d : Dev) : Dev :=
  if (d.lane p.lane).alive && d.gateOn p g x.bootMv && d.desaturated p x.vdsMv onNs aboveNs then
    let d := d.onPort p fun x => { x with unit := { x.unit with heldOff := x.unit.heldOff ++ [gateNum g] } }
    let d := ((d.trip p .gdDesat 2).pput p 0x22 6 (gateNum g)).pinc p 0x22 5
    if g.high then d else (d.pput p 0x22 3 1).order1Arises p
  else d

/-- Whether a node level is a mismatch with the gate that is on (R130). -/
def nodeMismatch (high : Bool) (l : NodeLevel) : Bool := l ≠ (if high then .high else .low)

/-- Whether a gate that has been on for onNs is at a check point (R130): one feedback window 0x3x20.08 after its turn-on, or at
a slot boundary with at least that window behind it. -/
def Dev.checkPoint (d : Dev) (p : PortId) (onNs : Nat) (boundary : Bool) : Bool :=
  if boundary then decide (d.pnat p 0x20 8 ≤ onNs) else onNs == d.pnat p 0x20 8

/-- PHASE_NODE_CHECK (R130): a check point of a phase with one gate on; the gate-driver protections run on in a freeze (R431). -/
def phaseNodeCheckStep (p : PortId) (x : Phase) (high : Bool) (c : NodeCheck) (d : Dev) : Dev :=
  if (d.lane p.lane).alive && d.gateOn p ⟨x, high⟩ c.bootMv && d.checkPoint p c.onNs c.boundary then
    if nodeMismatch high c.level then
      (d.onPort p fun y => { y with unit := { y.unit with
        nodeMiss := y.unit.nodeMiss.set x ((y.unit.nodeMiss.get x) + 1)
        nodeHighLow := y.unit.nodeHighLow.set x (!high && c.level == .high) } }).pinc p 0x22 7
    else d.onPort p fun y => { y with unit := { y.unit with nodeMiss := y.unit.nodeMiss.set x 0 } }
  else d

/-- A phase whose last two check points were mismatches, the last finding HIGH under an on low side. -/
def SafeUnit.nodeShort (u : SafeUnit) : Bool :=
  (2 ≤ u.nodeMiss.u && u.nodeHighLow.u) || (2 ≤ u.nodeMiss.v && u.nodeHighLow.v) ||
  (2 ≤ u.nodeMiss.w && u.nodeHighLow.w)

/-- GD_FEEDBACK_FAULT (R130): two consecutive mismatches of one phase. -/
def gdFeedbackFaultStep (p : PortId) (d : Dev) : Dev :=
  let u := (d.port p).unit
  if 2 ≤ u.nodeMiss.u ∨ 2 ≤ u.nodeMiss.v ∨ 2 ≤ u.nodeMiss.w then
    let d := d.onPort p fun x => { x with unit := { x.unit with nodeMiss := ⟨0, 0, 0⟩ } }
    let d := d.trip p .gdFeedback 3
    if u.nodeShort then (d.pput p 0x22 3 1).order1Arises p else d
  else d

/-! ### Brake chopper -/

/-- A port's latest bus-voltage sample. -/
def Dev.setBus (d : Dev) (p : PortId) (mv : Nat) : Dev :=
  d.onPort p fun x => { x with unit := { x.unit with busMv := mv } }

/-- The latest samples of a lane's two ports. -/
def Dev.setBusBoth (d : Dev) (l : LaneId) (mv1 mv2 : Nat) : Dev :=
  match l with
  | .a => (d.setBus .m1 mv1).setBus .m2 mv2
  | .b => (d.setBus .m3 mv1).setBus .m4 mv2

/-- The highest latest sample of a lane's member ports (R139). -/
def Dev.memberMax (d : Dev) (l : LaneId) : Nat :=
  (l.ports.filter fun p => d.member p).foldl (fun m p => max m (d.port p).unit.busMv) 0

/-- OV2 of a port in mV. -/
def Dev.ov2Mv (d : Dev) (p : PortId) : Nat := d.pnat p 0x20 0xE * 10

/-- The release level OV2 − 0x3x20.13 in mV (R138). -/
def Dev.ov2Release (d : Dev) (p : PortId) : Nat := d.ov2Mv p - d.pnat p 0x20 0x13 * 10

/-- CHOPPER_ENGAGE (R138): a member port's sample at or above its OV2; at least 10 µs after the last release, and not
while the chopper's fault is active or boundary scan holds the brake gates off (R462). -/
def chopperEngageStep (p : PortId) (t mv : Nat) (d : Dev) : Dev :=
  let l := p.lane
  let T := (d.lane l).tick t
  let c := (d.lane l).chop
  let d := d.setBus p mv
  if (d.lane l).alive && d.member p && d.ov2Mv p ≤ mv && d.num (chopIdx l) 0x10 == 0 && c.faultAt.isNone && !d.tap.bscan &&
      (c.gateTick == 0 || c.gateTick + 4000 ≤ T) then
    let top := d.memberMax l
    let d := d.onLane l fun x => { x with chop := { x.chop with gateTick := T, engagedMv := top } }
    (d.put (chopIdx l) 0x10 1).inc (chopIdx l) 0x12
  else d

/-- The ticks for which a lane's chopper has been engaged, up to tick T (R143). -/
def Dev.engagedTicks (d : Dev) (l : LaneId) (T : Nat) : Nat :=
  let c := (d.lane l).chop
  c.onTicks + (if d.num (chopIdx l) 0x10 == 1 then T - c.gateTick else 0)

/-- The engaged time 0x3x24.13 in ms, brought up to tick T (R143). -/
def Dev.putEngaged (d : Dev) (l : LaneId) (T : Nat) : Dev :=
  d.put (chopIdx l) 0x13 (min (d.engagedTicks l T / 400000) 4294967295 : Nat)

/-- A lane's chopper released at tick T, where it is engaged (R138, R143, R462). -/
def Dev.chopperOff (d : Dev) (l : LaneId) (T : Nat) : Dev :=
  if d.num (chopIdx l) 0x10 == 1 then
    let on := d.engagedTicks l T
    let d := (d.putEngaged l T).onLane l fun x => { x with chop := { x.chop with gateTick := T, onTicks := on } }
    d.put (chopIdx l) 0x10 0
  else d

/-- CHOPPER_RELEASE (R138): every member port below its release level, at least 10 µs after the engagement. -/
def chopperReleaseStep (l : LaneId) (t mv1 mv2 : Nat) (d : Dev) : Dev :=
  let T := (d.lane l).tick t
  let c := (d.lane l).chop
  let d := d.setBusBoth l mv1 mv2
  if (d.lane l).alive && d.num (chopIdx l) 0x10 == 1 && c.gateTick + 4000 ≤ T &&
      (l.ports.all fun p => !d.member p || decide ((d.port p).unit.busMv < d.ov2Release p)) then
    d.chopperOff l T
  else d

/-- A chopper fault with its cause bit; OPEN and INEFFECTIVE make the fault active, and with that the escalation of the
member ports starts (R139, R140). -/
def Dev.chopperFault (d : Dev) (l : LaneId) (T cause : Nat) (active : Bool) : Dev :=
  let first := active && !d.chopFault l
  let d := (d.recordLaneFault l .brkFault).putBit (chopIdx l) 0x11 cause true
  if first then
    let d := d.onLane l fun x => { x with chop := { x.chop with faultAt := some T } }
    (l.ports.filter fun p => d.member p).foldl
      (fun d p => d.onPort p fun x => { x with unit := { x.unit with escalateAt := some T } }) d
  else d

/-- CHOPPER_DRAIN_CHECK (R139): BRKS the drain check time after a gate command: above 2.0 V while on is OPEN, below
2.0 V while off is SHORTED. -/
def chopperDrainCheckStep (l : LaneId) (t brksMv : Nat) (d : Dev) : Dev :=
  let T := (d.lane l).tick t
  let c := (d.lane l).chop
  if (d.lane l).alive && d.num (chopIdx l) 1 == 1 && c.gateTick ≠ 0 &&
      c.gateTick + d.nat (chopIdx l) 2 * 2 / 5 ≤ T then
    if d.num (chopIdx l) 0x10 == 1 && 2000 < brksMv then d.chopperFault l T 0 true
    else if d.num (chopIdx l) 0x10 == 0 && brksMv < 2000 then d.chopperFault l T 2 false
    else d
  else d

/-- CHOPPER_EFFECT_CHECK (R139): 50 µs after an engagement, the bus above its value at the engagement by more than
the rise margin is INEFFECTIVE. -/
def chopperEffectCheckStep (l : LaneId) (t mv1 mv2 : Nat) (d : Dev) : Dev :=
  let T := (d.lane l).tick t
  let c := (d.lane l).chop
  let d := d.setBusBoth l mv1 mv2
  if (d.lane l).alive && d.num (chopIdx l) 0x10 == 1 && c.gateTick + 20000 ≤ T &&
      c.engagedMv + d.nat (chopIdx l) 3 * 10 < d.memberMax l then d.chopperFault l T 1 true
  else d

/-- NONMEMBER_OV2 (R139): a non-member's sample at or above its OV2 sets its bit and starts its escalation. -/
def nonmemberOv2Step (p : PortId) (t mv : Nat) (d : Dev) : Dev :=
  let T := (d.lane p.lane).tick t
  let d := d.setBus p mv
  if (d.lane p.lane).alive && !d.member p && d.ov2Mv p ≤ mv then
    d.onPort p fun x => { x with unit := { x.unit with
      nonMember := true
      ov2Below := none
      escalateAt := if x.unit.nonMember then x.unit.escalateAt else some T } }
  else d

/-- NONMEMBER_OV2_WITHDRAW (R139): the bit is withdrawn once the samples have lain below the release level for the
escalation delay. -/
def nonmemberOv2WithdrawStep (p : PortId) (t mv : Nat) (d : Dev) : Dev :=
  let T := (d.lane p.lane).tick t
  let d := d.setBus p mv
  let u := (d.port p).unit
  if u.nonMember then
    if mv < d.ov2Release p then
      let since := u.ov2Below.getD T
      if since + d.pnat p 0x20 0x12 * 400 ≤ T then
        d.onPort p fun x => { x with unit := { x.unit with nonMember := false, escalateAt := none, ov2Below := none } }
      else d.onPort p fun x => { x with unit := { x.unit with ov2Below := some since } }
    else d.onPort p fun x => { x with unit := { x.unit with ov2Below := none } }
  else d

/-- ESCALATION_DELAY (R140): the delay after the fault was raised or the bit set, a sample still at or above OV2
commands ASC under order 4 (source 10). -/
def escalationDelayStep (p : PortId) (t mv : Nat) (d : Dev) : Dev :=
  let T := (d.lane p.lane).tick t
  let d := d.setBus p mv
  match (d.port p).unit.escalateAt with
  | none => d
  | some t0 =>
    if t0 + d.pnat p 0x20 0x12 * 400 ≤ T && d.ov2Mv p ≤ mv && d.pstate p ≠ .off then
      (d.onPort p fun x => { x with unit := { x.unit with escalateAt := none } }).commandUnit p ⟨10, none, true, false⟩
    else d

/-- BUS_OV3 (R141): DSn above OV3 for 200 ns; with the chopper fault active the command carries order 4. -/
def busOv3Step (p : PortId) (mv aboveNs : Nat) (d : Dev) : Dev :=
  if (d.lane p.lane).alive && d.pnat p 0x20 0xF * 10 < mv && 200 ≤ aboveNs then
    ((d.setBus p mv).recordFault p .busOv3).commandUnit p ⟨6, none, d.chopFault p.lane, false⟩
  else d

/-! ### Standstill and clearing -/

/-- COAST_TIMEOUT (R171, R172): the coast timeout since the entry into COAST counts as standstill. -/
def coastTimeoutStep (p : PortId) (d : Dev) : Dev :=
  let r := (d.port p).reg
  if r.state == .coast && r.entrySlot + d.pnat p 0x60 0xC * 2000 ≤ d.slotOf p then
    d.onPort p fun x => { x with e2 := { x.e2 with mo := { x.e2.mo with stand := true } } }
  else d

/-- STANDSTILL (R171): the filtered speed below the stop speed for 0x3x60.0B consecutive speed frames. -/
def standstillStep (p : PortId) (d : Dev) : Dev :=
  if d.pstate p == .coast && d.pnat p 0x60 0xB ≤ (d.port p).e2.mo.stopCount then
    d.onPort p fun x => { x with e2 := { x.e2 with mo := { x.e2.mo with stand := true } } }
  else d

/-- Whether a consumer's last read found its cell fresh. -/
def Consumers.fresh (c : Consumers) : Bool :=
  !((c.cur0.wasStale && c.cur0.rule == .trip) || (c.cur1.wasStale && c.cur1.rule == .trip) ||
    (c.cur2.wasStale && c.cur2.rule == .trip) || (c.ang0.wasStale && c.ang0.rule == .trip) ||
    (c.ang2.wasStale && c.ang2.rule == .trip) || (c.dutyM.wasStale && c.dutyM.rule == .trip) ||
    (c.bus0.wasStale && c.bus0.rule == .trip) || (c.duty2.wasStale && c.duty2.rule == .trip))

/-- Whether the condition of a class C fault has ended at the clearing slot (R252). -/
def Dev.ended (d : Dev) (p : PortId) (o : ClearObs) (f : Nat) : Bool :=
  let x := d.port p
  if f = 0x0304 then 9000 ≤ o.vgdMv
  else if f = 0x0604 then o.sensOk
  else if f = 0x0306 then o.busMv < d.pnat p 0x20 0xF * 10
  else if f = 0x0401 then x.fb.quad.bucket ≤ d.pnat p 0x70 8
  else if f = 0x0403 then 1 ≤ x.fb.hall.h && x.fb.hall.h ≤ 6
  else if f = 0x0404 then !x.fb.flags.sentStale
  else if f = 0x0104 then x.cons.fresh && !(d.pnum p 0x60 0xE == 4 && x.e2.cmd.stale)
  else if f = 0x0305 then
    d.num (chopIdx p.lane) 0x10 == 0 &&
    ((p.lane.ports.zip o.memberMv).all fun e => !d.member e.1 || decide (e.2 < d.ov2Release e.1))
  else classC.contains f

/-- The faults of a port that a FAULT_CLEAR clears (R252). -/
def Dev.clearable (d : Dev) (p : PortId) (o : ClearObs) : List Nat :=
  (d.port p).faults.filter fun f => classC.contains f && d.ended p o f

/-- A port's list of active faults without some (R252, R256). -/
def Dev.removeFaults (d : Dev) (p : PortId) (fs : List Nat) : Dev :=
  let rest := (d.port p).faults.filter fun f => !fs.contains f
  if rest = (d.port p).faults then d else d.setFaults p rest

/-- The fault record after a FAULT_CLEAR: with no fault left, first fault and its time start anew (R256). -/
def Dev.clearFaults (d : Dev) (p : PortId) (fs : List Nat) : Dev :=
  let had := (d.port p).faults
  let d := d.removeFaults p fs
  if (d.port p).faults = [] && had ≠ [] then (d.pput p 0xB0 2 0).pput p 0xB0 3 0 else d

/-- The chopper usable again after FLT_BRK_FAULT was cleared: cause and escalation of its members end (R140,
R252). -/
def Dev.chopperCleared (d : Dev) (l : LaneId) : Dev :=
  let d := (d.onLane l fun x => { x with chop := { x.chop with faultAt := none } }).put (chopIdx l) 0x11 0
  l.ports.foldl (fun d p => if (d.port p).unit.nonMember then d
    else d.onPort p fun x => { x with unit := { x.unit with escalateAt := none } }) d

/-- FB_FAULT follows the active feedback faults (R201). -/
def Dev.syncFbFault (d : Dev) (p : PortId) : Dev :=
  let b := (d.port p).faults.any fun f => f == 0x0401 || f == 0x0402 || f == 0x0403 || f == 0x0404
  d.onPort p fun x => { x with fb := { x.fb with flags := { x.fb.flags with fault := b } } }

/-- FAULT_CLEAR (R201, R252, R256): a change of FAULT_CLEAR from 0 to 1 clears every class C fault of the port whose
condition has ended, and those of lane scope on both ports of the lane. -/
def faultClearStep (p : PortId) (o : ClearObs) (d : Dev) : Dev :=
  if (d.lane p.lane).alive && d.bit (pidx p 0x61) 1 3 && !(d.port p).e2.cmd.lastClear then
    let fs := d.clearable p o
    let lane := fs.filter fun f => laneScope.contains f
    let d := d.onPort p fun x => { x with e2 := { x.e2 with cmd := { x.e2.cmd with lastClear := true } } }
    let d := (d.clearFaults p fs).clearFaults p.sibling lane
    let d := if lane.contains 0x0305 then d.chopperCleared p.lane else d
    d.syncFbFault p
  else d

/-- SAFE_STATE_COMMAND. -/
def execSafeStateCommand (p : PortId) (s : State) (step : Nat := 0) : Host.Outcome State Fault Refusal :=
  .next (s.upd (safeStateCommandStep p step))

/-- ASC_RELEASE. -/
def execAscRelease (p : PortId) (codes : List Nat) (s : State) : Host.Outcome State Fault Refusal :=
  .next (s.awake (ascReleaseStep p codes))

/-- SAFE_STATE_RELEASE_OFF. -/
def execSafeStateReleaseOff (p : PortId) (s : State) : Host.Outcome State Fault Refusal :=
  .next (s.awake (safeStateReleaseOffStep p))

/-- BOOT_UV_FAULT. -/
def execBootUvFault (p : PortId) (s : State) : Host.Outcome State Fault Refusal := .next (s.awake (bootUvFaultStep p))

/-- GD_SUPPLY_FAULT. -/
def execGdSupplyFault (l : LaneId) (vgdMv heldNs : Nat) (s : State) : Host.Outcome State Fault Refusal :=
  .next (s.upd (gdSupplyFaultStep l vgdMv heldNs))

/-- VGD_BELOW_7V. -/
def execVgdBelow7v (l : LaneId) (vgdMv : Nat) (s : State) : Host.Outcome State Fault Refusal :=
  .next (s.upd (vgdBelow7vStep l vgdMv))

/-- DESATURATION. -/
def execDesaturation (p : PortId) (g : Gate) (sense : DrainSense) (onNs aboveNs : Nat) (s : State) :
    Host.Outcome State Fault Refusal := .next (s.upd (desaturationStep p g sense onNs aboveNs))

/-- PHASE_NODE_CHECK. -/
def execPhaseNodeCheck (p : PortId) (x : Phase) (high : Bool) (c : NodeCheck) (s : State) :
    Host.Outcome State Fault Refusal := .next (s.upd (phaseNodeCheckStep p x high c))

/-- GD_FEEDBACK_FAULT. -/
def execGdFeedbackFault (p : PortId) (s : State) : Host.Outcome State Fault Refusal :=
  .next (s.upd (gdFeedbackFaultStep p))

/-- CHOPPER_ENGAGE. -/
def execChopperEngage (p : PortId) (t mv : Nat) (s : State) : Host.Outcome State Fault Refusal :=
  .next (s.awake (chopperEngageStep p t mv))

/-- CHOPPER_RELEASE. -/
def execChopperRelease (l : LaneId) (t mv1 mv2 : Nat) (s : State) : Host.Outcome State Fault Refusal :=
  .next (s.awake (chopperReleaseStep l t mv1 mv2))

/-- CHOPPER_DRAIN_CHECK. -/
def execChopperDrainCheck (l : LaneId) (t brksMv : Nat) (s : State) : Host.Outcome State Fault Refusal :=
  .next (s.awake (chopperDrainCheckStep l t brksMv))

/-- CHOPPER_EFFECT_CHECK. -/
def execChopperEffectCheck (l : LaneId) (t mv1 mv2 : Nat) (s : State) : Host.Outcome State Fault Refusal :=
  .next (s.awake (chopperEffectCheckStep l t mv1 mv2))

/-- NONMEMBER_OV2. -/
def execNonmemberOv2 (p : PortId) (t mv : Nat) (s : State) : Host.Outcome State Fault Refusal :=
  .next (s.awake (nonmemberOv2Step p t mv))

/-- NONMEMBER_OV2_WITHDRAW. -/
def execNonmemberOv2Withdraw (p : PortId) (t mv : Nat) (s : State) : Host.Outcome State Fault Refusal :=
  .next (s.awake (nonmemberOv2WithdrawStep p t mv))

/-- ESCALATION_DELAY. -/
def execEscalationDelay (p : PortId) (t mv : Nat) (s : State) : Host.Outcome State Fault Refusal :=
  .next (s.awake (escalationDelayStep p t mv))

/-- BUS_OV3. -/
def execBusOv3 (p : PortId) (mv aboveNs : Nat) (s : State) : Host.Outcome State Fault Refusal :=
  .next (s.upd (busOv3Step p mv aboveNs))

/-- COAST_TIMEOUT. -/
def execCoastTimeout (p : PortId) (s : State) : Host.Outcome State Fault Refusal := .next (s.awake (coastTimeoutStep p))

/-- STANDSTILL. -/
def execStandstill (p : PortId) (s : State) : Host.Outcome State Fault Refusal := .next (s.awake (standstillStep p))

/-- FAULT_CLEAR. -/
def execFaultClear (p : PortId) (obs : ClearObs) (s : State) : Host.Outcome State Fault Refusal :=
  .next (s.awake (faultClearStep p obs))

end Sys2Proof.Machine
end

