-- ==== Sys2Proof/Machine/Pairs.lean ====
section
/-! DEFINITION. Pairs: the crosswind link and fault lines, the pair register, the overload allowance, lost lanes and
the entry into DEGRADED (R23, R40, R239 to R251). -/

namespace Sys2Proof.Machine

/-- Whether a record sent at sender tick T arrives at tick t of the receiver's present slot (R40): while both lanes run on
the root clock at tick T + 400; otherwise at most two ticks later, as far as the sender's slot shows it, whose phase against
the receiver's is not held (DESIGN CHOICE, log entry 131). -/
def Dev.arrives (d : Dev) (p : PortId) (T t : Nat) : Bool :=
  let n := (d.lane p.partner.lane).slots
  if d.onRoot .a && d.onRoot .b then T + 400 == (d.lane p.lane).tick t
  else T + 400 < 200 * (n + 1) && 200 * n ≤ T + 402

/-- CROSSWIND_RECORD_ARRIVAL (R12, R23, R40): the partner's oldest record reaches the receive cell of a paired port p at tick t,
400 ticks after it was sent; its write slot is the sender's slot at sending, and it is visible from the next slot on. -/
def crosswindRecordArrivalStep (p : PortId) (t : Nat) (d : Dev) : Dev :=
  let l := d.lane p.lane
  match (d.port p.partner).flight with
  | [] => d
  | (T, r) :: rest =>
    if d.clocked p.lane && t < 200 && d.linked p.partner && d.arrives p T t then
      let d := d.onPort p.partner fun x => { x with flight := rest }
      d.onPort p fun x => { x with cells := { x.cells with xw := x.cells.xw.write (l.slots + 1) (T / 200) false r } }
    else d

/-- The line that the partner's lane presents (R23, R239): asserted for any of the lane's paired ports, or by a lane without
power. -/
def Dev.partnerAsserts (d : Dev) (p : PortId) : Bool := d.lineAsserted p.lane.other || !(d.lane p.lane.other).alive

/-- The state that the hardware writes when the partner's line is found asserted (R240, R246): from SHARED the receiving lane's
SOLO, or LOST if the receiving port is itself TRIPPED or SHORTED; from the partner's SOLO state LOST, since the asserting lane is
the survivor. -/
def Dev.lineWrite (d : Dev) (p : PortId) : Option Nat :=
  let u := (d.port p).pair
  if u.state = 0 then
    some (if d.pstate p == .tripped || d.pstate p == .shorted || u.ownLine then 3 else soloOf p.lane)
  else if u.state = soloOf p.partner.lane then some 3
  else none

/-- FAULT_LINE_RECEIVED (R240, R246): the assertion is latched, and the register written. -/
def faultLineReceivedStep (p : PortId) (d : Dev) : Dev :=
  let u := (d.port p).pair
  if (d.lane p.lane).alive && d.paired p && d.partnerAsserts p && !u.partnerLine && !u.lineIgnored then
    let s := d.slotOf p
    let w := d.lineWrite p
    (d.onPort p fun x => { x with pair := { x.pair with
      partnerLine := true
      lineDriving := 0
      writes := x.pair.writes ++ (w.map fun n => (⟨s, 0, n, false, false⟩ : PairWrite)).toList } }).pairObjects p
  else d

/-- Whether a pair register may change from one state to another by a write (R246). -/
def pairMay (a : Nat) (w : PairWrite) : Bool :=
  if w.state = 0 then a ≠ 0 && (w.rearm || (w.ignore && (a == 1 || a == 2)))
  else if w.state = 3 then a ≠ 3
  else a == 0

/-- The pair unit after a write took effect in a slot: entry into SOLO as survivor starts the overload timer, LOST
asserts the line, re-forming deasserts the lines and re-arms the allowance (R241, R246, R247). A second entry into SOLO without
a re-forming starts the timer anew (DESIGN CHOICE, log entry 165). -/
def PairUnit.apply (u : PairUnit) (own : Nat) (slot : Nat) (w : PairWrite) : PairUnit :=
  { u with
    state := w.state
    lineIgnored := u.lineIgnored || w.ignore
    ownLine := if w.rearm then false else u.ownLine || w.state == 3
    partnerLine := if w.rearm then false else u.partnerLine
    verdictAge := if w.state = 0 then 0 else u.verdictAge
    overloadSlot := if w.state = own then some slot else if w.rearm then none else u.overloadSlot
    overloadOver := if w.state = own || w.rearm then none else u.overloadOver }

/-- The write that prevails: hardware before K_XW_PLAUS before K_XW_EXCH (R241); of two by the hardware the one into LOST, which
both ports commanded in one slot bring about (R246). -/
def prevailing (ws : List PairWrite) : Option PairWrite :=
  match (ws.find? fun w => w.prio == 0 && w.state == 3) <|> ws.find? fun w => w.prio == 0 with
  | some w => some w
  | none => match ws.find? fun w => w.prio == 1 with
    | some w => some w
    | none => ws.head?

/-- PAIR_STATE_TRANSITION (R239, R241, R246, R247): the writes of the slots before take effect in their order of
precedence. -/
def pairStateTransitionStep (p : PortId) (d : Dev) : Dev :=
  let u := (d.port p).pair
  let s := d.slotOf p
  match prevailing (u.writes.filter fun w => w.slot < s) with
  | none => d
  | some w =>
    let d := d.onPort p fun x => { x with pair := { x.pair with writes := x.pair.writes.filter fun w => s ≤ w.slot } }
    if pairMay u.state w then
      let d := d.onPort p fun x => { x with pair := x.pair.apply (soloOf p.lane) s w }
      let d := if w.state = soloOf p.lane then d.inc (pairIdx p.pair) 0x12 else d
      d.pairObjects p
    else d

/-- Whether a record shows DRIVING (R237). -/
def XwVal.driving (r : XwVal) : Bool := bitOf r.health 7

/-- XW_LINE_FAULT (R241, R472): two consecutive frames of a fresh, driving partner after its line was asserted; the register is
written in the slot of the last tick of the K_XW_EXCH instance that found the second. -/
def xwLineFaultStep (p : PortId) (d : Dev) : Dev :=
  let u := (d.port p).pair
  if d.paired p && u.partnerLine && !u.lineIgnored && 2 ≤ u.lineDriving then
    let s := d.slotOf p
    let d := d.onPort p fun x => { x with pair := { x.pair with
      lineIgnored := true
      lineDriving := 0
      writes := x.pair.writes ++ [⟨max s u.exchSlot, 2, 0, true, false⟩] } }
    (d.recordFault p .xwLine).pairObjects p
  else d

/-- BLAMED_PARTNER_DRIVING (R244, R472): two frames after the verdict the blamed partner still sends DRIVING; the write and the
command are made at the end of the latest K_XW_PLAUS instance. -/
def blamedPartnerDrivingStep (p : PortId) (d : Dev) : Dev :=
  let u := (d.port p).pair
  if d.paired p && 3 ≤ u.verdictAge && !u.stale && u.record.driving then
    let s := d.slotOf p
    (d.onPort p fun x => { x with pair := { x.pair with
      verdictAge := 0
      writes := x.pair.writes ++ [⟨max s u.plausSlot, 1, 3, false, false⟩] } }).commandAt p (u.plausCmd - s) ⟨13, none, false, false⟩ 0
  else d

/-- OVERLOAD_TIME_EXPIRY (R247): the release ramp of the survivor's pair limit starts. -/
def overloadTimeExpiryStep (p : PortId) (d : Dev) : Dev :=
  let u := (d.port p).pair
  match u.overloadSlot, u.overloadOver with
  | some s0, none =>
    if s0 + d.nat (pairIdx p.pair) 4 * 2000 ≤ d.slotOf p then
      d.onPort p fun x => { x with pair := { x.pair with overloadOver := some (s0 + d.nat (pairIdx p.pair) 4 * 2000) } }
    else d
  | _, _ => d

/-- A port's requests and untransmitted responses discarded as the lane that serves it changes: its entries are empty as of then,
in the slots of the new lane, which has counted `now` where the old one had `was` (R338, R349). -/
def ReqPort.emptied (x : ReqPort) (was now : Nat) : ReqPort :=
  { x with
    entries := x.entries.map fun e => { e with queue := [], emptySince := if e.queue.isEmpty then e.emptySince + now - was else now }
    arrived := [], tx := [] }

/-- The outbound side of a unit link without a response. -/
def UnitLink.silenced (k : UnitLink) : UnitLink := { k with shown := 0, loaded := 0, out := 0 }

/-- The sessions of some origins without their response caches, which are held in the lane of the port (R346). -/
def Net.uncached (n : Net) (os : List Nat) : Net :=
  { n with sessions := n.sessions.map fun s => s.map fun x => if os.contains x.origin then { x with cache := [] } else x }

/-- Loss of lane A on the chain port and the TAP (R346, R410, R463): queued requests and responses not fully shown are discarded
and the sessions' response caches lost; an open assembly is kept. -/
def Dev.serialLost (d : Dev) (l : LaneId) : Dev :=
  match l with
  | .b => d
  | .a => { d with
      net := { d.net with ports := { d.net.ports with
        chain := d.net.ports.chain.emptied (d.lane .a).slots (d.lane .b).slots
        tap := d.net.ports.tap.emptied (d.lane .a).slots (d.lane .b).slots } }.uncached [4, 5]
      chain := { d.chain with link := d.chain.link.silenced }
      tap := { d.tap with link := d.tap.link.silenced } }

/-- A port of a lane that becomes lost (R23, R239, R246, R250): its unit is commanded, its line asserted, its link idle; its pair
register leaves the pair to the partner, or the pair is lost with its survivor. -/
def Dev.losePort (d : Dev) (p : PortId) : Dev :=
  let s := d.slotOf p
  (d.command p 13).onPort p fun x => { x with
    flight := []
    pair := { x.pair with
      ownLine := x.pair.ownLine || d.paired p
      writes := if !d.paired p then x.pair.writes
        else if x.pair.state = 0 then
          x.pair.writes ++ [⟨s, 0, if x.pair.partnerLine && !x.pair.lineIgnored then 3 else soloOf p.partner.lane, false, false⟩]
        else if x.pair.state = soloOf p.lane then x.pair.writes ++ [⟨s, 0, 3, false, false⟩]
        else x.pair.writes } }

/-- A lane becomes lost with a fault (R239, R250): its ports are commanded (source 13), its lines asserted, the other
lane sets OTHER_LANE_LOST, its converters stop (R266), and it is an event of R251. -/
def Dev.loseLane (d : Dev) (l : LaneId) (f : FaultId) : Dev :=
  let d := d.recordLaneFault l f
  let d := l.ports.foldl (fun d p => d.losePort p) d
  let d := d.onLane l.other fun x => { x with otherLost := true }
  (((((d.put 0x2500 (laneStateSub l) 1).put 0x2500 (laneStateSub l + 2) f.code).putBit (0x2800 + l.num) 7 2
    true).degradeEvent f.code).serialLost l).gcLost l

/-- PARTNER_LANE_LOST (R241, R250, R266): lane l finds the other lane's line asserted, not ignored, and its records stale for two
frames. -/
def partnerLaneLostStep (l : LaneId) (d : Dev) : Dev :=
  if (d.lane l).alive && !(d.lane l).otherLost && (l.ports.any fun p =>
      d.paired p && (d.port p).pair.partnerLine && !(d.port p).pair.lineIgnored && 2 ≤ (d.port p).pair.staleFrames) then
    (((((d.onLane l fun x => { x with otherLost := true }).put 0x2500 (laneStateSub l.other) 1).putBit
      (0x2800 + l.other.num) 7 2 true).degradeEvent 0).serialLost l.other).gcLost l.other
  else d

/-- DEGRADED_ENTRY (R251, R276): from RUN after a lane was lost, FLT_ROOT_CLOCK or a common-domain fault. -/
def degradedEntryStep (d : Dev) : Dev :=
  if d.degradeDue && d.mode == 4 then d.put 0x2000 1 5 else d

/-- CROSSWIND_RECORD_ARRIVAL. -/
def execCrosswindRecordArrival (p : PortId) (t : Nat) (s : State) : Host.Outcome State Fault Refusal :=
  .next (s.awake (crosswindRecordArrivalStep p t))

/-- FAULT_LINE_RECEIVED. -/
def execFaultLineReceived (p : PortId) (s : State) : Host.Outcome State Fault Refusal :=
  .next (s.awake (faultLineReceivedStep p))

/-- PAIR_STATE_TRANSITION. -/
def execPairStateTransition (p : PortId) (s : State) : Host.Outcome State Fault Refusal :=
  .next (s.awake (pairStateTransitionStep p))

/-- XW_LINE_FAULT. -/
def execXwLineFault (p : PortId) (s : State) : Host.Outcome State Fault Refusal := .next (s.awake (xwLineFaultStep p))

/-- BLAMED_PARTNER_DRIVING. -/
def execBlamedPartnerDriving (p : PortId) (s : State) : Host.Outcome State Fault Refusal :=
  .next (s.awake (blamedPartnerDrivingStep p))

/-- OVERLOAD_TIME_EXPIRY. -/
def execOverloadTimeExpiry (p : PortId) (s : State) : Host.Outcome State Fault Refusal :=
  .next (s.awake (overloadTimeExpiryStep p))

/-- PARTNER_LANE_LOST. -/
def execPartnerLaneLost (l : LaneId) (s : State) : Host.Outcome State Fault Refusal :=
  .next (s.awake (partnerLaneLostStep l))

/-- DEGRADED_ENTRY. -/
def execDegradedEntry (s : State) : Host.Outcome State Fault Refusal := .next (s.awake degradedEntryStep)

end Sys2Proof.Machine
end

