-- ==== Sys2Proof/Machine/Modes.lean ====
section
/-! DEFINITION. Operating modes, wake sources, supply monitors, resets, temperature points and derating (R273 to R287,
R292 to R298). Start-up itself is in Boot.lean. -/

namespace Sys2Proof.Machine

/-! ### Mode requests -/

/-- Whether a port keeps the device from STANDBY: ALIGN, RAMP, CLOSED, COAST or SHORTED (R277, R293). -/
def PortState.moving : PortState → Bool
  | .align | .ramp | .closed | .coast | .shorted => true
  | .off | .armed | .tripped => false

/-- Whether some port is in ALIGN, RAMP, CLOSED, COAST or SHORTED. -/
def Dev.anyMoving (d : Dev) : Bool := PortId.all.any fun p => (d.pstate p).moving

/-- The judgement of a mode request: object 0x2001 or 0x2003 and the value (R276, R277). -/
def Dev.modeRes (d : Dev) (idx v : Nat) : Res :=
  if idx = 0x2001 ∧ v = 2 then
    if d.mode = 3 then (if d.nat 0x2620 1 = 2 then .refusedBusy else .ok)
    else if d.mode = 4 then (if d.anyMoving then .inconsistent else .ok)
    else .wrongMode
  else if d.mode ≠ 2 then .wrongMode
  else if idx = 0x2001 ∧ v = 4 then
    (if d.image.isNone || d.bit 0x2000 2 2 || d.bit 0x2000 2 6 then .inconsistent else .ok)
  else .ok

/-- The mode request that was published first, of those that wait (R276, R278). -/
def Dev.firstModeRequest (d : Dev) : Option Published :=
  d.published.find? fun e => e.key == objKey 0x2001 0 || e.key == objKey 0x2003 0

/-- A published mode request acts: the first of a slot at once, a second of the same slot not before the next slot, and
one that the mode no longer provides has no effect (R276, R278). -/
def Dev.modeStep (d : Dev) (idx v : Nat) (f : Dev → Dev) : Dev :=
  match d.firstModeRequest with
  | none => d
  | some e =>
    if d.powered && e.key == objKey idx 0 && e.val == .num v && d.boot.modeSlot != some d.slotNow then
      if d.modeRes idx v = .ok then
        let s := d.slotNow
        let d := f (d.dropPub idx 0)
        { d with boot := { d.boot with modeSlot := some s } }.show
      else d.dropPub idx 0
    else d

/-- Every timed action is discarded (R281). -/
def Dev.discardActions (d : Dev) : Dev :=
  let d := { d with time := { d.time with
    entries := List.replicate 32 TimedEntry.atReset, pulses := [], applied := [] } }
  let d := (List.range 32).foldl (fun d e =>
    { d with objs := (d.objs.erase (objKey 0x2130 (e + 1))).erase (objKey 0x2131 (e + 1)) }) d
  d.put 0x2132 0 0

/-- Every session closed, reserved or open, with the closing entries of the open ones (R344, R372). -/
def Dev.closeAll (d : Dev) : Dev :=
  (d.net.sessions.filterMap fun s => s).foldl (fun d s => if s.isOpen then d.closeSession s.id 2 else d.dropSession s.id) d

/-- The way into SLEEP or STORAGE: sessions closed, timed actions discarded, converters stopped, both lanes without power, and
the always-on island holding the wake settings (R281, R344). -/
def Dev.powerDown (d : Dev) (target : Nat) : Dev :=
  let isl : Island := ⟨d.nat 0x2006 1, d.nat 0x2006 2, d.num 0x2006 3 == 1, false, 0, 0⟩
  let d := [GcId.g0, .g1, .g2, .g3].foldl (fun d g => d.gcStop g) d.closeAll.discardActions
  let d := (d.onLane .a fun x => { x with alive := false }).onLane .b fun x => { x with alive := false }
  { d with boot := { d.boot with phase := .goingDown, target := target, island := isl, autoAt := none } }

/-- MODE_REQUEST_SLEEP (R276, R281). -/
def modeRequestSleepStep (d : Dev) : Dev := d.modeStep 0x2001 1 fun d => d.powerDown 1

/-- PRIVILEGED_REQUEST_STORAGE (R276, R281). -/
def privilegedRequestStorageStep (d : Dev) : Dev := d.modeStep 0x2003 0 fun d => d.powerDown 0

/-- PRIVILEGED_REQUEST_CONFIGURE (R276). -/
def privilegedRequestConfigureStep (d : Dev) : Dev := d.modeStep 0x2003 3 fun d => d.put 0x2000 1 3

/-- An ARMED port passes to OFF (R276). -/
def Dev.disarm (d : Dev) (p : PortId) : Dev :=
  if d.pstate p == .armed then
    let s := d.slotOf p
    let d := d.onPort p fun x => { x with reg := { x.reg with state := .off, entrySlot := s } }
    d.entered p .armed ⟨s, .off, false, false⟩
  else d

/-- MODE_REQUEST_STANDBY (R276): from RUN every ARMED port passes to OFF. -/
def modeRequestStandbyStep (d : Dev) : Dev :=
  d.modeStep 0x2001 2 fun d =>
    let d := if d.mode = 4 then PortId.all.foldl (fun d p => d.disarm p) d else d
    d.put 0x2000 1 2

/-- RUN or DEGRADED is entered: no time base is stepped from now on (R276, R312). -/
def Dev.enterRun (d : Dev) : Dev :=
  let d := (d.put 0x2000 1 (if d.degradeDue then 5 else 4)).putBit 0x2100 0xA 2 true
  { d with boot := { d.boot with everRun := true } }

/-- MODE_REQUEST_RUN (R276): RUN, or DEGRADED after an event of R251. -/
def modeRequestRunStep (d : Dev) : Dev := d.modeStep 0x2001 4 fun d => d.enterRun

/-! ### Resets and wake sources -/

/-- A reset: everything but flash, fuses, and what the model counts as its own starts anew, and the island knows the sources of
a wake; the lowest code of sources that coincide is reported (R282, R292). Where the TAP goes on in EXTEST, HIGHZ or CLAMP, the
units coast on (R462). -/
def Dev.resetWith (d : Dev) (cause wake : Nat) : Dev :=
  let c : Nat := if d.boot.phase = .held then min cause (d.nat 0x2000 3) else cause
  let e := ((Dev.atReset.keep d).put 0x2000 3 c).put 0x2000 4 wake
  let e := if cause = 4 ∨ cause = 5 then { e with boot := { e.boot with island := d.boot.island } } else e
  if cause = 1 then { e with tap := Tap.atReset } else if e.tap.bscan then e.unitsCoast else e

/-- LOW_POWER_ENTRY (R281, R282): the device arrives in SLEEP or STORAGE with nothing of its state kept but flash and the
island, or, for a wake latched on the way, passes straight on into start-up. -/
def lowPowerEntryStep (d : Dev) : Dev :=
  if d.boot.phase = .goingDown then
    let tgt := d.boot.target
    let isl := d.boot.island
    if isl.latched ≠ 0 then d.resetWith (if tgt = 1 then 4 else 5) isl.latched
    else
      let e := (Dev.atReset.keep d).put 0x2000 1 tgt
      { e with tap := Tap.atReset, boot := { e.boot with phase := .low, target := tgt, island := isl } }
  else d

/-- A wake source fires in an LFO cycle; of those that fire within one cycle the highest of the table is reported (R276, R280,
R281). -/
def Dev.wakeBy (d : Dev) (src cycle : Nat) : Dev :=
  let isl := d.boot.island
  let latch := fun (d : Dev) => { d with boot := { d.boot with island := { d.boot.island with latched := src, cycle := cycle } } }
  if d.boot.phase = .goingDown then
    (if isl.latched = 0 ∨ (isl.cycle = cycle ∧ src < isl.latched) then latch d else d)
  else if d.boot.phase = .low ∧ isl.unpowered = false then
    latch (d.resetWith (if d.boot.target = 1 then 4 else 5) src)
  else if d.boot.phase = .held ∧ isl.latched ≠ 0 ∧ isl.cycle = cycle ∧ src < isl.latched then
    (latch d).put 0x2000 4 src
  else d

/-- Whether the settings of the wake sources are those of SLEEP: on the way there or in it, and while a wake from it is young
(R280). -/
def Dev.sleepWakes (d : Dev) : Bool :=
  if d.boot.phase = .held then d.num 0x2000 3 == 4 else d.boot.target == 1

/-- WAKE_PIN (R280): a level held for 50 µs; in SLEEP the edge of 0x2006.02, in STORAGE a rising edge. -/
def wakePinStep (rising : Bool) (heldUs cycle : Nat) (d : Dev) : Dev :=
  let e := d.boot.island.edge
  let edge := if d.sleepWakes then (rising && e != 1) || (!rising && e != 0) else rising
  if 50 ≤ heldUs && edge then d.wakeBy 1 cycle else d

/-- WAKE_TIMER (R280): in SLEEP, 0x2006.01 after entry if it is not 0. -/
def wakeTimerStep (elapsedMs cycle : Nat) (d : Dev) : Dev :=
  let t := d.boot.island.timerMs
  if d.sleepWakes = true ∧ t ≠ 0 ∧ t ≤ elapsedMs then d.wakeBy 2 cycle else d

/-- CAN_WAKE_UP (R280): in SLEEP with 0x2006.03 = 1. -/
def canWakeUpStep (cycle : Nat) (d : Dev) : Dev :=
  if d.sleepWakes = true ∧ d.boot.island.can = true then d.wakeBy 3 cycle else d

/-- VBAT_RECONNECT (R280, R286): a VBAT pin above 4.5 V after at least 1 ms below 2.0 V; an island that was without
power in SLEEP starts up with reset cause 1. -/
def vbatReconnectStep (mv lowUs cycle : Nat) (d : Dev) : Dev :=
  if 4500 < mv ∧ 1000 ≤ lowUs then
    if d.boot.phase = .low ∧ d.boot.island.unpowered = true then
      (if d.boot.target = 1 then d.resetWith 1 0 else d.resetWith 5 4)
    else d.wakeBy 4 cycle
  else d

/-- ISLAND_UNPOWERED (R286): in SLEEP or STORAGE both VBAT pins are lost; the wake sources stop. -/
def islandUnpoweredStep (d : Dev) : Dev :=
  if d.boot.phase = .low then { d with boot := { d.boot with island := { d.boot.island with unpowered := true } } }
  else d

/-- POWER_ON_RESET (R292). -/
def powerOnResetStep (d : Dev) : Dev := d.resetWith 1 0

/-- RESET_N_PULSE (R292): at least 10 µs resets, less than 1 µs is ignored, and between the two the pulse either resets
the whole device or has no effect, which is open. -/
def resetNPulseStep (lowNs : Nat) (d : Dev) : Dev :=
  if 10000 ≤ lowNs then d.resetWith 2 0
  else if lowNs < 1000 then d
  else if Config.freeValue d.freeIx % 2 = 0 then d.stamped.resetWith 2 0
  else d.stamped

/-- The judgement of a write to 0x2004.00 (R293). -/
def Dev.resetRes (d : Dev) : Res := if d.anyMoving then .inconsistent else .ok

/-- DEVICE_RESET (R292, R293, R344): the closing entries of the sessions are committed before the reset takes effect (log entry
90). -/
def deviceResetStep (d : Dev) : Dev :=
  match d.pubOf 0x2004 0 with
  | none => d
  | some _ => d.closeAll.commitEvents.resetWith 3 0

/-- BOTH_LANES_LOST (R285): both lanes lost, or the only one of a part without lane B, or the supply of the common domain fails;
a start-up that BIST halted stays halted while it has that supply (R291, log entry 74). -/
def bothLanesLostStep (common : Bool) (d : Dev) : Dev :=
  if d.boot.phase ≠ .low ∧ d.boot.phase ≠ .goingDown ∧ (common = true ∨ (d.boot.phase ≠ .halted ∧ d.laneLost .a = true ∧
      (d.laneLost .b = true ∨ d.boot.laneB = false))) then d.resetWith 7 0
  else d

/-! ### Supplies -/

/-- The cause code of a rail in 0x280y.08 (R297). -/
def railCode : SupplyRail → Nat
  | .vbat => 1 | .vpre => 2 | .vcore => 3 | .vio => 4

/-- The lower threshold in mV (R283). -/
def railLow : SupplyRail → Nat
  | .vbat => 5000 | .vpre => 4700 | .vcore => 920 | .vio => 3000

/-- The upper threshold in mV, where the rail has one (R283). -/
def railHigh : SupplyRail → Option Nat
  | .vbat => none | .vpre => some 6300 | .vcore => some 1080 | .vio => some 3600

/-- The filter time in ns (R283). -/
def railFilter : SupplyRail → Nat
  | .vbat | .vpre => 5000
  | .vcore | .vio => 2000

/-- Whether a rail lies beyond its upper threshold. -/
def railAbove (r : SupplyRail) (mv : Nat) : Bool :=
  match railHigh r with
  | some h => decide (h < mv)
  | none => false

/-- SUPPLY_UV (R250, R283): a rail outside its window for the filter time makes the lane lost. -/
def supplyUvStep (l : LaneId) (rail : SupplyRail) (mv heldNs : Nat) (d : Dev) : Dev :=
  if (d.lane l).alive && !d.laneLost l && railFilter rail ≤ heldNs && (mv < railLow rail || railAbove rail mv) then
    (d.put (0x2800 + l.num) 8 (railCode rail + 128 * b2n (railAbove rail mv) : Nat)).loseLane l .supplyUv
  else d

/-- SENSOR_SUPPLY_FAULT (R283, R297): VSENS outside its window or loaded above 75 mA for 5 µs; the lane's ports in feedback
modes 1 to 4 are commanded (source 17). The objects of a lost lane keep their values. -/
def sensorSupplyFaultStep (l : LaneId) (mv loadMa heldNs : Nat) (d : Dev) : Dev :=
  if (d.lane l).alive && 5000 ≤ heldNs && (mv < 4600 || 5400 < mv || 75 < loadMa) then
    let d := if d.laneLost l then d else d.put (0x2800 + l.num) 8 (5 + 128 * b2n (decide (5400 < mv)) : Nat)
    l.ports.foldl (fun d p => if d.sensorless p then d else d.command p 17) (d.recordLaneFault l .sensorSupply)
  else d

/-- LANE_SUPPLY_RETURN (R283, R284): a lost lane whose VBAT has risen above 5.3 V again holds itself in reset, with its gates
clamped off. -/
def laneSupplyReturnStep (l : LaneId) (vbatMv : Nat) (d : Dev) : Dev :=
  if d.laneLost l && 5300 < vbatMv then d.onLane l fun x => { x with alive := false, clamped := true } else d

/-- LANE_NOT_READY (R289): the lane released too late is treated as lost with cause FLT_SUPPLY_UV. -/
def laneNotReadyStep (l : LaneId) (d : Dev) : Dev :=
  if (d.boot.phase == .boot || d.boot.phase == .clocked || d.boot.phase == .imageDue) && !(d.lane l).alive &&
      (d.lane l.other).alive && !d.laneLost l && (l == .a || d.boot.laneB) then
    let d := (d.putBit 0x2000 2 (9 + l.num) true).onLane l.other fun x => { x with otherLost := true }
    (((d.put 0x2500 (laneStateSub l) 1).put 0x2500 (laneStateSub l + 2) 0x0603).putBit (0x2800 + l.num) 7 2
      true).degradeEvent 0x0603
  else d

/-- Whether FAULT_A_N or FAULT_B_N is driven low (R287): until start-up completes, while the lane is lost, and while
one of its ports or the lane itself has an active fault; a freeze drives it low too (R431). FAULT_B_N is not driven on a part
without lane B (R3). -/
def Dev.faultPinLow (d : Dev) (l : LaneId) : Bool :=
  d.lanesPresent.contains l &&
  (!d.powered || d.frozen || d.laneLost l || !(d.lane l).alive || l.ports.any fun p => !(d.port p).faults.isEmpty)

/-! ### Temperatures -/

/-- The derating of a temperature: g_t of R294 in ‰. -/
def deratingOf (th ts te gmin : Int) : Int :=
  if th ≤ ts then 1000
  else if te ≤ th then gmin
  else narrow (1000 * (te - ts) - (1000 - gmin) * (th - ts)) (te - ts)

/-- The sub-index of a lane's derating factor (R298). -/
def deratingSub : LaneId → Nat
  | .a => 0x10
  | .b => 0x11

/-- The root's deviation in 0.01 % over a frequency window: CLK_E cycles over 40 backup cycles, against the ratio of 4 that the
trim of R301 holds (R303, R309). -/
def rootDeviation (win : Nat) : Int := satS 16 (narrow (((win : Int) - 160) * 10000) 160)

/-- A fuse operation in progress takes note of a window that the present measurements leave (R420). -/
def Dev.noteWindow (d : Dev) : Dev :=
  { d with otp := { d.otp with left := d.otp.left || (d.otp.op.isSome && !d.supplyWindow) } }

/-- THERMAL_MEASUREMENT (R294, R297, R309): the lane supervisor's measurements every 1 ms; the derating factor falls at
once and rises by at most 1 ‰. -/
def thermalMeasurementStep (l : LaneId) (o : LaneObs) (d : Dev) : Dev :=
  if (d.lane l).alive && !d.laneLost l then
    let y := 0x2800 + l.num
    let z := 0x2802 + l.num
    let th := max (max o.drv1 o.drv2) (max o.engines o.regulators)
    let gt := deratingOf th (d.num 0x2820 1) (d.num 0x2820 2) (d.num 0x2820 3)
    let g := d.num 0x2820 (deratingSub l)
    let g' := if gt < g then gt else min gt (g + 1)
    let d := ((((((d.put y 1 o.vbat).put y 2 o.vpre).put y 3 o.vcore).put y 4 o.vio).put y 5 o.vsens).put y 6 o.vgd)
    let d := (d.putBit y 7 0 (decide (62000 < o.vbat))).putBit y 7 1 (decide (d.num 0x2820 1 < th))
    let d := (((d.put z 1 o.drv1).put z 2 o.drv2).put z 3 o.engines).put z 4 o.regulators
    let d := ((d.put z 5 th).put 0x2820 (deratingSub l) g').noteWindow
    if l = .a ∧ d.onRoot .a = true then d.put 0x2110 6 (rootDeviation o.rootWin) else d
  else d

/-- OVERTEMP (R250, R295): a temperature point above 165 °C for 5 µs makes the lane lost. -/
def overtempStep (l : LaneId) (decidegrees : Int) (heldNs : Nat) (d : Dev) : Dev :=
  if (d.lane l).alive && !d.laneLost l && decide (1650 < decidegrees) && 5000 ≤ heldNs then d.loseLane l .overtemp
  else d

/-- MODE_REQUEST_SLEEP. -/
def execModeRequestSleep (s : State) : Host.Outcome State Fault Refusal := .next (s.awake modeRequestSleepStep)

/-- MODE_REQUEST_STANDBY. -/
def execModeRequestStandby (s : State) : Host.Outcome State Fault Refusal := .next (s.awake modeRequestStandbyStep)

/-- MODE_REQUEST_RUN. -/
def execModeRequestRun (s : State) : Host.Outcome State Fault Refusal := .next (s.awake modeRequestRunStep)

/-- PRIVILEGED_REQUEST_STORAGE. -/
def execPrivilegedRequestStorage (s : State) : Host.Outcome State Fault Refusal :=
  .next (s.awake privilegedRequestStorageStep)

/-- PRIVILEGED_REQUEST_CONFIGURE. -/
def execPrivilegedRequestConfigure (s : State) : Host.Outcome State Fault Refusal :=
  .next (s.awake privilegedRequestConfigureStep)

/-- LOW_POWER_ENTRY. -/
def execLowPowerEntry (s : State) : Host.Outcome State Fault Refusal := .next (s.awake lowPowerEntryStep)

/-- WAKE_PIN. -/
def execWakePin (rising : Bool) (held : WakeSpan) (s : State) : Host.Outcome State Fault Refusal :=
  .next (s.awake (wakePinStep rising held.span held.cycle))

/-- WAKE_TIMER. -/
def execWakeTimer (elapsed : WakeSpan) (s : State) : Host.Outcome State Fault Refusal :=
  .next (s.awake (wakeTimerStep elapsed.span elapsed.cycle))

/-- CAN_WAKE_UP. -/
def execCanWakeUp (s : State) (cycle : Nat := 0) : Host.Outcome State Fault Refusal :=
  .next (s.awake (canWakeUpStep cycle))

/-- VBAT_RECONNECT. -/
def execVbatReconnect (mv : Nat) (low : WakeSpan) (s : State) : Host.Outcome State Fault Refusal :=
  .next (s.awake (vbatReconnectStep mv low.span low.cycle))

/-- ISLAND_UNPOWERED. -/
def execIslandUnpowered (s : State) : Host.Outcome State Fault Refusal := .next (s.awake islandUnpoweredStep)

/-- POWER_ON_RESET. -/
def execPowerOnReset (s : State) : Host.Outcome State Fault Refusal := .next (s.upd powerOnResetStep)

/-- RESET_N_PULSE. -/
def execResetNPulse (lowNs : Nat) (s : State) : Host.Outcome State Fault Refusal :=
  .next (s.upd (resetNPulseStep lowNs))

/-- DEVICE_RESET. -/
def execDeviceReset (s : State) : Host.Outcome State Fault Refusal := .next (s.awake deviceResetStep)

/-- BOTH_LANES_LOST. -/
def execBothLanesLost (s : State) (common : Bool := false) : Host.Outcome State Fault Refusal :=
  .next (s.upd (bothLanesLostStep common))

/-- SUPPLY_UV. -/
def execSupplyUv (l : LaneId) (rail : SupplyRail) (mv heldNs : Nat) (s : State) : Host.Outcome State Fault Refusal :=
  .next (s.upd (supplyUvStep l rail mv heldNs))

/-- SENSOR_SUPPLY_FAULT. -/
def execSensorSupplyFault (l : LaneId) (mv loadMa heldNs : Nat) (s : State) : Host.Outcome State Fault Refusal :=
  .next (s.awake (sensorSupplyFaultStep l mv loadMa heldNs))

/-- LANE_SUPPLY_RETURN. -/
def execLaneSupplyReturn (x : LaneReturn) (s : State) : Host.Outcome State Fault Refusal :=
  .next (s.upd (laneSupplyReturnStep x.lane x.vbatMv))

/-- LANE_NOT_READY. -/
def execLaneNotReady (l : LaneId) (s : State) : Host.Outcome State Fault Refusal := .next (s.awake (laneNotReadyStep l))

/-- THERMAL_MEASUREMENT. -/
def execThermalMeasurement (l : LaneId) (obs : LaneObs) (s : State) : Host.Outcome State Fault Refusal :=
  .next (s.awake (thermalMeasurementStep l obs))

/-- OVERTEMP. -/
def execOvertemp (l : LaneId) (decidegrees : Int) (heldNs : Nat) (s : State) : Host.Outcome State Fault Refusal :=
  .next (s.upd (overtempStep l decidegrees heldNs))

end Sys2Proof.Machine
end

