-- ==== Sys2Proof/Machine/Time.lean ====
section
/-! DEFINITION. The timekeeping unit: the bases DT, T0, T1 and AT, the two IEEE 802.1AS domains, peer delay, and the
cross-check of asymmetric steps (R310 to R321). Times have a 32-bit fraction of a nanosecond; rates are units of 2^-41. -/

namespace Sys2Proof.Machine

/-- One nanosecond in the bases' units. -/
def nsUnit : Int := 2 ^ 32

/-- ±200 ppm in units of 2^-41 (R316, R318). -/
def ppm200 : Int := 439804651

/-- The increment per tick of a relative rate: 5 ns × (1 + x) (R316). -/
def incrOf (x : Int) : Int := 5 * nsUnit + narrow (5 * x) 512

/-- The index of a domain's objects (R330). -/
def domIdx (x : DomId) : Nat := 0x2120 + x.num

/-- The index of a port's time objects (R331). -/
def portTimeIdx (n : NetPort) : Nat := 0x2128 + n.num

/-- The other domain. -/
def otherDom : DomId → DomId
  | .t0 => .t1 | .t1 => .t0

/-- The other T1S port. -/
def otherNet : NetPort → NetPort
  | .n1 => .n2 | .n2 => .n1

/-- The state of a base: 0 DISABLED, 1 UNSET, 2 ACQUIRING, 3 TRACKING, 4 HOLDOVER (R317, R330). -/
def Dev.domState (d : Dev) (x : DomId) : Nat := d.nat (domIdx x) 0x10

/-- Whether a base is valid (R317). -/
def Dev.tracking (d : Dev) (x : DomId) : Bool := d.domState x == 3

/-- A domain's state changed by f. -/
def Dev.onDom (d : Dev) (x : DomId) (f : TimeDomain → TimeDomain) : Dev :=
  { d with time := d.time.setDom x (f (d.time.dom x)) }

/-- A base's state replaced, with the slot of an entry into TRACKING (R317, R318). -/
def Dev.setDomState (d : Dev) (x : DomId) (v : Nat) : Dev :=
  let s := d.slotNow
  (d.put (domIdx x) 0x10 v).onDom x fun t => { t with
    trackSlot := if v = 3 then some s else none
    good := if v = 2 then 0 else t.good }

/-- The offset that can be slewed out, in units of the bases: 200 ns for each ms of 0x212y.05 (R316). -/
def Dev.slewLimit (d : Dev) (x : DomId) : Int := d.num (domIdx x) 5 * 200 * nsUnit

/-! ### Application time -/

/-- The domain of a code of 0x2100.06 or 0x2100.07: 1 T0, 2 T1 (R329). -/
def domOf (v : Nat) : DomId := if v = 2 then .t1 else .t0

/-- The code of a domain in 0x2100.06. -/
def domCode (x : DomId) : Nat := x.num + 1

/-- Tsel − AT (R318). -/
def Dev.atDiff (d : Dev) : Int := (d.time.dom (domOf (d.nat 0x2100 6))).base.val - d.time.at'.val

/-- The increments of DT and AT that follow from AT's state (R310, R318): while AT follows a base DT takes that base's rate
and AT corrects its phase, by (Tsel − AT) / 100 ms or at ±200 ppm while it switches; otherwise DT's rate is frozen and
AT − DT held. -/
def Dev.retune (d : Dev) : Dev :=
  let st := d.nat 0x2100 5
  let r := (d.time.dom (domOf (d.nat 0x2100 6))).r
  let df := d.atDiff
  let dti := if st = 1 ∨ st = 2 then incrOf r else d.time.dt.incr
  let ati :=
    if st = 1 then incrOf (r + clampAbs ppm200 (narrow (df * 512) 100000000))
    else if st = 2 then incrOf (r + sgn df * ppm200)
    else dti
  { d with time := { d.time with
    dt := { d.time.dt with incr := dti }
    at' := { d.time.at' with incr := ati } } }.put 0x2100 0xC dti

/-- AT's state and source replaced, with AT_VALID (R318). -/
def Dev.setAt (d : Dev) (st src : Nat) : Dev :=
  ((d.put 0x2100 5 st).put 0x2100 6 src).putBit 0x2100 0xA 0 (st == 1 || st == 2 || st == 4)

/-- Whether AT may switch to a base: TRACKING and within its slew limit (R318). -/
def Dev.mayFollow (d : Dev) (x : DomId) : Bool :=
  d.tracking x && decide (absI ((d.time.dom x).base.val - d.time.at'.val) ≤ d.slewLimit x)

/-- AT switches to a base, or enters HOLDOVER with AT_SWITCH_BLOCKED where only the slew limit forbids it (R318). -/
def Dev.atSwitch (d : Dev) (x : DomId) : Dev :=
  if d.mayFollow x then (d.setAt 2 (domCode x)).putBit 0x2100 0xA 4 false
  else if d.tracking x then (d.setAt 3 (d.nat 0x2100 6)).putBit 0x2100 0xA 4 true
  else d.setAt 3 (d.nat 0x2100 6)

/-- AT after any change of the domains or of ASYMMETRY_HOLD (R318). -/
def Dev.atSelect (d : Dev) : Dev :=
  let st := d.nat 0x2100 5
  let pref := domOf (d.nat 0x2100 7)
  let src := domOf (d.nat 0x2100 6)
  let hold := d.bit 0x2100 0xA 1
  let first := if d.tracking pref then some pref else if d.tracking (otherDom pref) then some (otherDom pref) else none
  let d :=
    if st = 0 then
      match first with
      | none => d
      | some x =>
        { d with time := { d.time with at' := { d.time.at' with val := (d.time.dom x).base.val } } }.setAt 1 (domCode x)
    else if hold then d.setAt 4 (d.nat 0x2100 6)
    else if st = 4 then
      (if d.tracking src then d.setAt 2 (domCode src) else d.atSwitch (otherDom src))
    else if st = 3 then
      (if d.mayFollow pref then (d.setAt 2 (domCode pref)).putBit 0x2100 0xA 4 false
      else if d.mayFollow (otherDom pref) then (d.setAt 2 (domCode (otherDom pref))).putBit 0x2100 0xA 4 false
      else d)
    else if d.tracking src then d
    else d.atSwitch (otherDom src)
  d.retune

/-- The bases after n ticks of CLK_P (R310): an UNSET base and a disabled one hold their value. The nominal count takes no rate. -/
def Dev.advanceTime (d : Dev) (ticks : Nat) : Dev :=
  let adv := fun (b : TimeBase) => { b with val := b.val + ticks * b.incr }
  let dom := fun (x : DomId) (t : TimeDomain) => if 2 ≤ d.domState x then { t with base := adv t.base } else t
  { d with time := { d.time with
    dt := adv d.time.dt
    nominal := d.time.nominal + ticks * (5 * nsUnit)
    at' := if d.nat 0x2100 5 = 0 then d.time.at' else adv d.time.at'
    t0 := dom .t0 d.time.t0
    t1 := dom .t1 d.time.t1 } }

/-- The objects that show the bases at a slot boundary; AT reads as DT while it is UNSET (R310, R329). -/
def Dev.timeObjects (d : Dev) : Dev :=
  let t := d.time
  let ns := fun (x : DomId) => if 2 ≤ d.domState x ∨ 0 < (t.dom x).base.val then (t.dom x).base.ns else 0
  let df := t.t0.base.val - t.t1.base.val
  let both := d.tracking .t0 && d.tracking .t1
  let f := if both then t.diffF + narrow (df - t.diffF) 20000000 else t.diffF
  let d := { d with time := { d.time with diffF := f } }
  let d := (((d.put 0x2100 1 t.dt.ns).put 0x2100 2 (if d.nat 0x2100 5 = 0 then t.dt.ns else t.at'.ns)).put 0x2100 3
    (ns .t0)).put 0x2100 4 (ns .t1)
  (d.put 0x2100 0xB (if d.nat 0x2100 5 = 0 then 0 else satS 32 (roundHA d.atDiff nsUnit))).put 0x2100 0xF
    (satS 32 (roundHA f nsUnit))

/-! ### Peer delay -/

/-- Whether a priority vector is better than another: the first differing field is lower (R313). -/
def better : List Nat → List Nat → Bool
  | [], _ => false
  | _ :: _, [] => false
  | a :: as, b :: bs => if a < b then true else if b < a then false else better as bs

/-- Whether a domain is enabled and received on a port (R330). -/
def Dev.domOn (d : Dev) (x : DomId) (n : NetPort) : Bool :=
  d.domState x != 0 && d.bit (domIdx x) 3 n.num

/-- The station to which a port measures peer delay (R315): 0x212z.04, or, while that is all zero, the source of the best
Announce on the port. -/
def Dev.peerMac (d : Dev) (n : NetPort) : Option (List Byte) :=
  let own := d.bytes (portTimeIdx n) 4
  if own.any fun b => b != 0 then some own
  else
    let c := [DomId.t0, .t1].filter fun x =>
      d.domOn x n && ((d.time.dom x).on n).known && !((d.time.dom x).on n).annOut
    let pick := fun (x : DomId) => ((d.time.dom x).on n)
    match c with
    | [] => none
    | [x] => some (pick x).mac
    | x :: y :: _ => some (if better (pick y).vec (pick x).vec then (pick y).mac else (pick x).mac)

/-- A port is asCapable (R315). -/
def Dev.asCapable (d : Dev) (n : NetPort) : Bool :=
  decide (d.num (portTimeIdx n) 0x10 ≤ 800) && (d.time.peer n).wins.any id

/-- 2^k × 2 000 000 slots, times 256: an interval of log2 seconds in 1/256 slots (R313). -/
def logSlots (k : Int) : Nat := 2000000 * 2 ^ (k + 8).toNat

/-- The peer delay unit of a port changed by f. -/
def Dev.onPeer (d : Dev) (n : NetPort) (f : PeerDelay → PeerDelay) : Dev :=
  { d with time := d.time.setPeer n (f (d.time.peer n)) }

/-- Whether a port's lane works and the port is enabled (R356). -/
def Dev.netUp (d : Dev) (n : NetPort) : Bool :=
  (d.lane n.lane).alive && !d.laneLost n.lane && d.num (match n with | .n1 => 0x1110 | .n2 => 0x1120) 1 == 1

/-- A time stamp on DT as nominal ticks, 2^-32 ns (R313, R314): an interval between two of them is one of the local clock, whatever
rate DT has taken over and whether or not DT has been set between (R310, R312, DEDUCED, log entry 180). -/
def TimeUnit.onTicks (t : TimeUnit) (at' : Int) : Int :=
  t.nominal + narrow ((at' * nsUnit - t.dt.val) * (5 * nsUnit)) t.dt.incr

/-- PDELAY_REQ_SEND (R314, R315): at each Pdelay interval a request to the designated peer; a request still unanswered is a
failed exchange. -/
def pdelayReqSendStep (n : NetPort) (tx : Int) (d : Dev) : Dev :=
  let p := d.time.peer n
  let s := (d.lane n.lane).slots
  let due := match p.sendSlot with
    | none => true
    | some s0 => logSlots (d.num (portTimeIdx n) 5) ≤ (s - s0) * 256
  if d.netUp n && (d.peerMac n).isSome && due then
    let d := if p.sentAt.isSome then d.inc (portTimeIdx n) 0x12 else d
    let adj := d.num (portTimeIdx n) 2
    d.onPeer n fun p => { p with
      seq := (p.seq + 1) % 65536
      sentAt := some (d.time.onTicks (tx + adj))
      sendSlot := some s
      wins := if p.sentAt.isSome then (false :: p.wins).take 3 else p.wins }
  else d

/-- PDELAY_RESP_RECEIVED (R313, R315): the designated peer's response completes the exchange: neighbour rate ratio and mean
link delay, on nominal ticks, from this exchange and the last one before it with the same station; how they are formed and
filtered the manual leaves open (DESIGN CHOICE, log entry 180). Responses of other stations are ignored. -/
def pdelayRespReceivedStep (n : NetPort) (m : PdelayResp) (rx : Int) (d : Dev) : Dev :=
  let p := d.time.peer n
  match p.sentAt with
  | none => d
  | some t1 =>
    if d.netUp n && d.peerMac n == some m.mac && m.seq == p.seq then
      let t4 := d.time.onTicks (rx - d.num (portTimeIdx n) 1)
      let nrr := match p.prev with
        | some (mac, t3p, t4p) =>
          if mac ≠ m.mac then 0
          else if t4 = t4p then p.nrr
          else narrow (((m.t3 - t3p) * nsUnit - (t4 - t4p)) * 2 ^ 41) (t4 - t4p)
        | none => p.nrr
      let dly := narrow ((t4 - t1) * (2 ^ 41 + nrr) - (m.t3 - m.t2) * nsUnit * 2 ^ 41) (2 ^ 42 * 2 ^ 32)
      let d := d.onPeer n fun p => { p with
        sentAt := none, prev := some (m.mac, m.t3, t4), nrr := nrr, wins := (true :: p.wins).take 3 }
      let d := (d.put (portTimeIdx n) 0x10 (satU 32 dly)).put (portTimeIdx n) 0x11
        (satS 32 (narrow (nrr * 1000000000) (2 ^ 41)))
      [DomId.t0, .t1].foldl (fun d x =>
        if d.nat (domIdx x) 0x13 = n.num + 1 then d.put (domIdx x) 0x15 (satU 32 dly) else d) d
    else d

/-- PDELAY_REQ_RECEIVED (R313): Pdelay_Resp and Pdelay_Resp_Follow_Up go to any requester. -/
def pdelayReqReceivedStep (n : NetPort) (requester seq : Nat) (rx tx : Int) (d : Dev) : Dev :=
  if d.netUp n then
    let a := d.num (portTimeIdx n) 1
    let b := d.num (portTimeIdx n) 2
    d.onPeer n fun p => { p with answered := some (requester, seq, rx - a, tx + b) }
  else d

/-! ### Disciplining T0 and T1 -/

/-- The domain of a message's domain number on a port (R313). -/
def Dev.domOfNumber (d : Dev) (n : NetPort) (number : Nat) : Option DomId :=
  [DomId.t0, .t1].find? fun x => d.domOn x n && d.nat (domIdx x) 2 == number

/-- The port that becomes the slave port: the better vector among the ports that receive, N1 on a tie; the present one
where none receives (R313, R317). A change takes a new reference for R320 and shows the port's link delay (R330). -/
def Dev.selectSlave (d : Dev) (x : DomId) : Dev :=
  let ok := fun (n : NetPort) =>
    let m := (d.time.dom x).on n
    d.domOn x n && m.known && !m.annOut && !m.syncOut
  let v := fun (n : NetPort) => ((d.time.dom x).on n).vec
  let old := d.nat (domIdx x) 0x13
  let new :=
    if ok .n1 && ok .n2 then (if better (v .n2) (v .n1) then 2 else 1)
    else if ok .n1 then 1 else if ok .n2 then 2 else old
  if new = old then d
  else ((d.put (domIdx x) 0x13 new).put (domIdx x) 0x15 (d.nat (portTimeIdx (if new = 2 then .n2 else .n1)) 0x10)).onDom x
    fun t => { t with ofs := [], diffs := [], devSign := 0 }

/-- The other domain's offset at an instant on DT, on the line through its last two (R320). -/
def offsetAt (l : List (Int × Int)) (t : Int) : Int :=
  match l with
  | (t2, o2) :: (t1, o1) :: _ => if t2 = t1 then o2 else o2 + narrow ((o2 - o1) * (t - t2)) (t2 - t1)
  | [(_, o)] => o
  | [] => 0

/-- The mean of a list, 0 of none. -/
def meanOf (l : List Int) : Int := if l.isEmpty then 0 else narrow (l.foldl (· + ·) 0) l.length

/-- R321 at a Sync of the suspect domain: whether ASYMMETRY_SUSPECT is cleared, and the block after. -/
def Dev.crossCheck (d : Dev) (x : DomId) (o oY : Int) : Bool × Dev :=
  let t := d.time.dom x
  let near := decide (absI (o - oY - t.ref) ≤ d.num 0x2100 0xE * nsUnit)
  if d.bit 0x2100 0xA 1 then
    let k := if near then t.holdGood + 1 else 0
    let d := d.onDom x fun t => { t with holdGood := k }
    if 4 ≤ k then (true, (d.putBit 0x2100 0xA 1 false).putBit (domIdx x) 0x11 4 false) else (false, d)
  else if near && d.tracking (otherDom x) then (true, d.putBit (domIdx x) 0x11 4 false)
  else (false, (d.putBit 0x2100 0xA 1 true).onDom x fun t => { t with holdGood := if near then 1 else 0 })

/-- The direction in which an offset differs from the mean of the last 8 by more than 0x212y.07; 0 where it does not. Fewer are
held only after a change of the slave port, which takes a new reference (R317, R320). -/
def Dev.stepSign (d : Dev) (x : DomId) (o : Int) : Int :=
  let t := d.time.dom x
  let dev := o - meanOf (t.ofs.take 8)
  if t.ofs.isEmpty then 0 else if d.num (domIdx x) 7 * nsUnit < absI dev then sgn dev else 0

/-- R320 in TRACKING: whether this Sync is the second of two that step in one direction while the link delay stays. -/
def Dev.stepSeen (d : Dev) (x : DomId) (o : Int) (delay : Nat) : Bool :=
  let t := d.time.dom x
  let s := d.stepSign x o
  s ≠ 0 && t.devSign == s && decide (absI ((delay : Int) - t.devDelay) < 50)

/-- An offset held for the prediction and the reference of R320; a direction is held in TRACKING only. -/
def Dev.noteOffset (d : Dev) (x : DomId) (o oY : Int) (delay : Nat) : Dev :=
  let s := if d.tracking x then d.stepSign x o else 0
  d.onDom x fun t => { t with
    ofs := (o :: t.ofs).take 10
    diffs := ((o - oY) :: t.diffs).take 10
    devSign := s
    devDelay := delay }

/-- The update of R316 with the state changes of R317 for a Sync accepted on the slave port: t is its ingress instant on
DT in ns, o the offset, r the rate ratio minus one. -/
def Dev.syncUpdate (d : Dev) (x : DomId) (o r : Int) : Dev :=
  let y := domIdx x
  if 250 * 2 ^ 41 < absI r * 1000000 then
    let d := (d.putBit y 0x11 6 true).onDom x fun t => { t with good := 0 }
    if d.domState x = 4 then d.setDomState x 2 else d
  else
    let d := d.putBit y 0x11 6 false
    let st := d.domState x
    let lim := d.slewLimit x
    let far := decide (lim < absI o)
    let stepLeft := !d.bit 0x2100 0xA 2 && !d.bit y 0x11 0
    let step := st == 1 || (stepLeft && far)
    let c := if step || far then 0 else clampAbs ppm200 (narrow (o * 512) (d.num y 4 * 1000000))
    let d := d.onDom x fun t => { t with
      r := r
      base := { val := if step then t.base.val + o else t.base.val, incr := incrOf (r + c) }
      good := if absI o ≤ 1000 * nsUnit then t.good + 1 else 0 }
    let d := if step && st != 1 then d.putBit y 0x11 0 true else d
    let d := if step && far then d else d.putBit y 0x11 5 far
    let d := if st = 1 ∨ st = 4 then d.setDomState x 2 else d
    if d.domState x = 2 ∧ 8 ≤ (d.time.dom x).good ∧ d.bit y 0x11 5 = false then
      d.setDomState x 3 |>.putBit y 0x11 3 false
    else d

/-- A Sync accepted on the slave port of a domain, with its complete origin, correction and rate (R316, R317, R320,
R321). -/
def Dev.syncAccepted (d : Dev) (x : DomId) (n : NetPort) (origin : Nat) (correction rateOfs rx : Int) : Dev :=
  let y := domIdx x
  let z := portTimeIdx n
  let t := d.time.dom x
  let rx := rx - d.num z 1
  let delay := d.nat z 0x10
  let trx := t.base.val + narrow ((rx * nsUnit - d.time.dt.val) * t.base.incr) d.time.dt.incr
  let tgm := origin * nsUnit + correction * 65536 + (delay + d.num z 3 + d.num y 6) * nsUnit
  let o := tgm - trx
  let nrr := (d.time.peer n).nrr
  let r := rateOfs + nrr + narrow (rateOfs * nrr) (2 ^ 41)
  let oY := offsetAt (d.time.dom (otherDom x)).last rx
  let d := ((d.put y 0x14 (satS 32 (roundHA o nsUnit))).put y 0x15 delay).put y 0x16
    (satS 32 (narrow (r * 1000000000) (2 ^ 41)))
  let d := d.onDom x fun t => { t with last := ((rx, o) :: t.last).take 2 }
  let d :=
    if d.bit y 0x11 4 then
      let (clear, d) := d.crossCheck x o oY
      if clear || d.domState x != 4 then (d.noteOffset x o oY delay).syncUpdate x o r else d
    else if d.tracking x && d.stepSeen x o delay then
      let ref := meanOf ((t.diffs.drop 1).take 8)
      ((d.putBit y 0x11 4 true).inc y 0x18 |>.setDomState x 4).onDom x fun t => { t with ref := ref, holdGood := 0 }
    else (d.noteOffset x o oY delay).syncUpdate x o r
  d.atSelect

/-- What a port knows of a domain's master changed by f. -/
def Dev.onMaster (d : Dev) (x : DomId) (n : NetPort) (f : PortMaster → PortMaster) : Dev :=
  d.onDom x fun t => t.setOn n (f (t.on n))

/-- Whether a port is the slave port of a domain. -/
def Dev.isSlave (d : Dev) (x : DomId) (n : NetPort) : Bool := d.nat (domIdx x) 0x13 == n.num + 1

/-- SYNC_RECEIVED (R50, R51, R313, R316): a Sync of an enabled domain from the port's master, stamped by the next slot, which
samples it; a one-step Sync acts at once on the slave port, a two-step Sync waits for its Follow_Up. -/
def syncReceivedStep (n : NetPort) (m : SyncMsg) (rx : Int) (d : Dev) : Dev :=
  match d.domOfNumber n m.domain with
  | none => d
  | some x =>
    let p := (d.time.dom x).on n
    if d.netUp n && p.known && p.src == m.src && decide (-8 ≤ m.logInterval) && decide (m.logInterval ≤ 3) then
      let s := (d.lane n.lane).slots + 1
      let d := d.onMaster x n fun p => { p with
        syncSlot := s, syncLog := m.logInterval, syncOut := false
        await := if m.twoStep then some (m, rx) else none }
      let d := (d.selectSlave x).putBit (domIdx x) 0x11 1 false
      if !m.twoStep && d.isSlave x n then d.syncAccepted x n m.origin m.correction m.rateOfs rx else d
    else d

/-- FOLLOW_UP_RECEIVED (R313, R316): the Follow_Up of the waiting Sync, same source and sequence, completes it. -/
def followUpReceivedStep (n : NetPort) (m : SyncMsg) (d : Dev) : Dev :=
  match d.domOfNumber n m.domain with
  | none => d
  | some x =>
    match ((d.time.dom x).on n).await with
    | none => d
    | some (sy, rx) =>
      if d.netUp n && sy.src == m.src && sy.seq == m.seq then
        let d := d.onMaster x n fun p => { p with await := none }
        if d.isSlave x n then d.syncAccepted x n m.origin (sy.correction + m.correction) m.rateOfs rx else d
      else d

/-- The best grandmaster of a domain among its receiving ports (R313). -/
def Dev.bestGm (d : Dev) (x : DomId) : Option Nat :=
  let t := d.time.dom x
  let ok := fun (n : NetPort) => d.domOn x n && (t.on n).known && !(t.on n).annOut
  if ok .n1 && ok .n2 then some (if better t.onN2.vec t.onN1.vec then t.onN2.gm else t.onN1.gm)
  else if ok .n1 then some t.onN1.gm else if ok .n2 then some t.onN2.gm else none

/-- The best Announce's grandmaster shown, and another than before taking the base back to ACQUIRING (R317, R330). -/
def Dev.judgeGm (d : Dev) (x : DomId) : Dev :=
  match d.bestGm x with
  | none => d
  | some g =>
    let changed := decide (d.num (domIdx x) 0x12 ≠ (g : Int)) && (d.domState x == 3 || d.domState x == 4)
    let d := d.put (domIdx x) 0x12 g
    if changed then (((d.putBit (domIdx x) 0x11 3 true).inc (domIdx x) 0x17).setDomState x 2).atSelect else d

/-- ANNOUNCE_RECEIVED (R50, R51, R313, R317): the port's master is the sender, a better one, or the first, stamped by the next
slot, which samples it; another grandmaster takes the base back to ACQUIRING. -/
def announceReceivedStep (n : NetPort) (m : AnnounceMsg) (d : Dev) : Dev :=
  match d.domOfNumber n m.domain with
  | none => d
  | some x =>
    let p := (d.time.dom x).on n
    if d.netUp n && (!p.known || p.annOut || p.src == m.src || better m.vec p.vec) then
      let s := (d.lane n.lane).slots + 1
      let same := p.known && p.src == m.src
      let d := d.onMaster x n fun p => { p with
        known := true, vec := m.vec, gm := m.gm, src := m.src, mac := m.mac, annSlot := s, annLog := m.logInterval,
        annOut := false
        syncSlot := if same then p.syncSlot else s
        syncOut := if same then p.syncOut else false
        await := if same then p.await else none }
      ((d.selectSlave x).putBit (domIdx x) 0x11 2 false).judgeGm x
    else d

/-- A receipt timeout on a port: the other port takes over as slave port if it still receives, else a TRACKING base goes to
HOLDOVER; the best Announce that is left may name another grandmaster (R317). -/
def Dev.receiptLost (d : Dev) (x : DomId) (n : NetPort) : Dev :=
  let d :=
    if d.isSlave x n then
      let d := d.selectSlave x
      if d.isSlave x n && d.domState x == 3 then (d.setDomState x 4).atSelect else d
    else d
  d.judgeGm x

/-- SYNC_RECEIPT_TIMEOUT (R51, R313, R317): more than three Sync intervals without a Sync on the port, which need no longer be
one of the domain's (0x212y.03). -/
def syncReceiptTimeoutStep (x : DomId) (n : NetPort) (d : Dev) : Dev :=
  let p := (d.time.dom x).on n
  if d.domState x != 0 && p.known && !p.syncOut &&
      decide (3 * logSlots p.syncLog < ((d.lane n.lane).slots - p.syncSlot) * 256) then
    let slave := d.isSlave x n
    let d := d.onMaster x n fun p => { p with syncOut := true }
    (if slave then d.putBit (domIdx x) 0x11 1 true else d).receiptLost x n
  else d

/-- ANNOUNCE_RECEIPT_TIMEOUT (R51, R313, R317): more than three Announce intervals without an Announce on the port. -/
def announceReceiptTimeoutStep (x : DomId) (n : NetPort) (d : Dev) : Dev :=
  let p := (d.time.dom x).on n
  if d.domState x != 0 && p.known && !p.annOut &&
      decide (3 * logSlots p.annLog < ((d.lane n.lane).slots - p.annSlot) * 256) then
    ((d.onMaster x n fun p => { p with annOut := true }).putBit (domIdx x) 0x11 2 true).receiptLost x n
  else d

/-- AT_SWITCH_COMPLETE (R318): AT within 20 ns of its selected base. -/
def atSwitchCompleteStep (d : Dev) : Dev :=
  if d.nat 0x2100 5 = 2 ∧ absI d.atDiff ≤ 20 * nsUnit then (d.setAt 1 (d.nat 0x2100 6)).retune else d

/-- AT_REVERT (R318): the preferred base has been TRACKING for the revert delay. -/
def atRevertStep (d : Dev) : Dev :=
  let pref := domOf (d.nat 0x2100 7)
  let st := d.nat 0x2100 5
  match (d.time.dom pref).trackSlot with
  | none => d
  | some s =>
    if d.num 0x2100 8 = 1 ∧ (st = 1 ∨ st = 2) ∧ domOf (d.nat 0x2100 6) ≠ pref ∧
        s + d.nat 0x2100 9 * 2000000 ≤ d.slotNow ∧ d.mayFollow pref = true then
      ((d.setAt 2 (domCode pref)).putBit 0x2100 0xA 4 false).retune
    else d

/-- DOMAIN_ENABLE (R317): the published 0x212y.01: 1 takes a DISABLED base to UNSET, 0 disables it with its value held. -/
def domainEnableStep (x : DomId) (d : Dev) : Dev :=
  match d.pubOf (domIdx x) 1 with
  | none => d
  | some _ =>
    let d := d.dropPub (domIdx x) 1
    let d := if d.num (domIdx x) 1 = 0 then d.setDomState x 0
      else if d.domState x = 0 then d.setDomState x 1 else d
    d.atSelect.show

/-- The judgement of a write to 0x2100.0D (R312). -/
def Dev.setDtRes (d : Dev) : Res :=
  if d.mode = 4 ∨ d.mode = 5 then .wrongMode
  else if d.boot.everRun = true ∨ d.bit 0x2100 0xA 3 = true then .inconsistent else .ok

/-- A domain whose ingress times on DT have moved by n ns with it (R312, R316, R320). -/
def TimeDomain.shifted (t : TimeDomain) (n : Int) : TimeDomain :=
  let sy := fun (m : PortMaster) => { m with await := m.await.map fun (a : SyncMsg × Int) => (a.1, a.2 + n) }
  { t with last := t.last.map fun p => (p.1 + n, p.2), onN1 := sy t.onN1, onN2 := sy t.onN2 }

/-- SET_DT (R312, R316, R320, R328): DT takes the published value once, before the first RUN or DEGRADED; what DT has stamped moves
with it, and a pulse that is active keeps its width. -/
def setDtStep (d : Dev) : Dev :=
  match d.pubOf 0x2100 0xD with
  | none => d
  | some e =>
    let d := d.dropPub 0x2100 0xD
    if d.setDtRes = .ok then
      { d with time := { d.time with
        dt := { d.time.dt with val := e.val.toInt * nsUnit }
        t0 := d.time.t0.shifted (e.val.toInt - d.time.dt.ns)
        t1 := d.time.t1.shifted (e.val.toInt - d.time.dt.ns)
        pulses := d.time.pulses.map fun (p : Pulse) => { p with till := p.till + (e.val.toInt - d.time.dt.ns) } } }.putBit
        0x2100 0xA 3 true |>.show
    else d

/-! ### Meanings -/

/-- PDELAY_REQ_SEND. -/
def execPdelayReqSend (n : NetPort) (tx : Int) (s : State) : Host.Outcome State Fault Refusal :=
  .next (s.awake (pdelayReqSendStep n tx))

/-- PDELAY_RESP_RECEIVED. -/
def execPdelayRespReceived (n : NetPort) (m : PdelayResp) (rx : Int) (s : State) : Host.Outcome State Fault Refusal :=
  .next (s.awake (pdelayRespReceivedStep n m rx))

/-- PDELAY_REQ_RECEIVED. -/
def execPdelayReqReceived (n : NetPort) (requester seq : Nat) (rx tx : Int) (s : State) : Host.Outcome State Fault Refusal :=
  .next (s.awake (pdelayReqReceivedStep n requester seq rx tx))

/-- SYNC_RECEIVED. -/
def execSyncReceived (n : NetPort) (m : SyncMsg) (rx : Int) (s : State) : Host.Outcome State Fault Refusal :=
  .next (s.awake (syncReceivedStep n m rx))

/-- FOLLOW_UP_RECEIVED. -/
def execFollowUpReceived (n : NetPort) (m : SyncMsg) (s : State) : Host.Outcome State Fault Refusal :=
  .next (s.awake (followUpReceivedStep n m))

/-- ANNOUNCE_RECEIVED. -/
def execAnnounceReceived (n : NetPort) (m : AnnounceMsg) (s : State) : Host.Outcome State Fault Refusal :=
  .next (s.awake (announceReceivedStep n m))

/-- SYNC_RECEIPT_TIMEOUT. -/
def execSyncReceiptTimeout (x : DomId) (n : NetPort) (s : State) : Host.Outcome State Fault Refusal :=
  .next (s.awake (syncReceiptTimeoutStep x n))

/-- ANNOUNCE_RECEIPT_TIMEOUT. -/
def execAnnounceReceiptTimeout (x : DomId) (n : NetPort) (s : State) : Host.Outcome State Fault Refusal :=
  .next (s.awake (announceReceiptTimeoutStep x n))

/-- AT_SWITCH_COMPLETE. -/
def execAtSwitchComplete (s : State) : Host.Outcome State Fault Refusal := .next (s.awake atSwitchCompleteStep)

/-- AT_REVERT. -/
def execAtRevert (s : State) : Host.Outcome State Fault Refusal := .next (s.awake atRevertStep)

/-- DOMAIN_ENABLE. -/
def execDomainEnable (x : DomId) (s : State) : Host.Outcome State Fault Refusal := .next (s.awake (domainEnableStep x))

/-- SET_DT. -/
def execSetDt (s : State) : Host.Outcome State Fault Refusal := .next (s.awake setDtStep)

end Sys2Proof.Machine
end

