-- ==== Sys2Proof/Machine/Clocks.lean ====
section
/-! DEFINITION. Root supervision, backup oscillators and the lanes' clock monitors (R27, R49, R301 to R309). -/

namespace Sys2Proof.Machine

/-- The sub-index of a lane's clock source in 0x2110 (R309). -/
def srcSub : LaneId → Nat
  | .a => 2
  | .b => 3

/-- The sub-index of a lane's backup trim in 0x2110 (R309). -/
def trimSub : LaneId → Nat
  | .a => 7
  | .b => 8

/-- Whether a frequency window deviates by more than 2 % from the ratio that the trim of R301 holds, 160 CLK_E cycles over 40
backup cycles (R303). -/
def windowOff (win : Nat) : Bool := decide (2 * 160 < 100 * absI ((win : Int) - 160))

/-- The detector that fires, by its code in 0x2110.04: no edge for 200 ns, two consecutive windows off by more than 2 %, or loss
of PLL lock; the lowest where several do (R303, R309, log entry 140). -/
def detectorOf (o : RootObs) : Option Nat :=
  if 200 ≤ o.noEdgeNs then some 1
  else if windowOff o.win1 && windowOff o.win2 then some 2
  else if o.unlocked then some 3
  else none

/-- ROOT_CLOCK_LOSS (R303, R304, R307, R309): when a detector fires the lane switches to its backup with its trim frozen; the
first lane to switch raises FLT_ROOT_CLOCK. The slot and hyperframe counts run on. -/
def rootClockLossStep (l : LaneId) (o : RootObs) (d : Dev) : Dev :=
  match detectorOf o with
  | none => d
  | some code =>
    if (d.lane l).alive && d.onRoot l then
      let first := d.nat 0x2110 1 == 1
      let at' := d.stampNow
      let d := (((d.put 0x2110 (srcSub l) 2).put 0x2110 4 code).put 0x2110 1 2).putBit 0x2110 9 0 true
      let d := if l = .a then d.put 0x2110 6 (rootDeviation o.win2) else d
      let d := d.onLane l fun x => { x with mon := { x.mon with steerSlot := none } }
      if first then ((d.put 0x2110 5 at').stamped).deviceFault .rootClock else d
    else d

/-- BACKUP_TRIM_ADJUST (R301): on the root, one trim step of 0.01 % against the backup's measured deviation. -/
def backupTrimAdjustStep (l : LaneId) (dev : Int) (d : Dev) : Dev :=
  if (d.lane l).alive && d.onRoot l then
    d.put 0x2110 (trimSub l) (clampAbs 500 (d.num 0x2110 (trimSub l) - sgn dev))
  else d

/-- Whether a lane's backup is steered: it runs on the backup after the root was lost or never qualified, and the source base of
AT reports valid (R308, R317). -/
def Dev.steers (d : Dev) (l : LaneId) : Bool :=
  (d.lane l).alive && !d.laneLost l && !d.onRoot l && d.nat 0x2110 1 != 1 && d.bit 0x2100 0xA 0 &&
  (match d.nat 0x2100 6 with
    | 1 => d.tracking .t0
    | 2 => d.tracking .t1
    | _ => false)

/-- BACKUP_STEERING_STEP (R308): at most one trim step in 10 ms against a deviation from the domain's rate beyond ±50 ppm; the
first may follow the switch at once. -/
def backupSteeringStepStep (l : LaneId) (devPpm : Int) (d : Dev) : Dev :=
  let x := d.lane l
  let due := match x.mon.steerSlot with
    | none => true
    | some s => decide (s + 20000 ≤ x.slots)
  if d.steers l && due then
    let d := d.onLane l fun x => { x with mon := { x.mon with steerSlot := some x.slots } }
    let st := if 50 < absI devPpm then sgn devPpm else 0
    (d.put 0x2110 (trimSub l) (clampAbs 500 (d.num 0x2110 (trimSub l) - st))).putBit 0x2110 9 2 true
  else d

/-- BACKUP_STEERED ends once no lane is steered (R308). -/
def Dev.checkSteered (d : Dev) : Dev :=
  if d.bit 0x2110 9 2 && !d.steers .a && !d.steers .b then d.putBit 0x2110 9 2 false else d

/-- Whether a count deviates from its reference by more than 3.5 % (R49, R306): for the other lane the 800 CLK_E cycles of 2.0 µs,
for the LFO the ratio that the lane measured over 4096 cycles (R302). -/
def Dev.clockOff (d : Dev) (l : LaneId) (w : ClockWindow) (count : Nat) : Bool :=
  match w with
  | .otherLane => decide (35 * 800 < 1000 * absI ((count : Int) - 800))
  | .lfoCycle =>
    let r : Int := (d.lane l).mon.lfoCount
    r != 0 && decide (35 * r < 1000 * absI ((count : Int) * 4096 - r))

/-- LANE_CLOCK_COMPARISON (R49, R302, R306): the end of a 2.0 µs window against the other lane, or of an LFO cycle, with the
cycles of the active clock counted in it. While the other lane runs on the root two consecutive windows decide, each on the root
throughout; otherwise the LFO decides, with every window of its cycle where the other lane runs. A deviation from the LFO alone
sets LFO_SUSPECT; so does one of the LFO that only some windows share, or none has ended to share, which the manual leaves open
(DESIGN CHOICE, log entry 179). -/
def laneClockComparisonStep (l : LaneId) (w : ClockWindow) (count : Nat) (d : Dev) : Dev :=
  let x := d.lane l
  let bad := d.clockOff l w count
  let otherRuns := (d.lane l.other).alive && !d.laneLost l.other
  let otherRoot := otherRuns && d.onRoot l.other
  if x.alive && !d.laneLost l then
    match w with
    | .otherLane =>
      if otherRuns then
        let n := if bad && otherRoot && x.mon.winRoot then x.mon.winRun + 1 else 0
        d.onLane l fun x => { x with mon := { x.mon with
          winRun := n
          winRoot := otherRoot
          winAll := (x.mon.winAll || !x.mon.winSeen) && bad
          winSeen := true
          faultDue := x.mon.faultDue || decide (2 ≤ n) } }
      else d
    | .lfoCycle =>
      let windows := x.mon.winSeen && x.mon.winAll
      let fault := bad && !otherRoot && (!otherRuns || windows)
      let d := d.onLane l fun x => { x with mon := { x.mon with
        winAll := false, winSeen := false, faultDue := x.mon.faultDue || fault } }
      if bad && otherRuns && !windows then d.putBit 0x2110 9 1 true else d
  else d

/-- LANE_CLOCK_FAULT (R49, R250, R306): the deciding comparisons exceeded 3.5 %: the lane is lost. -/
def laneClockFaultStep (l : LaneId) (d : Dev) : Dev :=
  if (d.lane l).alive && (d.lane l).mon.faultDue && !d.laneLost l then
    (d.onLane l fun x => { x with mon := { x.mon with faultDue := false } }).loseLane l .laneClock
  else d

/-- COMMON_TIME_FAULT (R27): from then on no timed action executes, every change is refused, and the grid is FREE. -/
def commonTimeFaultStep (d : Dev) : Dev := d.deviceFault .commonTime

/-! ### Meanings -/

/-- ROOT_CLOCK_LOSS. -/
def execRootClockLoss (l : LaneId) (obs : RootObs) (s : State) : Host.Outcome State Fault Refusal :=
  .next (s.awake (rootClockLossStep l obs))

/-- BACKUP_TRIM_ADJUST. -/
def execBackupTrimAdjust (l : LaneId) (dev : Int) (s : State) : Host.Outcome State Fault Refusal :=
  .next (s.awake (backupTrimAdjustStep l dev))

/-- BACKUP_STEERING_STEP. -/
def execBackupSteeringStep (l : LaneId) (devPpm : Int) (s : State) : Host.Outcome State Fault Refusal :=
  .next (s.awake (backupSteeringStepStep l devPpm))

/-- LANE_CLOCK_COMPARISON. -/
def execLaneClockComparison (l : LaneId) (w : ClockWindow) (count : Nat) (s : State) : Host.Outcome State Fault Refusal :=
  .next (s.awake (laneClockComparisonStep l w count))

/-- LANE_CLOCK_FAULT. -/
def execLaneClockFault (l : LaneId) (s : State) : Host.Outcome State Fault Refusal :=
  .next (s.awake (laneClockFaultStep l))

/-- COMMON_TIME_FAULT. -/
def execCommonTimeFault (s : State) : Host.Outcome State Fault Refusal := .next (s.awake commonTimeFaultStep)

end Sys2Proof.Machine
end

