-- ==== Sys2Proof/Machine/FeedbackHw.lean ====
section
/-! DEFINITION. The feedback interface of a port: quadrature and index decoding, Hall decoding, SENT reception and
their faults (R184 to R201). -/

namespace Sys2Proof.Machine

/-- The feedback mode (R184). -/
def Dev.fbMode (d : Dev) (p : PortId) : Nat := d.pnat p 0x70 1

/-- Whether a port takes its position from a quadrature encoder: modes 1 and 2 (R184). -/
def Dev.quadrature (d : Dev) (p : PortId) : Bool := d.fbMode p == 1 || d.fbMode p == 2

/-- Counts per revolution C (R188). -/
def Dev.cpr (d : Dev) (p : PortId) : Nat := d.pnat p 0x70 5

/-- A port's feedback interface changed by f. -/
def Dev.onFb (d : Dev) (p : PortId) (f : Feedback → Feedback) : Dev := d.onPort p fun x => { x with fb := f x.fb }

/-- A feedback fault: FB_FAULT and the command of source 16 (R201). -/
def Dev.raiseFb (d : Dev) (p : PortId) (f : FaultId) : Dev :=
  (d.trip p f 16).onFb p fun x => { x with flags := { x.flags with fault := true } }

/-- A count saturating at 32 bits. -/
def sat32 (n : Nat) : Nat := min n 4294967295

/-- The sign of a quadrature transition from (a, b) to (a', b') when exactly one level changed: +1 along 00, 10, 11,
01 (R188). -/
def quadSign (a b a' b' : Bool) : Int :=
  match a, b, a', b' with
  | false, false, true, false | true, false, true, true | true, true, false, true | false, true, false, false => 1
  | _, _, _, _ => -1

/-- The raw and reported counts after one counted edge (R188). -/
def countStep (c : Nat) (q p : Nat) (s : Int) : Nat × Nat :=
  let q' := (((q : Int) + s) % (c : Int)).toNat
  let p' := if p = (q' + c - 1) % c then q' else p
  let p'' := if p' = (q' + 2) % c then (q' + 1) % c else p'
  (q', p'')

/-- A filtered level: the new level once the line has held it for N + 1 samples (R185). -/
def filtered (n : Nat) (was : Bool) (x : LineSample) : Bool := if n < x.held then x.level else was

/-- QUADRATURE_EDGE (R185, R188 to R190): the filtered pair of a sample against the previous one. -/
def quadratureEdgeStep (p : PortId) (rawA rawB : LineSample) (cycle : Nat) (d : Dev) : Dev :=
  let x := (d.port p).fb.quad
  let n := d.pnat p 0x70 2
  let a := filtered n x.prevA rawA
  let b := filtered n x.prevB rawB
  if (d.lane p.lane).alive && (d.fbMode p == 1 || d.fbMode p == 2) then
    if a = x.prevA ∧ b = x.prevB then d
    else if a = x.prevA ∨ b = x.prevB then
      let s := quadSign x.prevA x.prevB a b * (if d.pnum p 0x70 4 = 1 then -1 else 1)
      let qp := countStep (d.cpr p) x.q x.p s
      let now := (d.lane p.lane).stamp cycle (if a = x.prevA then rawB.held else rawA.held)
      d.onFb p fun f => { f with
        quad := { f.quad with prevA := a, prevB := b, q := qp.1, p := qp.2, edge := now }
        flags := { f.flags with direction := decide (s < 0), illegalEdge := false, motion := true } }
    else
      d.onFb p fun f => { f with
        quad := { f.quad with prevA := a, prevB := b, bucket := f.quad.bucket + 1 }
        flags := { f.flags with illegalEdge := true }
        counts := { f.counts with illegal := sat32 (f.counts.illegal + 1) } }
  else d

/-- ILLEGAL_BUCKET_LEAK (R190): the bucket loses 1 at every leak period, not below 0. -/
def illegalBucketLeakStep (p : PortId) (d : Dev) : Dev :=
  let q := (d.port p).fb.quad
  let per := d.pnat p 0x70 9 * 2000
  if (d.lane p.lane).alive && q.leakSlot + per ≤ d.slotOf p then
    d.onFb p fun f => { f with quad := { f.quad with bucket := f.quad.bucket - 1, leakSlot := f.quad.leakSlot + per } }
  else d

/-- ILLEGAL_BUCKET_LIMIT (R190, R201): the bucket exceeds its limit; not raised again while it is active. -/
def illegalBucketLimitStep (p : PortId) (d : Dev) : Dev :=
  if d.fbMode p ≠ 0 && d.pnat p 0x70 8 < (d.port p).fb.quad.bucket && !d.faulted p .fbIllegal then d.raiseFb p .fbIllegal
  else d

/-- A count shifted by E − q (R191). -/
def shiftBy (c : Nat) (v : Nat) (diff : Int) : Nat := (((v : Int) + diff) % (c : Int)).toNat

/-- A difference reduced into −C/2 … C/2 − 1 (R191, R200). -/
def reduceHalf (c : Nat) (v : Int) : Int := (v + (c : Int) / 2) % (c : Int) - (c : Int) / 2

/-- An index event judged (R191): the first references the count, a later one is a match or a mismatch. -/
def Dev.indexEvent (d : Dev) (p : PortId) : Dev :=
  let f := (d.port p).fb
  let c := d.cpr p
  let diff : Int := d.pnum p 0x70 6 - f.quad.q
  if !f.flags.referenced then
    d.onFb p fun f => { f with
      quad := { f.quad with q := shiftBy c f.quad.q diff, p := shiftBy c f.quad.p diff }
      flags := { f.flags with referenced := true } }
  else if diff = 0 then
    d.onFb p fun f => { f with
      quad := { f.quad with missRun := 0 }
      flags := { f.flags with mismatch := false } }
  else
    let corr := d.pnum p 0x70 7 == 1
    d.onFb p fun f => { f with
      quad := { f.quad with
        missRun := f.quad.missRun + 1
        q := if corr then shiftBy c f.quad.q diff else f.quad.q
        p := if corr then shiftBy c f.quad.p diff else f.quad.p }
      flags := { f.flags with mismatch := true }
      counts := { f.counts with
        mismatches := sat32 (f.counts.mismatches + 1)
        lastDiff := reduceHalf c diff } }

/-- INDEX_EVENT (R185, R191): a sample of the index line in mode 1; a rising edge of the filtered line is an index event. -/
def indexEventStep (p : PortId) (raw : LineSample) (d : Dev) : Dev :=
  let was := (d.port p).fb.quad.z
  let z := filtered (d.pnat p 0x70 3) was raw
  if (d.lane p.lane).alive && d.fbMode p == 1 then
    let d := d.onFb p fun f => { f with quad := { f.quad with z := z } }
    if z && !was then d.indexEvent p else d
  else d

/-- INDEX_MISMATCH_LIMIT (R191, R201): the third consecutive mismatch. -/
def indexMismatchLimitStep (p : PortId) (d : Dev) : Dev :=
  if d.fbMode p == 1 && 3 ≤ (d.port p).fb.quad.missRun then
    (d.raiseFb p .fbIndex).onFb p fun f => { f with quad := { f.quad with missRun := 0 } }
  else d

/-- PRESET_COUNT (R192): the published value sets both counts and INDEX_REFERENCED. The consecutive-mismatch count and
INDEX_MISMATCH stay (DESIGN CHOICE, log entry 143). -/
def presetCountStep (p : PortId) (d : Dev) : Dev :=
  match d.pubOf (pidx p 0x72) 0 with
  | none => d
  | some e =>
    let v := e.val.toInt.toNat
    ((d.dropPub (pidx p 0x72) 0).onFb p fun f => { f with
      quad := { f.quad with q := v, p := v }
      flags := { f.flags with referenced := true } }).showAt p.lane

/-! ### Hall -/

/-- The centre angle of a Hall state (R193). -/
def Dev.hallCentre (d : Dev) (p : PortId) (h : Nat) : Int := ((d.arr (pidx p 0x70) 0xD)[h - 1]?).getD 0

/-- A state's place in the order of ascending centre angle (R193). -/
def Dev.hallPos (d : Dev) (p : PortId) (h : Nat) : Nat :=
  ((d.arr (pidx p 0x70) 0xD).filter fun c => c < d.hallCentre p h).length

/-- The midpoint of two centres along the shorter arc, rounded half away from zero (R193). -/
def edgeAngle (c1 c2 : Int) : Int :=
  let df := wrapDiff (c2 - c1)
  if 0 ≤ df then wrapAng (roundHA (2 * c1 + df) 2) else wrapAng (roundHA (2 * c2 - df) 2)

/-- A counted Hall edge (R193, R194): arc and interval since the counted edge before it, where there was one. -/
def Hall.edgeTo (x : Hall) (h : Nat) (ang : Int) (dir : Int) (now : Nat) : Hall :=
  { x with
    h := h, last := h, angle := ang, stamp := now, base := now, dir := dir, invalidAt := none, edgeAng := ang
    edgeAt := now
    arc := if x.dir = 0 then 0 else absI (wrapDiff (ang - x.edgeAng)) * dir
    prev := if x.dir = 0 then 0 else (since now x.edgeAt).toNat }

/-- A Hall skip (R193): the angle is the new state's centre; three steps set the speed to 0. -/
def Hall.skipTo (x : Hall) (h : Nat) (centre : Int) (zero : Bool) (now : Nat) : Hall :=
  { x with
    h := h, last := h, angle := centre, stamp := now, base := now, invalidAt := none
    arc := if zero then 0 else x.arc }

/-- The Hall state of the filtered levels of a sample (R185): H1 and H2 are FBA and FBB, H3 is FBZ. -/
def Dev.hallState (d : Dev) (p : PortId) (r1 r2 r3 : LineSample) : Nat :=
  let h := (d.port p).fb.hall.h
  bitsToNat [filtered (d.pnat p 0x70 2) (bitOf h 0) r1, filtered (d.pnat p 0x70 2) (bitOf h 1) r2,
    filtered (d.pnat p 0x70 3) (bitOf h 2) r3]

/-- For how many samples a Hall state has stood: the line that changed last decides (R185, log entry 144). -/
def hallHeld (was h : Nat) (r1 r2 r3 : LineSample) : Nat :=
  let ls := ([(0, r1), (1, r2), (2, r3)].filter fun x => bitOf was x.1 != bitOf h x.1).map fun x => x.2.held
  ls.foldl min (2 ^ 32 - 1)

/-- HALL_STATE_CHANGE (R185, R190, R193): an edge, a skip or an invalid state. A change between 0 and 7 behind a raised fault
starts the invalid time anew (DESIGN CHOICE, log entry 163). -/
def hallStateChangeStep (p : PortId) (r1 r2 r3 : LineSample) (cycle : Nat) (d : Dev) : Dev :=
  let x := (d.port p).fb.hall
  let h := d.hallState p r1 r2 r3
  let now := (d.lane p.lane).stamp cycle (hallHeld x.h h r1 r2 r3)
  if (d.lane p.lane).alive && d.fbMode p == 3 && h ≠ x.h then
    if h = 0 ∨ h = 7 then
      d.onFb p fun f => { f with
        hall := { f.hall with h := h, stamp := now, invalidAt := some (f.hall.invalidAt.getD now) }
        flags := { f.flags with hallInvalid := true } }
    else if x.last = 0 then
      d.onFb p fun f => { f with
        hall := { f.hall with
            h := h, last := h, angle := d.hallCentre p h, stamp := now, base := now, invalidAt := none }
        flags := { f.flags with hallInvalid := false } }
    else
      let df := (d.hallPos p h + 6 - d.hallPos p x.last) % 6
      let inv := d.pnum p 0x70 4 == 1
      if df = 0 then
        d.onFb p fun f => { f with
          hall := { f.hall with h := h, stamp := now, invalidAt := none }
          flags := { f.flags with hallInvalid := false } }
      else if df = 1 ∨ df = 5 then
        let dir : Int := if df = 1 then 1 else -1
        let ang := edgeAngle (d.hallCentre p x.last) (d.hallCentre p h)
        d.onFb p fun f => { f with
          hall := f.hall.edgeTo h ang dir now
          flags := { f.flags with
            hallInvalid := false, hallSkip := false, motion := true, direction := (decide (dir < 0)) != inv } }
      else
        d.onFb p fun f => { f with
          hall := f.hall.skipTo h (d.hallCentre p h) (df == 3) now
          quad := { f.quad with bucket := f.quad.bucket + 1 }
          flags := { f.flags with hallInvalid := false, hallSkip := true }
          counts := { f.counts with skips := sat32 (f.counts.skips + 1) } }
  else d

/-- HALL_INVALID_TIMEOUT (R51, R193, R201): no valid state within 0x3x70.0E, judged at the latch. A change between the states 0
and 7 after the fault starts the invalid time anew (DESIGN CHOICE, log entry 59). -/
def hallInvalidTimeoutStep (p : PortId) (d : Dev) : Dev :=
  let f := (d.port p).fb
  match f.latch.hall.invalidAt with
  | none => d
  | some t0 =>
    if d.fbMode p == 3 && (d.lane p.lane).alive && f.hall.invalidAt == some t0 &&
        (d.pnum p 0x70 0xE * 100 ≤ since f.latch.clk t0) then
      (d.raiseFb p .fbHall).onFb p fun f => { f with hall := { f.hall with invalidAt := none } }
    else d

/-- The zero-speed timeout in CLK_A cycles (R194). -/
def Dev.zeroCycles (d : Dev) (p : PortId) : Nat := d.pnat p 0x70 0xC * 100000

/-- The CLK_A time of the last counted edge, or of the last position change of a SENT port (R204). -/
def Feedback.lastEvent (f : Feedback) (mode : Nat) : Nat :=
  if mode = 3 then f.hall.edgeAt else if mode = 4 then f.sent.moved else f.quad.edge

/-- The CLK_A time of the same event as the latch holds it. -/
def FbLatch.lastEvent (l : FbLatch) (mode : Nat) : Nat :=
  if mode = 3 then l.hall.edgeAt else if mode = 4 then l.sent.moved else l.edge

/-- ZERO_SPEED_TIMEOUT (R51, R194, R200, R204): no edge within the timeout, judged at the latch, and none since: MOTION clears and
the speed is 0, for Hall with the angle at the centre of the current state. A SENT port only loses MOTION: R200 gives the
timeout's speed 0 to quadrature and Hall. -/
def zeroSpeedTimeoutStep (p : PortId) (d : Dev) : Dev :=
  let f := (d.port p).fb
  let m := d.fbMode p
  let t := f.latch.lastEvent m
  let late := !f.flags.motion || decide ((d.zeroCycles p : Int) < since f.latch.clk t)
  if m ≠ 0 && (d.lane p.lane).alive && late && f.lastEvent m == t then
    let c := if 1 ≤ f.hall.h ∧ f.hall.h ≤ 6 then d.hallCentre p f.hall.h else f.hall.angle
    d.onPort p fun x => { x with
      fb := { x.fb with
        flags := { x.fb.flags with motion := false }
        hall := if m = 3 then { x.fb.hall with angle := c } else x.fb.hall }
      e1 := if m = 4 then x.e1 else { x.e1 with fb := { x.e1.fb with zero := true, w := 0, wf := 0 } } }
  else d

/-! ### SENT -/

/-- The CRC table of R196. -/
def sentTable : List Nat := [0, 13, 7, 10, 14, 3, 9, 4, 1, 12, 6, 11, 15, 2, 8, 5]

/-- The 4-bit CRC over the data nibbles (R196). -/
def sentCrc (legacy : Bool) (ds : List Nat) : Nat :=
  let c := ds.foldl (fun c x => Nat.xor (x % 16) (sentTable.getD c 0)) 5
  if legacy then c else sentTable.getD c 0

/-- A nibble's value from its interval: length over tick, rounded, minus 12 (R195). -/
def nibbleVal (cal len : Nat) : Int := roundHA (len * 56) cal - 12

/-- The number of nibbles of a format including status and CRC (R195). -/
def formatNibbles (fmt : Nat) : Nat := if fmt = 1 then 8 else 5

/-- The decoded nibbles of a frame: status, data, CRC. -/
def sentValues (f : SentFrame) : List Nat := f.nibbles.map fun n => (nibbleVal f.cal n).toNat

/-- v1: nibbles 1 to 3, most significant first (R195). -/
def sentV1 (ns : List Nat) : Nat := ns.getD 1 0 * 256 + ns.getD 2 0 * 16 + ns.getD 3 0

/-- v2: nibbles 4 to 6, least significant first (R195). -/
def sentV2 (ns : List Nat) : Nat := ns.getD 4 0 + ns.getD 5 0 * 16 + ns.getD 6 0 * 256

/-- The pause before the calibration pulse is as configured (R197, cause 4). -/
def pauseOk (wanted : Bool) (cal : Nat) (pause : Option Nat) : Bool :=
  match pause with
  | none => !wanted
  | some n => wanted && decide (12 * cal ≤ n * 56) && decide (n * 56 ≤ 768 * cal)

/-- The cause for which a frame is rejected, in the order of R197; 0 where it is accepted. The format says which of the intervals
are nibbles; an interval after the last of them that is neither a pause nor a calibration pulse is a frame of the wrong
length (DEDUCED, log entry 58). -/
def Dev.sentCause (d : Dev) (p : PortId) (f : SentFrame) : Nat :=
  let fmt := d.pnat p 0x70 0xF
  let ns := sentValues f
  let n := formatNibbles fmt
  let v1 := sentV1 ns
  let g : Int := if d.pnum p 0x70 0x13 = 0 then sentV2 ns else 4095 - (sentV2 ns : Int)
  if f.cal < 13440 ∨ 20160 < f.cal then 1
  else if (match (d.port p).fb.sent.prevCal with
    | none => false
    | some c => decide (c < 64 * absI ((f.cal : Int) - c))) then 2
  else if (f.nibbles.take n).any fun x => nibbleVal f.cal x < 0 || 15 < nibbleVal f.cal x then 3
  else if f.nibbles.length ≠ n ∨ pauseOk (d.pnum p 0x70 0x11 == 1) f.cal f.pause = false then 4
  else if sentCrc (d.pnum p 0x70 0x10 == 1) ((ns.drop 1).take (n - 2)) ≠ ns.getD (n - 1) 0 then 5
  else if v1 < d.pnat p 0x70 0x16 ∨ d.pnat p 0x70 0x17 < v1 then 6
  else if fmt = 1 ∧ d.pnum p 0x70 0x14 < absI ((v1 : Int) - g) then 7
  else 0

/-- SENT_FRAME_RECEIVED (R185, R195 to R198): a frame whose last falling edge passes the filter is accepted or rejected with
its cause. The measured tick of 0x3x71.0F is rounded half away from zero to whole ns and saturates (DESIGN CHOICE, log entry
145). -/
def sentFrameReceivedStep (p : PortId) (f : SentFrame) (d : Dev) : Dev :=
  if (d.lane p.lane).alive && d.fbMode p == 4 && decide (d.pnat p 0x70 3 < f.low) then
    let cause := d.sentCause p f
    let tick := (satU 16 (roundHA (f.cal * 10) 56)).toNat
    if cause = 0 then
      let ns := sentValues f
      let now := (d.lane p.lane).stamp f.cycle f.low
      let dual := d.pnum p 0x70 0xF == 1
      d.onFb p fun b =>
        let moved := b.sent.got && b.sent.v1 ≠ sentV1 ns
        { b with
        sent := ⟨some f.cal, sentV1 ns, if dual then sentV2 ns else b.sent.v2, ns.getD 0 0, now,
          if moved then now else b.sent.moved, true, b.sent.count + 1⟩
        flags := { b.flags with sentStale := false, motion := b.flags.motion || moved }
        counts := { b.counts with accepted := sat32 (b.counts.accepted + 1), tick := tick } }
    else
      d.onFb p fun b => { b with
        sent := { b.sent with prevCal := none }
        counts := { b.counts with rejected := sat32 (b.counts.rejected + 1), lastRej := cause, tick := tick } }
  else d

/-- SENT_TIMEOUT (R51, R198, R201): no accepted frame for 0x3x70.12 against the latched reception time. -/
def sentTimeoutStep (p : PortId) (d : Dev) : Dev :=
  let f := (d.port p).fb
  let base := if f.latch.sent.got then f.latch.sent.trx else f.sentArm
  if (d.lane p.lane).alive && d.fbMode p == 4 && !f.flags.sentStale &&
      (d.pnum p 0x70 0x12 * 100 < since ((d.lane p.lane).clk 0) base) then
    (d.raiseFb p .fbSent).onFb p fun b => { b with flags := { b.flags with sentStale := true } }
  else d

/-- QUADRATURE_EDGE. -/
def execQuadratureEdge (p : PortId) (a b : LineSample) (cycle : Nat) (s : State) : Host.Outcome State Fault Refusal :=
  .next (s.awake (quadratureEdgeStep p a b cycle))

/-- ILLEGAL_BUCKET_LEAK. -/
def execIllegalBucketLeak (p : PortId) (s : State) : Host.Outcome State Fault Refusal :=
  .next (s.awake (illegalBucketLeakStep p))

/-- ILLEGAL_BUCKET_LIMIT. -/
def execIllegalBucketLimit (p : PortId) (s : State) : Host.Outcome State Fault Refusal :=
  .next (s.awake (illegalBucketLimitStep p))

/-- INDEX_EVENT. -/
def execIndexEvent (x : IndexSample) (s : State) : Host.Outcome State Fault Refusal :=
  .next (s.awake (indexEventStep x.port x.line))

/-- INDEX_MISMATCH_LIMIT. -/
def execIndexMismatchLimit (p : PortId) (s : State) : Host.Outcome State Fault Refusal :=
  .next (s.awake (indexMismatchLimitStep p))

/-- PRESET_COUNT. -/
def execPresetCount (p : PortId) (s : State) : Host.Outcome State Fault Refusal := .next (s.awake (presetCountStep p))

/-- HALL_STATE_CHANGE. -/
def execHallStateChange (p : PortId) (h : HallLines) (cycle : Nat) (s : State) :
    Host.Outcome State Fault Refusal := .next (s.awake (hallStateChangeStep p h.h1 h.h2 h.h3 cycle))

/-- HALL_INVALID_TIMEOUT. -/
def execHallInvalidTimeout (p : PortId) (s : State) : Host.Outcome State Fault Refusal :=
  .next (s.awake (hallInvalidTimeoutStep p))

/-- ZERO_SPEED_TIMEOUT. -/
def execZeroSpeedTimeout (p : PortId) (s : State) : Host.Outcome State Fault Refusal :=
  .next (s.awake (zeroSpeedTimeoutStep p))

/-- SENT_FRAME_RECEIVED. -/
def execSentFrameReceived (p : PortId) (f : SentFrame) (s : State) : Host.Outcome State Fault Refusal :=
  .next (s.awake (sentFrameReceivedStep p f))

/-- SENT_TIMEOUT. -/
def execSentTimeout (p : PortId) (s : State) : Host.Outcome State Fault Refusal := .next (s.awake (sentTimeoutStep p))

end Sys2Proof.Machine
end

