-- ==== Sys2Proof/Machine/Judge.lean ====
section
/-! DEFINITION. The judgement of a write (R361): existence, access, role, mode, length, range, locks and the rules of the
objects' own chapters, against the committed state (R365). -/

namespace Sys2Proof.Machine

/-! ### Objects held by profiles, and rules that join several objects -/

/-- Whether a profile holds an object (R386). -/
def profileHeld (r : ObjRow) (key : Nat) : Bool := r.cls == .config && key != 0x130001 && key != 0x273001

/-- Whether an object exists on this part (R3, R417, R468). -/
def Dev.objExists (d : Dev) (idx sub : Nat) : Bool := !d.absent idx && (objRow idx sub).isSome

/-- The index of a stream's mapping (R358). -/
def mapIdx (s : Nat) : Nat := 0x4000 + s

/-- Whether a stream is active (R351). -/
def Dev.streamOn (d : Dev) (s : Nat) : Bool := d.num (streamIdx s) 1 == 1

/-- Whether a stream receives (R358). -/
def Dev.streamRx (d : Dev) (s : Nat) : Bool := d.num (streamIdx s) 2 == 0

/-- The object key of a mapping entry. -/
def mapKey (e : Nat) : Nat := e / 256

/-- The length of a mapping entry. -/
def mapLen (e : Nat) : Nat := e % 256

/-- The mapping entries 1 to the entry count of a stream (R351). -/
def Dev.streamMap (d : Dev) (s : Nat) : List Nat :=
  (List.range (d.nat (mapIdx s) 0)).map fun i => d.nat (mapIdx s) (i + 1)

/-- Whether a mapping entry names an existing object with that object's size (R351). -/
def Dev.mapEntryOk (d : Dev) (e : Nat) : Bool :=
  match objRow (mapKey e / 256) (mapKey e % 256) with
  | none => false
  | some r => d.objExists (mapKey e / 256) (mapKey e % 256) && r.size == some (mapLen e)

/-- Whether an active receive stream other than s maps an object (R351). -/
def Dev.mappedBy (d : Dev) (except : Option Nat) (key : Nat) : Bool :=
  (List.range 16).any fun s =>
    except != some s && d.streamOn s && d.streamRx s && (d.streamMap s).any fun e => mapKey e == key

/-- Whether the key is that of a Process object. -/
def isProcess (key : Nat) : Bool :=
  match objRow (key / 256) (key % 256) with
  | some r => r.cls == .process
  | none => false

/-- The whole mapping of a stream judged (R351). -/
def Dev.mappingOk (d : Dev) (s : Nat) : Bool :=
  let m := d.streamMap s
  (m.all fun e => d.mapEntryOk e) &&
  (!d.streamRx s || m.all fun e => isProcess (mapKey e) && !d.mappedBy (some s) (mapKey e)) &&
  (m.foldl (fun n e => n + mapLen e) 0) ≤ (if d.num (streamIdx s) 3 = 3 then 40 else 256)

/-- Whether a list of table speeds ascends strictly. -/
def ascends : List Int → Bool
  | a :: b :: r => decide (a < b) && ascends (b :: r)
  | _ => true

/-- Every second element of a list: the first of each pair. -/
def firsts : List Int → List Int
  | a :: _ :: r => a :: firsts r
  | r => r

/-- Every second element of a list: the second of each pair. -/
def seconds : List Int → List Int
  | _ :: b :: r => b :: seconds r
  | _ => []

/-- The feed-forward table's rule (R156). -/
def ffTableOk (t : List Int) : Bool :=
  (t.all fun x => x == 0) ||
  (decide (0 < t.getD 0 0) && ascends (firsts t) && (seconds t).all fun x => decide (x ≤ 0))

/-- The MTPA table's rule (R157). -/
def mtpaTableOk (t : List Int) : Bool :=
  t.getD 0 0 == 0 && ascends (firsts t) && (seconds t).all fun x => decide (x ≤ 0)

/-- Whether every centre of a Hall table has its next one 1820 to 3641 codes on around the turn (R203). -/
def hallTableOk (t : List Int) : Bool :=
  (List.range t.length).all fun i =>
    let gap := ((t.eraseIdx i).map fun y => (y - t.getD i 0) % 16384).foldl min 16384
    decide (1820 ≤ gap ∧ gap ≤ 3641)

/-- Whether four nibbles name each of the ports 1 to 4 once (R165). -/
def priorityOk (v : Nat) : Bool :=
  [1, 2, 3, 4].all fun p => [field v 15 12, field v 11 8, field v 7 4, field v 3 0].contains p

/-- The bits of a chain frame (R400). -/
def Dev.chainBits (d : Dev) : Nat := (if d.num 0x2300 5 = 0 then 2 else 1) * d.nat 0x2300 3

/-- The rules that join the values of several objects, for those that an object takes part in (R99, R136, R144, R156, R157,
R165, R203, R229, R262, R294, R330, R402). -/
def Dev.crossOk (d : Dev) (idx sub : Nat) : Bool :=
  let b := idx / 256 * 256
  let n := fun (blk s : Nat) => d.num (b + blk) s
  if 0x3000 ≤ idx ∧ idx < 0x3400 then
    let blk := idx % 256
    if blk = 0x30 ∧ (sub = 8 ∨ sub = 0xA) then n 0x30 0xA = 0 || decide (n 0x30 8 ≤ n 0x30 0xA)
    else if blk = 0x20 ∧ (sub = 0xD ∨ sub = 0xE ∨ sub = 0xF) then
      decide (n 0x20 0xD + 50 ≤ n 0x20 0xE) && decide (n 0x20 0xE + 50 ≤ n 0x20 0xF) &&
      (sub != 0xF || decide (n 0x20 0xF ≤ n 0x50 1))
    else if blk = 0x50 ∧ sub = 1 then decide (n 0x20 0xF ≤ n 0x50 1)
    else if blk = 0x50 ∧ sub = 0x11 then ffTableOk (d.arr idx 0x11)
    else if blk = 0x50 ∧ sub = 0x10 then mtpaTableOk (d.arr idx 0x10)
    else if blk = 0x70 ∧ sub = 0xD then hallTableOk (d.arr idx 0xD)
    else if blk = 0x80 ∧ (sub = 4 ∨ sub = 5) then decide (n 0x80 4 ≤ n 0x80 5)
    else if blk = 0x80 ∧ (sub = 7 ∨ sub = 8) then decide (n 0x80 7 < n 0x80 8)
    else if blk = 0x80 ∧ (sub = 0x15 ∨ sub = 0x16) then decide (n 0x80 0x15 < n 0x80 0x16)
    else true
  else if normIdx idx = 0x2201 then gcWordSettles (d.nat idx sub)
  else if idx = 0x2820 ∧ (sub = 1 ∨ sub = 2) then decide (d.num 0x2820 1 + 50 ≤ d.num 0x2820 2)
  else if idx = 0x2810 ∧ sub = 3 then priorityOk (d.nat 0x2810 3)
  else if (idx = 0x2120 ∨ idx = 0x2121) ∧ sub = 2 then d.num 0x2120 2 != d.num 0x2121 2
  else if idx = 0x2300 then
    decide (d.nat 0x2300 4 ≤ d.chainBits) && (d.num 0x2300 2 != 1 || [16, 24, 32].contains (d.nat 0x2300 4))
  else true

/-- The stream rules of R351 that a write to a stream's enable or mapping must meet; d holds the value written. -/
def Dev.streamWriteOk (d : Dev) (idx sub : Nat) : Bool :=
  if 0x1160 ≤ idx ∧ idx < 0x1170 then
    if sub = 1 ∧ d.num idx 1 = 1 then !(d.streamMap (idx - 0x1160)).isEmpty && d.mappingOk (idx - 0x1160) else true
  else if 0x4000 ≤ idx ∧ idx < 0x4010 then
    if d.streamOn (idx - 0x4000) then d.mappingOk (idx - 0x4000)
    else if sub = 0 then true
    else d.num idx sub == 0 || d.mapEntryOk (d.nat idx sub)
  else true

/-! ### Claims that a write needs -/

/-- Whether the active image claims a GPIO pin for an owner at a function level (R68). -/
def Dev.claimsPin (d : Dev) (pin level owner : Nat) : Bool :=
  match d.image with
  | none => false
  | some im => im.claims.any fun c => c.cls == 1 && c.number == pin && c.owner == owner && c.flags == level

/-- Whether the active image claims an output for the timekeeping unit: SYNC 0 to 3, or GPIO 0x10 to 0x17 at level 2
(R323). -/
def Dev.claimsOutput (d : Dev) (out : Nat) : Bool :=
  if out < 4 then d.claims 6 out [0x30] else d.claimsPin (out - 0x10) 2 0x30

/-- The lines of a feedback mode: 0 FBA, 1 FBB, 2 FBZ (R184). -/
def fbLines (mode : Nat) : List Nat :=
  match mode with
  | 1 | 3 => [0, 1, 2]
  | 2 => [0, 1]
  | 4 => [2]
  | _ => []

/-- Whether the active image claims an entry of a converter for an engine (R265). -/
def Dev.gcEngineClaim (d : Dev) (g : GcId) (e : Nat) : Bool := d.claims 4 (gcClaimNo g e) (List.range 12)

/-- The converter of an index 0x22g0 to 0x22g5. -/
def gcOfIdx (idx : Nat) : GcId :=
  match idx / 16 % 16 with
  | 0 => .g0
  | 1 => .g1
  | 2 => .g2
  | _ => .g3

/-- The port of a 0x3x index. -/
def portOfIdx (idx : Nat) : PortId :=
  match idx / 256 % 16 with
  | 0 => .m1
  | 1 => .m2
  | 2 => .m3
  | _ => .m4

/-- The claims that a write needs (R71, R114, R184, R265, R448); d holds the value written. -/
def Dev.claimsOk (d : Dev) (idx sub : Nat) : Bool :=
  if 0x3000 ≤ idx ∧ idx < 0x3400 then
    let p := portOfIdx idx
    if idx % 256 = 0x70 ∧ sub = 1 then
      (fbLines (d.nat idx 1)).all fun k => d.claims 1 (0x10 + 3 * p.num + k) [0x10 + p.num]
    else if idx % 256 = 0x40 ∧ sub = 1 then decide (d.num idx 1 ≤ 1000) || d.places p .e0 0x0B
    else true
  else if normIdx idx = 0x2201 then d.gcClaimed (gcOfIdx idx) (sub - 1)
  else if normIdx idx = 0x2200 ∧ sub = 2 then
    (List.range 16).all fun e => decide (e < d.nat idx 2) || !d.gcEngineClaim (gcOfIdx idx) e
  else if idx = 0x2010 ∧ (sub = 1 ∨ sub = 2) then
    (List.range 8).all fun k => !d.bit 0x2010 sub k || d.claimsPin k 3 0x31
  else true

/-! ### Timed-action records -/

/-- A timed-action record taken apart (R322). -/
structure Action where
  kind : Nat
  base : Nat
  out : Nat
  len : Nat
  target : Nat
  top : Nat
  time : Int
  timeOk : Bool
  period : Nat
  count : Nat
  grace : Nat
  value : List Byte
  reservedZero : Bool
deriving DecidableEq, Repr

/-- Bytes a to a + n − 1 of a list. -/
def slice (b : List Byte) (a n : Nat) : List Byte := (b.drop a).take n

/-- Whether every byte is zero. -/
def allZero (b : List Byte) : Bool := b.all fun x => x == 0

/-- The record of 44 bytes (R322). -/
def actionOf (b : List Byte) : Action :=
  let n := fun (a k : Nat) => leNat (slice b a k)
  { kind := n 0 1, base := n 1 1, out := n 2 1, len := n 3 1, target := n 4 3, top := n 7 1
    time := ((n 8 6 * 1000000000 + n 14 4 : Nat) : Int), timeOk := n 14 4 < 1000000000
    period := n 0x14 4, count := n 0x18 4, grace := n 0x1C 4, value := slice b 0x20 10
    reservedZero := allZero (slice b 0x12 2) && allZero (slice b 0x2A 2) }

/-- Whether every field lies in its range (R322, R323 step 2). -/
def Action.rangeOk (a : Action) : Bool :=
  decide (a.kind ≤ 4) && decide (a.base ≤ 1) && a.timeOk && a.reservedZero && decide (a.grace ≤ 1000000) &&
  (if a.kind = 1 then decide (a.out < 4) || (decide (0x10 ≤ a.out) && decide (a.out < 0x18)) else a.out == 0) &&
  (if a.kind = 2 then decide (1 ≤ a.len) && decide (a.len ≤ 8) && a.top == 0 && allZero (a.value.drop a.len)
    else a.len == 0 && a.target == 0 && a.top == 0) &&
  (a.period == 0 || decide ((if a.kind = 1 then 1000 else 1000000) ≤ a.period)) &&
  (if a.kind = 3 then decide (leNat (a.value.drop 6) < 1000000000)
    else if a.kind = 4 then decide (leNat (a.value.take 1) ≤ 4) && allZero (a.value.drop 1)
    else a.kind == 2 || allZero a.value)

/-- The time of the occurrence of a number (R324). -/
def Action.occurrence (a : Action) (i : Nat) : Int := a.time + (i * a.period : Nat)

/-- Whether an occurrence of this number exists: one without a period, `count` with one, unlimited for 0 (R322). -/
def Action.has (a : Action) (i : Nat) : Bool :=
  if a.period = 0 then i == 0 else a.count == 0 || decide (i < a.count)

/-- The value of a record's base in ns: DT, or AT, which reads as DT while it is UNSET (R310, R322). -/
def Dev.baseNow (d : Dev) (base : Nat) : Int :=
  if base = 1 ∨ d.nat 0x2100 5 = 0 then d.time.dt.ns else d.time.at'.ns

/-- The value of a record's base at the last boundary of a lane, its own where it counts apart (R24, R323, R325, log entry
137). -/
def Dev.baseIn (d : Dev) (l : LaneId) (base : Nat) : Int :=
  if !d.apart l then d.baseNow base
  else if base = 1 ∨ d.nat 0x2100 5 = 0 then d.time.cross.1
  else d.time.cross.2

/-- The pulse width of an output: 0x2140.01 to .04 for SYNC0 to SYNC3; a GPIO takes the width of SYNC n mod 4 (R328). -/
def Dev.pulseWidth (d : Dev) (out : Nat) : Int := d.num 0x2140 (out % 4 + 1)

/-- The object that an action writes: its target, the grid anchor, or a mode request (R323, R325). -/
def Action.key (a : Action) : Nat :=
  if a.kind = 2 then a.target
  else if a.kind = 3 then 0x215002
  else if leNat (a.value.take 1) = 0 ∨ leNat (a.value.take 1) = 3 then 0x200300 else 0x200100

/-- The write role of an object; Custodian where there is none. -/
def roleOfKey (key : Nat) : Nat :=
  match objRow (key / 256) (key % 256) with
  | some r => r.role.rank
  | none => 3

/-- Checks 4 of R323: the output's claim and its width, or the target and its length. -/
def Dev.actionFits (d : Dev) (a : Action) : Bool :=
  if a.kind = 1 then d.claimsOutput a.out && (a.period == 0 || decide (d.pulseWidth a.out < a.period))
  else if a.kind = 2 then
    isProcess a.target && d.objExists (a.target / 256) (a.target % 256) &&
    (match objRow (a.target / 256) (a.target % 256) with
      | some r => r.size == some a.len
      | none => false)
  else true

/-- The state of a timed-action entry, numbered from 1. -/
def Dev.timedEntry (d : Dev) (e : Nat) : TimedEntry := d.time.entries.getD (e - 1) TimedEntry.atReset

/-- The judgement of a write to a timed-action entry in a service slot of lane l (R323), in its own order in place of steps 6 to 9
of R361. -/
def Dev.timedRes (d : Dev) (l : LaneId) (role e : Nat) (raw : List Byte) : Res :=
  let a := actionOf raw
  let s := d.baseIn l a.base
  if raw.length ≠ 44 then .typeLength
  else if a.rangeOk = false then .outOfRange
  else if (d.timedEntry e).state = 1 ∧ a.kind ≠ 0 then .inconsistent
  else if a.kind = 0 then .ok
  else if d.actionFits a = false then .inconsistent
  else if a.kind ≠ 1 ∧ role < roleOfKey a.key then .roleTooLow
  else if a.base = 0 ∧ d.nat 0x2100 5 = 0 then .noTimeSync
  else if s + 2 ^ 31 * 1000000000 < a.time then .timeTooFar
  else if a.period = 0 ∧ a.time < s - a.grace then .timePassed
  else if a.period ≠ 0 ∧ a.count ≠ 0 ∧ a.occurrence (a.count - 1) < s - a.grace then .timePassed
  else .ok

/-! ### Fuses -/

/-- The lock word that closes a word for programming: 3, 4 or 511, none for the vendor's words (R419). -/
def lockOf (w : Nat) : Option Nat :=
  if 6 ≤ w ∧ w ≤ 10 then some 3
  else if 11 ≤ w ∧ w ≤ 15 then some 4
  else if 64 ≤ w ∧ w ≤ 510 then some 511
  else none

/-- A privileged word is partial: no marker, and some other bit set, of its data or its check row (R413). -/
def Fuses.partialAt (f : Fuses) (w : Nat) : Bool := w < 16 && !f.closed.contains w && (f.word w != 0 || f.check w != 0)

/-- A privileged word has a set bit, of its data or its check row, that a new value and its check bits do not hold (R419). -/
def Fuses.holdsMore (f : Fuses) (w : Nat) (v : Word) : Bool :=
  f.word w &&& v != f.word w || (f.check w != 0 && f.check w &&& (Config.checkBits v).setWidth 32 != f.check w)

/-- The windows of step 7 of R419, on the lane supervisors' last measurements and VPP in mV. -/
def Dev.otpWindow (d : Dev) (vpp : Nat) : Bool :=
  d.supplyWindow && (d.num 0x2404 1 == 0 || (decide (6800 ≤ vpp) && decide (vpp ≤ 7200)))

/-- An operation of the fuse array runs, or its command is committed (R391, R420). -/
def Dev.otpBusy (d : Dev) : Bool := d.otp.op.isSome || d.otp.opDue

/-- The judgement of a write to 0x2402.00 (R419). -/
def Dev.programRes (d : Dev) (role vpp : Nat) (raw : List Byte) : Res :=
  let w := leNat (slice raw 0 2)
  let v := leNat (slice raw 4 4)
  let l := d.clkLane
  if 511 < w ∨ leNat (slice raw 2 2) ≠ 0 then .outOfRange
  else if d.mode ≠ 3 then .wrongMode
  else if 11 ≤ w ∧ w ≤ 15 ∧ role < 3 then .roleTooLow
  else if (match lockOf w with
    | none => true
    | some k => d.lockedBy l k) then .locked
  else if w < 16 ∧ (d.fuses.closed.contains w = true ∨ (d.fuses.partialAt w = true ∧
      d.fuses.holdsMore w (BitVec.ofNat 32 v) = true)) then
    .otpWordProgrammed
  else if d.otpBusy then .refusedBusy
  else if d.otpWindow vpp = false then .otpSupplyWindow
  else if d.devFaulted .commonOtp then .inconsistent
  else .ok

/-- The data words, the integrity word and the lock word of a lock region (R422). -/
def lockRegion (r : Nat) : Nat × Nat × Nat × Nat :=
  if r = 1 then (6, 4, 10, 3) else if r = 2 then (11, 4, 15, 4) else (64, 446, 510, 511)

/-- The test of R422 on a lane's shadow. -/
def Dev.lockTest (d : Dev) (l : LaneId) (r : Nat) : Bool :=
  let q := lockRegion r
  let i := q.2.2.1
  (if i < 16 then d.fuses.closed.contains i else d.shadowWord l i != 0) && !d.shadowWeak l i &&
  crc32 (d.shadowBytes l q.1 q.2.1) == (d.shadowWord l i).toNat

/-- The judgement of a write to 0x2403.00 (R422). -/
def Dev.lockRes (d : Dev) (role vpp r : Nat) : Res :=
  let l := d.clkLane
  if d.mode ≠ 3 then .wrongMode
  else if r = 2 ∧ role < 3 then .roleTooLow
  else if d.otpBusy then .refusedBusy
  else if d.otpWindow vpp = false then .otpSupplyWindow
  else if d.devFaulted .commonOtp then .inconsistent
  else if d.lockedBy l (lockRegion r).2.2.2 then .locked
  else if d.lockTest l r then .ok else .otpLockRefused

/-! ### Journal and snapshot -/

/-- Whether an entry number lies before the oldest held entry: its forward distance is half the numbers or more (R368,
R378). -/
def Flash.below (f : Flash) (n : Nat) : Bool := decide (2 ^ 31 ≤ f.dist n)

/-- The judgement of an acknowledgement (R379). -/
def Dev.ackRes (d : Dev) (raw : List Byte) : Res :=
  let f := d.flash
  let n := leNat (raw.take 4)
  let acked := d.nat 0x1300 4
  if n = 0xFFFFFFFF ∨ (f.below n = false ∧ f.dist f.number ≤ f.dist n) then .outOfRange
  else if acked ≠ 0xFFFFFFFF ∧ (f.dist n + 2 ^ 32 - 1 - f.dist acked) % (2 ^ 32 - 1) ≥ 2 ^ 31 then .outOfRange
  else match f.entry n with
    | none => .inconsistent
    | some u => if entryTag u = raw.drop 4 then .ok else .inconsistent

/-- The length of a value on the wire (R359). -/
def Dev.wireLen (d : Dev) (key : Nat) : Nat :=
  (d.showing.value 0 key).length

/-- The objects of a snapshot list. -/
def snapKeys (xs : List Int) : List Nat := xs.map fun x => x.toNat / 256

/-- The judgement of a snapshot list (R363): every object exists and is not Secret, and the values fit. -/
def Dev.snapListRes (d : Dev) (xs : List Int) : Res :=
  if xs.any fun x => x.toNat % 256 != 0 then .outOfRange
  else if (snapKeys xs).all (fun k => d.objExists (k / 256) (k % 256) &&
      (match objRow (k / 256) (k % 256) with
        | some r => r.cls != .secret
        | none => false)) &&
      decide (((snapKeys xs).foldl (fun n k => n + d.wireLen k) 0) ≤ 1016) then .ok
  else .inconsistent

/-- Whether the home lane of an object is lost (R29). -/
def Dev.homeLost (d : Dev) (idx : Nat) : Bool :=
  match homeOf idx with
  | .lane l => d.laneLost l
  | _ => false

/-- The judgement of a take (R363). -/
def Dev.snapTakeRes (d : Dev) : Res :=
  if (snapKeys (d.arr 0x2005 1)).any fun k => d.homeLost (k / 256) then .wrongMode else .ok

/-! ### The rules of the chapters -/

/-- Whether a first segment of a bank file waits for its publication, which starts the erase (R391, R395). -/
def Dev.eraseWaits (d : Dev) : Bool := d.wr.procs.any fun p => p.key == 0x141000 && !p.more

/-- Whether a load, save, erase or bank operation runs, or what starts it is accepted (R391). -/
def Dev.flashBusy (d : Dev) : Bool := d.wr.op.isSome || d.wr.opDue || d.eraseWaits

/-- Whether the staged image is being verified (R81). -/
def Dev.verifying (d : Dev) : Bool := d.nat 0x2620 1 == 2

/-- The indices whose writes R391 refuses while an operation runs, objects held by profiles apart. -/
def busyIdx : List Nat :=
  [0x2001, 0x2003, 0x2610, 0x2611, 0x2612, 0x1401, 0x1402, 0x1403, 0x1410, 0x1411, 0x1412]

/-- The judgement of a bank command (R395). -/
def Dev.bankRes (d : Dev) (idx : Nat) : Res :=
  if d.mode ≠ 3 then .wrongMode
  else if d.flashBusy then .refusedBusy
  else if idx = 0x1412 ∧ d.nat 0x1413 2 ≠ 4 then .inconsistent
  else .ok

/-- The judgement of a profile command (R389, R392, R393, R425). A load in STANDBY, and with it the activation of its image,
follows R389 against R26 (DESIGN CHOICE, log entry 157). -/
def Dev.profileRes (d : Dev) (idx : Nat) : Res :=
  if idx = 0x1401 then
    if d.mode ≠ 2 ∧ d.mode ≠ 3 then .wrongMode
    else if d.allOff = false then .inconsistent
    else if d.flashBusy ∨ d.otpBusy then .refusedBusy else .ok
  else if d.mode ≠ 3 then .wrongMode
  else if d.verifying ∨ d.flashBusy ∨ d.otpBusy then .refusedBusy
  else if idx = 0x1402 ∧ (d.nat 0x2600 3 = 0xFF ∨ d.nat 0x2600 3 = 0x20) then .inconsistent
  else .ok

/-- The judgement of a staged-image command (R81, R391). -/
def Dev.stagedRes (d : Dev) (idx : Nat) : Res :=
  if d.mode ≠ 3 then .wrongMode
  else if d.verifying ∨ d.flashBusy then .refusedBusy
  else if idx = 0x2612 ∧ (d.nat 0x2620 1 ≠ 3 ∨ d.allOff = false) then .inconsistent
  else .ok

/-- The judgement of a mode request (R277, R391, R425). -/
def Dev.modeRequestRes (d : Dev) (idx v : Nat) : Res :=
  let r := d.modeRes idx v
  if r ≠ .ok then r
  else if d.flashBusy then .refusedBusy
  else if d.mode = 3 ∧ d.otpBusy then .refusedBusy
  else .ok

/-- The judgement of return consent (R443). -/
def Dev.consentRes (d : Dev) (v : Int) : Res :=
  let acked := d.nat 0x1300 4
  let n := d.flash.number
  if v = 0 then .ok
  else if d.bit 0x2400 4 2 = false then .inconsistent
  else if (acked = 0xFFFFFFFF ∧ n ≠ 0) ∨ (acked ≠ 0xFFFFFFFF ∧ nextNumber acked ≠ n) then .inconsistent
  else if d.flash.captures.any fun c => c.state == 1 || c.state == 4 then .inconsistent
  else .ok

/-- The judgement of a capture's release (R444). -/
def Dev.releaseRes (d : Dev) (n : Nat) : Res :=
  match d.flash.captures[n - 1]? with
  | none => .outOfRange
  | some c => if c.state = 0 then .inconsistent else if c.state = 4 then .refusedBusy else .ok

/-- The judgement of a general converter's requests (R264, R266, R268, R269). A calibration command that is published and whose
pass has not begun counts as running (DESIGN CHOICE, log entry 177). -/
def Dev.gcRes (d : Dev) (g : GcId) (sub v : Nat) : Res :=
  if sub = 1 then (if d.gcAllClaimed g then .ok else .inconsistent)
  else if sub = 3 then (if (d.gcs.get g).cal.isSome ∨ (d.gcs.get g).calReq = true then .refusedBusy else .ok)
  else if d.bit (gcIdx g 3) 3 2 then .refusedBusy
  else if d.gcMode g = 0 then .inconsistent
  else if (List.range 16).all fun e => !d.claims 4 (gcClaimNo g e) [0x20 + g.num] then .inconsistent
  else if gcWordSettles v then .ok else .inconsistent

/-- The ranges of a port's objects that depend on other objects (R142, R192, R203). Only a write of the dependent object is judged
(DESIGN CHOICE, log entry 164). -/
def Dev.portRange (d : Dev) (p : PortId) (blk sub v : Nat) : Bool :=
  if blk = 0x20 ∧ sub = 0xB then decide (v < d.pnat p 0x20 0xA)
  else if blk = 0x70 ∧ sub = 5 then (if d.fbMode p = 4 then decide (v ≤ 4096) else decide (4 ≤ v))
  else if (blk = 0x70 ∧ sub = 6) ∨ blk = 0x72 then decide (v < d.cpr p)
  else if blk = 0x70 ∧ sub = 0x17 then decide (d.pnat p 0x70 0x16 ≤ v)
  else true

/-- The ranges and encodings that an object's own chapter gives beside its table (R192, R203, R257, R260, R378, R468): step 7 of
R361. -/
def Dev.extraRange (d : Dev) (idx sub : Nat) (v : Nat) : Bool :=
  if normIdx idx = 0x2201 ∨ (normIdx idx = 0x2202 ∧ sub = 2) then gcWordValid v
  else if 0x3000 ≤ idx ∧ idx < 0x3400 then d.portRange (portOfIdx idx) (idx % 256) sub v
  else if 0x1160 ≤ idx ∧ idx < 0x1170 ∧ sub = 3 then d.boot.laneB || v != 2
  else if (idx = 0x2120 ∨ idx = 0x2121) ∧ sub = 3 then d.boot.laneB || !bitOf v 1
  else if idx = 0x1310 ∧ sub = 1 then v != 0xFFFFFFFF && (d.flash.below v || decide (d.flash.dist v ≤ d.flash.dist d.flash.number))
  else true

/-- Step 9 of R361: the rules of the object's own chapter, against the committed state d. -/
def Dev.chapterRes (d : Dev) (role vpp : Nat) (r : ObjRow) (idx sub : Nat) (raw : List Byte) : Res :=
  let val := decodeVal r.type raw
  let v := val.toInt.toNat
  let after := d.putVal idx sub val
  if idx = 0x2001 ∨ idx = 0x2003 then d.modeRequestRes idx v
  else if idx = 0x2004 then d.resetRes
  else if idx = 0x2100 ∧ sub = 0xD then d.setDtRes
  else if idx = 0x1401 ∨ idx = 0x1402 ∨ idx = 0x1403 then d.profileRes idx
  else if idx = 0x1411 ∨ idx = 0x1412 then d.bankRes idx
  else if idx = 0x1410 then (if d.flashBusy then .refusedBusy else .ok)
  else if idx = 0x2610 ∨ idx = 0x2611 ∨ idx = 0x2612 then d.stagedRes idx
  else if idx = 0x2402 then d.programRes role vpp raw
  else if idx = 0x2403 then d.lockRes role vpp v
  else if idx = 0x1310 ∧ sub = 2 then d.ackRes raw
  else if idx = 0x2005 then (if sub = 1 then d.snapListRes val.toArr else d.snapTakeRes)
  else if idx = 0x2701 then (if (d.mode = 4 ∨ d.mode = 5) ∧ d.num 0x2700 1 = 0 then .wrongMode else .ok)
  else if idx = 0x2712 then d.releaseRes v
  else if idx = 0x2730 then d.consentRes val.toInt
  else if normIdx idx = 0x2202 then d.gcRes (gcOfIdx idx) sub v
  else if 0x3000 ≤ idx ∧ idx < 0x3400 ∧ idx % 256 = 0x31 then
    let p := portOfIdx idx
    if d.pstate p ≠ .off ∧ d.pstate p ≠ .armed then .inconsistent
    else if (d.port p).fe.pass.isSome then .refusedBusy else .ok
  else if 0x3000 ≤ idx ∧ idx < 0x3400 ∧ idx % 256 = 0x72 then
    let p := portOfIdx idx
    if (d.pstate p = .off ∨ d.pstate p = .armed) ∧ (d.fbMode p = 1 ∨ d.fbMode p = 2) then .ok else .inconsistent
  else if profileHeld r (objKey idx sub) ∧ d.flashBusy = true then .refusedBusy
  else if (idx = 0x2510 ∨ idx = 0x2511) ∧ 6 ≤ sub ∧ sub ≤ 0xC then
    let y := if idx = 0x2510 then PairId.p1 else .p2
    if d.pstate (y.portOf .a) = .off ∧ d.pstate (y.portOf .b) = .off then .ok else .inconsistent
  else if idx = 0x2140 ∧ (List.range 32).any (fun e =>
      let a := actionOf (d.bytes 0x2130 (e + 1))
      (d.timedEntry (e + 1)).state == 1 && a.kind == 1 && a.out % 4 + 1 == sub && a.period != 0 &&
        decide ((a.period : Int) ≤ val.toInt)) then .inconsistent
  else if after.crossOk idx sub = true ∧ after.streamWriteOk idx sub = true ∧ after.claimsOk idx sub = true then .ok
  else .inconsistent

/-! ### The committed state and the judgement -/

/-- The mode that a mode request leads to. -/
def Dev.modeAfter (d : Dev) (v : Nat) : Nat := if v = 4 ∧ d.degradeDue = true then 5 else v

/-- The committed state with one more committed change (R365): the values and the conditions that a change sets. -/
def Dev.assume (d : Dev) (key : Nat) (val : ObjVal) : Dev :=
  let idx := key / 256
  let v := val.toInt.toNat
  match objRow idx (key % 256) with
  | none => d
  | some r =>
    if idx = 0x2001 ∨ idx = 0x2003 then
      if d.modeRes idx v = .ok then d.put 0x2000 1 (d.modeAfter v) else d
    else if idx = 0x2100 ∧ key % 256 = 0xD then d.putBit 0x2100 0xA 3 true
    else if idx = 0x1401 ∨ idx = 0x1402 ∨ idx = 0x1403 ∨ idx = 0x1411 then { d with wr := { d.wr with opDue := true } }
    else if idx = 0x2402 ∨ idx = 0x2403 then { d with otp := { d.otp with opDue := true } }
    else if idx = 0x2610 then d.put 0x2620 1 2
    else if idx = 0x2612 then { d with image := d.wr.staged }.put 0x2600 3 0x10
    else if idx = 0x2712 then
      { d with flash := { d.flash with captures := d.flash.captures.mapIdx fun i c =>
        if i + 1 = v then { c with state := 4 } else c } }
    else if idx = 0x1310 then d.put 0x1300 4 (leNat (val.toBytes.take 4))
    else if idx = 0x2130 then
      let a := actionOf val.toBytes
      { d with objs := d.objs.put key val, time := { d.time with entries := d.time.entries.mapIdx fun i x =>
        if i + 1 = key % 256 then { x with state := if a.kind = 0 then (if x.state = 1 then 3 else x.state) else 1 } else x } }
    else if r.cls = .command then d
    else { d with objs := d.objs.put key val }

/-- The changes that count in the committed state beyond what is published, for a request from an origin: those published and not
yet acted on, those committed, the commit in progress, and those of the writer's queue that go before the request's own
(R30, R365). -/
def Dev.changesAhead (d : Dev) (origin : Nat) : List Ahead :=
  let ahead := d.wr.queue.filter fun j => j.reach.isSome || j.origin ≤ origin
  (d.published.map fun e => ⟨0, e.key, e.val⟩) ++
  (d.wr.done.map Prod.fst ++ d.wr.recDue ++ d.wr.running.toList ++ ahead).flatMap fun j => j.counts

/-- The state with changes counted as published, one after the other (R365). -/
def Dev.assumeAll (d : Dev) (cs : List Ahead) : Dev := cs.foldl (fun e c => e.assume c.key c.val) d

/-- The committed state for a request from an origin (R365). -/
def Dev.committed (d : Dev) (origin : Nat) : Dev := d.assumeAll (d.changesAhead origin)

/-- Whether an access type permits a write in a mode (R10). -/
def accessOk (a : Access) (mode : Nat) : Bool :=
  match a with
  | .ro => false
  | .wo | .rwa => 2 ≤ mode && mode ≤ 5
  | .rwc => mode == 3
  | .rws => mode == 2 || mode == 3

/-- Steps 1 to 4 of R361: existence, access and role. -/
def Dev.headRes (d : Dev) (role idx sub : Nat) : Res :=
  if idxExists idx = false ∨ d.absent idx = true then .noObject
  else match objRow idx sub with
    | none => .noSubindex
    | some r =>
      if r.access = .ro then .readOnly
      else if role < r.role.rank then .roleTooLow
      else .ok

/-- Steps 5 and 9 of R361 on the committed state e, with the steps between on the visible state d, in a service slot of lane l;
`locks` says whether step 8 applies, as it does for a request. -/
def Dev.judgeOn (d e : Dev) (l : LaneId) (role vpp : Nat) (locks : Bool) (key : Nat) (raw : List Byte) : Res :=
  let idx := key / 256
  let sub := key % 256
  match d.headRes role idx sub with
  | .ok =>
    match objRow idx sub with
    | none => .noSubindex
    | some r =>
      if accessOk r.access e.mode = false ∨ d.homeLost idx = true then .wrongMode
      else if idx = 0x2130 then e.timedRes l role sub raw
      else if lengthOk r raw = false then .typeLength
      else if valueOk r raw = false ∨ e.extraRange idx sub (decodeVal r.type raw).toInt.toNat = false then .outOfRange
      else if locks = true ∧ d.mappedBy none key = true then .locked
      else e.chapterRes role vpp r idx sub raw
  | res => res

/-- The export base of a session (R378, R380). -/
def Dev.exportBase (d : Dev) (session : Nat) : Nat :=
  match d.session session with
  | some s => s.base
  | none => 0

/-- The entry number k after a base, with 0xFFFFFFFF skipped (R368). -/
def numberAfter (base k : Nat) : Nat := (base + k) % (2 ^ 32 - 1)

/-- The entries in the export window of a base, up to an entry number (R368, R378). -/
def windowCount (next base : Nat) : Nat := (next + (2 ^ 32 - 1) - base) % (2 ^ 32 - 1)

/-- The judgement of a write for its session on the committed state e: as judgeOn gives it, with the export window, which is the
session's own, counted in a snapshot list (R361, R363, R378). -/
def Dev.judgeAs (d e : Dev) (c : Ctx) (vpp key : Nat) (raw : List Byte) : Res :=
  match d.judgeOn e (d.serveLane (originOf c.origin)) c.role vpp true key raw with
  | .ok =>
    if key = 0x200501 then
      let ks := snapKeys (arrOfBytes .u32 raw)
      let window := 64 * windowCount (e.nat 0x1300 2) (e.exportBase c.session)
      if 1016 < (ks.map fun k => if k = 0x132000 then window else e.wireLen k).sum then .inconsistent else .ok
    else .ok
  | res => res

/-- The judgement of a write request before its commit (R361 steps 1 to 9, R365). -/
def Dev.judge (d : Dev) (c : Ctx) (vpp key : Nat) (raw : List Byte) : Res := d.judgeAs (d.committed c.origin) c vpp key raw

end Sys2Proof.Machine
end

