-- ==== Sys2Proof/Machine/Changes.lean ====
section
/-! DEFINITION. Changes on their way: judged writes, the writer's commits, and publication with what a published value
brings about at once (R30, R50, R102, R114, R232, R363 to R379, R394). -/

namespace Sys2Proof.Machine

/-! ### Streams that end -/

/-- A stream's state changed by f. -/
def Dev.onStream (d : Dev) (s : Nat) (f : Stream → Stream) : Dev :=
  { d with net := { d.net with streams := d.net.streams.mapIdx fun i x => if i = s then f x else x } }

/-- The stream's enable as published (R351, R352, R358). -/
def Dev.streamEnabled (d : Dev) (s : Nat) : Dev :=
  if d.num (streamIdx s) 1 = 0 then (d.detach s).put (streamIdx s) 0x10 0
  else if d.num (streamIdx s) 0x10 = 0 then
    (d.onStream s fun _ => Stream.atReset).put (streamIdx s) 0x10 1
  else d

/-! ### What a published value brings about -/

/-- The blocks whose Configuration objects the ports of a pair must hold equal (R232). -/
def pairBlocks : List Nat := [0x10, 0x30, 0x40, 0x50, 0x60, 0x70, 0x80, 0x90]

/-- The keys of R232, as block × 256 + sub-index. -/
def pairKeys : List (Nat × Nat) :=
  (objRows.filter fun r => r.cls == .config && r.base / 256 == 0x30 && pairBlocks.contains (r.base % 256)).flatMap fun r =>
    ((List.range (r.hi + 1 - r.lo)).map fun i => (r.base % 256, r.lo + i)).filter fun k => k != (0x70, 0x0A)

/-- Whether the two ports of a pair hold equal values (R232). -/
def Dev.pairEqual (d : Dev) (y : PairId) : Bool :=
  pairKeys.all fun k =>
    d.objs.get (objKey (pidx (y.portOf .a) k.1) k.2) == d.objs.get (objKey (pidx (y.portOf .b) k.1) k.2)

/-- The comparison of R232 for the declared pairs. -/
def Dev.comparePairs (d : Dev) : Dev :=
  [PairId.p1, .p2].foldl (fun d y =>
    if d.pairDeclared y then d.putBit (pairIdx y) 0x14 0 (!d.pairEqual y) else d) d

/-- The voltage-limit radius in use: 1000 where the image has no K_OVM (R114). -/
def Dev.putRadius (d : Dev) (p : PortId) : Dev :=
  d.pput p 0x40 0x12 (if d.places p .e0 0x0B then d.pnum p 0x40 1 else min (d.pnum p 0x40 1) 1000)

/-- The inactive bank's content replaced (R395). -/
def Flash.setInactive (f : Flash) (active : Nat) (b : List Byte) : Flash :=
  if active = 0 then { f with bankB := b } else { f with bankA := b }

/-- The inactive bank's erase begins: it reads erased, status ERASING (R395). -/
def Dev.bankErases (d : Dev) : Dev :=
  { d with
    wr := { d.wr with op := some .bankErase, upload := true }
    flash := d.flash.setInactive (d.nat 0x2640 4) [] }.put 0x1413 2 1

/-- The staging buffer has been written: LOADED (R81). -/
def Dev.bufferLoaded (d : Dev) : Dev := { d with wr := { d.wr with staged := none } }.put 0x2620 1 1

/-- The IPv4 address of a T1S port: the one set is in use at once, a link-local one after its claim (R334). -/
def Dev.putIpv4 (d : Dev) (idx : Nat) : Dev :=
  ((d.put idx 0x11 (d.num idx 3)).putBit idx 0x10 1 (d.num idx 3 != 0)).putBit idx 0x10 2 false

/-- The block that a unit lies in (R367). -/
def blockOf (u : Nat) : Nat := u / 1024

/-- The block that holds the oldest programmed unit. -/
def Flash.oldestBlock (f : Flash) : Option Nat := f.inOrder.head?.map fun u => blockOf u.1

/-- Ring mode: fewer than 2048 erased units queue the erase of the oldest block (R377). -/
def Dev.ringErase (d : Dev) : Dev :=
  match d.flash.oldestBlock with
  | some b =>
    if d.num 0x1300 1 = 1 && decide (d.flash.free < 2048) && d.wr.erases.isEmpty then
      { d with wr := { d.wr with erases := [b] } }
    else d
  | none => d

/-- A segment behind the data that the inactive bank holds is programmed, status WRITTEN (R395). -/
def Dev.bankWritten (d : Dev) : Dev :=
  { d with flash := d.flash.setInactive (d.nat 0x2640 4) (d.bytes 0x1410 0) }.put 0x1413 2 2

/-- What the publication of a value brings about at once (R81, R85, R102, R114, R118, R146, R232, R334, R343,
R358, R377, R395, R460); more says that the value is a segment behind data that stand. -/
def Dev.afterPublish (d : Dev) (idx sub : Nat) (more : Bool) : Dev :=
  if 0x3000 ≤ idx ∧ idx < 0x3400 then
    let p := portOfIdx idx
    let blk := idx % 256
    let d := if blk = 0x30 ∧ (sub = 1 ∨ sub = 2) then d.putLsb p else d
    let d := if blk = 0x30 ∧ sub = 1 then d.onPort p fun x => { x with fe := { x.fe with calDue := true } } else d
    let d := if blk = 0x40 ∧ sub = 1 then d.putRadius p else d
    let d := if convertsFrom p idx then d.convert p else d
    if pairBlocks.contains blk then d.comparePairs else d
  else if 0x1160 ≤ idx ∧ idx < 0x1170 ∧ sub = 1 then d.streamEnabled (idx - 0x1160)
  else if idx = 0x2141 then
    { d with time := { d.time with polarity := (sub - 1) :: d.time.polarity.filter fun x => x ≠ sub - 1 } }
  else if idx = 0x2150 ∧ sub = 2 then { d with grid := { d.grid with moved := true } }
  else if idx = 0x1210 then d.putBit 0x1200 4 0 (allZero (d.bytes 0x1210 0))
  else if idx = 0x1300 then d.ringErase.journalObjects
  else if idx = 0x2611 then d.bufferLoaded
  else if idx = 0x1410 then (if more then d.bankWritten else d.bankErases)
  else if (idx = 0x1110 ∨ idx = 0x1120) ∧ sub = 3 then d.putIpv4 idx
  else d

/-- Whether a published write waits for a command row of its own: every Command object, the write-only Process objects, the
domain enables, timed actions and return consent. -/
def ownRow (r : ObjRow) (key : Nat) : Bool :=
  r.cls == .command || (r.cls == .process && r.access == .wo) || key == 0x212001 || key == 0x212101 ||
  key / 256 == 0x2130 || key == 0x273001

/-- The slot count of an object's home: its lane's, or the one of the lane that clocks the common domain (R28). -/
def Dev.homeSlot (d : Dev) (idx : Nat) : Nat :=
  match homeOf idx with
  | .lane l => (d.lane l).slots
  | _ => d.slotNow

/-- A publication of an object noted, for the occurrences of timed actions that write it (R30, R326). -/
def Dev.noteApplied (d : Dev) (key : Nat) : Dev :=
  { d with time := { d.time with applied :=
    (key, d.homeSlot (key / 256)) :: d.time.applied.filter fun x => x.1 != key && x.2 == d.homeSlot (x.1 / 256) } }

/-- One write published: its value becomes visible, and a write with a command row of its own waits for that row. -/
def Dev.publish (d : Dev) (key : Nat) (raw : List Byte) (session origin : Nat) (more : Bool) : Dev :=
  let idx := key / 256
  let sub := key % 256
  match objRow idx sub with
  | none => d
  | some r =>
    let v := decodeVal r.type raw
    let d := d.noteApplied key
    let d := if ownRow r key then { d with published := d.published ++ [⟨key, v, session, origin⟩] } else d
    if r.cls = .command ∨ (r.cls = .process ∧ r.access = .wo) then d
    else if key = 0x131001 then d.onSession session fun s => { s with base := v.toInt.toNat }
    else
      let p := portOfIdx idx
      let d := if modeChange d idx sub v then d.onPort p fun x => x.fbSelected ((d.lane p.lane).clk 0) else d
      (d.putVal idx sub v).afterPublish idx sub more
where
  /-- A change of a port's feedback mode (R184, R191). -/
  modeChange (d : Dev) (idx sub : Nat) (v : ObjVal) : Bool :=
    decide (0x3000 ≤ idx) && decide (idx < 0x3400) && idx % 256 == 0x70 && sub == 1 && d.objs.get (objKey idx sub) != v

/-! ### Writes -/

/-- Whether a write to an object is a change (R364). -/
def isChange (r : ObjRow) : Bool :=
  r.cls == .identity || r.cls == .config || r.cls == .configNoProfile || r.cls == .secret || r.cls == .command

/-- The bytes of an object as a write judged now finds them: with the Process writes that wait for the next boundary (R81, R364,
R395). -/
def Dev.pendingBytes (d : Dev) (key : Nat) : List Byte :=
  match d.wr.procs.reverse.find? fun p => p.key == key with
  | some p => p.raw
  | none => (d.objs.get key).toBytes

/-- A Process write, published at the boundary that opens the next slot of the lane that served it (R364). -/
def Dev.procWrite (d : Dev) (l : LaneId) (c : Ctx) (key : Nat) (raw : List Byte) (more : Bool) : Dev :=
  { d with wr := { d.wr with procs := d.wr.procs ++ [⟨key, raw, c.session, c.origin, l, (d.lane l).slots + 1, more⟩] } }

/-- A first segment of a bank file, or a WRITE in its place (log entry 91), starts its operation at the next boundary, before any
commit of the present slot ends: the changes formed in this slot are judged again with it (R391, R395). -/
def Dev.eraseAhead (d : Dev) : Dev :=
  { d with wr := { d.wr with queue := d.wr.queue.map fun j =>
    if j.reach.isNone then { j with seen := j.seen.map fun x => { x with procs := d.wr.procs }, rejudge := j.write.isSome }
    else j } }

/-- The value fields of the entry of a write judged on the committed state e (R367, R369, R395): activation of a staged image and
the switch of banks have their own. -/
def Dev.writeValues (d e : Dev) (key : Nat) (raw : List Byte) : Nat × Nat × List Byte × List Byte :=
  if key = 0x261200 then
    match d.wr.staged with
    | some im => (4, 16 * 8 + 4, im.sig.take 8, pad8 (toLE 4 im.id))
    | none => (4, 16 * 8 + 4, pad8 [], pad8 [])
  else if key = 0x141200 then (0, 1, pad8 [], pad8 (toLE 1 (1 - d.nat 0x2640 4)))
  else
    let old := match objRow (key / 256) (key % 256) with
      | some r => encodeVal r.type (e.objs.get key)
      | none => []
    d.entryValues key old raw

/-- The entries that may use the reserve: writes to 0x1300.01 and acknowledgements (R376). -/
def reserveKey (key : Nat) : Bool := key == 0x130001 || key == 0x131002

/-- A refused change in the journal (R366): an entry where an open session asked, and otherwise a count, as for the device's own
request to RUN, which is treated as a host's (R279). -/
def Dev.recordRefusal (d : Dev) (c : Ctx) (l : LaneId) (key : Nat) (raw : List Byte) (res : Res) : Dev :=
  let s := (d.lane l).slots
  if c.session = 0 then d.inc 0x1300 0xA
  else if d.queueRoom then
    (d.formJob l c.origin (d.entryBody c (s % 2 ^ 32) 0 key (d.writeValues (d.committed c.origin) key raw) res.code)
      (some (key, raw)) none false (d.changesAhead c.origin) (some (d.seen 0))).stamped
  else d

/-- A write refused under steps 1 to 9 of R361: journaled or counted where it is a change, or names no object (R366), and
answered. -/
def Dev.refuseWrite (d : Dev) (l : LaneId) (c : Ctx) (r : Reply) (key : Nat) (raw : List Byte) (res : Res) : Dev :=
  let change := match objRow (key / 256) (key % 256) with
    | some row => isChange row
    | none => true
  (if change then d.recordRefusal c l key raw res else d).respond r res []

/-- An accepted change formed for the writer (R366, R367). -/
def Dev.formChange (d : Dev) (l : LaneId) (c : Ctx) (slot vpp key : Nat) (raw : List Byte) (r : Option Reply) : Dev :=
  d.formJob l c.origin (d.entryBody c slot 0 key (d.writeValues (d.committed c.origin) key raw) 0) (some (key, raw))
    (some ⟨key, raw, c.session, c.role, c.origin, r⟩) (reserveKey key) (d.changesAhead c.origin) (some (d.seen vpp))

/-- A write request carried out in lane l: judged, and then a change for the writer, a Process write for the next boundary,
or a refusal (R361, R364, R366, R373). -/
def Dev.write (d : Dev) (l : LaneId) (c : Ctx) (r : Reply) (vpp key : Nat) (raw : List Byte) : Dev :=
  let s := (d.lane l).slots
  match d.judge c vpp key raw, objRow (key / 256) (key % 256) with
  | .ok, some row =>
    if isChange row then
      if d.queueRoom then
        (d.formChange l c (s % 2 ^ 32) vpp key raw (some r)).stamped
      else (d.inc 0x1300 0xB).respond r .refusedBusy []
    else
      let d := d.procWrite l c key raw false
      (if key = 0x141000 then d.eraseAhead else d).respond r .ok []
  | res, _ => d.refuseWrite l c r key raw res

/-! ### The writer -/

/-- Whether changes are refused with JOURNAL_UNAVAILABLE (R374). -/
def Dev.journalDown (d : Dev) : Bool := d.devFaulted .commonFlash || d.devFaulted .commonTime

/-- AUTORUN_REFUSED, where the change that is not committed is the device's own request to RUN (R279). -/
def Dev.autoRefused (d : Dev) (c : Change) : Dev :=
  if c.key = 0x200100 ∧ c.origin = 6 then d.putBit 0x2000 2 11 true else d

/-- A job that is not committed: its change is refused, its event lost and counted (R344, R373, R374, R376); the
auto-run request sets AUTORUN_REFUSED (R279). -/
def Dev.dropJob (d : Dev) (j : JournalJob) (res : Res) : Dev :=
  match j.change with
  | some c => ((d.autoRefused c).release c res).settleQueue [j.id]
  | none => if j.reserve then d.inc 0x1200 5 else d

/-- The entry of a change that its new judgement refuses: the same bytes with the new result, and no change (R365, R366). -/
def JournalJob.refused (j : JournalJob) (res : Res) : JournalJob :=
  { j with body := j.body.take 44 ++ toLE 2 res.code ++ j.body.drop 46, change := none, reserve := false, rejudge := false }

/-- The block as a job's judgement found it, and the committed state that its changes ahead give (R365). -/
def Dev.judgedOn (d : Dev) (j : JournalJob) (x : Seen) : Dev × Dev := (d.asSeen x, (d.asSeen x).assumeAll j.ahead)

/-- The new judgement of a job's change: conditions that no change sets as its service slot found them, against the changes that
are now ahead of it (R365). -/
def Dev.rejudge (d : Dev) (j : JournalJob) (c : Change) : Res :=
  match j.seen with
  | none => .ok
  | some x =>
    let q := d.judgedOn j x
    q.1.judgeAs q.2 ⟨c.role, c.session, c.origin, []⟩ x.vpp c.key c.raw

/-- The entry of a write with other value fields: flags, lengths, old and new value (R367, R369). -/
def putValues (body : List Byte) (v : Nat × Nat × List Byte × List Byte) : List Byte :=
  body.take 10 ++ toLE 1 (leNat (slice body 10 1) % 4 + v.1) ++ slice body 11 16 ++ toLE 1 v.2.1 ++ v.2.2.1 ++ v.2.2.2 ++
  body.drop 44

/-- A job whose changes ahead are no longer those it was judged with: its entry's old value is that of the committed state as it
now is (R365, R367). -/
def Dev.renewed (d : Dev) (j : JournalJob) : JournalJob :=
  match j.rejudge, j.seen, j.write with
  | true, some x, some w =>
    let q := d.judgedOn j x
    { j with body := putValues j.body (q.1.writeValues q.2 w.1 w.2) }
  | _, _, _ => j

/-- JOURNAL_COMMIT_START (R365, R367, R373, R374, R376): the writer takes the first job that has reached its queue. -/
def journalCommitStartStep (d : Dev) : Dev :=
  match d.wr.running, d.wr.queue with
  | none, j :: rest =>
    if d.writerRuns && !d.frozen && (d.boot.phase == .goingDown || j.reach.isSome) then
      let d := { d with wr := { d.wr with queue := rest } }
      let j := d.renewed j
      if d.journalDown then d.dropJob j .journalUnavailable
      else
        match j.change with
        | some c =>
          let res := if j.rejudge then d.rejudge j c else .ok
          if res ≠ .ok then
            let d := d.dropJob j res
            if c.session = 0 then d.inc 0x1300 0xA
            else if d.flash.full = true then d
            else { d with wr := { d.wr with running := some (j.refused res) } }
          else if d.flash.full ∧ (j.reserve = false ∨ d.flash.free = 0) then
            (d.dropJob j .journalFull).putBit 0x1300 8 0 true
          else { d with wr := { d.wr with running := some j } }
        | none =>
          if d.flash.full ∧ (j.reserve = false ∨ d.flash.free = 0) then d.dropJob j .journalFull
          else { d with wr := { d.wr with running := some j } }
    else d
  | _, _ => d

/-- The next unit voided: every byte zero; without an erased unit none (R374, R375). -/
def Dev.voidUnit (d : Dev) : Dev :=
  let f := d.flash
  if f.free = 0 then d
  else { d with flash := { f with
    units := mapInsert f.head (List.replicate 64 0) f.units
    head := (f.head + 1) % journalUnits
    voided := min (f.voided + 1) 4294967295 } }

/-- The changes whose publication waits for a device-record copy (R394). -/
def recordKey (key : Nat) : Bool := key == 0x121000 || key == 0x130001 || key == 0x141200

/-- The marks that a committed command leaves until its operation starts (R391, R420). -/
def Dev.markOp (d : Dev) (key : Nat) : Dev :=
  if key = 0x140100 ∨ key = 0x140200 ∨ key = 0x140300 ∨ key = 0x141100 then { d with wr := { d.wr with opDue := true } }
  else if key = 0x240200 ∨ key = 0x240300 then { d with otp := { d.otp with opDue := true } }
  else d

/-- A committed job: its change waits for the next boundary, or for its device-record copy (R373, R394). -/
def Dev.committedJob (d : Dev) (j : JournalJob) : Dev :=
  let s := d.slotNow
  let d := { d with wr := { d.wr with running := none } }
  match j.change with
  | none => d
  | some c =>
    let d := d.markOp c.key
    if recordKey c.key then { d with wr := { d.wr with recDue := d.wr.recDue ++ [j] } }
    else { d with wr := { d.wr with done := d.wr.done ++ [(j, s)] } }

/-- JOURNAL_COMMIT_COMPLETE (R370, R373, R374): the entry's read-back matches at the first or the second attempt; a unit that
differs is voided, and a second failure, or no erased unit for a second attempt (log entry 136), raises FLT_COMMON_FLASH. -/
def journalCommitCompleteStep (first second : Bool) (d : Dev) : Dev :=
  match d.wr.running with
  | none => d
  | some j =>
    if !d.writerRuns || d.frozen then d
    else if first then (((d.program j).committedJob j).ringErase).journalObjects
    else if second ∧ 1 < d.flash.free then ((((d.voidUnit).program j).committedJob j).ringErase).journalObjects
    else
      let d := { d.voidUnit.voidUnit with wr := { d.wr with running := none } }
      ((d.deviceFault .commonFlash).dropJob j .journalUnavailable).journalObjects

/-- The entries that an erase takes with it. -/
def Flash.inBlock (f : Flash) (b : Nat) : List (List Byte) :=
  ((f.inOrder.filter fun u => blockOf u.1 == b).map fun u => u.2).filter fun u => !voidUnit u

/-- Whether a held entry is covered by the acknowledgement (R379): the acknowledged entry is still held and not before it. -/
def Flash.covered (f : Flash) (n : Nat) : Bool :=
  f.acked != 0xFFFFFFFF && decide (f.dist n ≤ f.dist f.acked ∧ f.dist f.acked < f.dist f.number)

/-- JOURNAL_BLOCK_ERASE_COMPLETE (R377, R379): the block's units are erased again; unacknowledged entries are counted and
recorded by event 0x20; the anchor takes the tag of the block's last entry. -/
def journalBlockEraseCompleteStep (d : Dev) : Dev :=
  match d.wr.erases with
  | [] => d
  | b :: rest =>
    let f := d.flash
    let es := f.inBlock b
    let gone := (es.map entryNumber).filter fun n => !f.covered n
    let d := { d with
      wr := { d.wr with erases := rest }
      flash := { f with
        units := f.units.filter fun u => blockOf u.1 ≠ b
        oldest := match es.getLast? with
          | some e => nextNumber (entryNumber e)
          | none => f.oldest
        anchor := match es.getLast? with
          | some e => entryTag e
          | none => f.anchor
        lost := min (f.lost + gone.length) 4294967295 } }
    let d := match gone.head?, gone.getLast? with
      | some a, some z => d.journalEvent Ctx.internal 0x20 0 (toLE 4 a ++ toLE 4 z)
      | _, _ => d
    d.ringErase.journalObjects

/-- The full blocks whose entries are all covered, oldest first, without those that are queued (R379). -/
def Flash.coveredBlocks (f : Flash) (queued : List Nat) : List Nat :=
  let bs := (f.inOrder.map fun u => blockOf u.1).eraseDups
  (bs.takeWhile fun b =>
    (f.units.filter fun u => blockOf u.1 == b).length == 1024 && (f.inBlock b).all fun u => f.covered (entryNumber u)).filter
      fun b => !queued.contains b

/-- ACKNOWLEDGE (R379): entries up to n are covered, and the blocks whose entries are all covered are erased one by one. -/
def acknowledgeStep (d : Dev) : Dev :=
  match d.pubOf 0x1310 2 with
  | none => d
  | some e =>
    let f := { d.flash with acked := leNat (e.val.toBytes.take 4) }
    let d := d.dropPub 0x1310 2
    { d with flash := f, wr := { d.wr with erases := d.wr.erases ++ f.coveredBlocks d.wr.erases } }.journalObjects.show

/-! ### Publication -/

/-- The committed changes due at the boundary that opens the present slot: the first of each object among those whose commit
ended before the boundary; the rest wait (R30, R373). -/
def splitDue (slot : Nat) : List (JournalJob × Nat) → List Nat → List JournalJob × List (JournalJob × Nat)
  | [], _ => ([], [])
  | (j, s) :: rest, keys =>
    match j.change with
    | none => splitDue slot rest keys
    | some c =>
      if s < slot ∧ keys.contains c.key = false then
        let r := splitDue slot rest (c.key :: keys)
        (j :: r.1, r.2)
      else
        let r := splitDue slot rest (c.key :: keys)
        (r.1, (j, s) :: r.2)

/-- One change published, its response released (R350, R373). -/
def Dev.publishJob (d : Dev) (j : JournalJob) : Dev :=
  match j.change with
  | none => d
  | some c => (d.publish c.key c.raw c.session c.origin false).release c .ok

/-- The committed changes that the present boundary of the common domain publishes, and those that wait on: once for each boundary
(R30, R373). -/
def Dev.dueChanges (d : Dev) : List JournalJob × List (JournalJob × Nat) :=
  if d.wr.pubSlot != some d.slotNow then splitDue d.slotNow d.wr.done [] else ([], d.wr.done)

/-- The Process writes that the present boundary of the lane which served them publishes (R364). -/
def Dev.dueProcs (d : Dev) : List ProcWrite := d.wr.procs.filter fun p => p.due ≤ (d.lane p.lane).slots

/-- The lanes whose boundary publishes now: those of the common domain's, and those that served the Process writes that are due
(R362, R364). -/
def Dev.publishing (d : Dev) : List LaneId :=
  (if d.wr.pubSlot != some d.slotNow then [d.clkLane] else []) ++ d.dueProcs.map fun p => p.lane

/-- What is due published together, with the responses of its changes released (R28, R30, R50, R350, R364, R373). -/
def Dev.publishDue (d : Dev) : Dev :=
  let r := d.dueChanges
  let ps := d.dueProcs
  let later := d.wr.procs.filter fun p => (d.lane p.lane).slots < p.due
  let d := { d with wr := { d.wr with done := r.2, procs := later, pubSlot := some d.slotNow } }
  let d := r.1.foldl (fun d j => d.publishJob j) d
  ps.foldl (fun d p => d.publish p.key p.raw p.session p.origin p.more) d

/-- A snapshot put into its objects: generation, slot count and values in list order (R363). Values that have grown since their
list was judged are cut at the 1016 bytes that it may name (R381, DESIGN CHOICE, log entry 151). -/
def Dev.putSnapshot (d : Dev) (slot session : Nat) (vals : List (List Byte)) : Dev :=
  let g : Nat := (d.nat 0x2005 3 + 1) % 2 ^ 32
  let b := toLE 4 g ++ toLE 4 (slot % 2 ^ 32) ++ vals.flatten.take 1016
  ((d.put 0x2005 3 (g : Int)).putVal 0x2005 4 (.bytes b)).put 0x2005 5 session

/-- The value of an object as a snapshot copies it; the export window, with its entries of a session's base up to the next entry
number, at most 1016 bytes (R363, R378, log entry 151). -/
def Dev.snapValue (d : Dev) (base key : Nat) : List Byte :=
  if key = 0x132000 then
    (List.range (min 16 (windowCount (d.nat 0x1300 2) base))).flatMap (fun k =>
      (d.flash.entry (numberAfter base k)).getD ((List.range 64).map fun i => Config.openByte (numberAfter base k) i))
      |>.take 1016
  else d.showing.value base key

/-- The copies that a lane's dictionary unit makes of the listed objects that its boundary shows: those without a copy whose
home `now` takes in (R363). -/
def Dev.snapCopy (d : Dev) (session : Nat) (now : Nat → Bool) (vals : List (Nat × Option (List Byte))) :
    List (Nat × Option (List Byte)) :=
  let base := d.exportBase session
  vals.map fun v => if v.2.isNone && now (v.1 / 256) then (v.1, some (d.snapValue base v.1)) else v

/-- TAKE_SNAPSHOT (R363): the listed objects copied at one boundary, of the lane that served the write. Objects of the other lane,
where its count is behind, wait for its boundary with the same count. -/
def takeSnapshotStep (d : Dev) : Dev :=
  match d.pubOf 0x2005 2 with
  | none => d
  | some e =>
    let d := d.dropPub 0x2005 2
    let own := d.serveLane (originOf e.origin)
    let b := (d.lane own).slots
    let late := fun (idx : Nat) => match homeOf idx with
      | .lane l => (d.lane l).alive && !d.laneLost l && decide ((d.lane l).slots < b)
      | _ => false
    let keys : List (Nat × Option (List Byte)) := (snapKeys (d.arr 0x2005 1)).map fun k => (k, none)
    let vals := d.snapCopy e.session (fun idx => !late idx) keys
    match (vals.find? fun v => v.2.isNone : Option (Nat × Option (List Byte))) with
    | none => (d.putSnapshot b e.session (vals.filterMap fun v => v.2)).showAt own
    | some (k, _) => { d with snap := some ⟨if homeOf (k / 256) = .lane .a then .a else .b, b, e.session, vals⟩ }

/-- The rest of a snapshot at the boundary of the other lane that carries its slot count (R363). -/
def Dev.finishSnapshot (d : Dev) (l : LaneId) : Dev :=
  match d.snap with
  | none => d
  | some q =>
    if q.lane = l ∧ q.slot ≤ (d.lane l).slots then
      { d with snap := none }.putSnapshot q.slot q.session
        ((d.snapCopy q.session (fun _ => true) q.vals).filterMap Prod.snd)
    else d

/-! ### Meanings -/

/-- JOURNAL_COMMIT_START. -/
def execJournalCommitStart (s : State) : Host.Outcome State Fault Refusal := .next (s.awake journalCommitStartStep)

/-- JOURNAL_COMMIT_COMPLETE. -/
def execJournalCommitComplete (first second : Bool) (s : State) : Host.Outcome State Fault Refusal :=
  .next (s.awake (journalCommitCompleteStep first second))

/-- JOURNAL_BLOCK_ERASE_COMPLETE. -/
def execJournalBlockEraseComplete (s : State) : Host.Outcome State Fault Refusal :=
  .next (s.awake journalBlockEraseCompleteStep)

/-- ACKNOWLEDGE. -/
def execAcknowledge (s : State) : Host.Outcome State Fault Refusal := .next (s.awake acknowledgeStep)

/-- TAKE_SNAPSHOT. -/
def execTakeSnapshot (s : State) : Host.Outcome State Fault Refusal := .next (s.awake takeSnapshotStep)

end Sys2Proof.Machine
end

