-- ==== Sys2Proof/Machine/Timed.lean ====
section
/-! DEFINITION. The timed-action table and its outputs: arming, cancelling, and the occurrences of the four actions (R322 to
R328, R332). -/

namespace Sys2Proof.Machine

/-- The record of an entry (R322). -/
def Dev.action (d : Dev) (e : Nat) : Action := actionOf (d.bytes 0x2130 e)

/-- The number of the first occurrence whose time is not earlier than t, a record with a period (R324). -/
def Action.firstFrom (a : Action) (t : Int) : Nat :=
  if t ≤ a.time then 0 else ((t - a.time + a.period - 1) / a.period).toNat

/-- The status record of an entry (R327). -/
def timedStatus (a : Action) (x : TimedEntry) : List Byte :=
  toLE 1 x.state ++ toLE 1 x.flags ++ toLE 2 x.result ++ toLE 4 x.executed ++ toLE 4 x.skipped ++ toLE 4 x.lateness ++
  (if x.state = 1 then time80Bytes (a.occurrence x.done) else List.replicate 10 0) ++ List.replicate 6 0

/-- An entry replaced, with its status record and the count of armed entries (R327, R332). -/
def Dev.putTimed (d : Dev) (e : Nat) (x : TimedEntry) : Dev :=
  let es : List TimedEntry := d.time.entries.mapIdx fun i y => if i + 1 = e then x else y
  ({ d with time := { d.time with entries := es } }.putVal 0x2131 e (.bytes (timedStatus (d.action e) x))).put 0x2132 0
    ((es.filter fun (y : TimedEntry) => y.state == 1).length : Nat)

/-- An armed entry becomes DONE once its occurrences have all run or been skipped (R324). -/
def TimedEntry.settle (x : TimedEntry) (a : Action) : TimedEntry :=
  if x.state = 1 ∧ a.has x.done = false then { x with state := 2 } else x

/-- A flag of an entry set (R327). -/
def TimedEntry.flag (x : TimedEntry) (k : Nat) : TimedEntry :=
  if bitOf x.flags k then x else { x with flags := x.flags + 2 ^ k }

/-- The entry that a record arms at base value P (R324). -/
def Action.armed (a : Action) (P : Int) : TimedEntry :=
  let x : TimedEntry := { TimedEntry.atReset with state := 1 }
  if a.period = 0 then
    if a.time < P then { x with flags := 1, lateness := (P - a.time).toNat % 2 ^ 32, arming := true } else x
  else
    let early := a.firstFrom (P - a.grace)
    let from' := a.firstFrom P
    let held := if a.count = 0 then from' else min from' a.count
    if early < held then
      -- the occurrence before `from'` executes late; those before it are skipped
      let y := { x with
        done := held - 1, skipped := held - 1, flags := 1
        lateness := (P - a.occurrence (held - 1)).toNat % 2 ^ 32, arming := true }
      if 0 < early then y.flag 1 else y
    else
      let y := { x with done := held, skipped := held }
      if 0 < early then y.flag 1 else y

/-- TIMED_ACTION_ARM (R323, R324): an entry is armed at its publication boundary. -/
def timedActionArmStep (e : Nat) (d : Dev) : Dev :=
  match d.pubOf 0x2130 e with
  | none => d
  | some p =>
    let a := actionOf p.val.toBytes
    if a.kind = 0 then d
    else
      let d := d.dropPub 0x2130 e
      (d.putTimed e ((a.armed (d.baseNow a.base)).settle a)).show

/-- TIMED_ACTION_CANCEL (R323, R326): an ARMED entry becomes CANCELLED. -/
def timedActionCancelStep (e : Nat) (d : Dev) : Dev :=
  match d.pubOf 0x2130 e with
  | none => d
  | some p =>
    if (actionOf p.val.toBytes).kind = 0 then
      let d := d.dropPub 0x2130 e
      let x := d.timedEntry e
      if x.state = 1 then (d.putTimed e { x with state := 3, arming := false }).show else d
    else d

/-- An occurrence has run with a result: OK counts it, a refusal sets EXEC_REFUSED (R325). -/
def Dev.occurred (d : Dev) (e : Nat) (res : Res) : Dev :=
  let x := d.timedEntry e
  let x := { x with result := res.code, done := x.done + 1, arming := false }
  let x := if res = .ok then { x with executed := sat32 (x.executed + 1) } else x.flag 3
  d.putTimed e (x.settle (d.action e))

/-- Whether an entry of an action has an occurrence whose time is before t on its base, or one that is late at its arming;
none executes under FLT_COMMON_TIME, and none of an entry whose cancel has been published (R325, R326). -/
def Dev.dueBefore (d : Dev) (e kind : Nat) (t : Int) : Bool :=
  let x := d.timedEntry e
  let a := d.action e
  d.powered && !d.frozen && !d.devFaulted .commonTime && x.state == 1 && (d.pubOf 0x2130 e).isNone && a.kind == kind &&
  a.has x.done &&
  (x.arming || decide (a.occurrence x.done < t))

/-- The key that an entry's action writes. -/
def Dev.entryKey (d : Dev) (e : Nat) : Nat := (d.action e).key

/-- The base of an entry as the home of its target found it at its last boundary: where the boundaries of the lanes differ, that of
the home lane, unless it is lost and has none (R24, R325, log entry 137). -/
def Dev.baseAt (d : Dev) (e : Nat) : Int :=
  let b := (d.action e).base
  match homeOf (d.entryKey e / 256) with
  | .lane l => d.baseIn l b
  | _ => d.baseNow b

/-- Whether an entry is due at the boundary of its target's home: the base has reached the time (R325). -/
def Dev.dueNow (d : Dev) (e kind : Nat) : Bool := d.dueBefore e kind (d.baseAt e + 1)

/-- The lane of an output: SYNC0, SYNC1 and GPIO0 to GPIO3 in lane A, the others in lane B (R22). -/
def outLane (out : Nat) : LaneId := if out < 4 then (if out < 2 then .a else .b) else if out < 0x14 then .a else .b

/-- SYNC_PULSE (R325, R326, R328): the pulse starts when the base reaches the time; on an active output it runs to the later
end and is counted. An output of a lost lane refuses it. -/
def syncPulseStep (e : Nat) (d : Dev) : Dev :=
  let a := d.action e
  let now := d.baseNow a.base
  if d.dueBefore e 1 (now + 500) then
    if d.laneLost (outLane a.out) then d.occurred e .wrongMode
    else
      let occ := a.occurrence (d.timedEntry e).done
      let till := d.time.dt.ns + (if occ < now then 0 else occ - now) + d.pulseWidth a.out
      let old := d.time.pulses.find? fun p => p.out == a.out
      let d := match old with
        | some _ => if a.out < 4 then d.inc 0x2140 (0x11 + a.out) else d
        | none => d
      let till := match old with
        | some p => max till p.till
        | none => till
      { d with time := { d.time with pulses := ⟨a.out, till⟩ :: d.time.pulses.filter fun p => p.out ≠ a.out } }.occurred e .ok
  else d

/-- SYNC_PULSE_END (R328): the output returns to its idle level after its width. -/
def syncPulseEndStep (out : Nat) (d : Dev) : Dev :=
  if d.time.pulses.any fun p => p.out == out && decide (p.till < d.time.dt.ns + 500) then
    { d with time := { d.time with pulses := d.time.pulses.filter fun p => p.out ≠ out } }
  else d

/-- Whether entry e is the first of those due at this boundary that write its object, and nothing has published the object at
this boundary (R30, R326). -/
def Dev.firstInLine (d : Dev) (e : Nat) : Bool :=
  let k := d.entryKey e
  !(d.time.applied.contains (k, d.homeSlot (k / 256))) &&
  (List.range (e - 1)).all fun i =>
    !((d.dueNow (i + 1) 2 || d.dueNow (i + 1) 3 || d.dueNow (i + 1) 4) && d.entryKey (i + 1) == k)

/-- Whether an entry of an action executes now: it is due behind the publication of this boundary's host changes, and first in
line (R30, R325, R326). -/
def Dev.executes (d : Dev) (e kind : Nat) : Bool :=
  d.dueNow e kind && d.wr.pubSlot == some d.slotNow && d.firstInLine e

/-- An occurrence that writes an object, judged as a write without a session and published at the present boundary, after the
host changes of that boundary (R29, R30, R325, R326). -/
def Dev.applyEntry (d : Dev) (e : Nat) (raw : List Byte) : Dev :=
  let k := d.entryKey e
  match d.judgeOn (d.committed 6) d.clkLane 0xFF 7000 false k raw with
  | .ok => ((d.publish k raw 0 6 false).occurred e .ok).show
  | res => (d.occurred e res).show

/-- APPLY_VALUE (R325, R326): an occurrence writes a Process object at the first boundary at which the base has reached its
time, one entry of an object per boundary, behind that boundary's publication. -/
def applyValueStep (e : Nat) (d : Dev) : Dev :=
  let a := d.action e
  if d.executes e 2 then d.applyEntry e (a.value.take a.len) else d

/-- REANCHOR_CARRIER_GRID (R118, R325): an occurrence writes its stored anchor to 0x2150.02. -/
def reanchorCarrierGridStep (e : Nat) (d : Dev) : Dev :=
  if d.executes e 3 then d.applyEntry e (d.action e).value else d

/-- TIMED_MODE_REQUEST (R276 to R278, R325): an occurrence issues a mode request, which waits for its mode row. -/
def timedModeRequestStep (e : Nat) (d : Dev) : Dev :=
  if d.executes e 4 then
    let k := d.entryKey e
    let v := leNat ((d.action e).value.take 1)
    let q : Published := ⟨k, .num v, 0, 6⟩
    match (d.committed 6).modeRequestRes (k / 256) v with
    | .ok => (({ d with published := d.published ++ [q] }.noteApplied k).occurred e .ok).show
    | res => (d.occurred e res).show
  else d

/-- At the activation of an image, an entry whose output the new image no longer claims becomes CANCELLED with UNCLAIMED
(R326). -/
def Dev.cancelUnclaimed (d : Dev) : Dev :=
  (List.range 32).foldl (fun d i =>
    let x := d.timedEntry (i + 1)
    let a := d.action (i + 1)
    if x.state = 1 ∧ a.kind = 1 ∧ d.claimsOutput a.out = false then
      d.putTimed (i + 1) (({ x with state := 3, arming := false } : TimedEntry).flag 2)
    else d) d

/-! ### Meanings -/

/-- TIMED_ACTION_ARM. -/
def execTimedActionArm (e : Nat) (s : State) : Host.Outcome State Fault Refusal :=
  .next (s.awake (timedActionArmStep e))

/-- TIMED_ACTION_CANCEL. -/
def execTimedActionCancel (e : Nat) (s : State) : Host.Outcome State Fault Refusal :=
  .next (s.awake (timedActionCancelStep e))

/-- SYNC_PULSE. -/
def execSyncPulse (e : Nat) (s : State) : Host.Outcome State Fault Refusal := .next (s.awake (syncPulseStep e))

/-- SYNC_PULSE_END. -/
def execSyncPulseEnd (out : Nat) (s : State) : Host.Outcome State Fault Refusal :=
  .next (s.awake (syncPulseEndStep out))

/-- APPLY_VALUE. -/
def execApplyValue (e : Nat) (s : State) : Host.Outcome State Fault Refusal := .next (s.awake (applyValueStep e))

/-- REANCHOR_CARRIER_GRID. -/
def execReanchorCarrierGrid (e : Nat) (s : State) : Host.Outcome State Fault Refusal :=
  .next (s.awake (reanchorCarrierGridStep e))

/-- TIMED_MODE_REQUEST. -/
def execTimedModeRequest (e : Nat) (s : State) : Host.Outcome State Fault Refusal :=
  .next (s.awake (timedModeRequestStep e))

end Sys2Proof.Machine
end

