-- ==== Sys2Proof/Machine/Loader.lean ====
section
/-! DEFINITION. Schedule images: the kernel catalogue, the layout of an image, the loader's checks in their order, and the
way of an accepted image into the engines (R16, R20, R37, R39, R43, R52 to R55, R60 to R74, R76, R77, R79 to R82, R92, R132,
R207, R231, R266, R326, R417, R470, R472, R473). -/

namespace Sys2Proof.Machine

/-! ### The kernel catalogue -/

/-- One kernel of the catalogue: engine role, cycles base + per × n (× ⌈log2 n⌉ where `log`), the range of n, shared-SRAM
offsets, with n further ones from `each` at distance 6, the cells it reads, and the cell it writes with the write's offset
(R52, R472). -/
structure KernelDef where
  id : Nat
  role : Nat
  base : Nat
  per : Nat
  log : Bool
  nMin : Nat
  nMax : Nat
  offs : List Nat
  each : Option Nat
  reads : List Nat
  write : Option (Nat × Nat)
deriving DecidableEq, Repr

/-- A kernel with a fixed cycle count that touches no shared SRAM and writes no cell. -/
def plainKernel (id role cycles : Nat) (reads : List Nat) : KernelDef :=
  ⟨id, role, cycles, 0, false, 0, 0, [], none, reads, none⟩

/-- The kernels of engine 0 (R52). Cells: 1 current, 2 angle, 3 setpoint, 4 duty, 5 bus voltage. -/
def kernels0 : List KernelDef :=
  [plainKernel 0x01 0 164 [1], plainKernel 0x02 0 58 [2], plainKernel 0x03 0 48 [5], plainKernel 0x04 0 36 [],
   plainKernel 0x05 0 92 [], plainKernel 0x06 0 186 [], plainKernel 0x07 0 74 [],
   ⟨0x08, 0, 86, 8, true, 4, 32, [], none, [], none⟩,
   ⟨0x09, 0, 262, 0, false, 0, 0, [12, 18, 24, 30, 36], none, [3], none⟩,
   plainKernel 0x0A 0 68 [], plainKernel 0x0B 0 84 [], plainKernel 0x0C 0 96 [], plainKernel 0x0D 0 212 [],
   plainKernel 0x0E 0 226 [], plainKernel 0x0F 0 28 [], plainKernel 0x10 0 54 [],
   ⟨0x11, 0, 40, 0, false, 0, 0, [], none, [], some (4, 30)⟩]

/-- The kernels of engine 1 (R52); K_OBS_BEMF alone reads the current cell (R208). -/
def kernels1 : List KernelDef :=
  [plainKernel 0x20 1 44 [], plainKernel 0x21 1 38 [], plainKernel 0x22 1 66 [],
   ⟨0x23, 1, 40, 6, false, 5, 8, [], none, [], none⟩,
   plainKernel 0x24 1 34 [], plainKernel 0x25 1 58 [], plainKernel 0x26 1 248 [1],
   ⟨0x27, 1, 172, 12, false, 4, 16, [], none, [], none⟩,
   plainKernel 0x28 1 62 [], plainKernel 0x29 1 88 [], plainKernel 0x2A 1 46 [], plainKernel 0x2B 1 72 [],
   plainKernel 0x2C 1 56 [], plainKernel 0x2D 1 184 [], plainKernel 0x2E 1 94 [],
   ⟨0x2F, 1, 30, 0, false, 0, 0, [], none, [], some (2, 22)⟩]

/-- The kernels of engine 2 (R52). Cell 6 is the crosswind receive cell. -/
def kernels2 : List KernelDef :=
  [⟨0x40, 2, 24, 6, false, 1, 8, [], some 12, [], none⟩,
   plainKernel 0x41 2 82 [], plainKernel 0x42 2 118 [], plainKernel 0x43 2 104 [2], plainKernel 0x44 2 42 [],
   ⟨0x45, 2, 96, 0, false, 0, 0, [6, 12, 18], none, [1, 4], none⟩,
   ⟨0x46, 2, 412, 0, false, 0, 0, [6, 12, 18], none, [1, 2, 4], none⟩,
   plainKernel 0x47 2 64 [6], plainKernel 0x48 2 138 [6],
   ⟨0x49, 2, 40, 14, false, 1, 16, [], none, [2], none⟩,
   ⟨0x4A, 2, 36, 0, false, 0, 0, [], none, [], some (3, 28)⟩,
   ⟨0x4B, 2, 20, 6, false, 1, 8, [], some 6, [], none⟩,
   plainKernel 0x4C 2 58 [2]]

/-- The catalogue's entry of a kernel ID. -/
def kernelDef (id : Nat) : Option KernelDef := (kernels0 ++ kernels1 ++ kernels2).find? fun k => k.id == id

/-- ⌈log2 n⌉. -/
def ceilLog2 (n : Nat) : Nat := if n ≤ 1 then 0 else (n - 1).log2 + 1

/-- The cycle count of a kernel for its formula parameter (R52). -/
def KernelDef.cycles (k : KernelDef) (n : Nat) : Nat := k.base + k.per * (if k.log then ceilLog2 n else n)

/-- The shared-SRAM offsets of a kernel for its formula parameter (R52). -/
def KernelDef.sram (k : KernelDef) (n : Nat) : List Nat :=
  k.offs ++ match k.each with
    | some o => (List.range n).map fun i => o + 6 * i
    | none => []

/-- Whether the formula parameter is permitted (R52, R64). -/
def KernelDef.nOk (k : KernelDef) (n : Nat) : Bool := k.nMin ≤ n && n ≤ k.nMax

/-! ### The layout of an image -/

/-- The little-endian number of n bytes at an offset. -/
def rdLE (b : List Byte) (o n : Nat) : Nat := leNat (slice b o n)

/-- Offset of a section by the directory (R60): 0 slot table, 1 handoff rules, 2 instances, 3 bindings, 4 claims,
5 certificate. -/
def secOff (b : List Byte) (i : Nat) : Nat := rdLE b (0x20 + 8 * i) 4

/-- Length of a section by the directory (R60). -/
def secLen (b : List Byte) (i : Nat) : Nat := rdLE b (0x24 + 8 * i) 4

/-- The entries of a section of equal entries, each with its offset in the image. -/
def entriesOf (b : List Byte) (i size : Nat) : List (Nat × List Byte) :=
  (List.range (secLen b i / size)).map fun j => (secOff b i + size * j, slice b (secOff b i + size * j) size)

/-- The sizes that divide the section lengths (R60, R62 to R72). -/
def secUnit : List Nat := [48, 8, 16, 8, 12, 4]

/-- The directory entry at which the sections fail to lie one behind the other, from section i at offset `pos` on (R60). -/
def dirBad (b : List Byte) : Nat → List Nat → Nat → Option Nat
  | i, [], pos => if pos + 20 = b.length then none else some (0x20 + 8 * (i - 1))
  | i, u :: us, pos =>
    if secOff b i = pos ∧ secLen b i % 4 = 0 ∧ secLen b i % u = 0 ∧ (i = 0 → secLen b i = 48) then
      dirBad b (i + 1) us (pos + secLen b i)
    else some (0x20 + 8 * i)

/-- Check 0x01 (R60): the offset of the field on which it fails. -/
def formatBad (b : List Byte) : Option Nat :=
  if b.length < 0x50 ∨ slice b 0 4 ≠ [0x4D, 0x4A, 0x53, 0x49] then some 0
  else if rdLE b 4 2 ≠ 0x0100 then some 4
  else if rdLE b 6 2 ≠ 0x0050 then some 6
  else if rdLE b 8 4 ≠ b.length ∨ b.length < 0x100 ∨ 0x40000 < b.length ∨ b.length % 4 ≠ 0 then some 8
  else if 8 ≤ rdLE b 0x1E 1 then some 0x1E
  else if 16 ≤ rdLE b 0x1F 1 then some 0x1F
  else dirBad b 0 secUnit 0x50

/-- A slot-table entry (R62). -/
def slotOf (b : List Byte) : SlotEntry :=
  { used := rdLE b 0 1 == 1, locked := bitOf (rdLE b 1 1) 0, k := rdLE b 2 2, phi := rdLE b 4 2, m := rdLE b 6 1,
    sphase := rdLE b 7 1 }

/-- A binding (R66). -/
def bindingOf (b : List Byte) : Binding := ⟨rdLE b 0 1, rdLE b 1 1 == 1, rdLE b 4 4⟩

/-- An instance entry with its bindings and its certificate entry (R64, R66, R72). -/
def instanceOf (img b cert : List Byte) : Instance :=
  { engine := rdLE b 0 1, kernel := rdLE b 1 1, tick := rdLE b 2 1, fbRead := bitOf (rdLE b 3 1) 0, slot := rdLE b 4 2,
    period := rdLE b 6 2, count := rdLE b 8 2, formula := rdLE b 0xA 1
    bindings := (List.range (rdLE b 0xB 1)).map fun i => bindingOf (slice img (secOff img 3 + rdLE b 0xC 4 + 8 * i) 8)
    certLastSlot := rdLE cert 0 2, certLastTick := rdLE cert 2 1, certCell := rdLE cert 3 1, certWrite := rdLE cert 4 2,
    certAge := rdLE cert 6 2 }

/-- A handoff-rule entry (R62). -/
def handoffOf (b : List Byte) : HandoffRule := ⟨rdLE b 0 1, rdLE b 1 1, rdLE b 2 1, rdLE b 3 1, rdLE b 4 2, rdLE b 6 2⟩

/-- A claim (R68). -/
def claimOf (b : List Byte) : Claim := ⟨rdLE b 0 1, rdLE b 1 1, rdLE b 2 1, rdLE b 4 4, rdLE b 8 4⟩

/-- The image that bytes of the right format spell (R60 to R72). -/
def parseImage (b : List Byte) (zeroKey : Bool) : Image :=
  let slot := fun (i : Nat) => slotOf (slice b (0x50 + 12 * i) 12)
  let cert := fun (i : Nat) => slice b (secOff b 5 + 48 + 8 * i) 8
  { id := rdLE b 0xC 4
    sig := b.drop (b.length - 16)
    zeroKey := zeroKey
    h := rdLE b 0x1C 2
    variants := rdLE b 0x1E 1
    pairFlags := rdLE b 0x1F 1
    slots := ⟨slot 0, slot 1, slot 2, slot 3⟩
    rules := (entriesOf b 1 8).map fun e => handoffOf e.2
    insts := (entriesOf b 2 16).zipIdx.map fun e => instanceOf b e.1.2 (cert e.2)
    claims := (entriesOf b 4 12).map fun e => claimOf e.2
    busy := (List.range 12).map fun i => rdLE b (secOff b 5 + 4 * i) 4
    raw := b }

/-- The offset of an instance entry. -/
def Image.instOff (im : Image) (i : Nat) : Nat := secOff im.raw 2 + 16 * i

/-- The offset of a port's slot-table entry. -/
def slotOff (p : PortId) : Nat := 0x50 + 12 * p.num

/-- The ports that an image uses. -/
def Image.used (im : Image) : List PortId := PortId.all.filter fun p => (im.slots.get p).used

/-- The port of an engine number. -/
def enginePort (e : Nat) : PortId :=
  match e / 3 with
  | 0 => .m1
  | 1 => .m2
  | 2 => .m3
  | _ => .m4

/-- The start slots of an instance's occurrences (R64). -/
def Instance.starts (i : Instance) : List Nat :=
  if i.period = 0 then [i.slot] else (List.range i.count).map fun j => i.slot + j * i.period

/-- The cycles of an instance. -/
def Instance.cycles (i : Instance) : Nat :=
  match kernelDef i.kernel with
  | some k => k.cycles i.formula
  | none => 0

/-- The slots from the start slot to the last tick. -/
def Instance.span (i : Instance) : Nat := (i.tick + i.cycles - 1) / 200

/-- The cell that an instance writes, with the slots from the start slot to the write slot (R39, R52). -/
def Instance.writes (i : Instance) : Option (Nat × Nat) :=
  match kernelDef i.kernel with
  | some k => k.write.map fun w => (w.1, writeSlots i.tick w.2)
  | none => none

/-- The cells that an instance reads, in its start slot (R472). -/
def Instance.cells (i : Instance) : List Nat :=
  match kernelDef i.kernel with
  | some k => k.reads
  | none => []

/-- The shared-SRAM ticks of an instance, counted from the start of its start slot. -/
def Instance.sramTicks (i : Instance) : List Nat :=
  match kernelDef i.kernel with
  | some k => (k.sram i.formula).map fun o => i.tick + o
  | none => []

/-- The occurrences of an image: entry number, instance, start slot. -/
def Image.occurrences (im : Image) : List (Nat × Instance × Nat) :=
  im.insts.zipIdx.flatMap fun e => e.1.starts.map fun s => (e.2, e.1, s)

/-- The first entry of a list for which a test fails to hold, with its offset. -/
def firstBad {α : Type} (f : α → Bool) (off : Nat → Nat) (xs : List α) : Option Nat :=
  (xs.zipIdx.find? fun e => f e.1).map fun e => off e.2

/-- The first of two checks that fails. -/
def orElse' (a b : Option Nat) : Option Nat :=
  match a with
  | some o => some o
  | none => b

/-! ### Checks 0x04 to 0x06 -/

/-- Check 0x04 (R60). -/
def Dev.catalogueBad (d : Dev) (b : List Byte) : Option Nat :=
  let v := d.nat 0x2640 1
  if rdLE b 0x12 2 ≠ v / 65536 ∨ v % 65536 < rdLE b 0x10 2 then some 0x10
  else if slice b 0x14 8 ≠ d.bytes 0x2640 3 then some 0x14
  else none

/-- Whether a variant word is one of its encodings: a variant code and its complement (R417). -/
def variantValid (w : Nat) : Bool := w == 0x4840B7BF || w == 0x4841B7BE || w == 0x4822B7DD

/-- The variant that a lane's shadow gives: TK4822 where the word is weak or not in its encoding (R4, R291, R416, R417). -/
def Dev.variantOf (d : Dev) (l : LaneId) : Nat :=
  let w := (d.shadowWord l 0).toNat
  if d.shadowWeak l 0 = false ∧ variantValid w = true then w / 65536 else 0x4822

/-- A feature bit of a lane's shadow; every feature is off where the word is weak (R416, R417). -/
def Dev.feature (d : Dev) (l : LaneId) (k : Nat) : Bool := !d.shadowWeak l 1 && bitOf (d.shadowWord l 1).toNat k

/-- Whether a lane's shadow grants lane B (R417). -/
def Dev.grantsB (d : Dev) (l : LaneId) : Bool := d.variantOf l != 0x4822 && d.feature l 2

/-- The bit of the variant mask that stands for a variant (R60). -/
def variantBit (v : Nat) : Nat := if v = 0x4840 then 0 else if v = 0x4841 then 1 else 2

/-- The lane of a claimed resource; none where it has no lane of its own, and outer none where class or number is unknown
(R22, R68, R70). -/
def Claim.lane (c : Claim) : Option (Option LaneId) :=
  let half := fun (b : Bool) => if b then some LaneId.b else some LaneId.a
  let n := c.number
  if c.cls = 1 ∧ n < 8 then some (half (4 ≤ n))
  else if c.cls = 1 ∧ 0x10 ≤ n ∧ n < 0x1C then some (half (0x16 ≤ n))
  else if c.cls = 2 ∧ n < 16 then some (half (8 ≤ n))
  else if c.cls = 3 ∧ n < 64 ∧ 1 ≤ n % 16 ∧ n % 16 ≤ 5 then some (half (32 ≤ n))
  else if c.cls = 4 ∧ n < 8 then some (half (4 ≤ n))
  else if c.cls = 4 ∧ 0x100 ≤ n ∧ n < 0x140 then some (half (0x120 ≤ n))
  else if c.cls = 5 ∧ n < 12 then some (half (6 ≤ n))
  else if c.cls = 6 ∧ n < 4 then some (half (2 ≤ n))
  else if c.cls = 7 ∧ n % 4 = 0 ∧ c.extent % 4 = 0 ∧ n + c.extent ≤ 0x200000 then some none
  else none

/-- The lane of a claim's owner; none for the owners of no lane of their own, outer none for an unknown owner (R68). -/
def Claim.ownerLane (c : Claim) : Option (Option LaneId) :=
  let half := fun (b : Bool) => if b then some LaneId.b else some LaneId.a
  let o := c.owner
  if o < 12 then some (half (6 ≤ o))
  else if 0x10 ≤ o ∧ o ≤ 0x13 then some (half (0x12 ≤ o))
  else if 0x20 ≤ o ∧ o ≤ 0x23 then some (half (0x22 ≤ o))
  else if o = 0x30 ∨ o = 0x31 ∨ o = 0x32 then some none
  else none

/-- Whether a claim uses lane B. -/
def Claim.usesB (c : Claim) : Bool := c.lane == some (some .b) || c.ownerLane == some (some .b)

/-- Check 0x05 (R2, R3, R417): the variant's bit, pairs that the part permits, and nothing of an absent lane B. -/
def Dev.variantBad (d : Dev) (l : LaneId) (im : Image) : Option Nat :=
  if bitOf im.variants (variantBit (d.variantOf l)) = false then some 0x1E
  else if [PairId.p1, .p2].any fun y => bitOf im.pairFlags y.num &&
      !(d.variantOf l == 0x4840 && d.grantsB l && d.feature l y.num) then some 0x1F
  else if d.grantsB l then none
  else
    match [PortId.m3, .m4].find? fun p => (im.slots.get p).used with
    | some p => some (slotOff p)
    | none => orElse' (firstBad (fun (i : Instance) => 6 ≤ i.engine) im.instOff im.insts)
        (firstBad (fun (c : Claim) => c.usesB) (fun j => secOff im.raw 4 + 12 * j) im.claims)

/-- Whether a slot-table entry has a field out of range, or is unused and not zero (R62). -/
def slotEntryBad (b : List Byte) : Bool :=
  let e := slotOf b
  if rdLE b 0 1 = 0 then !allZero b
  else decide (rdLE b 0 1 ≠ 1) || decide (2 ≤ rdLE b 1 1) || decide (e.k < 20) || decide (2000 < e.k) ||
    decide (e.k ≤ e.phi) || decide (e.m < 1) || decide (64 < e.m) || decide (e.m ≤ e.sphase) || !allZero (slice b 8 4)

/-- The hyperframe that the used ports yield; 20 where none is used (R43, R62). -/
def Image.hyperOf (im : Image) : Nat :=
  if im.used = [] then 20
  else im.used.foldl (fun n p => Nat.lcm (Nat.lcm n (im.slots.get p).k) ((im.slots.get p).m * (im.slots.get p).k)) 1

/-- Whether the ports of a declared pair agree in their slot-table entries and are both used (R62). -/
def Image.pairAgrees (im : Image) (y : PairId) : Bool :=
  let a := im.slots.get (y.portOf .a)
  let b := im.slots.get (y.portOf .b)
  a.used && b.used && a.k == b.k && a.phi == b.phi && a.m == b.m && a.sphase == b.sphase

/-- Check 0x06 (R43, R62). -/
def Image.slotTableBad (im : Image) : Option Nat :=
  match PortId.all.find? fun p => slotEntryBad (slice im.raw (slotOff p) 12) with
  | some p => some (slotOff p)
  | none =>
    if im.h ≠ im.hyperOf ∨ 20000 < im.hyperOf then some 0x1C
    else match [PairId.p1, .p2].find? fun y => bitOf im.pairFlags y.num && !im.pairAgrees y with
      | some y => some (slotOff (y.portOf .b))
      | none => none

/-! ### Checks 0x07 to 0x09 -/

/-- Whether an instance entry breaks a bound of R54, R64 or R65. -/
def Image.entryBad (im : Image) (b : List Byte) : Bool :=
  let i := instanceOf im.raw b []
  match kernelDef i.kernel with
  | none => true
  | some k =>
    decide (11 < i.engine) || k.role != i.engine % 3 || !(im.slots.get (enginePort i.engine)).used ||
    decide (199 < i.tick) || decide (2 ≤ rdLE b 3 1) || decide (32 < rdLE b 0xB 1) || rdLE b 0xC 4 % 8 != 0 ||
    decide (secLen im.raw 3 < rdLE b 0xC 4 + 8 * rdLE b 0xB 1) || !k.nOk i.formula ||
    (if i.period = 0 then i.count != 1 else decide (i.period < 20) || decide (im.h < i.period) || i.count == 0) ||
    decide (im.h ≤ i.slot + (i.count - 1) * i.period + i.span)

/-- Whether an entry may stand before another: sorted by engine, start slot and start tick (R65). -/
def instSorted (a b : Instance) : Bool :=
  decide (a.engine < b.engine) || (a.engine == b.engine && (decide (a.slot < b.slot) ||
    (a.slot == b.slot && decide (a.tick ≤ b.tick))))

/-- The number of the entry that stands before an entry it should follow. -/
def unsortedAt : List Instance → Nat → Option Nat
  | a :: b :: r, n => if instSorted a b then unsortedAt (b :: r) (n + 1) else some (n + 1)
  | _, _ => none

/-- Whether two occurrences on one engine overlap in time (R54). -/
def overlaps (x y : Nat × Instance × Nat) : Bool :=
  let a := x.2.2 * 200 + x.2.1.tick
  let b := y.2.2 * 200 + y.2.1.tick
  x.2.1.engine == y.2.1.engine && decide (a < b + y.2.1.cycles) && decide (b < a + x.2.1.cycles)

/-- Whether two occurrences write the same cell in the same slot (R65). -/
def sameWrite (x y : Nat × Instance × Nat) : Bool :=
  match x.2.1.writes, y.2.1.writes with
  | some v, some w => enginePort x.2.1.engine == enginePort y.2.1.engine && v.1 == w.1 && x.2.2 + v.2 == y.2.2 + w.2
  | _, _ => false

/-- The entry number of the first occurrence that conflicts with an earlier one. -/
def conflictAt (f : Nat × Instance × Nat → Nat × Instance × Nat → Bool) :
    List (Nat × Instance × Nat) → List (Nat × Instance × Nat) → Option Nat
  | _, [] => none
  | seen, x :: r => if seen.any fun y => f y x then some x.1 else conflictAt f (x :: seen) r

/-- The write slots of a cell of a port within the hyperframe (R73): the hardware's for the current and the bus-voltage
cell, the partner's sends for the crosswind receive cell. -/
def Image.writeSlotsOf (im : Image) (p : PortId) (cell : Nat) : List Nat :=
  let e := im.slots.get p
  if cell = 1 ∨ cell = 5 then
    if e.used then (List.range (im.h / e.k)).map fun j => (e.phi + j * e.k) % im.h else []
  else if cell = 6 then
    if bitOf im.pairFlags p.pair.num then
      im.occurrences.filterMap fun o =>
        if o.2.1.kernel = 0x47 ∧ enginePort o.2.1.engine = p.partner then some (o.2.2 % im.h) else none
    else []
  else im.occurrences.filterMap fun o =>
    match o.2.1.writes with
    | some w => if w.1 = cell ∧ enginePort o.2.1.engine = p then some ((o.2.2 + w.2) % im.h) else none
    | none => none

/-- The slots from the latest write at or before s − lo to s, cyclically; the literal (s − w) mod H of R73, which is 0 where
the only write falls in slot s itself. -/
def ageFrom (ws : List Nat) (h lo s : Nat) : Option Nat :=
  (ws.map fun w => (s + 2 * h - lo - w) % h).min?.map fun g => (g + lo) % h

/-- The slots that a read of a cell must lie behind the write: 1, and 3 for the crosswind cell (R40, R73). -/
def readBehind (cell : Nat) : Nat := if cell = 6 then 3 else 1

/-- The read age of an occurrence's read of a cell (R73). -/
def Image.readAge (im : Image) (p : PortId) (cell s : Nat) : Option Nat :=
  ageFrom (im.writeSlotsOf p cell) im.h (readBehind cell) s

/-- The frame of a port in which a slot lies (R45). -/
def SlotEntry.frameOf (e : SlotEntry) (h s : Nat) : Nat := (s + h - e.phi % h) % h / e.k

/-- The occurrences of a kernel on a port's cluster: start slot and slot of the last tick. -/
def Image.placedOn (im : Image) (p : PortId) (kernel : Nat) : List (Nat × Nat) :=
  im.occurrences.filterMap fun o =>
    if o.2.1.kernel = kernel ∧ enginePort o.2.1.engine = p then some (o.2.2, o.2.2 + o.2.1.span) else none

/-- The placements that R231 asks of a paired port. -/
def Image.pairPlaced (im : Image) (p : PortId) : Bool :=
  let e := im.slots.get p
  let frames := List.range (im.h / e.k)
  let inEvery := fun (kernel : Nat) => frames.all fun j => (im.placedOn p kernel).any fun o => e.frameOf im.h o.1 == j
  let since := fun (w s : Nat) => (s + im.h - w) % im.h
  inEvery 0x46 && inEvery 0x47 && inEvery 0x48 && inEvery 0x45 && inEvery 0x49 && inEvery 0x4A &&
  (frames.all fun j =>
    let c := e.phi + j * e.k
    match ageFrom (im.writeSlotsOf p 4) im.h 0 (c + im.h - 1) with
    | none => false
    | some g =>
      let w := (c + im.h - 1 - g) % im.h
      (im.placedOn p 0x46).any fun o => decide (1 ≤ since w o.1) && decide (since w o.1 ≤ g) &&
        decide (1 ≤ since w o.2) && decide (since w o.2 ≤ g)) &&
  (im.placedOn p 0x06).all fun a =>
    let f := e.frameOf im.h a.1
    (im.placedOn p 0x48).any fun o => e.frameOf im.h o.1 == f &&
      decide (since (e.phi + f * e.k) o.2 < since (e.phi + f * e.k) a.1)

/-- Check 0x07 (R54, R64, R65, R231). -/
def Image.instancesBad (im : Image) : Option Nat :=
  orElse' (firstBad (fun (e : Nat × List Byte) => im.entryBad e.2) im.instOff (entriesOf im.raw 2 16)) <|
  orElse' ((unsortedAt im.insts 0).map im.instOff) <|
  orElse' ((List.range 12).findSome? fun e =>
    if 256 < (im.insts.filter fun i => i.engine == e).length then some (secOff im.raw 2) else none) <|
  orElse' ((conflictAt overlaps [] im.occurrences).map im.instOff) <|
  orElse' ((conflictAt sameWrite [] im.occurrences).map im.instOff) <|
  (PortId.all.find? fun p => bitOf im.pairFlags p.pair.num && !im.pairPlaced p).map slotOff

/-- Whether an engine owns a tick, counted from the start of some slot (R37). -/
def ownedTick (engine t : Nat) : Bool := t % 200 < 198 && t % 200 % 6 == engine % 6

/-- Check 0x08 (R37, R38, R54). -/
def Image.tdmaBad (im : Image) : Option Nat :=
  firstBad (fun (i : Instance) => i.sramTicks.any fun t => !ownedTick i.engine t) im.instOff im.insts

/-- The read age that the certificate must give for an instance; none where a cell that it reads has no write, which check
0x0B refuses (R72, R73). -/
def Image.certAge (im : Image) (i : Instance) : Option Nat :=
  if i.cells = [] ∨ i.fbRead = true then some 0xFFFF
  else
    let p := enginePort i.engine
    i.starts.foldl (fun n s => i.cells.foldl (fun n c =>
      match n, im.readAge p c s with
      | some n, some g => some (max n g)
      | _, _ => none) n) (some 0)

/-- Whether an instance's certificate entry is right (R55, R72). -/
def Image.certOk (im : Image) (i : Instance) : Bool :=
  i.certLastSlot == i.slot + i.span && i.certLastTick == (i.tick + i.cycles - 1) % 200 &&
  i.certCell == b2n i.writes.isSome + 2 * b2n (i.cells != []) &&
  i.certWrite == (match i.writes with
    | some w => i.slot + w.2
    | none => 0xFFFF) &&
  (match im.certAge i with
    | some g => i.certAge == g
    | none => true)

/-- The busy ticks of an engine per hyperframe (R72). -/
def Image.busyOf (im : Image) (e : Nat) : Nat :=
  (im.insts.filter fun i => i.engine == e).foldl (fun n i => n + i.cycles * i.starts.length) 0

/-- Check 0x09 (R55, R72). -/
def Image.certBad (im : Image) : Option Nat :=
  let o := secOff im.raw 5
  if secLen im.raw 5 ≠ 48 + 8 * im.insts.length then some 0x48
  else orElse' (firstBad (fun i => !im.certOk i) (fun j => o + 48 + 8 * j) im.insts)
    (((List.range 12).find? fun e => im.busy.getD e 0 != im.busyOf e).map fun e => o + 4 * e)

/-! ### Checks 0x0A to 0x0C -/

/-- The consumers of the cells: cell, consumer (3 the modulator), default age in slots, in frames and in speed frames, the
default rule and the rules allowed (R20, R77). -/
def consumerTable : List (Nat × Nat × (Nat × Nat × Nat) × Fallback × List Nat) :=
  [(1, 0, (2, 0, 0), .zvv, [2, 3, 4]), (2, 0, (0, 1, 0), .zvv, [0, 2, 3, 4]), (3, 0, (2, 0, 1), .ramp, [0, 1, 3]),
   (4, 3, (0, 1, 0), .zvv, [2, 3, 4]), (6, 2, (0, 2, 0), .hold, [0]), (1, 1, (0, 1, 0), .hold, [0, 3, 4]),
   (1, 2, (0, 1, 0), .hold, [0, 4]), (2, 2, (0, 1, 0), .hold, [0, 4]), (4, 2, (0, 1, 0), .hold, [0, 4]),
   (5, 0, (0, 1, 0), .hold, [0, 2, 3, 4])]

/-- The table's line of a consumer. -/
def consumerOf (cell cons : Nat) : Option ((Nat × Nat × Nat) × Fallback × List Nat) :=
  (consumerTable.find? fun e => e.1 == cell && e.2.1 == cons).map fun e => e.2.2

/-- Whether a handoff-rule entry is out of range or not allowed (R20, R62, R63, R77). -/
def HandoffRule.bad (r : HandoffRule) : Bool :=
  decide (3 < r.port) || decide (4 < r.fallback) || decide (r.maxAge < 1) || decide (20000 < r.maxAge) ||
  (if r.fallback = 1 then decide (r.ramp < 1) || decide (1000 < r.ramp) else r.ramp != 0) ||
  match consumerOf r.cell r.consumer with
  | none => true
  | some e => !e.2.2.contains r.fallback

/-- The number of the first rule that names a consumer named before. -/
def repeatedRule : List HandoffRule → List HandoffRule → Nat → Option Nat
  | _, [], _ => none
  | seen, r :: rs, n =>
    if seen.any fun q => q.port == r.port && q.cell == r.cell && q.consumer == r.consumer then some n
    else repeatedRule (r :: seen) rs (n + 1)

/-- Check 0x0A (R63). -/
def Image.rulesBad (im : Image) : Option Nat :=
  let off := fun (j : Nat) => secOff im.raw 1 + 8 * j
  orElse' (firstBad HandoffRule.bad off im.rules) ((repeatedRule [] im.rules 0).map off)

/-- The maximum age of a consumer under an image (R20, R62, R77). -/
def Image.maxAge (im : Image) (p : PortId) (cell cons : Nat) : Nat :=
  match im.rules.find? fun r => r.port == p.num && r.cell == cell && r.consumer == cons with
  | some r => r.maxAge
  | none => match consumerOf cell cons with
    | some ((s, f, sf), _, _) => s + f * (im.slots.get p).k + sf * ((im.slots.get p).m * (im.slots.get p).k)
    | none => 0

/-- Whether some read of an instance exceeds its consumer's age, or reads a cell without a write (R54, R73). -/
def Image.agesBad (im : Image) (i : Instance) : Bool :=
  !i.fbRead && i.starts.any fun s => i.cells.any fun c =>
    match im.readAge (enginePort i.engine) c s with
    | some g => decide (im.maxAge (enginePort i.engine) c (i.engine % 3) < g)
    | none => true

/-- Whether some carrier start of a port finds the duty cell stale (R16, R73, R76). -/
def Image.dutyBad (im : Image) (p : PortId) : Bool :=
  let e := im.slots.get p
  (List.range (im.h / e.k)).any fun j =>
    match ageFrom (im.writeSlotsOf p 4) im.h 0 (e.phi + j * e.k + im.h - 1) with
    | some g => decide (im.maxAge p 4 3 < g)
    | none => true

/-- Check 0x0B (R16, R54, R73, R76). -/
def Image.dataAgeBad (im : Image) : Option Nat :=
  orElse' (firstBad im.agesBad im.instOff im.insts) ((im.used.find? im.dutyBad).map slotOff)

/-- The objects that K_STATUS_OUT may store, as block × 256 + sub-index (R473). -/
def statusObjects : List (Nat × Nat) :=
  [(0xA0, 2), (0xA0, 3), (0xA0, 4), (0xA4, 1), (0xA4, 2), (0xA4, 3), (0xA4, 4), (0xA4, 5), (0xA4, 6), (0xA4, 7), (0xA4, 0xC)]

/-- Whether a binding is permitted to an instance (R67, R207, R473): only K_PROC_IN, K_STATUS_OUT and K_FLY_CATCH have
parameters that a chapter numbers. -/
def bindingOk (im : Image) (i : Instance) (b : Binding) : Bool :=
  let p := enginePort i.engine
  let idx := b.value / 256
  let sub := b.value % 256
  if i.kernel = 0x40 then
    b.object && decide (b.param ≤ 7) && decide (idx < 65536) && isProcess b.value && homeOf idx == .lane p.lane &&
    (decide (3 ≤ b.param) || (idx == pidx p 0x61 && sub == b.param + 1))
  else if i.kernel = 0x4B then
    b.object && decide (b.param ≤ 7) && decide (idx < 65536) &&
    statusObjects.any fun o => idx == pidx p o.1 && sub == o.2
  else if i.kernel = 0x2D then
    !b.object && decide (b.param ≤ 2) && decide (b.value < 64) &&
    decide (b.value / 32 = p.lane.num) &&
    im.claims.any fun c => c.cls == 4 && c.number == 0x100 + b.value && c.owner == i.engine
  else false

/-- Whether no two elements of a list are equal. -/
def distinct : List Nat → Bool
  | [] => true
  | x :: r => !r.contains x && distinct r

/-- Whether the bindings of an instance fit together (R207, R473). -/
def bindingsOk (i : Instance) : Bool :=
  let ps := i.bindings.map fun b => b.param
  if i.kernel = 0x40 then i.bindings.length == i.formula && distinct ps
  else if i.kernel = 0x4B then i.bindings.length == i.formula && distinct ps && distinct (i.bindings.map fun b => b.value)
  else if i.kernel = 0x2D then distinct ps && [0, 1, 2].all fun n => ps.contains n
  else true

/-- Check 0x0C (R66, R67, R207, R473). -/
def Image.bindingsBad (im : Image) : Option Nat :=
  (entriesOf im.raw 2 16).findSome? fun e =>
    let i := instanceOf im.raw e.2 []
    let o := secOff im.raw 3 + rdLE e.2 0xC 4
    let wild := (List.range i.bindings.length).find? fun j =>
      decide (2 ≤ rdLE im.raw (o + 8 * j + 1) 1) || rdLE im.raw (o + 8 * j + 2) 2 != 0
    match wild with
    | some j => some (o + 8 * j)
    | none => match firstBad (fun b => !bindingOk im i b) (fun j => o + 8 * j) i.bindings with
      | some f => some f
      | none => if bindingsOk i then none else some e.1

/-! ### Checks 0x0D and 0x0E -/

/-- The TDMA windows that an engine's instances use in a hyperframe (R70). -/
def Image.windowsOf (im : Image) (e : Nat) : Nat :=
  (im.insts.filter fun i => i.engine == e).foldl (fun n i => n + i.sramTicks.length * i.starts.length) 0

/-- Whether a claim is unknown, lies outside its owner's lane or has a wrong extent (R68, R70). -/
def Image.claimBad (im : Image) (b : List Byte) : Bool :=
  let c := claimOf b
  let gpio := c.cls == 1 && decide (c.number < 8)
  rdLE b 3 1 != 0 || decide (4 ≤ c.flags) || (!gpio && c.flags != 0) || (c.cls != 5 && c.cls != 7 && c.extent != 0) ||
  (match c.lane, c.ownerLane with
    | some (some x), some (some y) => x != y
    | some _, some _ => false
    | _, _ => true) ||
  (c.owner == 0x30 && !(c.cls == 6 || (gpio && c.flags == 2))) ||
  (c.cls == 5 && c.extent != im.windowsOf c.number)

/-- The claims that a used port must have: class, number, owner (R70). -/
def needed (p : PortId) : List (Nat × Nat × Nat) :=
  let n := p.num
  [(4, 2 * n, 0x10 + n), (4, 2 * n + 1, 0x10 + n), (3, 16 * n + 1, 0x10 + n), (3, 16 * n + 5, 0x10 + n),
   (3, 16 * n + 2, 3 * n + 1), (3, 16 * n + 3, 3 * n + 2), (3, 16 * n + 4, 3 * n)]

/-- Check 0x0D (R70). -/
def Image.claimsBad (im : Image) : Option Nat :=
  orElse' ((entriesOf im.raw 4 12).findSome? fun e => if im.claimBad e.2 then some e.1 else none)
    ((im.used.find? fun p => (needed p).any fun q =>
      !im.claims.any fun c => c.cls == q.1 && c.number == q.2.1 && c.owner == q.2.2).map slotOff)

/-- Whether two claims conflict (R69). -/
def Claim.conflicts (c e : Claim) : Bool :=
  c.cls == e.cls &&
  (if c.cls = 7 then c.number == e.number ||
      (decide (c.number < e.number + e.extent) && decide (e.number < c.number + c.extent))
    else c.number == e.number &&
      !(c.cls == 1 && decide (c.number < 8) && c.flags != 0 && e.flags != 0 && c.flags != e.flags))

/-- The number of the first claim that conflicts with an earlier one, or of a TDMA claim for another engine (R69). -/
def conflictClaim : List Claim → List Claim → Nat → Option Nat
  | _, [], _ => none
  | seen, c :: r, n =>
    if (c.cls == 5 && c.owner != c.number) || seen.any fun e => e.conflicts c then some n
    else conflictClaim (c :: seen) r (n + 1)

/-- Check 0x0E (R69). -/
def Image.conflictBad (im : Image) : Option Nat :=
  (conflictClaim [] im.claims 0).map fun j => secOff im.raw 4 + 12 * j

/-! ### The check -/

/-- A failing check with its reason, or what follows. -/
def failWith (reason : Nat) (r : Option Nat) (k : Option (Nat × Nat)) : Option (Nat × Nat) :=
  match r with
  | some o => some (reason, o)
  | none => k

/-- The key of image signatures in a lane's shadow (R61): 16 zero bytes while the Integrator key words are not locked, whatever
they hold; none where they are locked and cannot be read (R291). -/
def Dev.imageKey (d : Dev) (l : LaneId) : Option (List Byte) :=
  if d.lockedBy l 3 then d.roleKey l 2 else some (List.replicate 16 0)

/-- Check 0x03 (R61): the signature under the key of a lane's shadow. -/
def Dev.signatureBad (d : Dev) (l : LaneId) (b : List Byte) : Option Nat :=
  match d.imageKey l with
  | none => some (b.length - 16)
  | some k => if cmac k (b.take (b.length - 16)) = b.drop (b.length - 16) then none else some (b.length - 16)

/-- Whether the key that a lane accepts is the zero key (R61). -/
def Dev.zeroKeyOf (d : Dev) (l : LaneId) : Bool := !d.lockedBy l 3

/-- One lane's check of an image (R55, R60 to R73): the reason and the offset of its first failure. -/
def Dev.checkIn (d : Dev) (l : LaneId) (b : List Byte) : Option (Nat × Nat) :=
  failWith 0x01 (formatBad b) <|
  failWith 0x02 (if crc32 (b.take (b.length - 20)) = rdLE b (b.length - 20) 4 then none else some (b.length - 20)) <|
  failWith 0x03 (d.signatureBad l b) <|
  let im := parseImage b false
  failWith 0x04 (d.catalogueBad b) <| failWith 0x05 (d.variantBad l im) <| failWith 0x06 im.slotTableBad <|
  failWith 0x07 im.instancesBad <| failWith 0x08 im.tdmaBad <| failWith 0x09 im.certBad <| failWith 0x0A im.rulesBad <|
  failWith 0x0B im.dataAgeBad <| failWith 0x0C im.bindingsBad <| failWith 0x0D im.claimsBad <|
  failWith 0x0E im.conflictBad none

/-- The verdict on an image: accepted, or the result, reason, refusing lane and offset (R74). -/
inductive Verdict where
  | accepted (im : Image)
  | refused (res : Res) (reason lane off : Nat)
deriving DecidableEq, Repr

/-- The lanes whose loaders check: those that the part has and that are not lost (R289). -/
def Dev.loaderLanes (d : Dev) : List LaneId := d.lanesPresent.filter fun l => !d.laneLost l

/-- The result code of a reason. -/
def reasonRes (reason : Nat) : Res := if reason = 0x0E then .imageConflict else .imageInvalid

/-- The check of an image by every lane (R74). -/
def Dev.checkImage (d : Dev) (b : List Byte) : Verdict :=
  let bad := d.loaderLanes.filterMap fun l => (d.checkIn l b).map fun e => (l, e)
  match bad with
  | [] => .accepted (parseImage b (d.loaderLanes.any d.zeroKeyOf))
  | [(l, (r, o))] => .refused (reasonRes r) r l.num o
  | (_, (r, o)) :: _ => .refused (reasonRes r) r 2 o

/-- The verdict in 0x2620 (R74, R83). With `keep` an acceptance leaves the refusal of an image checked before it, as the start-up
example of PROFILE_FALLBACK shows (R291). -/
def Dev.putVerdict (d : Dev) (v : Verdict) (keep : Bool) : Dev :=
  match v with
  | .accepted _ =>
    let d := d.put 0x2620 1 3
    if keep then d else (((d.put 0x2620 2 0).put 0x2620 3 0).put 0x2620 4 0xFF).put 0x2620 5 0
  | .refused res reason lane off =>
    ((((d.put 0x2620 1 4).put 0x2620 2 res.code).put 0x2620 3 reason).put 0x2620 4 lane).put 0x2620 5 off

/-! ### Activation -/

/-- The topology objects of a port under an image (R470). -/
def Dev.putTopology (d : Dev) (im : Image) (p : PortId) : Dev :=
  let e := im.slots.get p
  let pd := e.used && bitOf im.pairFlags p.pair.num
  let shifted := pd && bitOf im.pairFlags (2 + p.pair.num)
  let u : Int := b2n e.used
  (((((((d.pput p 0x00 1 u).pput p 0x00 2 (u * e.k)).pput p 0x00 3 (u * e.phi)).pput p 0x00 4 (u * e.m)).pput p 0x00 5
    (u * e.sphase)).pput p 0x00 6 (b2n (e.used && e.locked))).pput p 0x00 7 (if pd then 1 + p.pair.num else 0)).pput p 0x00
    8 (if shifted then (if p.lane = .a then 2 else 1) else 0)

/-- The modulation kernel and the nominal carrier frequency in mHz that an image gives a port (R113, R121). -/
def Dev.putCarrier (d : Dev) (im : Image) (p : PortId) : Dev :=
  let e := im.slots.get p
  let has := fun (k : Nat) => im.insts.any fun i => i.engine == EngineId.num ⟨p, .e0⟩ && i.kernel == k
  (d.pput p 0x40 0x10 (if has 0x0D then 1 else if has 0x0E then 2 else 0)).pput p 0x40 0x11
    (if e.used && e.k != 0 then roundHA 2000000000 e.k else 0)

/-- The image's objects (R59, R71, R83, R470). -/
def Dev.putImage (d : Dev) (im : Image) (source : Nat) : Dev :=
  let claims := slice im.raw (secOff im.raw 4) (secLen im.raw 4)
  let d := (((d.put 0x2600 1 im.id).putVal 0x2600 2 (.bytes (im.sig.take 8))).put 0x2600 3 source).put 0x2600 4
    (b2n im.zeroKey)
  let d := (d.putVal 0x2630 0 (.bytes claims)).put 0x2644 0 im.h
  let d := im.busy.zipIdx.foldl (fun d e => d.put 0x2643 (e.2 + 1) e.1) d
  PortId.all.foldl (fun d p => ((d.putTopology im p).putCarrier im p).putRadius p) d

/-- The sub-indices of 0x3xA0 and 0x3xA4 that K_STATUS_OUT may write (R166, R183). -/
def statusSubs : List (Nat × Nat) :=
  [(0xA0, 2), (0xA0, 3), (0xA0, 4), (0xA4, 1), (0xA4, 2), (0xA4, 3), (0xA4, 4), (0xA4, 5), (0xA4, 6), (0xA4, 7), (0xA4, 0xC)]

/-- Whether an image binds a K_STATUS_OUT to an object. -/
def Image.bindsStatus (im : Image) (key : Nat) : Bool :=
  im.insts.any fun i => i.kernel == 0x4B && i.bindings.any fun b => b.object && b.value == key

/-- The objects of a port that an image binds to no K_STATUS_OUT at their default (R166, R183). -/
def Dev.unboundStatus (d : Dev) (im : Image) (p : PortId) : Dev :=
  statusSubs.foldl (fun d e => if im.bindsStatus (objKey (pidx p e.1) e.2) then d else d.pput p e.1 e.2 0) d

/-- A converter at an activation: the conversion in progress is completed and then it stops (R266). -/
def Dev.gcHold (d : Dev) (g : GcId) : Dev :=
  let d := d.onGc g fun c => { c with held := true }
  if (d.gcs.get g).job.isNone && (d.gcs.get g).cal.isNone then d.gcPause g else d

/-- The ports that are locked to the grid. -/
def Dev.lockedPorts (d : Dev) : List PortId := PortId.all.filter fun p => match d.slotEntry p with
  | some e => e.locked
  | none => false

/-- A phase error in every port: the error for ports with bit 0 set, otherwise 0x7FFFFFFF (R117, R121). -/
def Dev.putPhase (d : Dev) (e : Option Int) : Dev :=
  PortId.all.foldl (fun d p => d.pput p 0x40 0x15 (match e with
    | some v => if d.lockedPorts.contains p then v else 0x7FFFFFFF
    | none => 0x7FFFFFFF)) d

/-- A port's engines as the old image stops at the boundary that opens slot s (R82): what their instances would still have issued
from there on is not done, and no access of theirs completes from there on (DEDUCED, log entry 171). -/
def Port.imageStops (x : Port) (s : Nat) : Port :=
  let keep := fun (q : Option StateReq) => q.filter fun r => r.slot < s
  { x with
    mod := Modulator.atReset
    cells := { x.cells with
      angle := x.cells.angle.cutFrom s, setpoint := x.cells.setpoint.cutFrom s, duty := x.cells.duty.cutFrom s }
    e0 := { x.e0 with late := none, fl := { x.e0.fl with stores := x.e0.fl.stores.filter fun w => w.tick < 200 * s } }
    e1 := { x.e1 with obsDue := x.e1.obsDue.filter fun o => o.1 ≤ s }
    e2 := { x.e2 with proc := none, budget := none, status := x.e2.status.filter fun w => w.slot < s }
    unit := { x.unit with later := x.unit.later.filter fun c => c.due ≤ s, speedDue := x.unit.speedDue.filter fun w => w.1 ≤ s }
    reg := { x.reg with reqE2 := keep x.reg.reqE2, reqE1 := keep x.reg.reqE1 }
    pair := { x.pair with writes := x.pair.writes.filter fun w => w.prio == 0 || decide (w.slot < s) } }

/-- The activation of an image at the boundary b that opens the present slot (R82, R114, R118, R121, R266, R326, R470): the old
image stops, the monitors are disarmed, and hyperframe index 0 begins 2000 slots later. -/
def Dev.activate (d : Dev) (im : Image) (source : Nat) : Dev :=
  let d := { d with image := some im, monArmed := false, activeAt := some (d.slotNow + 2000) }
  let d := PortId.all.foldl (fun d p => d.onPort p fun x => x.imageStops (d.slotOf p)) (d.putImage im source)
  let d := GcId.all.foldl Dev.gcHold (PortId.all.foldl (fun d p => d.unboundStatus im p) d)
  let d := d.putPhase (if d.nat 0x2150 0x10 = 0 then none else some (d.num 0x2150 0x11))
  { d with grid := { d.grid with moved := true } }.cancelUnclaimed

/-- The factory minimal image: it holds no kernel instance (R291, R62). -/
def factoryMinimal : Image :=
  { id := 0, sig := List.replicate 16 0, zeroKey := false, h := 20, variants := 7, pairFlags := 0
    slots := ⟨SlotEntry.atReset, SlotEntry.atReset, SlotEntry.atReset, SlotEntry.atReset⟩
    rules := [], insts := [], claims := [], busy := List.replicate 12 0, raw := [] }

/-- VERIFY_STAGED_IMAGE (R81): the published command sets VERIFYING. -/
def verifyStagedImageStep (d : Dev) : Dev :=
  match d.pubOf 0x2610 0 with
  | none => d
  | some _ => { d.dropPub 0x2610 0 with wr := { d.wr with verify := true, staged := none } }.put 0x2620 1 2 |>.show

/-- IMAGE_VERIFICATION_COMPLETE (R74, R81): the staging buffer is accepted or refused. -/
def imageVerificationCompleteStep (d : Dev) : Dev :=
  if d.wr.verify && !d.frozen then
    let v := d.checkImage (d.bytes 0x2611 0)
    { d with wr := { d.wr with
      verify := false
      staged := match v with
        | .accepted im => some im
        | .refused _ _ _ _ => none } }.putVerdict v false
  else d

/-- ACTIVATE_STAGED_IMAGE (R82): the published command activates the accepted image at this boundary. -/
def activateStagedImageStep (d : Dev) : Dev :=
  match d.pubOf 0x2612 0, d.wr.staged with
  | some _, some im => ((d.dropPub 0x2612 0).activate im 0x10).show
  | some _, none => d.dropPub 0x2612 0
  | none, _ => d

/-! ### Hyperframe index 0 -/

/-- The code of a fallback in a handoff-rule entry (R62). -/
def fallbackOf (n : Nat) : Fallback :=
  match n with
  | 0 => .hold
  | 1 => .ramp
  | 2 => .zvv
  | 3 => .coast
  | _ => .trip

/-- A consumer at an activation: age, rule and ramp length by the image, and everything judged stale until the producer's
first write (R20, R63, R77, R79). -/
def Image.consumer {α : Type} (im : Image) (p : PortId) (cell cons : Nat) (c : Consumer α) : Consumer α :=
  let r := im.rules.find? fun r => r.port == p.num && r.cell == cell && r.consumer == cons
  { c.activated with
    maxAge := im.maxAge p cell cons
    rule := match r with
      | some r => fallbackOf r.fallback
      | none => match consumerOf cell cons with
        | some e => e.2.1
        | none => .hold
    rampLen := match r with
      | some r => if r.fallback = 1 then r.ramp else 10
      | none => 10 }

/-- The consumers of a port at an activation. -/
def Image.consumers (im : Image) (p : PortId) (c : Consumers) : Consumers :=
  { cur0 := im.consumer p 1 0 c.cur0, cur1 := im.consumer p 1 1 c.cur1, cur2 := im.consumer p 1 2 c.cur2
    ang0 := im.consumer p 2 0 c.ang0, ang2 := im.consumer p 2 2 c.ang2, sp0 := im.consumer p 3 0 c.sp0
    dutyM := im.consumer p 4 3 c.dutyM, bus0 := im.consumer p 5 0 c.bus0, duty2 := im.consumer p 4 2 c.duty2
    xw2 := im.consumer p 6 2 c.xw2 }

/-- The cells of a port at an activation (R79). -/
def Cells.activated (c : Cells) (slot : Nat) : Cells :=
  { current := Cell.activated c.current.cur.val slot, angle := Cell.activated c.angle.cur.val slot
    setpoint := Cell.activated c.setpoint.cur.val slot, duty := Cell.activated c.duty.cur.val slot
    bus := Cell.activated c.bus.cur.val slot, xw := Cell.activated c.xw.cur.val slot }

/-- The pair unit at an activation: the pair register stays, and what the exchange kept since the last activation is
cleared (R237, R245). -/
def PairUnit.activated (u : PairUnit) : PairUnit :=
  { PairUnit.atReset with
    lineIgnored := u.lineIgnored, partnerLine := u.partnerLine, ownLine := u.ownLine, state := u.state
    writes := u.writes, overloadSlot := u.overloadSlot, overloadOver := u.overloadOver }

/-- A port at hyperframe index 0 of a new image (R79, R92, R95, R132): cells and consumers initialised, the engines' data
loaded, the window integrators holding a sample of value 0 at this boundary. -/
def Dev.startPort (d : Dev) (im : Image) (p : PortId) : Dev :=
  let s := d.slotOf p
  let ch : ChanInt := ⟨0, -(100 * ((im.slots.get p).phi : Int))⟩
  let d := d.onPort p fun x => { x with
    pair := x.pair.activated
    fe := { x.fe with u := ch, v := ch }
    mod := Modulator.atReset
    cells := x.cells.activated s
    cons := im.consumers p x.cons
    e0 := E0.atReset
    e1 := E1.atReset
    e2 := { E2.atReset with cmd := { E2Cmd.atReset with
      lastClear := x.e2.cmd.lastClear, rearmed := x.e2.cmd.rearmed } }
    unit := { x.unit with later := [], speedDue := none }
    flight := [] }
  let d := (List.range 10).foldl (fun d i => (d.put (0x2650 + p.num) (i + 1) 0).put (0x2650 + p.num) (0x11 + i) 0) d
  ((((d.pput p 0x33 3 0).pput p 0x33 4 0).pput p 0x40 0x13 0).pput p 0x40 0x14 0).pput p 0x22 4 1

/-- A converter at hyperframe index 0: it starts with its requested configuration, where a calibration pass runs at that pass's
end (R266, R270). -/
def Dev.gcRelease (d : Dev) (g : GcId) : Dev :=
  let d := d.onGc g fun c => { c with held := false }
  if d.gcRuns g = false ∨ (d.gcs.get g).cal.isSome = true then d else d.gcStart g ((d.lane g.lane).clk 0)

/-- Whether auto-run applies after this start-up (R279). -/
def Dev.autoRunApplies (d : Dev) : Bool :=
  d.num 0x2002 1 == 1 && !d.bit 0x2000 2 7 && !d.bit 0x2000 2 8 && !d.bit 0x2000 2 2 && !d.bit 0x2000 2 6

/-- STANDBY entered at the end of start-up (R276, R279, R288): the auto-run request is due 4000 slots later where it applies.
The start-up time counts the slots run and the time before slot 0, which the manual only bounds by 5 ms (log entry 9). -/
def Dev.enterStandby (d : Dev) : Dev :=
  let us := narrow d.slotNow 2 + Config.freeValue d.freeIx % 5001
  let d := (d.put 0x2000 5 us).put 0x2000 1 2
  let d := d.chainSettings
  { d with
    boot := { d.boot with phase := .up, autoAt := if d.autoRunApplies then some (d.slotNow + 4000) else none }
    freeIx := d.freeIx + 1 }

/-! ### Meanings -/

/-- VERIFY_STAGED_IMAGE. -/
def execVerifyStagedImage (s : State) : Host.Outcome State Fault Refusal := .next (s.awake verifyStagedImageStep)

/-- IMAGE_VERIFICATION_COMPLETE. -/
def execImageVerificationComplete (s : State) : Host.Outcome State Fault Refusal :=
  .next (s.awake imageVerificationCompleteStep)

/-- ACTIVATE_STAGED_IMAGE. -/
def execActivateStagedImage (s : State) : Host.Outcome State Fault Refusal := .next (s.awake activateStagedImageStep)

end Sys2Proof.Machine
end

