-- ==== Sys2Proof/Machine/Net.lean ====
section
/-! DEFINITION. The network ports and the Pelnak access protocol: arriving requests, service slots, reads and writes,
segments, sessions, streams, and the takeover of N3 (R333 to R358, R360 to R362, R378). -/

namespace Sys2Proof.Machine

/-! ### Ports -/

/-- The index of a port's objects; 0 for the TAP, which has none (R356, R411). -/
def netIdx : Origin → Nat
  | .n1 => 0x1110 | .n2 => 0x1120 | .n3 => 0x1130 | .chain => 0x2301 | .tap => 0

/-- A port's counter of requests served, delayed or refused busy, where it has one (R356, R411). -/
def Dev.countReq (d : Dev) (o : Origin) (net chain : Nat) : Dev :=
  match o with
  | .tap => d
  | .chain => if chain = 0 then d else d.inc 0x2301 chain
  | o => d.inc (netIdx o) net

/-- Whether a port is ON-line: a powered mode, no freeze, its lane working, the port enabled, and on N3 no takeover under way
(R274, R333, R338, R411, R463); the chain port as its settings stood at the last fall of CSN (R402). -/
def Dev.portUp (d : Dev) (o : Origin) : Bool :=
  let l := d.serveLane o
  d.powered && !d.frozen && (d.lane l).alive && !d.laneLost l &&
  (match o with
  | .n1 => d.num 0x1110 1 == 1
  | .n2 => d.boot.laneB && d.num 0x1120 1 == 1
  | .n3 => d.num 0x1130 1 == 1 && !(d.net.latchB && d.num 0x1130 0x10 == 0)
  | .chain => d.chain.enable && d.chain.pelnak
  | .tap => true)

/-- Whether frames pass between a port and its line: the port is ON-line, and N3 not off the bus (R333, R336). -/
def Dev.busUp (d : Dev) (o : Origin) : Bool := d.portUp o && !(o == .n3 && d.num 0x1130 0x11 == 2)

/-- The payload limit of a port (R339). -/
def payloadMax : Origin → Nat
  | .n3 => 40
  | _ => 1024

/-- The distance of service slots and their offset (R347, R407, R463). -/
def serviceSlots : Origin → Nat × Nat
  | .n1 | .n2 => (125, 0)
  | .n3 => (125, 40)
  | .chain => (250, 80)
  | .tap => (250, 205)

/-- The first service slot at or after a slot (R348). -/
def firstService (o : Origin) (stamp : Nat) : Nat :=
  let q := serviceSlots o
  stamp + (q.2 + q.1 - stamp % q.1) % q.1

/-! ### Arrival of a request -/

/-- The bytes of a PDU by its own header: 16, the payload, and a tag where it carries a session (R339). -/
def pduLen (b : List Byte) : Nat := 16 + leNat (slice b 8 2) + (if leNat (slice b 2 2) = 0 then 0 else 8)

/-- Whether a PDU's payload length agrees with the frame that carries it and with the port's limit (R335, R337, R339). -/
def lengthAgrees (o : Origin) (b : List Byte) : Bool :=
  decide (leNat (slice b 8 2) ≤ payloadMax o) &&
  (match o with
  | .n3 => b.length == canLength (pduLen b) && pduLen b ≤ 64
  | .chain | .tap => decide (pduLen b ≤ b.length)
  | _ => b.length == pduLen b)

/-- The open session that a PDU may use: known, of this partner and port, with a tag that verifies (R345 check 2). -/
def Dev.sessionFor (d : Dev) (o : Origin) (who b : List Byte) : Option Session :=
  (d.openSession (leNat (slice b 2 2))).filter fun s =>
    s.origin == originCode o && s.partner == who &&
    cmac8 s.key (b.take (16 + leNat (slice b 8 2))) == slice b (16 + leNat (slice b 8 2)) 8

/-- A PDU that answers an arriving request before its service (R345, R346). -/
def Dev.reply (d : Dev) (o : Origin) (who : List Byte) (back : Return) (pdu : List Byte) : Dev :=
  d.transmit o (d.framed o 1 who back pdu)

/-- A refusal answered at once, with delay 0, tagged under the session key `key` (R345, R348); it is no response that a session
keeps. -/
def Dev.answer (d : Dev) (o : Origin) (r : Request) (session : Nat) (key : List Byte) (res : Res) : Dev :=
  d.reply o r.partner r.back (taggedPdu session key (pduBytes 1 r.opcode session r.seq res.code 0 []))

/-- A refusal for want of queue space: at most 16 in each window of 2000 slots are answered (R349). -/
def Dev.refuseBusy (d : Dev) (o : Origin) (r : Request) (key : List Byte) : Dev :=
  let w := d.serveSlot o / 2000
  let x := d.reqPort o
  let n := if x.window = w then x.refusals else 0
  if n < 16 then
    ((d.onReqPort o fun x => { x with window := w, refusals := n + 1 }).countReq o 0x14 9).answer o r r.session key
      .refusedBusy
  else (d.onReqPort o fun x => { x with window := w, refusals := n }).countReq o 0x15 0

/-- The entry whose queue has been empty for longest among those that are empty. -/
def longestEmpty (es : List Partner) : Option Nat :=
  let c := (es.mapIdx fun i e => (i, e)).filter fun e => e.2.queue.isEmpty
  match c with
  | [] => none
  | x :: xs => some (xs.foldl (fun a b => if b.2.emptySince < a.2.emptySince then b else a) x).1

/-- The partner entry that a request takes (R349): the partner's own, the lowest that never held a partner, or the one that
has been empty for longest. -/
def entryFor (es : List Partner) (who : List Byte) : Option Nat :=
  match es.findIdx? fun e => e.used && e.who == who with
  | some i => some i
  | none =>
    match es.findIdx? fun e => !e.used with
    | some i => some i
    | none => longestEmpty es

/-- A request put into a partner's queue; none where no entry is free or the partner's queue is full (R349). -/
def queueRequest (es : List Partner) (r : Request) : Option (List Partner) :=
  match entryFor es r.partner with
  | none => none
  | some i =>
    match es[i]? with
    | none => none
    | some e =>
      let q := if e.used && e.who == r.partner then e.queue else []
      if 4 ≤ q.length then none
      else some (es.mapIdx fun k x => if k = i then { x with who := r.partner, used := true, queue := q ++ [r] } else x)

/-- How a sequence number stands in a session (R346): 0 accepted, 1 answered again from the cache, 2 refused. -/
def Session.seqCheck (s : Session) (q : Nat) : Nat :=
  if s.high < q then 0
  else if s.high < q + 32 ∧ q ≤ s.high then
    if s.seen.contains q = false then 0
    else if (s.cache.find? fun c => c.1 == q).isSome then 1 else 2
  else 2

/-- A sequence number accepted (R346). -/
def Session.accept (s : Session) (q slot : Nat) : Session :=
  let h := max s.high q
  { s with high := h, seen := q :: s.seen.filter fun x => h < x + 32, since := slot }

/-- The checks of R345 on an arrived PDU, at the boundary that opens the slot of its stamp (R50). -/
def Dev.requestChecked (d : Dev) (o : Origin) (a : Arrival) : Dev :=
  let who := a.who
  let back := a.back
  let b := a.pdu
  let sid := leNat (slice b 2 2)
  let seq := leNat (slice b 4 4)
  let req : Request :=
    ⟨leNat (slice b 1 1), sid, seq, slice b 16 (leNat (slice b 8 2)), who, back, a.slot⟩
  if b.length < 16 then d.countReq o 0x16 0
  else if leNat (b.take 1) ≠ 0x10 ∨ lengthAgrees o b = false then d.answer o req 0 [] .typeLength
  else if sid = 0 then
    match queueRequest (d.reqPort o).entries req with
    | some es => d.onReqPort o fun x => { x with entries := es }
    | none => d.refuseBusy o req []
  else
    match d.sessionFor o who b with
    | none => d.answer o req 0 [] .sessionInvalid
    | some s =>
      if s.seqCheck seq = 2 then d.answer o req sid s.key .sessionInvalid
      else if s.seqCheck seq = 1 then
        match s.cache.find? fun c => c.1 == seq with
        | some c => d.reply o who back c.2
        | none => d
      else
        match queueRequest (d.reqPort o).entries req with
        | some es => (d.onReqPort o fun x => { x with entries := es }).onSession sid fun s => s.accept seq a.slot
        | none => d.refuseBusy o req s.key

/-- A PDU that arrives in the present slot of the serving lane waits for the boundary that stamps it (R50, R407). -/
def Dev.requestArrives (d : Dev) (o : Origin) (who : List Byte) (back : Return) (b : List Byte) : Dev :=
  d.onReqPort o fun x => { x with arrived := x.arrived ++ [⟨who, back, b, d.serveSlot o + 1⟩] }

/-- A port's arrivals of the slots before the present one are sampled: stamped and checked (R50, R345). -/
def Dev.sampled (d : Dev) (o : Origin) : Dev :=
  let due := (d.reqPort o).arrived.filter fun a => a.slot ≤ d.serveSlot o
  due.foldl (fun d a => d.requestChecked o a)
    (d.onReqPort o fun x => { x with arrived := x.arrived.filter fun a => d.serveSlot o < a.slot })

/-- The arrivals of every port sampled (R50). -/
def Dev.sampledAll (d : Dev) : Dev := [Origin.n1, .n2, .n3, .chain, .tap].foldl (fun d o => d.sampled o) d

/-- CHANGE_PUBLICATION (R28, R30, R50, R350, R364, R373): once for each slot boundary of the common domain, the committed changes
due are published together and their responses released; and at each boundary the Process writes of the slot that the
lane which served them has closed. The boundary samples its arrivals behind that. -/
def changePublicationStep (d : Dev) : Dev :=
  let ls := d.publishing
  if d.powered && !d.frozen && !ls.isEmpty then ls.foldl (fun d l => d.showAt l) d.publishDue.sampledAll else d

/-- A field of a CAN FD identifier (R337): marker 0x50, the node's own ID as destination, and the kind. -/
def Dev.canAccepts (d : Dev) (canId kind : Nat) : Bool :=
  field canId 23 16 == 0x50 && field canId 15 8 == d.nat 0x1130 2 && field canId 25 24 == kind

/-- The T1S port's own IPv6 address: fe80::/64 with the modified EUI-64 of its MAC address (R334). -/
def Dev.ipv6 (d : Dev) (o : Origin) : List Byte :=
  let m := d.bytes (netIdx o) 2
  [0xFE, 0x80, 0, 0, 0, 0, 0, 0, (m.getD 0 0) ^^^ 0x02, m.getD 1 0, m.getD 2 0, 0xFF, 0xFE, m.getD 3 0, m.getD 4 0,
    m.getD 5 0]

/-- Whether a T1S port takes a datagram in: no fragment, and addressed to its IPv4 address in use, most significant byte first,
or to its IPv6 address (R334). -/
def Dev.addressed (d : Dev) (o : Origin) (h : FrameHead) : Bool :=
  !h.fragment &&
  (h.dst == d.ipv6 o || (d.bit (netIdx o) 0x10 1 && h.dst == (toLE 4 (d.nat (netIdx o) 0x11)).reverse))

/-- The partner address of a frame (R337, R367): the source MAC on N1 and N2, the source node on N3. -/
def partnerOf (o : Origin) (h : FrameHead) (canId : Nat) : List Byte :=
  match o with
  | .n3 => pad8 (toLE 1 (canId % 256))
  | _ => pad8 (h.mac.take 6)

/-- Where the answer to a frame goes (R335). -/
def returnOf (o : Origin) (h : FrameHead) : Return :=
  match o with
  | .n1 | .n2 => ⟨h.src, h.srcPort⟩
  | _ => ⟨[], 0⟩

/-- Whether a Pelnak frame reaches the access protocol: on N1 and N2 a datagram to the port's own address, to this UDP port, as
long as its PDU; on N3 a frame of this kind for the node (R334, R335, R337). -/
def Dev.takesFrame (d : Dev) (o : Origin) (h : FrameHead) (canId udp kind : Nat) : Bool :=
  match o with
  | .chain | .tap => false
  | .n3 => d.canAccepts canId kind
  | _ => d.addressed o h && h.dstPort == udp

/-- REQUEST_ARRIVAL (R50, R334, R335, R336, R337, R345, R346, R349): a request on N1, N2 or N3, which the next boundary stamps and
checks. A datagram whose length differs from its PDU's is discarded. Requests of the chain port and the TAP arrive with the units
that complete them. -/
def requestArrivalStep (o : Origin) (h : FrameHead) (canId : Nat) (pdu : List Byte) (d : Dev) : Dev :=
  if d.busUp o && d.takesFrame o h canId 47120 0 then
    if o ≠ .n3 ∧ 16 ≤ pdu.length ∧ pdu.length ≠ pduLen pdu then d.inc (netIdx o) 0x16
    else d.requestArrives o (partnerOf o h canId) (returnOf o h) pdu
  else d

/-! ### Service slots -/

/-- The queue search of R347: the first entry from `next` on, cyclically, whose oldest request is stamped at or before the
slot. -/
def nextEntry (es : List Partner) (next slot : Nat) : Option (Nat × Request) :=
  let n := es.length
  (List.range n).findSome? fun k =>
    match es[(next + k) % n]? with
    | some e => match e.queue with
      | r :: _ => if r.stamp ≤ slot then some ((next + k) % n, r) else none
      | [] => none
    | none => none

/-- The request that a port's service slot serves now (R347, R350): none outside a service slot, after the slot's service,
or while the transmit queue is full. -/
def Dev.chosen (d : Dev) (o : Origin) : Option (Nat × Request) :=
  let x := d.reqPort o
  let s := d.serveSlot o
  let q := serviceSlots o
  if d.portUp o && s % q.1 == q.2 && x.served != some s && decide (x.tx.length < txRoom o) then
    nextEntry x.entries x.next s
  else none

/-- The object that a request names (R340). -/
def Request.key (r : Request) : Nat := leNat (slice r.payload 0 2) * 256 + leNat (slice r.payload 2 1)

/-- The opcodes of R340. -/
def opcodes : List Nat := [0x01, 0x02, 0x03, 0x04, 0x10, 0x11, 0x12, 0x20, 0x21]

/-- The row that serves a request: its opcode, 0x81 and 0x82 for segments of the staging buffer and of the inactive bank; an
opcode that is not listed is answered by the first row. -/
def Request.row (r : Request) : Nat :=
  if r.opcode = 4 ∧ 3 ≤ r.payload.length ∧ r.key = 0x261100 then 0x81
  else if r.opcode = 4 ∧ 3 ≤ r.payload.length ∧ r.key = 0x141000 then 0x82
  else if opcodes.contains r.opcode then r.opcode else 1

/-- The form of a request's payload (R340). -/
def Request.wellFormed (r : Request) : Bool :=
  let p := r.payload
  let zero := fun (i : Nat) => p.getD i 0 == 0
  match r.opcode with
  | 0x01 => p.length == 4 && zero 3
  | 0x02 => 4 ≤ p.length && zero 3
  | 0x03 => p.length == 10 && zero 3
  | 0x04 => 8 ≤ p.length && decide (leNat (slice p 3 1) ≤ 3)
  | 0x10 => p.length == 20 && zero 1 && zero 2 && zero 3
  | 0x11 => p.length == 20 && zero 2 && zero 3
  | 0x12 => p.length == 0
  | 0x20 | 0x21 => p.length == 4 && zero 1 && zero 2 && zero 3
  | _ => false

/-- The request taken out of its queue, with the counts of the service (R347, R348, R356). -/
def Dev.take (d : Dev) (o : Origin) (i : Nat) (delay : Nat) : Dev :=
  let s := d.serveSlot o
  let d := d.onReqPort o fun x => { x with
    served := some s
    next := (i + 1) % x.entries.length
    entries := x.entries.mapIdx fun k e =>
      if k = i then { e with queue := e.queue.drop 1, emptySince := if e.queue.length ≤ 1 then s else e.emptySince } else e }
  let d := d.countReq o 0x12 8
  let d := if delay = 0 then d else d.countReq o 0x13 0
  match o with
  | .tap => d
  | .chain => d.put 0x2301 0xA (max (d.num 0x2301 0xA) (delayUs delay))
  | o => d.put (netIdx o) 0x17 (max (d.num (netIdx o) 0x17) (delayUs delay))

/-- Who a queued request comes from: its session's role, or the Observer without one; none where the session has closed. -/
def Dev.reqCtx (d : Dev) (o : Origin) (r : Request) : Option Ctx :=
  let who := d.partnerShown (originCode o) r.partner
  if r.session = 0 then some ⟨0, 0, originCode o, who⟩
  else (d.openSession r.session).map fun s => ⟨s.role, s.id, originCode o, who⟩

/-- The reply that a queued request asks for, with a delay in slots: tagged under its session's key (R335, R339, R348). -/
def Dev.replyTo (d : Dev) (o : Origin) (r : Request) (delay : Nat) : Reply :=
  ⟨originCode o, r.partner, r.back, r.session, ((d.openSession r.session).map fun s => s.key).getD [], r.seq, r.opcode, delay⟩

/-- One service slot of a port: the request that R347 chooses, if the row is its own, is taken and handed to f with the
serving lane, its sender and its reply (R340, R348). -/
def Dev.serve (d : Dev) (o : Origin) (row : Nat) (f : LaneId → Ctx → Reply → Request → Dev → Dev) : Dev :=
  match d.chosen o with
  | none => d
  | some (i, r) =>
    if r.row ≠ row then d
    else
      let delay := d.serveSlot o - firstService o r.stamp
      let y := d.replyTo o r delay
      let d := d.take o i delay
      if r.wellFormed = false then d.respond y .badRequest []
      else
        match d.reqCtx o r with
        | none => d.respond { y with session := 0 } .sessionInvalid []
        | some c => f (d.serveLane o) c y r d

/-! ### Reads -/

/-- What a request served in a lane's slot reads of an object (R362). -/
def Dev.visible (d : Dev) (l : LaneId) (c : Ctx) (key : Nat) : List Byte := (d.shown.get l).value (d.exportBase c.session) key

/-- The total length of the export window up to the next entry number that a lane's slot shows (R362, R378). -/
def Dev.windowLen (d : Dev) (l : LaneId) (base : Nat) : Nat :=
  64 * windowCount (leNat (d.visible l Ctx.internal 0x130002)) base

/-- Bytes of the export window; none where one names an entry that is no longer held (R378). -/
def Dev.windowBytes (d : Dev) (base off n : Nat) : Option (List Byte) :=
  let first := off / 64
  let count := (off + n + 63) / 64 - first
  let es := (List.range count).map fun k => d.flash.entry (numberAfter base (first + k))
  if n = 0 then some []
  else if es.any fun e => e.isNone then none
  else some (slice (es.flatMap fun e => e.getD []) (off % 64) n)

/-- The checks of a read (R29, R360, R361). -/
def Dev.readRes (d : Dev) (c : Ctx) (key : Nat) : Res :=
  let idx := key / 256
  if idxExists idx = false ∨ d.absent idx = true then .noObject
  else match objRow idx (key % 256) with
    | none => .noSubindex
    | some r =>
      if d.homeLost idx then .wrongMode
      else if r.access = .wo then .writeOnly
      else if key = 0x132000 ∧ c.session = 0 then .roleTooLow
      else .ok

/-- A READ carried out (R340, R360, R362). -/
def Dev.doRead (d : Dev) (l : LaneId) (c : Ctx) (y : Reply) (key : Nat) : Dev :=
  let lim := payloadMax (originOf y.origin)
  match d.readRes c key with
  | .ok =>
    if key = 0x132000 then
      let n := d.windowLen l (d.exportBase c.session)
      if lim < n then d.respond y .typeLength []
      else match d.windowBytes (d.exportBase c.session) 0 n with
        | some b => d.respond y .ok b
        | none => d.respond y .inconsistent []
    else if key = 0x240600 then d.respond y .typeLength []
    else
      let v := d.visible l c key
      if lim < v.length then d.respond y .typeLength [] else d.respond y .ok v
  | res => d.respond y res []

/-- A READ_SEGMENT carried out (R340, R362, R378, R427): the total length and the bytes from the offset. -/
def Dev.doReadSegment (d : Dev) (l : LaneId) (c : Ctx) (y : Reply) (key off maxLen : Nat) : Dev :=
  let n := min maxLen (payloadMax (originOf y.origin) - 4)
  match d.readRes c key with
  | .ok =>
    if key = 0x132000 then
      let total := d.windowLen l (d.exportBase c.session)
      if total < off then d.respond y .outOfRange []
      else match d.windowBytes (d.exportBase c.session) off (min n (total - off)) with
        | some b => d.respond y .ok (toLE 4 total ++ b)
        | none => d.respond y .inconsistent []
    else if key = 0x240600 then
      if 1984 < off then d.respond y .outOfRange []
      else if 8 ≤ d.otp.waits.length then d.respond y .refusedBusy []
      else { d with otp := { d.otp with waits := d.otp.waits ++ [(y, off, min n (1984 - off))] } }
    else
      let v := d.visible l c key
      if v.length < off then d.respond y .outOfRange []
      else d.respond y .ok (toLE 4 v.length ++ slice v off n)
  | res => d.respond y res []

/-! ### Writes and segments -/

/-- The bytes that an object's value can have at most (R341, R359). -/
def maxBytes (r : ObjRow) : Nat :=
  match r.type with
  | .arr e => r.len.max * e.size
  | .str => 64
  | .octets => r.len.max
  | t => t.size.getD 0

/-- A WRITE_SEGMENT into a session's assembly (R341): FIRST opens one, later segments continue it exactly, LAST writes the
completed value as one WRITE. A completing segment that the checks before it refuse is a refused write; the journal takes no
note of others (R361, R366). -/
def Dev.doWriteSegment (d : Dev) (l : LaneId) (c : Ctx) (y : Reply) (vpp key flags off : Nat) (data : List Byte) : Dev :=
  let first := flags % 2 == 1
  let last := flags / 2 % 2 == 1
  let drop := fun (d : Dev) => d.onSession c.session fun s => { s with asm := none }
  match d.headRes c.role (key / 256) (key % 256), objRow (key / 256) (key % 256) with
  | .ok, some r =>
    let seg := match r.type with
      | .octets | .arr _ => true
      | _ => false
    let held := ((d.session c.session).bind fun s => s.asm).filter fun a => a.1 == key
    let b := if first then [] else (held.map fun a => a.2).getD []
    let no := fun (d : Dev) (res : Res) => if last then d.refuseWrite l c y key (b ++ data) res else d.respond y res []
    if accessOk r.access (d.committed c.origin).mode = false ∨ d.homeLost (key / 256) = true then no d .wrongMode
    else if seg = false then no d .typeLength
    else if maxBytes r < b.length + data.length ∨ 1024 < b.length + data.length then no d .outOfRange
    else if (first = false ∧ held.isNone = true) ∨ off ≠ b.length then no (drop d) .inconsistent
    else if last then (drop d).write l c y vpp key (b ++ data)
    else (d.onSession c.session fun s => { s with asm := some (key, b ++ data) }).respond y .ok []
  | res, _ => if last then d.refuseWrite l c y key data res else d.respond y res []

/-- The judgement of a direct segment (R81, R341, R361, R391, R395): 0x2611 and 0x1410, with the data that it follows. The
inactive bank is written only behind a first segment since reset, which has erased it. -/
def Dev.directRes (d : Dev) (c : Ctx) (key : Nat) (first : Bool) (off n : Nat) : Res :=
  match d.headRes c.role (key / 256) (key % 256) with
  | .ok =>
    match objRow (key / 256) (key % 256) with
    | none => .noSubindex
    | some r =>
      let e := d.committed c.origin
      let len := if first then 0 else (d.pendingBytes key).length
      if accessOk r.access e.mode = false ∨ d.homeLost (key / 256) = true then .wrongMode
      else if maxBytes r < len + n then .outOfRange
      else if (key = 0x261100 ∧ e.verifying = true) ∨ e.flashBusy = true then .refusedBusy
      else if off ≠ len ∨ (key = 0x141000 ∧ first = false ∧ d.wr.upload = false) then .inconsistent
      else .ok
  | res => res

/-- A segment of the staging buffer or of the inactive bank carried out: FIRST empties the buffer, or erases the bank, and others
follow the data there; a Process write like others (R81, R341, R364, R395). -/
def Dev.doDirect (d : Dev) (l : LaneId) (c : Ctx) (y : Reply) (key flags off : Nat) (data : List Byte) : Dev :=
  let first := flags % 2 == 1
  match d.directRes c key first off data.length with
  | .ok =>
    let d := d.procWrite l c key ((if first then [] else d.pendingBytes key) ++ data) (!first)
    (if first ∧ key = 0x141000 then d.eraseAhead else d).respond y .ok []
  | res => d.respond y res []

/-- An object request carried out in a lane, by its opcode (R340). -/
def Dev.objectRequest (d : Dev) (l : LaneId) (c : Ctx) (y : Reply) (vpp : Nat) (r : Request) : Dev :=
  let p := r.payload
  match r.row with
  | 0x01 => d.doRead l c y r.key
  | 0x02 => d.write l c y vpp r.key (p.drop 4)
  | 0x03 => d.doReadSegment l c y r.key (leNat (slice p 4 4)) (leNat (slice p 8 2))
  | 0x04 => d.doWriteSegment l c y vpp r.key (leNat (slice p 3 1)) (leNat (slice p 4 4)) (p.drop 8)
  | 0x81 => d.doDirect l c y 0x261100 (leNat (slice p 3 1)) (leNat (slice p 4 4)) (p.drop 8)
  | 0x82 => d.doDirect l c y 0x141000 (leNat (slice p 3 1)) (leNat (slice p 4 4)) (p.drop 8)
  | _ => d

/-- An object request in its service slot: carried out at once, or, for an object whose home is the other lane, passed over
the dictionary bridge to be executed there 2 slots later (R28, R29, R350). -/
def Dev.objectService (vpp : Nat) (l : LaneId) (c : Ctx) (y : Reply) (r : Request) (d : Dev) : Dev :=
  match homeOf (r.key / 256) with
  | .lane h =>
    if h ≠ l ∧ d.laneLost h = false ∧ d.boot.laneB = true then
      let j : BridgeJob := ⟨c.origin, (d.lane h).slots + 2, h, y.delay, r⟩
      { d with net := { d.net with bridge := d.net.bridge ++ [j] } }
    else d.objectRequest l c y vpp r
  | _ => d.objectRequest l c y vpp r

/-- READ (R340, R347 to R350, R360, R362). -/
def readStep (o : Origin) (d : Dev) : Dev := d.serve o 0x01 (Dev.objectService 0)

/-- WRITE (R361 to R366, R373); vpp is the VPP pin in mV, which only the fuse commands look at. -/
def writeStep (o : Origin) (vpp : Nat) (d : Dev) : Dev := d.serve o 0x02 (Dev.objectService vpp)

/-- READ_SEGMENT (R340, R378, R427). -/
def readSegmentStep (o : Origin) (d : Dev) : Dev := d.serve o 0x03 (Dev.objectService 0)

/-- WRITE_SEGMENT (R341). -/
def writeSegmentStep (o : Origin) (vpp : Nat) (d : Dev) : Dev := d.serve o 0x04 (Dev.objectService vpp)

/-- STAGING_BUFFER_WRITE (R81, R341). -/
def stagingBufferWriteStep (o : Origin) (d : Dev) : Dev := d.serve o 0x81 (Dev.objectService 0)

/-- BANK_STAGING (R395). -/
def bankStagingStep (o : Origin) (d : Dev) : Dev := d.serve o 0x82 (Dev.objectService 0)

/-- BRIDGE_EXECUTION (R28, R350): the request that port o passed over the bridge, executed in the home lane. Where that lane has
been lost on the way the request is judged as any other for a lost home, existence and role before WRONG_MODE (R361). -/
def bridgeExecutionStep (o : Origin) (d : Dev) : Dev :=
  match d.net.bridge.find? fun j => j.origin == originCode o && decide (j.due ≤ (d.lane j.home).slots) with
  | none => d
  | some j =>
    let d := { d with net := { d.net with bridge := d.net.bridge.erase j } }
    let y := d.replyTo o j.req j.delay
    match d.reqCtx o j.req with
    | none => d.respond { y with session := 0 } .sessionInvalid []
    | some c =>
      d.objectRequest (if d.laneLost j.home then d.clkLane else j.home) c y 0 j.req

/-! ### Sessions -/

/-- A session ID that no session has, from a candidate on: at most 8 others are in use. -/
def Dev.unusedId (d : Dev) : Nat → Nat → Nat
  | 0, c => c
  | n + 1, c => if (d.session c).isSome then d.unusedId n (c % 65535 + 1) else c

/-- Sixteen bytes of the random source (R342). -/
def randomBytes (ix n : Nat) : List Byte := (List.range n).map fun i => Config.randomByte (ix + i)

/-- A session entered at the lowest free place of the table. -/
def addSession (s : Session) : List (Option Session) → List (Option Session)
  | [] => []
  | none :: r => some s :: r
  | some x :: r => some x :: addSession s r

/-- Remaining lockout of a port in slots; 0 without one (R344). -/
def Dev.lockout (d : Dev) (o : Origin) : Nat :=
  match (d.reqPort o).lockAt with
  | some s => s + 2000000 - d.serveSlot o
  | none => 0

/-- An OPEN carried out (R342, R344): an ID reserved, a device nonce answered. -/
def Dev.doOpen (c : Ctx) (y : Reply) (r : Request) (d : Dev) : Dev :=
  let o := originOf c.origin
  let role := leNat (r.payload.take 1)
  if d.lockout o ≠ 0 then d.respond { y with delay := d.lockout o } .authFailed []
  else if role = 0 ∨ 3 < role then d.respond y .outOfRange []
  else if (d.net.sessions.all fun s => s.isSome) then d.respond y .refusedBusy []
  else
    let ix := d.freeIx
    let id := d.unusedId 8 (leNat (randomBytes ix 2) % 65535 + 1)
    let nd := randomBytes (ix + 2) 16
    let s : Session :=
      { id := id, isOpen := false, role := role, origin := c.origin, partner := r.partner, ip := [], key := []
        nh := r.payload.drop 4, nd := nd, since := d.serveSlot o, high := 0, seen := [], cache := [], asm := none, base := 0 }
    let d := { d with freeIx := ix + 18, net := { d.net with sessions := addSession s d.net.sessions } }
    d.countSessions.respond y .ok (toLE 2 id ++ [0, 0] ++ nd)

/-- OPEN (R342). -/
def openSessionStep (o : Origin) (d : Dev) : Dev := d.serve o 0x10 fun _ c y r d => d.doOpen c y r

/-- The message of the key proofs: role, port, session ID and the nonces (R342). -/
def Session.proofBytes (s : Session) : List Byte := toLE 1 s.role ++ toLE 1 s.origin ++ toLE 2 s.id ++ s.nh ++ s.nd

/-- An AUTH that fails: the ID is free again, and a fourth consecutive failure locks the port (R342, R344). -/
def Dev.authFails (d : Dev) (s : Session) (y : Reply) : Dev :=
  let o := originOf s.origin
  let now := d.serveSlot o
  let d := (d.dropSession s.id).inc 0x1200 3
  let d := d.onReqPort o fun x => { x with
    fails := x.fails + 1, lockAt := if 3 ≤ x.fails ∧ x.lockAt.isNone then some now else x.lockAt }
  (d.journalEvent ⟨s.role, s.id, s.origin, d.partnerShown s.origin s.partner⟩ 0x04 0 []).respond y .authFailed []

/-- An AUTH carried out in a lane (R342, R343): one that arrived more than 1 s after the reservation finds none. -/
def Dev.doAuth (l : LaneId) (c : Ctx) (y : Reply) (r : Request) (d : Dev) : Dev :=
  let id := leNat (slice r.payload 0 2)
  match (d.session id).filter fun s =>
    !s.isOpen && s.origin == c.origin && s.partner == r.partner && decide (r.stamp ≤ s.since + 2000000) with
  | none => d.respond y .sessionInvalid []
  | some s =>
    match d.roleKey l s.role with
    | none => d.authFails s y
    | some k =>
      if cmac k (0x01 :: s.proofBytes) = r.payload.drop 4 then
        let o := originOf s.origin
        let now := d.serveSlot o
        let key := cmac k (0x03 :: s.proofBytes)
        let d := d.onSession id fun s => { s with isOpen := true, key := key, since := now, ip := r.back.ip }
        let d := d.onReqPort o fun x => { x with fails := 0 }
        (d.journalEvent ⟨s.role, s.id, s.origin, d.partnerShown s.origin s.partner⟩ 0x02 0 (toLE 1 s.origin)).respond y .ok
          (cmac k (0x02 :: s.proofBytes))
      else d.authFails s y

/-- AUTH (R342). -/
def authStep (o : Origin) (d : Dev) : Dev := d.serve o 0x11 fun l c y r d => d.doAuth l c y r

/-- CLOSE (R344): the response goes out under the session it closes. -/
def closeStep (o : Origin) (d : Dev) : Dev :=
  d.serve o 0x12 fun _ c y _ d =>
    if c.session = 0 then d.respond y .sessionInvalid [] else (d.respond y .ok []).closeSession c.session 0

/-- The role that a stream asks for (R352): the highest write role among the objects a receive stream maps, Operator for a
transmit stream. -/
def Dev.streamRole (d : Dev) (s : Nat) : Nat :=
  if d.streamRx s then (d.streamMap s).foldl (fun n e => max n (roleOfKey (mapKey e))) 0 else 1

/-- The judgement of an ATTACH (R352). -/
def Dev.attachRes (d : Dev) (c : Ctx) (s : Nat) : Res :=
  if c.role < d.streamRole s then .roleTooLow
  else if 16 ≤ s ∨ d.streamOn s = false ∨ c.session = 0 then .inconsistent
  else if d.nat (streamIdx s) 0x11 ≠ 0 ∧ d.nat (streamIdx s) 0x11 ≠ c.session then .inconsistent
  else if d.nat (streamIdx s) 3 ≠ c.origin then .inconsistent
  else .ok

/-- ATTACH (R352). -/
def attachStep (o : Origin) (d : Dev) : Dev :=
  d.serve o 0x20 fun _ c y r d =>
    let s := leNat (r.payload.take 1)
    match d.attachRes c s with
    | .ok =>
      let d := d.put (streamIdx s) 0x11 c.session
      (if d.streamRx s then d else d.put (streamIdx s) 0x10 4).respond y .ok []
    | res => d.respond y res []

/-- DETACH (R352): refused unless the stream is attached to the requesting session. -/
def detachStep (o : Origin) (d : Dev) : Dev :=
  d.serve o 0x21 fun _ c y r d =>
    let s := leNat (r.payload.take 1)
    if s < 16 ∧ c.session ≠ 0 ∧ d.nat (streamIdx s) 0x11 = c.session then (d.detach s).respond y .ok []
    else d.respond y .inconsistent []

/-- The age of a session in slots of the lane that serves its port. -/
def Dev.sessionAge (d : Dev) (s : Session) : Nat := d.serveSlot (originOf s.origin) - s.since

/-- Whether the AUTH of a reservation has arrived within its second and waits to be served (R342). -/
def Dev.authWaits (d : Dev) (s : Session) : Bool :=
  (d.reqPort (originOf s.origin)).entries.any fun e => e.queue.any fun r =>
    r.opcode == 0x11 && r.session == 0 && leNat (slice r.payload 0 2) == s.id && r.partner == s.partner &&
    decide (r.stamp ≤ s.since + 2000000)

/-- OPEN_EXPIRY (R51, R342): a reserved ID whose AUTH has not arrived for more than 1 s is free again. -/
def openExpiryStep (id : Nat) (d : Dev) : Dev :=
  match d.session id with
  | some s =>
    if s.isOpen = false ∧ 2000000 < d.sessionAge s ∧ d.authWaits s = false then d.dropSession id else d
  | none => d

/-- SESSION_TIMEOUT (R51, R344). -/
def sessionTimeoutStep (id : Nat) (d : Dev) : Dev :=
  match d.openSession id with
  | some s => if d.nat 0x1200 1 * 2000 < d.sessionAge s then d.closeSession id 1 else d
  | none => d

/-- AUTH_LOCKOUT_EXPIRY (R344): 1 s after the fourth failure OPEN is served again. -/
def authLockoutExpiryStep (o : Origin) (d : Dev) : Dev :=
  match (d.reqPort o).lockAt with
  | some s => if s + 2000000 ≤ d.serveSlot o then d.onReqPort o fun x => { x with lockAt := none, fails := 0 } else d
  | none => d

/-! ### Streams -/

/-- The port of a stream. -/
def Dev.streamPort (d : Dev) (s : Nat) : Origin := originOf (d.nat (streamIdx s) 3)

/-- A payload cut into the values of a mapping, in its order. -/
def cutValues : List Nat → List Byte → List (Nat × List Byte)
  | [], _ => []
  | e :: es, b => (mapKey e, b.take (mapLen e)) :: cutValues es (b.drop (mapLen e))

/-- Whether a stream frame is accepted (R353). -/
def Dev.frameOk (d : Dev) (o : Origin) (who b : List Byte) : Bool :=
  let s := leNat (slice b 1 1)
  let n := leNat (slice b 8 2)
  let x := d.net.streams.getD s Stream.atReset
  let same := d.serveSlot o + 1 == (if d.serveLane o = .a then x.stampA else x.stampB)
  let last := if same then x.prevSeq else x.seq
  16 ≤ b.length && leNat (b.take 1) == 0x12 && s < 16 && d.streamOn s && d.streamRx s &&
  d.nat (streamIdx s) 0x11 == leNat (slice b 2 2) && d.nat (streamIdx s) 0x11 != 0 &&
  d.nat (streamIdx s) 3 == originCode o && (d.sessionFor o who b).isSome && lengthAgrees o b &&
  (decide (last < leNat (slice b 4 4)) || !x.got) && n == (d.streamMap s).foldl (fun k e => k + mapLen e) 0

/-- The slot of a lane at whose boundary a frame's value is published (R353): the one after the stamp in the receiving lane, one
later in the other. -/
def Dev.pubSlotOf (d : Dev) (l : LaneId) (key : Nat) : LaneId × Nat :=
  match homeOf (key / 256) with
  | .lane h => if h = l then (l, (d.lane l).slots + 2) else (h, (d.lane h).slots + 3)
  | _ => (l, (d.lane l).slots + 2)

/-- An accepted frame (R353, R354): stamped, its values on their way; a second frame of one slot replaces the first. -/
def Dev.acceptFrame (d : Dev) (o : Origin) (b : List Byte) : Dev :=
  let s := leNat (slice b 1 1)
  let l := d.serveLane o
  let x := d.net.streams.getD s Stream.atReset
  let stamp := (d.lane l).slots + 1
  let second := x.got && stamp == (if l = .a then x.stampA else x.stampB)
  let vals := cutValues (d.streamMap s) (slice b 16 (leNat (slice b 8 2)))
  let pubs := vals.filterMap fun v =>
    let q := d.pubSlotOf l v.1
    if d.laneLost q.1 then none
    else match objRow (v.1 / 256) (v.1 % 256) with
      | some _ => some (⟨s, q.1, q.2, stamp, v.1, v.2⟩ : StreamPub)
      | none => none
  let old := if second then d.net.pubs.filter fun p => p.stream ≠ s ∨ p.stamp ≠ stamp else d.net.pubs
  let d := { d with net := { d.net with pubs := old ++ pubs } }
  let d := d.onStream s fun x => { x with
    got := true, seq := leNat (slice b 4 4), prevSeq := if second then x.prevSeq else x.seq
    prevA := if second then x.prevA else if x.got then some x.stampA else none
    prevB := if second then x.prevB else if x.got then some x.stampB else none
    stampA := (d.lane .a).slots + 1, stampB := (d.lane .b).slots + 1 }
  let d := if second then d.inc (streamIdx s) 0x14 else d.inc (streamIdx s) 0x12
  let d := d.put (streamIdx s) 0x16 ((stamp % 2 ^ 32 : Nat) : Int)
  let d : Dev := d.onSession (leNat (slice b 2 2)) fun x => { x with since := stamp }
  if d.nat (streamIdx s) 0x10 == 2 then d else (d.put (streamIdx s) 0x10 2).streamEvent s 0x10

/-- STREAM_FRAME_ARRIVAL (R334, R335, R336, R337, R353). -/
def streamFrameArrivalStep (o : Origin) (h : FrameHead) (canId : Nat) (pdu : List Byte) (d : Dev) : Dev :=
  if d.busUp o && d.takesFrame o h canId 47121 2 then
    if d.frameOk o (partnerOf o h canId) pdu then d.acceptFrame o pdu
    else
      let s := leNat (slice pdu 1 1)
      if 2 ≤ pdu.length ∧ s < 16 then d.inc (streamIdx s) 0x13 else d
  else d

/-- The stream timeout in slots (R351). -/
def Dev.streamSlots (d : Dev) (s : Nat) : Nat := d.nat (streamIdx s) 5 * 2

/-- The lane whose slots judge a stream: the one that serves its port, and lane B for N3 from the loss of lane A on (R51, R338). -/
def Dev.streamLane (d : Dev) (s : Nat) : LaneId :=
  if d.streamPort s = .n3 ∧ d.laneLost .a = true ∧ (d.lane .b).alive = true then .b else d.serveLane (d.streamPort s)

/-- STREAM_TIMEOUT (R51, R338, R354). -/
def streamTimeoutStep (s : Nat) (d : Dev) : Dev :=
  let x := d.net.streams.getD s Stream.atReset
  let l := d.streamLane s
  let stamp := if l = .a then x.stampA else x.stampB
  if s < 16 ∧ d.streamOn s = true ∧ d.streamRx s = true ∧ d.num (streamIdx s) 0x10 = 2 ∧
      stamp + d.streamSlots s < (d.lane l).slots then
    ((d.put (streamIdx s) 0x10 3).inc (streamIdx s) 0x15).streamEvent s 0x11
  else d

/-- Whether an object can be written only (R360). -/
def writeOnly (key : Nat) : Bool :=
  match objRow (key / 256) (key % 256) with
  | some r => r.access == .wo
  | none => false

/-- What a transmit frame carries of a mapping entry (R351, R355): the object's value as its lane's slot shows it. An object that
no role can read, or whose value is shorter than its size, as an EMPTY timed-action entry is, gives free bytes (R360, DESIGN
CHOICE, log entry 181). -/
def Dev.mapped (d : Dev) (l : LaneId) (c : Ctx) (e : Nat) : List Byte :=
  let v := if writeOnly (mapKey e) then [] else (d.visible l c (mapKey e)).take (mapLen e)
  v ++ ((List.range (mapLen e)).drop v.length).map fun i => Config.openByte (mapKey e) i

/-- STREAM_TRANSMIT (R355): one frame in each slot that is a multiple of the period, with the values visible at its start; a
frame that finds the transmit queue full is dropped, its sequence number used. -/
def streamTransmitStep (s : Nat) (d : Dev) : Dev :=
  let o := d.streamPort s
  let now := d.serveSlot o
  let x := d.net.streams.getD s Stream.atReset
  let id := d.nat (streamIdx s) 0x11
  if s < 16 && d.portUp o && d.num (streamIdx s) 0x10 == 4 && id != 0 && x.sentSlot != some now &&
      now % (d.nat (streamIdx s) 4 * 2) == 0 then
    let seq := (x.seq + 1) % 2 ^ 32
    let c := d.sessionCtx id
    let data := (d.streamMap s).flatMap fun e => d.mapped (d.serveLane o) c e
    let from' := d.openSession id
    let pdu := taggedPdu id ((from'.map fun s => s.key).getD [])
      (toLE 1 0x12 ++ toLE 1 s ++ toLE 2 id ++ toLE 4 seq ++ toLE 2 data.length ++ List.replicate 6 0 ++ data)
    let d := d.onStream s fun x => { x with seq := seq, sentSlot := some now }
    if txRoom o ≤ (d.reqPort o).tx.length then d.inc (streamIdx s) 0x14
    else (d.transmit o (d.framed o 2 c.partner ⟨(from'.map fun s => s.ip).getD [], 47121⟩ pdu)).inc (streamIdx s) 0x12
  else d

/-! ### Below Pelnak -/

/-- The port of a T1S port. -/
def originOfNet : NetPort → Origin
  | .n1 => .n1 | .n2 => .n2

/-- A reply of a T1S port below UDP, queued as its payload. -/
def Dev.lowReply (d : Dev) (n : NetPort) (mac : List Byte) (payload : List Byte) : Dev :=
  d.transmit (originOfNet n) ⟨false, .low, pad8 mac, payload, d.serveSlot (originOfNet n)⟩

/-- ARP_REQUEST (R334): a request for the address in use is answered with the port's MAC address. -/
def arpRequestStep (n : NetPort) (mac : List Byte) (ip : Nat) (d : Dev) : Dev :=
  let x := netIdx (originOfNet n)
  if d.portUp (originOfNet n) && d.bit x 0x10 1 && d.nat x 0x11 == ip then d.lowReply n mac (d.bytes x 2) else d

/-- NEIGHBOUR_SOLICITATION (R334): a solicitation of the port's IPv6 address is answered with its MAC address. -/
def neighbourSolicitationStep (n : NetPort) (mac target : List Byte) (d : Dev) : Dev :=
  if d.portUp (originOfNet n) && target == d.ipv6 (originOfNet n) then d.lowReply n mac (d.bytes (netIdx (originOfNet n)) 2) else d

/-- ECHO_REQUEST (R334): one to the port's own address is answered with its own data, at most once per millisecond. -/
def echoRequestStep (n : NetPort) (h : FrameHead) (data : List Byte) (d : Dev) : Dev :=
  let o := originOfNet n
  let now := d.serveSlot o
  let due := match (d.reqPort o).echoSlot with
    | none => true
    | some s => decide (s + 2000 ≤ now)
  if d.portUp o && d.addressed o h && due then
    (d.onReqPort o fun x => { x with echoSlot := some now }).lowReply n h.mac data
  else d

/-- IPV4_LINK_LOCAL_CLAIM (R334): with 0x11p0.03 at 0, the claim of a link-local address ends with the address, or with a
conflict. -/
def ipv4LinkLocalClaimStep (n : NetPort) (addr : Nat) (conflict : Bool) (d : Dev) : Dev :=
  let x := netIdx (originOfNet n)
  if d.portUp (originOfNet n) && d.num x 3 == 0 && addr / 65536 == 0xA9FE && addr < 2 ^ 32 then
    if conflict then ((d.put x 0x11 0).putBit x 0x10 1 false).putBit x 0x10 2 true
    else ((d.put x 0x11 addr).putBit x 0x10 1 true).putBit x 0x10 2 false
  else d

/-- BUS_OFF (R336). -/
def busOffStep (d : Dev) : Dev :=
  if d.portUp .n3 && d.num 0x1130 0x11 != 2 then (d.put 0x1130 0x11 2).inc 0x1130 0x18 else d

/-- BUS_OFF_RECOVERY (R336). -/
def busOffRecoveryStep (d : Dev) : Dev := if d.num 0x1130 0x11 = 2 then d.put 0x1130 0x11 0 else d

/-- N3_TAKEOVER (R338, R417): lane A is lost while lane B runs; lane B sets the latch, and lane A's queued requests and
response caches of N3 are gone. -/
def n3TakeoverStep (d : Dev) : Dev :=
  if d.laneLost .a && (d.lane .b).alive && !d.laneLost .b && d.bit 0x2400 3 3 && d.num 0x1130 0x10 == 0 && !d.net.latchB then
    let d := d.onReqPort .n3 fun x => { x.emptied (d.lane .a).slots (d.lane .b).slots with served := none }
    { d with net := { d.net.uncached [3] with latchB := true } }
  else d

/-- N3_TAKEOVER_COMPLETE (R338): lane B's own controller is on the bus, whatever lane A's was. -/
def n3TakeoverCompleteStep (d : Dev) : Dev :=
  if d.net.latchB && d.num 0x1130 0x10 == 0 && !d.laneLost .b then (d.put 0x1130 0x11 0).put 0x1130 0x10 1 else d

/-! ### Meanings -/

/-- REQUEST_ARRIVAL. -/
def execRequestArrival (o : Origin) (h : FrameHead) (canId : Nat) (pdu : List Byte) (s : State) :
    Host.Outcome State Fault Refusal := .next (s.awake (requestArrivalStep o h canId pdu))

/-- CHANGE_PUBLICATION. -/
def execChangePublication (s : State) : Host.Outcome State Fault Refusal := .next (s.awake changePublicationStep)

/-- READ. -/
def execRead (o : Origin) (s : State) : Host.Outcome State Fault Refusal := .next (s.awake (readStep o))

/-- WRITE. -/
def execWrite (o : Origin) (vppMv : Nat) (s : State) : Host.Outcome State Fault Refusal :=
  .next (s.awake (writeStep o vppMv))

/-- READ_SEGMENT. -/
def execReadSegment (o : Origin) (s : State) : Host.Outcome State Fault Refusal := .next (s.awake (readSegmentStep o))

/-- WRITE_SEGMENT. -/
def execWriteSegment (o : Origin) (vppMv : Nat) (s : State) : Host.Outcome State Fault Refusal :=
  .next (s.awake (writeSegmentStep o vppMv))

/-- STAGING_BUFFER_WRITE. -/
def execStagingBufferWrite (o : Origin) (s : State) : Host.Outcome State Fault Refusal :=
  .next (s.awake (stagingBufferWriteStep o))

/-- BANK_STAGING. -/
def execBankStaging (o : Origin) (s : State) : Host.Outcome State Fault Refusal := .next (s.awake (bankStagingStep o))

/-- BRIDGE_EXECUTION. -/
def execBridgeExecution (o : Origin) (s : State) : Host.Outcome State Fault Refusal :=
  .next (s.awake (bridgeExecutionStep o))

/-- OPEN. -/
def execOpenSession (o : Origin) (s : State) : Host.Outcome State Fault Refusal := .next (s.awake (openSessionStep o))

/-- AUTH. -/
def execAuth (o : Origin) (s : State) : Host.Outcome State Fault Refusal := .next (s.awake (authStep o))

/-- CLOSE. -/
def execClose (o : Origin) (s : State) : Host.Outcome State Fault Refusal := .next (s.awake (closeStep o))

/-- ATTACH. -/
def execAttach (o : Origin) (s : State) : Host.Outcome State Fault Refusal := .next (s.awake (attachStep o))

/-- DETACH. -/
def execDetach (o : Origin) (s : State) : Host.Outcome State Fault Refusal := .next (s.awake (detachStep o))

/-- OPEN_EXPIRY. -/
def execOpenExpiry (id : Nat) (s : State) : Host.Outcome State Fault Refusal := .next (s.awake (openExpiryStep id))

/-- SESSION_TIMEOUT. -/
def execSessionTimeout (id : Nat) (s : State) : Host.Outcome State Fault Refusal :=
  .next (s.awake (sessionTimeoutStep id))

/-- AUTH_LOCKOUT_EXPIRY. -/
def execAuthLockoutExpiry (o : Origin) (s : State) : Host.Outcome State Fault Refusal :=
  .next (s.awake (authLockoutExpiryStep o))

/-- STREAM_FRAME_ARRIVAL. -/
def execStreamFrameArrival (o : Origin) (h : FrameHead) (canId : Nat) (pdu : List Byte) (s : State) :
    Host.Outcome State Fault Refusal := .next (s.awake (streamFrameArrivalStep o h canId pdu))

/-- STREAM_TIMEOUT. -/
def execStreamTimeout (n : Nat) (s : State) : Host.Outcome State Fault Refusal := .next (s.awake (streamTimeoutStep n))

/-- STREAM_TRANSMIT. -/
def execStreamTransmit (n : Nat) (s : State) : Host.Outcome State Fault Refusal :=
  .next (s.awake (streamTransmitStep n))

/-- ARP_REQUEST. -/
def execArpRequest (n : NetPort) (mac : List Byte) (ip : Nat) (s : State) : Host.Outcome State Fault Refusal :=
  .next (s.awake (arpRequestStep n mac ip))

/-- NEIGHBOUR_SOLICITATION. -/
def execNeighbourSolicitation (n : NetPort) (mac target : List Byte) (s : State) : Host.Outcome State Fault Refusal :=
  .next (s.awake (neighbourSolicitationStep n mac target))

/-- ECHO_REQUEST. -/
def execEchoRequest (n : NetPort) (h : FrameHead) (data : List Byte) (s : State) : Host.Outcome State Fault Refusal :=
  .next (s.awake (echoRequestStep n h data))

/-- IPV4_LINK_LOCAL_CLAIM. -/
def execIpv4LinkLocalClaim (n : NetPort) (addr : Nat) (conflict : Bool) (s : State) : Host.Outcome State Fault Refusal :=
  .next (s.awake (ipv4LinkLocalClaimStep n addr conflict))

/-- BUS_OFF. -/
def execBusOff (s : State) : Host.Outcome State Fault Refusal := .next (s.awake busOffStep)

/-- BUS_OFF_RECOVERY. -/
def execBusOffRecovery (s : State) : Host.Outcome State Fault Refusal := .next (s.awake busOffRecoveryStep)

/-- N3_TAKEOVER. -/
def execN3Takeover (s : State) : Host.Outcome State Fault Refusal := .next (s.awake n3TakeoverStep)

/-- N3_TAKEOVER_COMPLETE. -/
def execN3TakeoverComplete (s : State) : Host.Outcome State Fault Refusal := .next (s.awake n3TakeoverCompleteStep)

end Sys2Proof.Machine
end

