-- ==== Sys2Proof/Machine/FuseOps.lean ====
section
/-! DEFINITION. The OTP controller: programming, locks, the periodic re-read and reads of ordinary words (R413 to R428). -/

namespace Sys2Proof.Machine

/-- The margin map and the spare rows in their objects (R415, R428). -/
def Dev.putMargins (d : Dev) : Dev :=
  let f := d.fuses
  (d.putVal 0x2401 0 (.bytes ((List.range 64).map fun i =>
    BitVec.ofNat 8 (bitsToNat ((List.range 8).map fun k => f.weak.contains (8 * i + k)))))).put 0x2400 8 f.spares

/-- Words read under R415: their bits in the margin map follow the reading, and so do the uncorrectable errors of closed
words (R413). -/
def Fuses.readWords (f : Fuses) (ws weak broken : List Nat) : Fuses :=
  { f with
    weak := (f.weak.filter fun w => !ws.contains w) ++ ws.filter fun w => weak.contains w || f.partialAt w
    broken := (f.broken.filter fun w => !ws.contains w) ++ ws.filter fun w => broken.contains w && f.closed.contains w }

/-- The end of a fuse operation in its objects (R420, R428). -/
def Dev.otpEnds (d : Dev) (res : Res) : Dev :=
  ({ d with otp := { d.otp with op := none } }.put 0x2405 1 (if res = Res.ok then 3 else 4)).put 0x2405 2 res.code

/-- A fuse operation begun on a word, in its objects (R420, R428). -/
def Dev.otpBegins (d : Dev) (op : OtpOp) (status : Int) (w : Nat) : Dev :=
  (({ d with otp := { d.otp with op := some op, opDue := false, left := !d.supplyWindow } }.put 0x2405 1 status).put 0x2405 2
    0).put 0x2405 3 w

/-- PROGRAM_WORD (R420): the operation starts at the publication. -/
def programWordStep (d : Dev) : Dev :=
  match d.pubOf 0x2402 0 with
  | none => d
  | some e =>
    let b := e.val.toBytes
    let w := rdLE b 0 2
    let d := d.dropPub 0x2402 0
    (d.otpBegins (.program w (BitVec.ofNat 32 (rdLE b 4 4))) 1 w).show

/-- The bits of a word after the pulses of a programming that did not finish (R420, R421). -/
def pulsedWord (cur value : Word) (pulsed : Nat) : Word := cur ||| (value &&& BitVec.ofNat 32 pulsed)

/-- A word programmed to a value, with its check bits and its marker, or left with the bits pulsed (R413, R419 to R421): the
array after it, and the result. An ordinary word that fails to verify is redirected to a free spare row. -/
def Fuses.program (f : Fuses) (down : Bool) (w : Nat) (value : Word) (r : OtpEnd) : Fuses × Res :=
  let cur := f.word w
  let left := (f.put w (pulsedWord cur value r.pulsed)).pulseChecks w value (BitVec.ofNat 32 r.checks)
  let done := ((f.put w (cur ||| value)).pulseChecks w value (BitVec.allOnes 32)).close w
  if down then (left, .otpProgramFailed)
  else if r.windowLeft then (left, .otpSupplyWindow)
  else if r.verified then (done, .ok)
  else if w < 16 then (left, .otpProgramFailed)
  else if f.spares < 32 ∧ r.spareOk = true then ({ left with rows := (w, cur ||| value) :: left.rows }, .ok)
  else (left, .otpProgramFailed)

/-- Whether a programming ended because no spare row took the word (R421). -/
def Fuses.exhausts (f : Fuses) (down : Bool) (w : Nat) (r : OtpEnd) : Bool :=
  !down && !r.windowLeft && !r.verified && decide (16 ≤ w) && !(decide (f.spares < 32) && r.spareOk)

/-- A programming carried out: the array, the flags, and on success the read-back, which counts what it corrects, and the
shadows' turn at the next boundary (R413, R420, R421). A window that a supervisor's measurement has left since the operation
began ends it as one found left before a pulse does (log entry 149). -/
def Dev.programFuse (d : Dev) (w : Nat) (value : Word) (r : OtpEnd) : Dev :=
  let r := { r with windowLeft := r.windowLeft || d.otp.left }
  let down := d.devFaulted .commonOtp
  let q := d.fuses.program down w value r
  let ex := d.fuses.exhausts down w r
  let f := if q.2 = .ok then q.1.readWords [w] (if r.weak then [w] else []) (if r.broken then [w] else []) else q.1
  let d := if q.2 = .ok ∧ r.corrected = true ∧ f.closed.contains w = true then d.inc 0x2400 9 else d
  let due := if q.2 = .ok then d.otp.due ++ [(w, d.slotNow + 1)] else d.otp.due
  let d := { d with fuses := f, otp := { d.otp with due := due } }.otpEnds q.2
  (if ex then d.putBit 0x2400 5 1 true else d).putMargins

/-- OTP_PROGRAM_COMPLETE (R420, R421, R425). -/
def otpProgramCompleteStep (r : OtpEnd) (d : Dev) : Dev :=
  match d.otp.op with
  | some (.program w v) => if d.powered = false ∨ d.frozen = true then d else d.programFuse w v r
  | _ => d

/-- LOCK_REGION (R423): the operation starts at the publication. -/
def lockRegionStep (d : Dev) : Dev :=
  match d.pubOf 0x2403 0 with
  | none => d
  | some e =>
    let r := e.val.toInt.toNat
    let d := d.dropPub 0x2403 0
    (d.otpBegins (.lock r) 2 (lockRegion r).2.2.2).show

/-- The words of a lock region with its integrity word (R422). -/
def regionWords (r : Nat) : List Nat :=
  let q := lockRegion r
  (List.range q.2.1).map (fun i => q.1 + i) ++ [q.2.2.1]

/-- The test of R422 on a fresh reading of the array (R423). -/
def Fuses.lockTest (f : Fuses) (r : Nat) (weak : List Nat) : Bool :=
  let q := lockRegion r
  let i := q.2.2.1
  let data := (List.range q.2.1).flatMap fun k => toLE 4 (f.word (q.1 + k)).toNat
  (if i < 16 then f.closed.contains i else f.word i != 0) &&
  ((regionWords r).all fun w => !weak.contains w && !f.broken.contains w && !f.partialAt w) &&
  crc32 data == (f.word i).toNat

/-- OTP_LOCK_COMPLETE (R413, R423, R424, R425): the region is re-read, errors corrected in its closed words being counted, and
tested; then the lock word is programmed with 0x4C4F434B, and both shadows take it at the next boundary. -/
def otpLockCompleteStep (x : WordsRead) (r : OtpEnd) (d : Dev) : Dev :=
  match d.otp.op with
  | some (.lock n) =>
    if d.powered = false ∨ d.frozen = true then d
    else
      let d := { d with fuses := d.fuses.readWords (regionWords n) x.weak x.broken }.incBy 0x2400 9 x.corrected
      if d.devFaulted .commonOtp then (d.otpEnds .otpProgramFailed).putMargins
      else if d.fuses.lockTest n x.weak then d.programFuse (lockRegion n).2.2.2 0x4C4F434B#32 r
      else (d.otpEnds .otpLockRefused).putMargins
  | _ => d

/-- A shadow that takes a word as the array reads it (R420). -/
def Shadow.take (s : Shadow) (f : Fuses) (w : Nat) : Shadow :=
  { words := wordSet s.words w (f.word w)
    weak := (s.weak.filter fun x => x ≠ w) ++ if f.weak.contains w || f.broken.contains w then [w] else []
    closed := (s.closed.filter fun x => x ≠ w) ++ if f.closed.contains w then [w] else [] }

/-- The lock state and the zero keys in their objects, by the shadow of the lane that clocks the common domain (R424,
R428). -/
def Dev.putLocks (d : Dev) : Dev :=
  let l := d.clkLane
  let b := fun (w : Nat) => d.lockedBy l w
  let d := d.put 0x2400 4 (bitsToNat [b 2, b 3, b 4, b 511] : Nat)
  (d.putBit 0x1200 4 1 (!b 3)).putBit 0x1200 4 2 (!b 4)

/-- The words that both shadows take at the boundary that opens the present slot (R420, R423, R424). -/
def Dev.takeShadows (d : Dev) : Dev :=
  let s := d.slotNow
  let now := d.otp.due.filter fun e => e.2 ≤ s
  if now = [] then d
  else
    let step := fun (x : Shadow) => now.foldl (fun x e => x.take d.fuses e.1) x
    { d with otp := { d.otp with
      due := d.otp.due.filter fun e => s < e.2
      shadows := ⟨step d.otp.shadows.a, step d.otp.shadows.b⟩ } }.putLocks

/-- Whether a word of a re-read drifts: its reading differs from a lane's shadow, or it has become MARGINAL (R426). -/
def Dev.drifts (d : Dev) (before : List Nat) (w : Nat) : Bool :=
  (d.lanesPresent.any fun l => d.shadowWord l w != d.fuses.word w) ||
  (d.fuses.weak.contains w && !before.contains w)

/-- The array after a reading of all its words; a partial word reads MARGINAL (R413, R415). -/
def Fuses.readAll (f : Fuses) (x : OtpReading) : Fuses :=
  let f := x.changed.foldl (fun f e => f.put e.1 e.2) f
  { f with weak := (List.range 512).filter fun w => x.weak.contains w || f.partialAt w, broken := x.broken }

/-- OTP_PERIODIC_REREAD (R426): in RUN and DEGRADED, every 10 s, all words are read and compared with the shadows; one that
cannot be completed raises FLT_COMMON_OTP. -/
def otpPeriodicRereadStep (reading : OtpReading) (complete : Bool) (d : Dev) : Dev :=
  if (d.mode = 4 ∨ d.mode = 5) ∧ d.powered = true ∧ d.frozen = false ∧ d.otp.reread + 20000000 ≤ d.slotNow then
    let d := { d with otp := { d.otp with reread := d.slotNow } }
    if complete then
      let before := d.fuses.weak
      let d := { d with fuses := d.fuses.readAll reading }
      let d := ((List.range 512).filter fun w => d.drifts before w).foldl (fun d w =>
        ((d.inc 0x2400 6).put 0x2400 7 w).putBit 0x2400 5 0 true) d
      (d.incBy 0x2400 9 reading.corrected).putMargins
    else d.deviceFault .commonOtp
  else d

/-- ORDINARY_WORDS_READ (R427): the words of the oldest pending read are read, and at this boundary its response is
released. -/
def ordinaryWordsReadStep (weak : List Nat) (d : Dev) : Dev :=
  match d.otp.waits with
  | [] => d
  | (y, off, n) :: rest =>
    if d.powered = false ∨ d.frozen = true then d
    else
      let first := 16 + off / 4
      let ws := (List.range ((off + n + 3) / 4 - off / 4)).map fun i => first + i
      let all := ws.flatMap fun w => toLE 4 (d.fuses.word w).toNat
      let d := { d with otp := { d.otp with waits := rest }, fuses := d.fuses.readWords ws weak [] }
      (d.respond y .ok (toLE 4 1984 ++ slice all (off % 4) n)).putMargins

/-! ### Meanings -/

/-- PROGRAM_WORD. -/
def execProgramWord (s : State) : Host.Outcome State Fault Refusal := .next (s.awake programWordStep)

/-- OTP_PROGRAM_COMPLETE. -/
def execOtpProgramComplete (r : OtpEnd) (s : State) : Host.Outcome State Fault Refusal :=
  .next (s.awake (otpProgramCompleteStep r))

/-- LOCK_REGION. -/
def execLockRegion (s : State) : Host.Outcome State Fault Refusal := .next (s.awake lockRegionStep)

/-- OTP_LOCK_COMPLETE. -/
def execOtpLockComplete (x : WordsRead) (r : OtpEnd) (s : State) : Host.Outcome State Fault Refusal :=
  .next (s.awake (otpLockCompleteStep x r))

/-- OTP_PERIODIC_REREAD. -/
def execOtpPeriodicReread (reading : OtpReading) (complete : Bool) (s : State) : Host.Outcome State Fault Refusal :=
  .next (s.awake (otpPeriodicRereadStep reading complete))

/-- ORDINARY_WORDS_READ. -/
def execOrdinaryWordsRead (weak : List Nat) (s : State) : Host.Outcome State Fault Refusal :=
  .next (s.awake (ordinaryWordsReadStep weak))

end Sys2Proof.Machine
end

