-- ==== Sys2Proof/Machine/ChainPort.lean ====
section
/-! DEFINITION. Pins that several functions share, and the links that carry Pelnak in units: the chain port (R397 to R411)
and what the TAP shares with it (R448 to R450, R463). -/

namespace Sys2Proof.Machine

/-! ### Shared pins -/

/-- A pin of the package under boundary scan: high-impedance in HIGHZ, driven by its cells in EXTEST and CLAMP (R462, log entry
153). -/
def Dev.scanned (d : Dev) (pin : Nat) (x : Option Bool) : Option Bool :=
  if d.tap.bscan = false then x else if d.tap.ir = 4 then none else Config.cellDrive pin d.tap.cells

/-- The lane of a GPIO pin (R22). -/
def pinLane (k : Nat) : LaneId := if k < 4 then .a else .b

/-- Whether the fault function of a pin is active: an owning port has an active fault or a safe state applies, or the
chopper's fault is active. -/
def Dev.pinFault (d : Dev) (k : Nat) : Bool :=
  ((pinLane k).ports.any fun p => d.claimsPin k 1 (0x10 + p.num) &&
    (!(d.port p).faults.isEmpty || d.safeOut p != 0)) ||
  (d.claimsPin k 1 0x32 && d.chopFault (pinLane k))

/-- Whether a pin has the fault function of a port. -/
def Dev.pinOfPort (d : Dev) (k : Nat) : Bool := (pinLane k).ports.any fun p => d.claimsPin k 1 (0x10 + p.num)

/-- The active function of the lowest level of a pin: 0 none, 1 fault, 2 time, 3 general (R448, R449). -/
def Dev.pinSource (d : Dev) (k : Nat) : Nat :=
  let l := pinLane k
  if !d.powered || d.laneLost l || !(d.lane l).alive then 0
  else if d.pinFault k then 1
  else if d.claimsPin k 2 0x30 && d.time.pulses.any fun x => x.out == 0x10 + k then 2
  else if d.claimsPin k 3 0x31 && d.bit 0x2010 1 k then 3
  else 0

/-- The level that the function of a GPIO pin drives; none while it is high-impedance (R448, R449). -/
def Dev.gpioLevel (d : Dev) (k : Nat) : Option Bool :=
  if d.laneLost (pinLane k) || !(d.lane (pinLane k)).alive then none
  else if d.frozen then (if bitOf d.frz.gpioDrive k then some (bitOf d.frz.gpio k) else none)
  else match d.pinSource k with
    | 1 => some false
    | 2 => some true
    | 3 => some (d.bit 0x2010 2 k)
    | _ => none

/-- The level that a GPIO pin is driven to (R448, R449, R462). -/
def Dev.pinDrive (d : Dev) (k : Nat) : Option Bool := d.scanned (if k < 4 then 79 + k else 163 + k) (d.gpioLevel k)

/-- The level that a SYNC output's function drives; none until its polarity is published or while its lane is lost, and its idle
level in a freeze (R328, R433, R460). -/
def Dev.syncLevel (d : Dev) (k : Nat) : Option Bool :=
  let l : LaneId := if k < 2 then .a else .b
  if !d.time.polarity.contains k || d.laneLost l || !(d.lane l).alive then none
  else
    let idle := d.num 0x2141 (k + 1) == 1
    let on := !d.frozen && d.time.pulses.any fun x => x.out == k
    some (idle != on)

/-- The level that a SYNC output drives (R328, R462). -/
def Dev.syncDrive (d : Dev) (k : Nat) : Option Bool := d.scanned (if k < 2 then 77 + k else 163 + k) (d.syncLevel k)

/-- What drives the open-drain pin FAULT_A_N or FAULT_B_N: low, or nothing (R287, R462); the clamp of an unpowered lane holds it
low beside that (R460). -/
def Dev.faultDrive (d : Dev) (l : LaneId) : Option Bool :=
  d.scanned (match l with
    | .a => 37
    | .b => 125) (if d.faultPinLow l then some false else none)

/-- The GPIO sources in their object (R450). -/
def Dev.putSources (d : Dev) : Dev :=
  d.putVal 0x2010 4 (.arr ((List.range 8).map fun k => ((d.pinSource k : Nat) : Int)))

/-- The FAULT bit of outbound units: FAULT_A_N or FAULT_B_N low (R287, R404). -/
def Dev.anyFaultPin (d : Dev) : Bool := d.faultPinLow .a || d.faultPinLow .b

/-- The level of RSTB: the copy of SCK, which holds in a freeze; none while it is high-impedance (R399, R433). -/
def Dev.rstbDrive (d : Dev) : Option Bool := d.scanned 87 (if d.powered && d.chain.rstb then some d.chain.sck else none)

/-- The level of SDO: the bit that the section launched last, which holds between frames and in a freeze; none while the
chain-port controller has no power (R397, R411, R433, log entry 146). -/
def Dev.sdoDrive (d : Dev) : Option Bool := d.scanned 86 (if d.powered then some d.chain.sdo else none)

/-! ### Units -/

/-- A port's unit link. -/
def Dev.link (d : Dev) (o : Origin) : UnitLink :=
  match o with
  | .tap => d.tap.link
  | _ => d.chain.link

/-- A port's unit link replaced. -/
def Dev.setLink (d : Dev) (o : Origin) (k : UnitLink) : Dev :=
  match o with
  | .tap => { d with tap := { d.tap with link := k } }
  | _ => { d with chain := { d.chain with link := k } }

/-- The chain port's flags in their object (R411). -/
def Dev.putChainFlags (d : Dev) : Dev :=
  let k := d.chain.link
  let pending := !d.net.ports.chain.tx.isEmpty
  d.put 0x2301 1 ((b2n k.mark + 2 * b2n k.asm.isSome + 4 * b2n pending : Nat) : Int)

/-- The response that a unit can carry on with: the oldest queued one, from the slot after it was queued (R408). -/
def Dev.outResponse (d : Dev) (o : Origin) : Option (List Byte) :=
  match (d.reqPort o).tx with
  | f :: _ => if f.slot < d.serveSlot o then some f.pdu else none
  | [] => none

/-- A Pelnak unit of cap payload bytes: control byte and payload as a number of 8 (cap + 1) bits, the control byte first
(R405). -/
def unitOf (cap kind count : Nat) (mark fault pending : Bool) (bytes : List Byte) : Nat :=
  let c := kind * 64 + count * 16 + 8 * b2n mark + 4 * b2n fault + 2 * b2n pending
  beNat (BitVec.ofNat 8 c :: (bytes ++ List.replicate (cap - bytes.length) 0))

/-- The next outbound unit of a Pelnak link with cap payload bytes, loaded into its section (R401, R405, R408). -/
def Dev.loadUnit (d : Dev) (o : Origin) (cap : Nat) : Dev :=
  let k := d.link o
  match d.outResponse o with
  | none => d.setLink o { k with loaded := 0, out := unitOf cap 0 0 k.mark d.anyFaultPin false [] }
  | some pdu =>
    let b := (pdu.drop k.shown).take cap
    let more := decide (k.shown + b.length < pdu.length)
    let kind := if k.shown = 0 then 2 else 1
    d.setLink o { k with loaded := b.length, out := unitOf cap kind b.length k.mark d.anyFaultPin more b }

/-- The outbound unit consumed by a good exchange: the response moves on, and is gone once it is shown in full (R408). -/
def Dev.consumeUnit (d : Dev) (o : Origin) : Dev :=
  let k := d.link o
  let n := k.shown + k.loaded
  match (d.reqPort o).tx with
  | f :: rest =>
    if k.loaded ≠ 0 ∧ f.pdu.length ≤ n then
      (d.onReqPort o fun x => { x with tx := rest }).setLink o { k with shown := 0, loaded := 0 }
    else d.setLink o { k with shown := n, loaded := 0 }
  | [] => d.setLink o { k with shown := 0, loaded := 0 }

/-- The one partner of a unit link (R407, R463). -/
def unitPartner : List Byte := List.replicate 8 0

/-- A count of the chain port; the TAP has none (R411, R463). -/
def Dev.countUnit (d : Dev) (o : Origin) (sub : Nat) : Dev :=
  match o with
  | .tap => d
  | _ => d.inc 0x2301 sub

/-- The assembly with the bytes received so far: still open, dropped for a payload above 1024 bytes, or a complete PDU that
goes the way of every request (R406, R407). -/
def Dev.assembled (d : Dev) (o : Origin) (b : List Byte) : Dev :=
  let shut := fun (d : Dev) => d.setLink o { d.link o with asm := none }
  if 10 ≤ b.length ∧ 1024 < leNat (slice b 8 2) then (shut d).countUnit o 7
  else if 16 ≤ b.length ∧ pduLen b ≤ b.length then
    (if d.portUp o then (shut d).requestArrives o unitPartner ⟨[], 0⟩ (b.take (pduLen b)) else shut d)
  else d.setLink o { d.link o with asm := some b }

/-- Whether a unit breaks R405: a COUNT that its kind does not have, or reserved bits. -/
def unitBad (u : List Byte) : Bool :=
  let c := leNat (u.take 1)
  let kind := c / 64
  let count := c / 16 % 4
  c % 16 != 0 || (if kind = 1 ∨ kind = 2 then count == 0 || decide (u.length - 1 < count) else count != 0)

/-- A unit that breaks R405 is discarded and counted, and drops the assembly (R406). -/
def Dev.badUnit (d : Dev) (o : Origin) : Dev := (d.setLink o { d.link o with asm := none }).countUnit o 6

/-- An inbound unit (R406): start, data, abort or idle. -/
def Dev.takeUnit (d : Dev) (o : Origin) (u : List Byte) : Dev :=
  let kind := leNat (u.take 1) / 64
  let bytes := (u.drop 1).take (leNat (u.take 1) / 16 % 4)
  if unitBad u then d.badUnit o
  else if kind = 2 then
    (if (d.link o).asm.isSome then d.countUnit o 7 else d).assembled o bytes
  else if kind = 1 then
    match (d.link o).asm with
    | some a => d.assembled o (a ++ bytes)
    | none => d.countUnit o 6
  else if kind = 3 then d.setLink o { d.link o with asm := none }
  else d

/-! ### Frames of the chain -/

/-- Whether the chain-port controller runs (R274, R433). -/
def Dev.chainRuns (d : Dev) : Bool := d.powered && !d.frozen

/-- The unit of register mode: CHAIN_FRAMING, FAULT and the chain output (R404). -/
def Dev.registerUnit (d : Dev) (u : Nat) : Nat :=
  b2n d.chain.link.mark * 2 ^ (u - 1) + b2n d.anyFaultPin * 2 ^ (u - 2) + d.nat 0x2310 2 % 2 ^ (u - 2)

/-- The n bits of a number, most significant first (R397). -/
def bitsBE (n v : Nat) : List Bool := ((List.range n).map fun k => bitOf v k).reverse

/-- The number that bits spell, most significant first (R397). -/
def ofBitsBE (b : List Bool) : Nat := b.foldl (fun n x => 2 * n + b2n x) 0

/-- The section with the outbound unit in it, whose first bit stands on SDO; SDO stays low while the chain is disabled (R397, R403,
R411). -/
def Chain.filled (c : Chain) : Chain :=
  let w := if c.enable then bitsBE c.unitLen c.link.out else []
  { c with window := w, sdo := w.headD false, sdoOut := [], rstbOut := [] }

/-- CHAIN_CSN_FALL (R402 to R404, R408, R411): the settings are taken and the outbound unit is loaded into the section. -/
def chainCsnFallStep (sckHigh : Bool) (d : Dev) : Dev :=
  if d.chainRuns then
    let d := d.chainSettings
    let d := { d with chain := { d.chain with low := true, sckHigh := sckHigh, sck := sckHigh } }
    let u := d.chain.unitLen
    let d :=
      if d.chain.enable = false then d.setLink .chain { d.chain.link with loaded := 0, out := 0 }
      else if d.chain.pelnak then d.loadUnit .chain (u / 8 - 1)
      else d.setLink .chain { d.chain.link with loaded := 0, out := d.registerUnit u }
    { d with chain := d.chain.filled }
  else d

/-- One edge of SCK with a level of SDI: in both-edge mode every edge shifts and launches the next bit on SDO; in rising-edge
mode rising edges shift and falling edges launch. A disabled chain does neither (R397, R398, R411). -/
def Chain.edge (c : Chain) (sdi : Bool) : Chain :=
  let up := !c.sck
  let w := if c.enable && (up || !c.rising) then c.window.drop 1 ++ [sdi] else c.window
  { c with sck := up, window := w, sdo := if c.enable && (!up || !c.rising) then w.headD false else c.sdo }

/-- The edges of SCK in a frame, with the levels of SDI, and the level of SDO after each (R397, R398). -/
def Chain.shift : Chain → List Bool → Chain × List Bool
  | c, [] => (c, [])
  | c, b :: r =>
    let e := c.edge b
    let q := e.shift r
    (q.1, e.sdo :: q.2)

/-- The levels that SCK takes at n edges, one after the other. -/
def sckLevels (from' : Bool) : Nat → List Bool
  | 0 => []
  | n + 1 => (!from') :: sckLevels (!from') n

/-- A frame's edges passed through the section: SDO and RSTB follow them (R397 to R399, R403). -/
def Chain.shifted (c : Chain) (sdi : List Bool) : Chain :=
  let q := c.shift sdi
  { q.1 with sdoOut := q.2, rstbOut := if c.rstb then sckLevels c.sck sdi.length else [] }

/-- The cause of a frame's failure: SCK high at an edge of CSN, too few edges, too many; none for a good frame (R400). -/
def frameCause (sckHigh : Bool) (f edges : Nat) : Option Nat :=
  if sckHigh then some 3 else if edges < 2 * f then some 1 else if 2 * f < edges then some 2 else none

/-- CHAIN_CSN_RISE (R397 to R404, R406, R408): a frame of SCK edges, `bits` being the level of SDI at each, has passed through
the section and is judged; a good one latches the U bits that the section holds and consumes the outbound unit, a failed one
sets CHAIN_FRAMING and drops the assembly. A unit of kind 1, 2 or 3 waits for its row. -/
def chainCsnRiseStep (sckHigh : Bool) (edges : Nat) (bits : List Bool) (d : Dev) : Dev :=
  if d.chainRuns && d.chain.low then
    let c := d.chain.shifted bits
    let d := { d with chain := { c with low := false, sck := sckHigh } }
    if c.enable = false ∨ edges = 0 then d
    else match frameCause (c.sckHigh || sckHigh) c.frameLen edges with
      | some cause =>
        let d := d.setLink .chain { d.chain.link with mark := true, asm := none }
        (((d.inc 0x2301 3).put 0x2301 4 cause).put 0x2301 5 (min edges 65535 : Nat)).putChainFlags
      | none =>
        let d := d.setLink .chain { d.chain.link with mark := false }
        let d := d.inc 0x2301 2
        let v := ofBitsBE c.window
        if c.pelnak then
          let u := (toLE (c.unitLen / 8) v).reverse
          let d := d.consumeUnit .chain
          (if unitBad u then d.badUnit .chain
          else if leNat (u.take 1) / 64 = 0 then d
          else d.setLink .chain { d.chain.link with inbound := some u }).putChainFlags
        else { d with chain := { d.chain with shadow := v, shadowNew := true } }.putChainFlags
  else d

/-- The latched unit of a kind handed to the assembly. -/
def Dev.chainUnit (d : Dev) (kind : Nat) : Dev :=
  match d.chain.link.inbound with
  | some u =>
    if d.chainRuns && leNat (u.take 1) / 64 == kind then
      ((d.setLink .chain { d.chain.link with inbound := none }).takeUnit .chain u).putChainFlags
    else d
  | none => d

/-- CHAIN_START_UNIT (R405, R406). -/
def chainStartUnitStep (d : Dev) : Dev := d.chainUnit 2

/-- CHAIN_DATA_UNIT (R405 to R407). -/
def chainDataUnitStep (d : Dev) : Dev := d.chainUnit 1

/-- CHAIN_ABORT_UNIT (R406). -/
def chainAbortUnitStep (d : Dev) : Dev := d.chainUnit 3

/-- The shadow of register mode published at a boundary (R404). -/
def Dev.chainBoundary (d : Dev) : Dev :=
  if d.chain.shadowNew then
    { d with chain := { d.chain with shadowNew := false } }.put 0x2310 1 d.chain.shadow
  else d

/-! ### Meanings -/

/-- CHAIN_CSN_FALL. -/
def execChainCsnFall (sckHigh : Bool) (s : State) : Host.Outcome State Fault Refusal :=
  .next (s.awake (chainCsnFallStep sckHigh))

/-- CHAIN_CSN_RISE. -/
def execChainCsnRise (sckHigh : Bool) (edges : Nat) (bits : List Bool) (s : State) : Host.Outcome State Fault Refusal :=
  .next (s.awake (chainCsnRiseStep sckHigh edges bits))

/-- CHAIN_START_UNIT. -/
def execChainStartUnit (s : State) : Host.Outcome State Fault Refusal := .next (s.awake chainStartUnitStep)

/-- CHAIN_DATA_UNIT. -/
def execChainDataUnit (s : State) : Host.Outcome State Fault Refusal := .next (s.awake chainDataUnitStep)

/-- CHAIN_ABORT_UNIT. -/
def execChainAbortUnit (s : State) : Host.Outcome State Fault Refusal := .next (s.awake chainAbortUnitStep)

end Sys2Proof.Machine
end

