-- ==== Sys2Proof/Machine/Engine.lean ====
section
/-! DEFINITION. The operations of a Marjo engine (R31 to R40): each issues at a tick of the lane's present slot
and its result can be used from the first bundle its latency allows. -/

namespace Sys2Proof.Machine

/-- Bring a register into its place. -/
def Engine.setReg (e : Engine) (r : Nat) (v : Word) : Engine := { e with regs := wordSet e.regs r v }

/-- The engine with every result that tick T can use in its register (R31, R32). -/
def Engine.settle (e : Engine) (T : Nat) : Engine :=
  (e.backs.filter fun w => w.due ≤ T).foldl (fun e w => e.setReg w.reg w.val)
    { e with backs := e.backs.filter fun w => T < w.due }

/-- An operand as a bundle at tick T reads it: a register whose producer's latency has not elapsed gives its
previous value (R32). -/
def Engine.src (e : Engine) (T : Nat) : Src → Word
  | .imm v => v
  | .reg n => wordGet (e.settle T).regs n

/-- A result entered behind those that are due no later (R31, R32). -/
def insertBack (w : WriteBack) : List WriteBack → List WriteBack
  | [] => [w]
  | x :: r => if w.due < x.due then w :: x :: r else x :: insertBack w r

/-- A result that can be used from tick `due` on. -/
def Engine.back (e : Engine) (due reg : Nat) (v : Word) : Engine := { e with backs := insertBack ⟨due, reg, v⟩ e.backs }

/-- A 32-bit result of an exact number: saturated or wrapped, as the opcode says (R34). -/
def fit32 (sat : Bool) (v : Int) : Word := BitVec.ofInt 32 (if sat then satS 32 v else v)

/-- The result of an ALU operation on three operands (R31, R34). A shift by 32 or more is not described: its
result is a free value. -/
def aluResult (op : AluOp) (a b c : Word) (free : Word) : Word :=
  match op with
  | .add sat => fit32 sat (a.toInt + b.toInt)
  | .sub sat => fit32 sat (a.toInt - b.toInt)
  | .and => a &&& b
  | .or => a ||| b
  | .xor => a ^^^ b
  | .not => ~~~a
  | .cmpEq => if a = b then 1 else 0
  | .cmpLt => if a.toInt < b.toInt then 1 else 0
  | .cmpLtU => if a.toNat < b.toNat then 1 else 0
  | .select => if a ≠ 0 then b else c
  | .shl => if b.toNat < 32 then a <<< b.toNat else free
  | .shr => if b.toNat < 32 then a >>> b.toNat else free
  | .sar => if b.toNat < 32 then a.sshiftRight b.toNat else free
  | .saturate bits => BitVec.ofInt 32 (satS bits a.toInt)
  | .move => a

/-- The result of a multiply operation; c is the accumulator (R31, R34). -/
def mulResult (op : MulOp) (a b c : Word) : Word :=
  match op with
  | .mul sat => fit32 sat (a.toInt * b.toInt)
  | .mac sat => fit32 sat (c.toInt + a.toInt * b.toInt)
  | .mulQ frac sat => fit32 sat (narrow (a.toInt * b.toInt) (2 ^ frac))

/-- The quotient of two words (R34): by zero, the saturated quotient of the dividend's sign. -/
def divResult (sat : Bool) (a b : Word) : Word :=
  if b = 0 then (if a.toInt < 0 then BitVec.ofInt 32 (-(2 ^ 31)) else BitVec.ofInt 32 (2 ^ 31 - 1))
  else fit32 sat (narrow (a.toInt * b.toInt.sign) b.toInt.natAbs)

/-- The square root of a word (R34): of a negative operand, zero. -/
def sqrtResult (a : Word) : Word := BitVec.ofInt 32 (sqrtI a.toInt)

/-- An engine's state. -/
def Dev.engine (d : Dev) (e : EngineId) : Engine := (d.port e.port).eng.get e.role

/-- The block with an engine's state replaced. -/
def Dev.setEngine (d : Dev) (e : EngineId) (x : Engine) : Dev :=
  d.onPort e.port fun p => { p with eng := p.eng.set e.role x }

/-- The tick number of tick t of the present slot of an engine's lane. -/
def Dev.engTick (d : Dev) (e : EngineId) (t : Nat) : Nat := (d.lane e.port.lane).tick t

/-- The issue positions that an operation can take: 0, 1 and 2, or 0 and 1, or 2 alone (R31). -/
inductive Issue where
  | any | low | high
deriving DecidableEq, Repr

/-- The bundle of an engine at a tick. -/
def Engine.bundleAt (e : Engine) (T : Nat) : Bundle := if e.bundle.tick = T + 1 then e.bundle else ⟨T + 1, 0, 0, 0⟩

/-- Whether the bundle of tick T still has a position for an operation (R31, R36, R37). -/
def Engine.room (e : Engine) (T : Nat) (c : Issue) : Bool :=
  let b := e.bundleAt T
  b.any + b.low + b.high < 3 && match c with
    | .any => true
    | .low => b.low < 2
    | .high => b.high == 0

/-- The engine with an operation entered in the bundle of tick T. -/
def Engine.used (e : Engine) (T : Nat) (c : Issue) : Engine :=
  let b := e.bundleAt T
  { e with bundle := match c with
    | .any => { b with any := b.any + 1 }
    | .low => { b with low := b.low + 1 }
    | .high => { b with high := b.high + 1 } }

/-- Whether a placed instance covers a tick of a slot index on an engine (R56). -/
def Dev.covered (d : Dev) (e : EngineId) (h t : Nat) : Bool :=
  match d.image with
  | none => false
  | some im => im.insts.any fun i => i.engine == e.num && (List.range i.count).any fun n =>
      let T := h * 200 + t
      (i.slot + n * i.period) * 200 + i.tick ≤ T && T ≤ (i.certLastSlot + n * i.period) * 200 + i.certLastTick

/-- Whether an operation can issue at tick t: the lane is clocked, an active image has a placed instance at that tick, the
tick is not the second of a branch, and its bundle has a position left (R11, R31, R33, R41, R82). -/
def Dev.issues (d : Dev) (e : EngineId) (t : Nat) (c : Issue) : Bool :=
  d.clocked e.port.lane && d.monArmed && t < 200 && d.covered e (d.lane e.port.lane).hyper t &&
  ((d.engine e).branchTick ≠ d.engTick e t) && (d.engine e).room (d.engTick e t) c

/-- The block with an operation of an engine issued at tick t (R31). -/
def Dev.issued (d : Dev) (e : EngineId) (t : Nat) (c : Issue) : Dev :=
  d.setEngine e ((d.engine e).used (d.engTick e t) c)

/-- An operation that writes one register `lat` ticks after its issue. -/
def Dev.issueReg (d : Dev) (e : EngineId) (t lat dst : Nat) (v : Word) : Dev :=
  d.setEngine e (((d.engine e).settle (d.engTick e t)).back (d.engTick e t + lat) dst v)

/-- ALU (R31, R32): one tick. -/
def aluStep (e : EngineId) (t : Nat) (op : AluOp) (dst : Nat) (a b c : Src) (d : Dev) : Dev :=
  if d.issues e t .any then
    let T := d.engTick e t
    let g := d.engine e
    let d' := (d.issued e t .any).issueReg e t 1 dst
      (aluResult op (g.src T a) (g.src T b) (g.src T c) (BitVec.ofInt 32 (Config.freeValue d.freeIx)))
    { d' with freeIx := d.freeIx + 1 }
  else d

/-- MULTIPLY (R31): three ticks; dst is the accumulator's new value, c its old one. -/
def multiplyStep (e : EngineId) (t : Nat) (op : MulOp) (dst : Nat) (a b c : Src) (d : Dev) : Dev :=
  if d.issues e t .low then
    let T := d.engTick e t
    let g := d.engine e
    (d.issued e t .low).issueReg e t 3 dst (mulResult op (g.src T a) (g.src T b) (g.src T c))
  else d

/-- The S16 sine of a U14 angle in the unit the part uses for 1.0, which the manual does not state. -/
def sinS16 (ang : Int) : Word :=
  BitVec.ofInt 32 (satS 16 (narrow (sin40 (ang * 65536) * Config.sineUnit) (2 ^ 40)))

/-- SINE_COSINE (R31): eight ticks, sine and cosine of the U14 angle as S16 values. -/
def sineCosineStep (e : EngineId) (t : Nat) (dstSin dstCos : Nat) (angle : Src) (d : Dev) : Dev :=
  if d.issues e t .high then
    let T := d.engTick e t
    let a : Int := ((d.engine e).src T angle).toNat % 16384
    let d := (d.issued e t .high).issueReg e t 8 dstSin (sinS16 a)
    d.issueReg e t 8 dstCos (sinS16 (a + 4096))
  else d

/-- DIVIDE_SQUARE_ROOT (R31, R32, R34): fourteen ticks; not executed before the unit's repeat interval. -/
def divideSquareRootStep (e : EngineId) (t : Nat) (sqrt sat : Bool) (dst : Nat) (a b : Src) (d : Dev) : Dev :=
  if d.issues e t .high && (d.engine e).divFree ≤ d.engTick e t then
    let T := d.engTick e t
    let g := (d.engine e).used T .high
    let v := if sqrt then sqrtResult (g.src T a) else divResult sat (g.src T a) (g.src T b)
    (d.setEngine e { g with divFree := T + 14 }).issueReg e t 14 dst v
  else d

/-- The effect of a memory access's SECDED check (R35): a corrected error is counted in 0x2646, a double-bit
error raises FLT_ENGINE_ECC and commands the unit, source 14; the timing stays. -/
def Dev.eccCheck (d : Dev) (e : EngineId) : Ecc → Dev
  | .none => d
  | .single => d.inc 0x2646 (e.num + 1)
  | .double _ _ => d.trip e.port .engineEcc 14

/-- The word that an access returns: the stored word, or under a double-bit error the word as read (R35); k selects the
second word of a 64-bit access. -/
def eccWord (x : Ecc) (k : Nat) (stored : Word) : Word :=
  match x with
  | .double lo hi => if k = 0 then lo else hi
  | _ => stored

/-- The scratchpad with every store of an earlier tick in place (R36). -/
def Engine.padAt (e : Engine) (T : Nat) : Engine :=
  { e with
    pad := (e.padStores.filter fun s => s.tick < T).foldl (fun m s => wordSet m s.addr s.val) e.pad
    zeros := (e.padStores.filter fun s => s.tick < T).foldl (fun z s => markZero z s.addr s.val) e.zeros
    padStores := e.padStores.filter fun s => T ≤ s.tick }

/-- The scratchpad with every store in place, as it stands once the clocks have stopped behind them (R36, R436). -/
def Engine.padDone (e : Engine) : Engine := e.padAt (e.padStores.foldl (fun T s => max T (s.tick + 1)) 0)

/-- One scratchpad word loaded or stored at tick T. -/
def Engine.padAccess (e : Engine) (T : Nat) (op : MemOp) (addr : Nat) (ecc : Ecc) (k : Nat) : Engine :=
  let e := e.padAt T
  match op with
  | .load dst => (e.settle T).back (T + 1) (dst + k) (eccWord ecc k (wordGet e.pad (addr + k)))
  | .store s => { e with padStores := e.padStores ++ [⟨T, addr + k, match s with
      | .imm v => v
      | .reg n => e.src T (.reg (n + k))⟩] }

/-- SCRATCHPAD_ACCESS (R31, R35, R36): one tick, 32 or 64 bits; two accesses in a tick at most. -/
def scratchpadAccessStep (e : EngineId) (t : Nat) (op : MemOp) (wide : Bool) (addr : Nat) (ecc : Ecc) (d : Dev) :
    Dev :=
  if d.issues e t .low then
    let T := d.engTick e t
    let g := ((d.engine e).used T .low).padAccess T op addr ecc 0
    let g := if wide then g.padAccess T op addr ecc 1 else g
    (d.setEngine e g).eccCheck e ecc
  else d

/-- Whether an engine owns a tick of the TDMA crossbar (R37). -/
def ownsTick (e : EngineId) (t : Nat) : Bool := t ≤ 197 && t % 6 == e.pos

/-- SHARED_SRAM_ACCESS (R35, R37, R38): in an owned tick, performed six ticks later. Accesses are performed in
the order of their issue, so the word is read or written at once and a load's register is usable at t + 6. -/
def sharedSramAccessStep (e : EngineId) (t : Nat) (op : MemOp) (addr : Nat) (ecc : Ecc) (d : Dev) : Dev :=
  if d.issues e t .high && ownsTick e t then
    let T := d.engTick e t
    let l := e.port.lane
    let d := d.issued e t .high
    let d := match op with
      | .load dst => d.issueReg e t 6 dst (eccWord ecc 0 (wordGet (d.lane l).sram addr))
      | .store s =>
        let v := (d.engine e).src T s
        d.onLane l fun x => { x with sram := wordSet x.sram addr v, sramZeros := markZero x.sramZeros addr v }
    d.eccCheck e ecc
  else d

/-- The 32 bytes of a cell as visible in the present slot (R75). -/
def Dev.cellBytes (d : Dev) (p : PortId) (c : CellId) : List Byte :=
  let x := (d.port p).cells
  match c with
  | .current => x.current.cur.bytes curBytes
  | .angle => x.angle.cur.bytes angBytes
  | .setpoint => x.setpoint.cur.bytes spBytes
  | .duty => x.duty.cur.bytes dutyBytes
  | .bus => x.bus.cur.bytes busBytes
  | .xw => x.xw.cur.bytes xwBytes

/-- Eight register results of a cell read. -/
def Engine.backCell (e : Engine) (due dst : Nat) (bs : List Byte) : Engine :=
  (List.range 8).foldl (fun e i => e.back due (dst + i) (BitVec.ofNat 32 (leNat ((bs.drop (4 * i)).take 4)))) e

/-- STAGE_PORT_ACCESS (R12, R17, R18, R39): a read returns the whole cell, or a result record of a converter entry that the
image claims for the engine, as visible at slot start after four ticks; a write completes at t + 4 and counts in the slot
that contains that tick. An engine writes only the cell it produces (R75). -/
def stagePortAccessStep (e : EngineId) (t : Nat) (op : StageOp) (d : Dev) : Dev :=
  if d.issues e t .high then
    let s := d.slotOf e.port + writeSlots t 0
    let d := d.issued e t .high
    match op, e.role with
    | .read c dst, _ =>
      d.setEngine e (((d.engine e).settle (d.engTick e t)).backCell (d.engTick e t + 4) dst (d.cellBytes e.port c))
    | .record g n dst, _ =>
      let m := 16 * g.num + n
      if g.lane = e.port.lane ∧ d.gcClaimedFor m e = true then
        let T := d.engTick e t
        let r := d.gcRecord m
        d.setEngine e ((((d.engine e).settle T).back (T + 4) dst (BitVec.ofNat 32 r)).back (T + 4) (dst + 1)
          (BitVec.ofNat 32 (r / 2 ^ 32)))
      else d
    | .writeAngle a w conf src fb, .e1 =>
      d.onPort e.port fun x => { x with cells := { x.cells with
        angle := x.cells.angle.write (s + 1) s fb ⟨(a % 16384 : Nat), satS 32 w, conf % 256, src % 256⟩ } }
    | .writeSetpoint id iq lim fl fb, .e2 =>
      d.onPort e.port fun x => { x with cells := { x.cells with
        setpoint := x.cells.setpoint.write (s + 1) s fb ⟨satS 14 id, satS 14 iq, satS 14 lim, fl % 65536⟩ } }
    | .writeDuty du dv dw pat fb, .e0 =>
      d.onPort e.port fun x => { x with cells := { x.cells with
        duty := x.cells.duty.write (s + 1) s fb ⟨du % 65536, dv % 65536, dw % 65536, pat % 256⟩ } }
    | _, _ => d
  else d

/-- A record put on the crosswind link at tick T (R40). -/
def Dev.sendRecord (d : Dev) (p : PortId) (T : Nat) (r : XwVal) : Dev :=
  d.onPort p fun x => { x with flight := x.flight ++ [(T, r)] }

/-- CROSSWIND_SEND (R12, R31, R40): engine 2 of a paired port sends one record, at most once a frame. -/
def crosswindSendStep (p : PortId) (t : Nat) (r : XwVal) (d : Dev) : Dev :=
  let e : EngineId := ⟨p, .e2⟩
  let T := d.engTick e t
  let last := (d.engine e).lastSend
  if d.issues e t .high && d.linked p && (last == 0 || last - 1 + d.frame p * 200 ≤ T) then
    (d.setEngine e { (d.engine e).used T .high with lastSend := T + 1 }).sendRecord p T r
  else d

/-- BRANCH (R33): two ticks, taken or not; no operation issues in the second. -/
def branchStep (e : EngineId) (t : Nat) (taken : Bool) (target : Nat) (d : Dev) : Dev :=
  if d.issues e t .high then
    let g := (d.engine e).used (d.engTick e t) .high
    d.setEngine e { g with branchTick := d.engTick e t + 1, pc := (if taken then target else g.pc + 1) % 2048 }
  else d

/-- LOOP_SET_UP (R33): loads one of the two loop counters with 1 to 65 536. -/
def loopSetUpStep (e : EngineId) (t : Nat) (second : Bool) (count : Nat) (d : Dev) : Dev :=
  if d.issues e t .high && 1 ≤ count && count ≤ 65536 then
    let g := (d.engine e).used (d.engTick e t) .high
    d.setEngine e (if second then { g with loop1 := count } else { g with loop0 := count })
  else d

/-- The certified start tick index or last tick index of an occurrence: slots × 200 + tick (R56). -/
def Instance.certified (i : Instance) (isEnd : Bool) (h t : Nat) : Bool :=
  if isEnd then
    (List.range i.count).any fun n => i.certLastSlot + n * i.period == h && i.certLastTick == t
  else i.tick == t && i.startsAt h

/-- Whether the active image certifies a marker of a kernel on an engine at a slot index and tick (R56). -/
def Dev.certifies (d : Dev) (e : EngineId) (isEnd : Bool) (kernel h t : Nat) : Bool :=
  match d.image with
  | none => false
  | some im => im.insts.any fun i => i.engine == e.num && i.kernel == kernel && i.certified isEnd h t

/-- Whether what a slot monitor observes is a mismatch (R56). -/
def Dev.monMismatch (d : Dev) (e : EngineId) : MonEvent → Bool
  | .marker isEnd k h t ofs => d.certifies e isEnd k h t && ofs ≠ 0
  | .absent isEnd k h t => d.certifies e isEnd k h t
  | .unplaced t => !d.covered e (d.lane e.port.lane).hyper t

/-- The record of the last mismatch (R59): kernel, slot index, certified tick, offset, marker. -/
def Dev.monRecord (d : Dev) (e : EngineId) (kernel h t : Nat) (ofs : Int) (marker : Nat) : Dev :=
  let at' := d.stampNow
  ((((((((d.inc 0x2641 (e.num + 1)).put 0x2642 1 e.num).put 0x2642 2 kernel).put 0x2642 3 h).put 0x2642 4 t).put
    0x2642 5 ofs).put 0x2642 6 marker).put 0x2642 7 at').stamped.stamped

/-- ENGINE_TIMING_FAULT (R56): an armed monitor that finds a mismatch records it, raises FLT_ENGINE_TIMING and
commands the unit of the engine's port, source 8. Certified tick and offset of an unplaced issue are open (log
entry 9). -/
def engineTimingFaultStep (e : EngineId) (ev : MonEvent) (d : Dev) : Dev :=
  if d.clocked e.port.lane && d.monArmed && d.monMismatch e ev then
    let d := match ev with
      | .marker isEnd k h t ofs => d.monRecord e k h t ofs (b2n isEnd)
      | .absent isEnd k h t => d.monRecord e k h t 0x7FFFFFFF (b2n isEnd)
      | .unplaced _ => d.monRecord e 0 (d.lane e.port.lane).hyper (Config.freeValue d.freeIx % 200).toNat
          (signedOf 32 (Config.freeValue (d.freeIx + 1)).toNat) 2
    d.trip e.port .engineTiming 8
  else d

/-- ALU. -/
def execAlu (e : EngineId) (t : Nat) (op : AluOp) (dst : Nat) (a b c : Src) (s : State) :
    Host.Outcome State Fault Refusal := .next (s.awake (aluStep e t op dst a b c))

/-- MULTIPLY. -/
def execMultiply (e : EngineId) (t : Nat) (op : MulOp) (dst : Nat) (a b c : Src) (s : State) :
    Host.Outcome State Fault Refusal := .next (s.awake (multiplyStep e t op dst a b c))

/-- SINE_COSINE. -/
def execSineCosine (e : EngineId) (t dstSin dstCos : Nat) (angle : Src) (s : State) :
    Host.Outcome State Fault Refusal := .next (s.awake (sineCosineStep e t dstSin dstCos angle))

/-- DIVIDE_SQUARE_ROOT. -/
def execDivideSquareRoot (e : EngineId) (t : Nat) (sqrt sat : Bool) (dst : Nat) (a b : Src) (s : State) :
    Host.Outcome State Fault Refusal := .next (s.awake (divideSquareRootStep e t sqrt sat dst a b))

/-- SCRATCHPAD_ACCESS; the data scratchpad has 8192 words of 32 bits (R31). -/
def execScratchpadAccess (e : EngineId) (t : Nat) (op : MemOp) (wide : Bool) (addr : Nat) (ecc : Ecc) (s : State) :
    Host.Outcome State Fault Refusal :=
  if addr + b2n wide < 8192 then .next (s.awake (scratchpadAccessStep e t op wide addr ecc)) else .fault .noSuchWord

/-- SHARED_SRAM_ACCESS; the shared SRAM of a lane has 524288 words (R37). -/
def execSharedSramAccess (e : EngineId) (t : Nat) (op : MemOp) (addr : Nat) (ecc : Ecc) (s : State) :
    Host.Outcome State Fault Refusal :=
  if addr < 524288 then .next (s.awake (sharedSramAccessStep e t op addr ecc)) else .fault .noSuchWord

/-- STAGE_PORT_ACCESS. -/
def execStagePortAccess (e : EngineId) (t : Nat) (op : StageOp) (s : State) : Host.Outcome State Fault Refusal :=
  .next (s.awake (stagePortAccessStep e t op))

/-- CROSSWIND_SEND: the record of R237 with the sender's frame tag. -/
def execCrosswindSend (p : PortId) (t angle pairByte : Nat) (speed id iq vd vq : Int) (health residual : Nat)
    (x : Int) (s : State) : Host.Outcome State Fault Refusal :=
  .next (s.awake (crosswindSendStep p t
    ⟨angle % 16384, (s.dev.port p).mod.periods % 256, pairByte % 256, satS 32 speed, satS 14 id, satS 14 iq, satS 14 vd,
      satS 14 vq, health % 65536, residual % 65536, satS 32 x⟩))

/-- BRANCH. -/
def execBranch (e : EngineId) (t : Nat) (taken : Bool) (target : Nat) (s : State) :
    Host.Outcome State Fault Refusal := .next (s.awake (branchStep e t taken target))

/-- LOOP_SET_UP. -/
def execLoopSetUp (e : EngineId) (t : Nat) (second : Bool) (count : Nat) (s : State) :
    Host.Outcome State Fault Refusal := .next (s.awake (loopSetUpStep e t second count))

/-- ENGINE_TIMING_FAULT. -/
def execEngineTimingFault (e : EngineId) (ev : MonEvent) (s : State) : Host.Outcome State Fault Refusal :=
  .next (s.awake (engineTimingFaultStep e ev))

end Sys2Proof.Machine
end

