-- ==== Sys2Proof/Machine/Profiles.lean ====
section
/-! DEFINITION. Stored profiles, device records and the boot and catalogue banks (R384 to R396, R474). -/

namespace Sys2Proof.Machine

/-! ### Which objects a profile holds -/

/-- The indices that share a table row's base (R6, R467). -/
def instancesOf (base : Nat) : List Nat :=
  let many := fun (n step : Nat) => (List.range n).map fun i => base + step * i
  let all :=
    if 0x3000 ≤ base ∧ base < 0x3100 then many 4 0x100
    else if 0x2200 ≤ base ∧ base < 0x2210 then many 4 0x10
    else if base = 0x1110 then many 2 0x10
    else if base = 0x1160 ∨ base = 0x4000 then many 16 1
    else many 4 1
  all.filter fun i => normIdx i == base

/-- A number entered into an ascending list without repetition. -/
def insertNat (n : Nat) : List Nat → List Nat
  | [] => [n]
  | m :: r => if n < m then n :: m :: r else if n = m then m :: r else m :: insertNat n r

/-- The keys of the objects that profiles hold, ascending (R386). -/
def profileKeys : List Nat :=
  (objRows.flatMap fun r => (instancesOf r.base).flatMap fun i =>
    ((List.range (r.hi + 1 - r.lo)).map fun s => objKey i (r.lo + s)).filter fun k => profileHeld r k).foldr insertNat []

/-- Whether a key is that of an object that profiles hold (R386). -/
def heldKey (key : Nat) : Bool :=
  match objRow (key / 256) (key % 256) with
  | some r => profileHeld r key
  | none => false

/-! ### Halves -/

/-- The configuration records that bytes spell: key and value; none where they do not divide into records (R385). -/
def recordsOf : Nat → List Byte → Option (List (Nat × List Byte))
  | _, [] => some []
  | 0, _ => none
  | n + 1, b =>
    let len := rdLE b 4 2
    let size := (6 + len + 3) / 4 * 4
    if b.length < size ∨ rdLE b 3 1 ≠ 0 then none
    else (recordsOf n (b.drop size)).map fun r => (objKey (rdLE b 0 2) (rdLE b 2 1), slice b 6 len) :: r

/-- One record: index, sub-index, length, value, padded to a multiple of 4 bytes (R385). -/
def recordBytes (key : Nat) (raw : List Byte) : List Byte :=
  toLE 2 (key / 256) ++ toLE 1 (key % 256) ++ [0] ++ toLE 2 raw.length ++ raw ++
  List.replicate ((4 - (6 + raw.length) % 4) % 4) 0

/-- Whether a half of profile n is valid (R387). -/
def Half.valid (h : Half) (n : Nat) : Bool :=
  let b := h.header
  b.length == 48 && slice b 0 4 == [0x4D, 0x4A, 0x50, 0x46] && rdLE b 4 2 == 0x0100 &&
  rdLE b 0x2C 4 == crc32 (b.take 0x2C) && rdLE b 6 1 == n &&
  decide (rdLE b 0xC 4 ≤ 258048) && rdLE b 0xC 4 % 4 == 0 && decide (rdLE b 0x10 4 ≤ 262144) &&
  h.records.length == rdLE b 0xC 4 && h.image.length == rdLE b 0x10 4 &&
  rdLE b 0x28 4 == crc32 (h.records ++ h.image)

/-- A half of a slot. -/
def Flash.half (f : Flash) (n h : Nat) : Half := f.halves.getD (2 * n + h) Half.atReset

/-- A half's generation. -/
def Half.gen (h : Half) : Nat := rdLE h.header 8 4

/-- The newest valid half of a slot (R387). -/
def Flash.newest (f : Flash) (n : Nat) : Option Nat :=
  match (f.half n 0).valid n, (f.half n 1).valid n with
  | true, true => if ((f.half n 0).gen + 2 ^ 32 - (f.half n 1).gen) % 2 ^ 32 < 2 ^ 31 then some 0 else some 1
  | true, false => some 0
  | false, true => some 1
  | false, false => none

/-- Whether a half's header reads 0xFF in every byte; one that was never programmed lists none (R382, R387). -/
def Half.erased (h : Half) : Bool := h.header.all fun b => b == 0xFF

/-- Whether a profile is empty: both headers read erased (R387). -/
def Flash.empty (f : Flash) (n : Nat) : Bool := (f.half n 0).erased && (f.half n 1).erased

/-- A half replaced. -/
def Flash.setHalf (f : Flash) (n h : Nat) (x : Half) : Flash := { f with halves := f.halves.set (2 * n + h) x }

/-- Whether a record is permitted: its object is held by profiles and its value in range, or the object is absent on this
part (R386, R387). Ranges that depend on other objects are judged with the complete set, and what R468 refuses to a write is
no range of a value. -/
def Dev.recordOk (d : Dev) (e : Nat × List Byte) : Bool :=
  let idx := e.1 / 256
  let sub := e.1 % 256
  match objRow idx sub with
  | none => false
  | some r =>
    profileHeld r e.1 && (d.absent idx || (lengthOk r e.2 && valueOk r e.2 &&
      (normIdx idx != 0x2201 || gcWordValid (decodeVal r.type e.2).toInt.toNat)))

/-- The value that a load gives to an object: its record's, or the default (R386). -/
def Dev.loadedVal (d : Dev) (recs : List (Nat × List Byte)) (key : Nat) : ObjVal :=
  match objRow (key / 256) (key % 256), recs.find? fun e => e.1 == key with
  | some r, some e => if d.absent (key / 256) then objDefault key else decodeVal r.type e.2
  | _, _ => objDefault key

/-- The block with every object held by profiles at its loaded value. -/
def Dev.withValues (d : Dev) (recs : List (Nat × List Byte)) : Dev :=
  { d with objs := profileKeys.foldl (fun o k => o.put k (d.loadedVal recs k)) d.objs }

/-- Whether the complete set of values meets the rules and the ranges that join several objects (R387). The MTPA table at its
default, eight zeros, passes although a write of it would be refused by R157 (DEDUCED, log entry 92: a save of the default setup
records it). -/
def Dev.setOk (d : Dev) : Bool :=
  profileKeys.all fun k =>
    (d.crossOk (k / 256) (k % 256) ||
      (decide (0x3000 ≤ k / 256) && k / 256 % 256 == 0x50 && k % 256 == 0x10 && d.arr (k / 256) 0x10 == List.replicate 8 0)) &&
    d.streamWriteOk (k / 256) (k % 256) &&
    (decide (k / 256 < 0x3000) || decide (0x3400 ≤ k / 256) || d.absent (k / 256) ||
      d.portRange (portOfIdx (k / 256)) (k / 256 % 256) (k % 256) (d.nat (k / 256) (k % 256)))

/-- A profile as a load finds it: its values and its image, or the cause of failure of 0x1400.05, with the loader's verdict
where the image is refused (R387, R389). -/
inductive Loaded where
  | good (recs : List (Nat × List Byte)) (im : Image)
  | bad (cause : Nat) (v : Option Verdict)
deriving DecidableEq, Repr

/-- A profile read and checked (R387). -/
def Dev.readProfile (d : Dev) (n : Nat) : Loaded :=
  if d.flash.empty n then .bad 1 none
  else match d.flash.newest n with
    | none => .bad 2 none
    | some h =>
      let x := d.flash.half n h
      match recordsOf x.records.length x.records with
      | none => .bad 3 none
      | some recs =>
        if (recs.all fun e => d.recordOk e) = false ∨ (d.withValues recs).setOk = false then .bad 3 none
        else match d.checkImage x.image with
          | .accepted im => .good recs im
          | v => .bad 4 (some v)

/-- The 16 bytes of a profile's directory entry (R396). Where no half is valid, the fields of the half are open
(log entry 9). -/
def Dev.directoryEntry (d : Dev) (n : Nat) : List Byte :=
  let state : Nat := match d.readProfile n with
    | .good _ _ => 1
    | .bad 1 _ => 0
    | .bad _ _ => 2
  match d.flash.newest n with
  | some h =>
    let b := (d.flash.half n h).header
    toLE 1 state ++ toLE 1 h ++ [0, 0] ++ slice b 8 4 ++ slice b 0x14 4 ++ slice b 0x24 4
  | none =>
    let open' := fun (i : Nat) => BitVec.ofInt 8 (Config.freeValue (d.freeIx + i))
    toLE 1 state ++ [open' 0, 0, 0] ++ (List.range 12).map fun i => open' (i + 1)

/-- A profile's directory entry published (R396). -/
def Dev.putDirectory (d : Dev) (n : Nat) : Dev :=
  { d.putVal 0x1404 (n + 1) (.bytes (d.directoryEntry n)) with freeIx := d.freeIx + 13 }

/-! ### Loading -/

/-- What follows from a complete set of loaded values at once (R474): code forms, radii, pair comparison, streams, feedback
decoding from its reset state, output polarities, addresses, domain enables. -/
def Dev.afterLoad (d : Dev) : Dev :=
  let d := PortId.all.foldl (fun d p =>
    (((d.putLsb p).putRadius p).convert p).onPort p fun x =>
      { x with fb := Feedback.atReset }.fbSelected ((d.lane p.lane).clk 0)) d
  let d := (List.range 16).foldl (fun d s => d.streamEnabled s) d.comparePairs
  let d := [0x1110, 0x1120].foldl (fun d i => if d.absent i then d else d.putIpv4 i) d
  let d := [DomId.t0, .t1].foldl (fun d x =>
    if d.num (domIdx x) 1 = 0 then d.setDomState x 0 else if d.domState x = 0 then d.setDomState x 1 else d) d
  { d with
    time := { d.time with polarity := [0, 1, 2, 3] }
    grid := { d.grid with moved := true } }.atSelect

/-- SELECT_PROFILE (R389, R391): the load of the profile named begins. -/
def selectProfileStep (d : Dev) : Dev :=
  match d.pubOf 0x1401 0 with
  | none => d
  | some e =>
    let d := d.dropPub 0x1401 0
    ({ d with wr := { d.wr with op := some (.load e.val.toInt.toNat), opDue := false } }.put 0x1400 4 1).put 0x1400 5 0 |>.show

/-- The end of an operation without success (R389, R392, R396). -/
def Dev.opFailed (d : Dev) (cause : Nat) : Dev :=
  ({ d with wr := { d.wr with op := none } }.put 0x1400 4 5).put 0x1400 5 cause

/-- The end of an operation with success (R396). -/
def Dev.opDone (d : Dev) : Dev := { d with wr := { d.wr with op := none } }.put 0x1400 4 4

/-- A refusal's result, reason, lane and offset reported, the status of the staged image as it was (R389, R396). -/
def Dev.putReason (d : Dev) (v : Option Verdict) : Dev :=
  match v with
  | some w => (d.putVerdict w false).put 0x2620 1 (d.num 0x2620 1)
  | none => d

/-- PROFILE_LOAD_COMPLETE (R389, R390, R474): nothing changes on failure; on success every object held by profiles takes
its value, calibration passes fall due where the sense gain changed, and the image is activated. -/
def profileLoadCompleteStep (d : Dev) : Dev :=
  match d.wr.op with
  | some (.load n) =>
    if d.powered = false ∨ d.frozen = true then d
    else match d.readProfile n with
      | .bad cause v => (d.putReason v).opFailed cause
      | .good recs im =>
        let gains := PortId.all.map fun p => (p, d.pnum p 0x30 1)
        let d := d.withValues recs
        let d := gains.foldl (fun d g => if d.pnum g.1 0x30 1 = g.2 then d
          else d.onPort g.1 fun x => { x with fe := { x.fe with calDue := true } }) d
        ((((d.activate im n).afterLoad.opDone).put 0x1400 1 n).put 0x1400 2 1).show
  | _ => d

/-! ### Saving and erasing -/

/-- The number of the last committed entry of a write of an object (R367, R384); 0 where none is held. -/
def Flash.lastEntryOf (f : Flash) (key : Nat) : Nat :=
  match f.entries.reverse.find? fun u =>
      rdLE u 25 1 == 0 && objKey (rdLE u 28 2) (rdLE u 30 1) == key && rdLE u 48 2 == 0 with
  | some u => entryNumber u
  | none => 0

/-- The records of the present setup (R385, R386). -/
def Dev.setupRecords (d : Dev) : List Byte :=
  profileKeys.flatMap fun k =>
    match objRow (k / 256) (k % 256) with
    | some r => recordBytes k (encodeVal r.type (d.objs.get k))
    | none => []

/-- The half that a save programs for profile n (R384, R385, R392). -/
def Dev.savedHalf (d : Dev) (n : Nat) : Half :=
  let recs := d.setupRecords
  let img := match d.image with
    | some im => im.raw
    | none => []
  let gen := match d.flash.newest n with
    | some h => ((d.flash.half n h).gen + 1) % 2 ^ 32
    | none => 1
  let id := match d.image with
    | some im => im.id
    | none => 0
  let pre : List Byte := [0x4D, 0x4A, 0x50, 0x46] ++ toLE 2 0x0100 ++ toLE 1 n ++ [0] ++ toLE 4 gen ++ toLE 4 recs.length ++
    toLE 4 img.length ++ toLE 4 id ++ time80Bytes d.stampNow ++ [0, 0] ++ toLE 4 (d.flash.lastEntryOf 0x140200) ++
    toLE 4 (crc32 (recs ++ img))
  ⟨pre ++ toLE 4 (crc32 pre), recs, img⟩

/-- The half of a slot that does not hold the newest valid copy (R392). -/
def Flash.spareHalf (f : Flash) (n : Nat) : Nat :=
  match f.newest n with
  | some 0 => 1
  | _ => 0

/-- SAVE_PROFILE (R391, R392): the setup visible at the publication and the active image are captured, and the half that
does not hold the newest valid copy is erased. -/
def saveProfileStep (d : Dev) : Dev :=
  match d.pubOf 0x1402 0 with
  | none => d
  | some e =>
    let n := e.val.toInt.toNat
    let h := d.flash.spareHalf n
    let x := d.savedHalf n
    let d := (d.dropPub 0x1402 0).stamped
    ({ d with
      wr := { d.wr with op := some (.save n h x), opDue := false }
      flash := d.flash.setHalf n h Half.atReset }.put 0x1400 4 2).put 0x1400 5 0 |>.show

/-- What a half that was read back wrong holds: the bytes read, without a header that would make them a valid half, as the slot
keeps its newest half (R392, log entry 152). -/
def brokenHalf (b : HalfBytes) (n : Nat) : Half :=
  let h : Half := ⟨b.header, b.records, b.image⟩
  if h.valid n then { h with header := [] } else h

/-- PROFILE_SAVE_COMPLETE (R392): the half is programmed and read back; where the read-back differs, the half holds what was
read, the save has failed, and the slot keeps its newest half. -/
def profileSaveCompleteStep (differs : Option HalfBytes) (d : Dev) : Dev :=
  match d.wr.op with
  | some (.save n h x) =>
    if d.powered = false ∨ d.frozen = true then d
    else
      match differs with
      | none =>
        let d := { d with flash := d.flash.setHalf n h x }.opDone
        (if d.num 0x2600 3 = 0x10 then d.put 0x2600 3 n else d).putDirectory n
      | some b => ({ d with flash := d.flash.setHalf n h (brokenHalf b n) }.opFailed 5).putDirectory n
  | _ => d

/-- ERASE_PROFILE (R391, R393). -/
def eraseProfileStep (d : Dev) : Dev :=
  match d.pubOf 0x1403 0 with
  | none => d
  | some e =>
    let d := d.dropPub 0x1403 0
    ({ d with wr := { d.wr with op := some (.erase e.val.toInt.toNat), opDue := false } }.put 0x1400 4 3).put 0x1400 5 0 |>.show

/-- PROFILE_ERASE_COMPLETE (R393): both halves are erased and the profile is empty. -/
def profileEraseCompleteStep (d : Dev) : Dev :=
  match d.wr.op with
  | some (.erase n) =>
    if d.powered = false ∨ d.frozen = true then d
    else ({ d with flash := (d.flash.setHalf n 0 Half.atReset).setHalf n 1 Half.atReset }.opDone).putDirectory n
  | _ => d

/-! ### Device records -/

/-- Whether the first copy of the device record is the newer valid one; none where neither is valid (R394). -/
def Flash.firstNewer (f : Flash) : Option Bool :=
  match f.recA.good, f.recB.good with
  | true, true => some (decide ((f.recA.gen + 2 ^ 32 - f.recB.gen) % 2 ^ 32 < 2 ^ 31))
  | true, false => some true
  | false, true => some false
  | false, false => none

/-- The device record in use: the newer valid copy, or bank A, a zero Operator key and strict policy (R394). -/
def Flash.record (f : Flash) : DeviceRecord :=
  match f.firstNewer with
  | some true => f.recA
  | some false => f.recB
  | none => DeviceRecord.atReset

/-- A new copy written into the older block, with the next generation (R394). -/
def Flash.putRecord (f : Flash) (r : DeviceRecord) : Flash :=
  let x := { r with good := true, gen := (f.record.gen + 1) % 2 ^ 32 }
  match f.firstNewer with
  | some true => { f with recB := x }
  | _ => { f with recA := x }

/-- The device record with a change's value (R394). -/
def Dev.recordWith (d : Dev) (c : Change) : DeviceRecord :=
  let r := d.flash.record
  if c.key = 0x121000 then { r with key := c.raw }
  else if c.key = 0x130001 then { r with policy := leNat c.raw }
  else { r with bank := 1 - d.nat 0x2640 4 }

/-- DEVICE_RECORD_WRITE (R394): the first committed change that waits for its copy has it written and read back; it is then
published at the next boundary. -/
def deviceRecordWriteStep (d : Dev) : Dev :=
  match d.wr.recDue with
  | [] => d
  | j :: rest =>
    if d.powered = false ∨ d.frozen = true then d
    else
      let f := match j.change with
        | some c => d.flash.putRecord (d.recordWith c)
        | none => d.flash
      { d with flash := f, wr := { d.wr with recDue := rest, done := d.wr.done ++ [(j, d.slotNow)] } }

/-! ### Banks -/

/-- The content of a bank: 0 A, 1 B. -/
def Flash.bank (f : Flash) (n : Nat) : List Byte := if n = 0 then f.bankA else f.bankB

/-- Whether a bank passes its check: an erased one holds no catalogue (R288, R395). -/
def bankOk (b : List Byte) : Bool := !b.isEmpty && Config.bankValid b

/-- BANK_ERASE_COMPLETE (R395): the first segment is in the bank and further segments are accepted. -/
def bankEraseCompleteStep (d : Dev) : Dev :=
  if d.wr.op = some .bankErase ∧ d.powered = true ∧ d.frozen = false then
    { d with
      wr := { d.wr with op := none }
      flash := d.flash.setInactive (d.nat 0x2640 4) (d.bytes 0x1410 0) }.put 0x1413 2 2
  else d

/-- VERIFY_INACTIVE_BANK (R391, R395). -/
def verifyInactiveBankStep (d : Dev) : Dev :=
  match d.pubOf 0x1411 0 with
  | none => d
  | some _ =>
    let d := d.dropPub 0x1411 0
    { d with wr := { d.wr with op := some .bankCheck, opDue := false } }.put 0x1413 2 3 |>.show

/-- BANK_VERIFICATION_COMPLETE (R395): the bank is checked as at start-up. -/
def bankVerificationCompleteStep (d : Dev) : Dev :=
  if d.wr.op = some .bankCheck ∧ d.powered = true ∧ d.frozen = false then
    { d with wr := { d.wr with op := none } }.put 0x1413 2
      (if bankOk (d.flash.bank (1 - d.nat 0x2640 4)) then 4 else 5)
  else d

/-- SWITCH_BANKS (R395): the verified bank is named for the next reset; its device record has been written before the
publication (R394). -/
def switchBanksStep (d : Dev) : Dev :=
  match d.pubOf 0x1412 0 with
  | none => d
  | some _ => (d.dropPub 0x1412 0).put 0x1413 1 (1 - d.nat 0x2640 4 : Nat) |>.show

/-! ### Meanings -/

/-- SELECT_PROFILE. -/
def execSelectProfile (s : State) : Host.Outcome State Fault Refusal := .next (s.awake selectProfileStep)

/-- PROFILE_LOAD_COMPLETE. -/
def execProfileLoadComplete (s : State) : Host.Outcome State Fault Refusal := .next (s.awake profileLoadCompleteStep)

/-- SAVE_PROFILE. -/
def execSaveProfile (s : State) : Host.Outcome State Fault Refusal := .next (s.awake saveProfileStep)

/-- PROFILE_SAVE_COMPLETE. -/
def execProfileSaveComplete (differs : Option HalfBytes) (s : State) : Host.Outcome State Fault Refusal :=
  .next (s.awake (profileSaveCompleteStep differs))

/-- ERASE_PROFILE. -/
def execEraseProfile (s : State) : Host.Outcome State Fault Refusal := .next (s.awake eraseProfileStep)

/-- PROFILE_ERASE_COMPLETE. -/
def execProfileEraseComplete (s : State) : Host.Outcome State Fault Refusal := .next (s.awake profileEraseCompleteStep)

/-- DEVICE_RECORD_WRITE. -/
def execDeviceRecordWrite (s : State) : Host.Outcome State Fault Refusal := .next (s.awake deviceRecordWriteStep)

/-- BANK_ERASE_COMPLETE. -/
def execBankEraseComplete (s : State) : Host.Outcome State Fault Refusal := .next (s.awake bankEraseCompleteStep)

/-- VERIFY_INACTIVE_BANK. -/
def execVerifyInactiveBank (s : State) : Host.Outcome State Fault Refusal := .next (s.awake verifyInactiveBankStep)

/-- BANK_VERIFICATION_COMPLETE. -/
def execBankVerificationComplete (s : State) : Host.Outcome State Fault Refusal :=
  .next (s.awake bankVerificationCompleteStep)

/-- SWITCH_BANKS. -/
def execSwitchBanks (s : State) : Host.Outcome State Fault Refusal := .next (s.awake switchBanksStep)

end Sys2Proof.Machine
end

