-- ==== Sys2Proof/Machine/FreezeUnit.lean ====
section
/-! DEFINITION. The freeze, the dump, captures, fault traces and return consent (R429 to R444). -/

namespace Sys2Proof.Machine

/-! ### Entering the freeze -/

/-- The ports that the part has (R1, R417). -/
def Dev.portsPresent (d : Dev) : List PortId := d.lanesPresent.flatMap fun l => l.ports

/-- Whether a freeze that begins now can be resumed: every present port is OFF, ARMED or TRIPPED (R440). -/
def Dev.resumableNow (d : Dev) : Bool :=
  d.portsPresent.all fun p => d.pstate p == .off || d.pstate p == .armed || d.pstate p == .tripped

/-- Whether a lane's sections of a dump are valid: the part has it and it is not lost (R438). -/
def Dev.dumpLane (d : Dev) (l : LaneId) : Bool := d.lanesPresent.contains l && !d.laneLost l

/-- The fields of the dump header, bytes 0 to 0x47, without SELF_DUMP (R437). -/
def Dev.dumpHeader (d : Dev) (trigger : Nat) : List Byte :=
  let flags := b2n d.resumableNow + 2 * b2n (d.dumpLane .a) + 4 * b2n (d.dumpLane .b)
  [0x4D, 0x4A, 0x46, 0x5A] ++ toLE 2 0x0100 ++ toLE 2 0x1000 ++ toLE 4 0x004E5010 ++ toLE 1 trigger ++ toLE 1 d.mode ++
  toLE 1 flags ++ [0] ++ (PortId.all.map fun p => BitVec.ofNat 8 (d.pstate p).code) ++
  (PortId.all.map fun p => BitVec.ofNat 8 (d.safeOut p)) ++ time80Bytes d.stampNow ++ toLE 1 d.stampBase ++ [0] ++
  toLE 4 (d.lane .a).count ++ toLE 4 (d.lane .b).count ++ toLE 2 (d.lane .a).hyper ++ toLE 2 (d.lane .b).hyper ++
  toLE 4 (d.nat 0x2600 1) ++ toLE 4 (d.nat 0x1300 2) ++ d.shadowBytes d.clkLane 52 4

/-- A freeze takes effect (R431 to R433, R442, R449): the header is recorded, every present port's unit is commanded (source
12), every clock stops, and a trace record is queued. -/
def Dev.enterFreeze (d : Dev) (trigger : Nat) : Dev :=
  let drive := fun (k : Nat) => d.pinSource k != 0 || (d.pinOfPort k && !d.laneLost (pinLane k) && (d.lane (pinLane k)).alive)
  let level := fun (k : Nat) => !d.pinOfPort k && (d.gpioLevel k).getD (bitOf d.gpioIn k)
  let z : Freeze := { Freeze.atReset with
    header := d.dumpHeader trigger
    resumable := d.resumableNow
    gpio := bitsToNat ((List.range 8).map level)
    gpioDrive := bitsToNat ((List.range 8).map drive)
    ix := d.freeIx
    torn := d.wr.running.isSome }
  let d := (d.queueTrace (d.wideTrace d.clkLane 0x20 0xFFFF)).stamped
  d.portsPresent.foldl (fun d p => d.command p 12) { d with frozen := true, frz := z }

/-- A trigger of R429: permitted in STANDBY and CONFIGURE, and in RUN and DEGRADED where 0x2700.01 is 1; there it is otherwise
ignored and counted. Start-up, SLEEP, STORAGE and a freeze ignore it. -/
def Dev.trigger (d : Dev) (kind : Nat) : Dev :=
  if d.powered = false ∨ d.frozen = true then d
  else if d.mode = 4 ∨ d.mode = 5 then (if d.num 0x2700 1 = 1 then d.enterFreeze kind else d.inc 0x2700 2)
  else d.enterFreeze kind

/-- LULL_N_TRIGGER (R429, R430, R441): LULL_N held low for at least 1 µs triggers once, at its first microsecond; a level that
stays low is kept. -/
def lullNTriggerStep (low : LullLow) (d : Dev) : Dev :=
  let was := d.boot.lullLow
  let d := { d with boot := { d.boot with lullLow := low.stays } }
  if was = false ∧ (low.stays = true ∨ 1000 ≤ low.ns) then d.trigger 1 else d

/-- STANDBY reached at the end of start-up: LULL_N held low through it freezes at once (R441). -/
def Dev.reachStandby (d : Dev) : Dev :=
  let d := d.enterStandby
  if d.boot.lullLow then d.trigger 1 else d

/-- FREEZE_COMMAND (R429). -/
def freezeCommandStep (d : Dev) : Dev :=
  match d.pubOf 0x2701 0 with
  | none => d
  | some _ => ((d.dropPub 0x2701 0).trigger 3).show

/-! ### The dump -/

/-- The lane whose section an offset of the dump lies in; none outside the lanes' sections (R436). -/
def dumpSection (o : Nat) : Option LaneId :=
  let eng := fun (e : Nat) => if e < 6 then some LaneId.a else some LaneId.b
  if o < 0x1000 then none
  else if o < 0xD000 then eng ((o - 0x1000) / 0x1000)
  else if o < 0x6D000 then eng ((o - 0xD000) / 0x8000)
  else if o < 0xCD000 then eng ((o - 0x6D000) / 0x8000)
  else if o < 0x2CD000 then some .a
  else if o < 0x4CD000 then some .b
  else if o < 0x4D9000 then some .a
  else some .b

/-- The engine of a number. -/
def engineOf (n : Nat) : EngineId :=
  ⟨match n / 3 with
    | 0 => .m1
    | 1 => .m2
    | 2 => .m3
    | _ => .m4,
   match n % 3 with
    | 0 => .e0
    | 1 => .e1
    | _ => .e2⟩

/-- A word of memory that engine operations stored, where an offset of the dump names one; the rest of the
memories holds what the kernels keep there, in places the manual does not give (R436). -/
def Dev.dumpStored (d : Dev) (o : Nat) : Option Word :=
  if 0x6D000 ≤ o ∧ o < 0xCD000 then
    let e := engineOf ((o - 0x6D000) / 0x8000)
    let g := ((d.port e.port).eng.get e.role).padDone
    wordStored g.pad g.zeros ((o - 0x6D000) % 0x8000 / 4)
  else if 0xCD000 ≤ o ∧ o < 0x2CD000 then wordStored (d.lane .a).sram (d.lane .a).sramZeros ((o - 0xCD000) / 4)
  else if 0x2CD000 ≤ o ∧ o < 0x4CD000 then wordStored (d.lane .b).sram (d.lane .b).sramZeros ((o - 0x2CD000) / 4)
  else none

/-- The header byte of a dump, SELF_DUMP included; a lane lost since the trigger has its VALID flag clear (R437, R438). -/
def Dev.dumpHead (d : Dev) (selfDump : Bool) (o : Nat) : Byte :=
  let b := d.frz.header.getD o 0
  if o = 0x0E then
    (b &&& BitVec.ofNat 8 (1 + 2 * b2n (d.dumpLane .a) + 4 * b2n (d.dumpLane .b))) ||| BitVec.ofNat 8 (8 * b2n selfDump)
  else b

/-- A byte of the dump below its trailer (R436 to R438). -/
def Dev.dumpByte (d : Dev) (selfDump : Bool) (o : Nat) : Byte :=
  match dumpSection o with
  | none => d.dumpHead selfDump o
  | some l =>
    if d.dumpLane l = false then 0
    else match d.dumpStored o with
      | some w => (toLE 4 w.toNat).getD (o % 4) 0
      | none => Config.openByte d.frz.ix o

/-- The dump below its trailer. -/
def Dev.dumpBody (d : Dev) (selfDump : Bool) : List Byte := (List.range 0x4E5000).map fun o => d.dumpByte selfDump o

/-- The trailer over a body: CRC-32, four zero bytes, and the tag under the chain key (R436). -/
def Dev.dumpTrailer (d : Dev) (body : List Byte) : List Byte :=
  let c := toLE 4 (crc32 body) ++ [0, 0, 0, 0]
  c ++ cmac8 d.chainKey (body ++ c)

/-- The whole dump. -/
def Dev.dumpAll (d : Dev) (selfDump : Bool) : List Byte :=
  let b := d.dumpBody selfDump
  b ++ d.dumpTrailer b

/-- The word of the dump at an offset as DUMP_DATA shifts it out: zero past the end (R434). -/
def Dev.dumpWord (d : Dev) (o : Nat) : List Byte :=
  if o < 0x4E5000 then (List.range 4).map fun i => d.dumpByte false (o + i)
  else if o < 0x4E5010 then slice (d.dumpTrailer (d.dumpBody false)) (o - 0x4E5000) 4
  else [0, 0, 0, 0]

/-! ### Self-dump and captures -/

/-- Bytes 1 to 31 of the directory entry of a capture of this freeze, with a CRC field (R444). -/
def Dev.captureInfo (d : Dev) (crc : List Byte) : List Byte :=
  let h := d.frz.header
  slice h 0x0C 1 ++ [0, 0] ++ toLE 4 0x4E5010 ++ slice h 0x18 10 ++ [0, 0] ++ slice h 0x30 4 ++ slice h 0x34 4 ++ crc

/-- A capture slot changed, 1 to 3. -/
def Flash.setCapture (f : Flash) (n : Nat) (c : Capture) : Flash := { f with captures := f.captures.set (n - 1) c }

/-- The slot that a self-dump takes: the first EMPTY one, else the first INCOMPLETE or ERASING one (R439). -/
def Flash.captureFor (f : Flash) : Option Nat :=
  match f.captures.findIdx? fun c => c.state == 0 with
  | some i => some (i + 1)
  | none => (f.captures.findIdx? fun c => c.state == 3 || c.state == 4).map fun i => i + 1

/-- SELF_DUMP_START (R439): 1 s without a TCK edge in a freeze that has not been read to its end. -/
def selfDumpStartStep (quietUs : Nat) (d : Dev) : Dev :=
  let z := d.frz
  if d.frozen && decide (1000000 ≤ quietUs) && !z.readDone && !z.running && !z.done && !z.full &&
      !d.devFaulted .commonFlash then
    match d.flash.captureFor with
    | none => { d with frz := { z with full := true } }
    | some n =>
      let crc := (List.range 4).map fun i => Config.openByte z.ix (0x4E5000 + i)
      { d with
        frz := { z with running := true, slot := n }
        wr := { d.wr with erasing := d.wr.erasing.filter fun k => k ≠ n }
        flash := d.flash.setCapture n ⟨1, d.captureInfo crc, []⟩ }
  else d

/-- SELF_DUMP_COMPLETE (R439): the dump has been read back and its slot is VALID. -/
def selfDumpCompleteStep (d : Dev) : Dev :=
  let z := d.frz
  if d.frozen && z.running then
    let b := d.dumpAll true
    { d with
      frz := { z with running := false, done := true }
      flash := d.flash.setCapture z.slot ⟨2, d.captureInfo (slice b 0x4E5000 4), b⟩ }
  else d

/-- RELEASE_CAPTURE (R444): the slot's erase begins. -/
def releaseCaptureStep (d : Dev) : Dev :=
  match d.pubOf 0x2712 0 with
  | none => d
  | some e =>
    let n := e.val.toInt.toNat
    let d := d.dropPub 0x2712 0
    match d.flash.captures[n - 1]? with
    | some c => { d with
        wr := { d.wr with erasing := d.wr.erasing ++ [n] }
        flash := d.flash.setCapture n { c with state := 4 } }.show
    | none => d

/-- CAPTURE_ERASE_COMPLETE (R444). -/
def captureEraseCompleteStep (d : Dev) : Dev :=
  match d.wr.erasing with
  | n :: rest =>
    if d.powered && !d.frozen then
      { d with wr := { d.wr with erasing := rest }, flash := d.flash.setCapture n Capture.atReset }
    else d
  | [] => d

/-! ### Traces and consent -/

/-- The trace numbers in their objects (R444); with no record held the oldest is open (log entry 9). -/
def Dev.putTraces (d : Dev) : Dev :=
  match d.flash.traces with
  | t :: _ => (d.put 0x2721 1 d.flash.traceNo).put 0x2721 3 t.number
  | [] => ((d.put 0x2721 1 d.flash.traceNo).put 0x2721 3 (Config.freeValue d.freeIx % 4294967296)).stamped

/-- TRACE_RECORD_WRITE (R442): the oldest queued record is appended; a full region loses its oldest block of 256 records. -/
def traceRecordWriteStep (d : Dev) : Dev :=
  match d.wr.traceQ with
  | t :: rest =>
    if d.powered && !d.frozen && !d.devFaulted .commonFlash then
      { d with
        wr := { d.wr with traceQ := rest }
        flash := d.flash.addTrace t }.putTraces
    else d
  | [] => d

/-- The consent record rewritten with the entry of the change and the serial number (R443). -/
def Dev.putConsent (d : Dev) (on : Bool) (ident : Nat) : Dev :=
  let c : Consent := ⟨on, ident, d.flash.lastEntryOf 0x273001, d.shadowBytes d.clkLane 52 4⟩
  { d with flash := { d.flash with consent := some c } }.put 0x2730 2 ident

/-- RETURN_CONSENT_SET (R443): a new identifier of 64 random bits. -/
def returnConsentSetStep (d : Dev) : Dev :=
  match d.pubOf 0x2730 1 with
  | some e =>
    if e.val.toInt = 1 then
      let ident := leNat ((List.range 8).map fun i => Config.randomByte (d.freeIx + i))
      { (d.dropPub 0x2730 1).putConsent true ident with freeIx := d.freeIx + 8 }.show
    else d
  | none => d

/-- RETURN_CONSENT_CLEAR (R443). -/
def returnConsentClearStep (d : Dev) : Dev :=
  match d.pubOf 0x2730 1 with
  | some e => if e.val.toInt = 0 then ((d.dropPub 0x2730 1).putConsent false 0).show else d
  | none => d

/-- What flash holds of traces and consent, in its objects at start-up (R443, R444). -/
def Dev.putFlashStatus (d : Dev) : Dev :=
  let d := d.putTraces
  match d.flash.consent with
  | some c => (d.put 0x2730 1 (b2n c.on)).put 0x2730 2 (if c.on then c.ident else 0 : Nat)
  | none => d

/-! ### Meanings -/

/-- LULL_N_TRIGGER. -/
def execLullNTrigger (low : LullLow) (s : State) : Host.Outcome State Fault Refusal :=
  .next (s.upd (lullNTriggerStep low))

/-- FREEZE_COMMAND. -/
def execFreezeCommand (s : State) : Host.Outcome State Fault Refusal := .next (s.awake freezeCommandStep)

/-- SELF_DUMP_START. -/
def execSelfDumpStart (quietUs : Nat) (s : State) : Host.Outcome State Fault Refusal :=
  .next (s.upd (selfDumpStartStep quietUs))

/-- SELF_DUMP_COMPLETE. -/
def execSelfDumpComplete (s : State) : Host.Outcome State Fault Refusal := .next (s.upd selfDumpCompleteStep)

/-- RELEASE_CAPTURE. -/
def execReleaseCapture (s : State) : Host.Outcome State Fault Refusal := .next (s.awake releaseCaptureStep)

/-- CAPTURE_ERASE_COMPLETE. -/
def execCaptureEraseComplete (s : State) : Host.Outcome State Fault Refusal := .next (s.awake captureEraseCompleteStep)

/-- TRACE_RECORD_WRITE. -/
def execTraceRecordWrite (s : State) : Host.Outcome State Fault Refusal := .next (s.awake traceRecordWriteStep)

/-- RETURN_CONSENT_SET. -/
def execReturnConsentSet (s : State) : Host.Outcome State Fault Refusal := .next (s.awake returnConsentSetStep)

/-- RETURN_CONSENT_CLEAR. -/
def execReturnConsentClear (s : State) : Host.Outcome State Fault Refusal := .next (s.awake returnConsentClearStep)

end Sys2Proof.Machine
end

