-- ==== Sys2Proof/Machine/Tap.lean ====
section
/-! DEFINITION. The test access port: freeze instructions, identification, boundary scan and object requests (R434, R435,
R440, R441, R462, R463). -/

namespace Sys2Proof.Machine

/-- Whether the TAP has power: it has none in SLEEP and STORAGE. -/
def Dev.tapOn (d : Dev) : Bool := d.boot.phase != .low

/-- An instruction in the register, with what its data register shifts out; EXTEST, HIGHZ and CLAMP hold the gates off and
coast every port while they are there (R462). -/
def Dev.tapInstr (d : Dev) (code : Nat) (bscan : Bool) (out : List Bool) : Dev :=
  { d with tap := { d.tap with ir := code, bscan := bscan, tdo := out } }

/-- The bits of a number, least significant first. -/
def bitsLE (n v : Nat) : List Bool := (List.range n).map fun k => bitOf v k

/-- The bits of bytes, least significant first. -/
def bitsOfBytes (b : List Byte) : List Bool := b.flatMap fun x => bitsLE 8 x.toNat

/-- Every unit coasts and every brake gate is held off as EXTEST, HIGHZ or CLAMP takes effect (R462). -/
def Dev.bscanCoast (d : Dev) : Dev := [LaneId.a, .b].foldl (fun d l => d.chopperOff l ((d.lane l).tick 0)) d.unitsCoast

/-! ### Freeze instructions -/

/-- FREEZE (R429, R434). -/
def freezeStep (d : Dev) : Dev := if d.tapOn then (d.tapInstr 0x40 false [false]).trigger 2 else d

/-- The FZ_STATUS register (R435). -/
def Dev.fzStatus (d : Dev) : Nat :=
  let z := d.frz
  b2n d.frozen + 2 * b2n (d.frozen && z.resumable) + 4 * b2n z.running + 8 * b2n z.done + 16 * b2n z.readDone +
  32 * b2n z.full + 64 * b2n z.refused + 256 * z.slot

/-- FZ_STATUS (R435): 16 bits shifted out. -/
def fzStatusStep (d : Dev) : Dev := if d.tapOn then d.tapInstr 0x41 false (bitsLE 16 d.fzStatus) else d

/-- DUMP_ADDR (R434): a multiple of 4 becomes the offset; other values are ignored. -/
def dumpAddrStep (v : Nat) (d : Dev) : Dev :=
  if d.tapOn then
    let d := d.tapInstr 0x42 false []
    if v % 4 = 0 then { d with tap := { d.tap with dumpAddr := v % 2 ^ 32 } } else d
  else d

/-- One word shifted out of the dump: the offset advances, and READ_COMPLETE is set once all four words of the trailer have
been shifted out (R434, R435). -/
def Dev.shiftWord (d : Dev) : Dev :=
  let o := d.tap.dumpAddr
  let b := if d.frozen then d.dumpWord o else [0, 0, 0, 0]
  let k := if 0x4E5000 ≤ o ∧ o < 0x4E5010 then (o - 0x4E5000) / 4 else 4
  let trail := if d.frozen = true ∧ k < 4 ∧ bitOf d.frz.trail k = false then d.frz.trail + 2 ^ k else d.frz.trail
  { d with
    tap := { d.tap with dumpAddr := (o + 4) % 2 ^ 32, tdo := d.tap.tdo ++ bitsOfBytes b }
    frz := { d.frz with trail := trail, readDone := d.frz.readDone || trail == 15 } }

/-- DUMP_DATA (R434): words of 32 TCK cycles in Shift-DR; outside a freeze zeros. -/
def dumpDataStep (words : Nat) (d : Dev) : Dev :=
  if d.tapOn then (List.range words).foldl (fun d _ => d.shiftWord) (d.tapInstr 0x43 false []) else d

/-- The journal commit that the freeze left torn (R433): its unit is void, still erased, or complete, which is open; a
complete entry has its change go on to publication, and otherwise the same entry is committed in the next unit. -/
def Dev.mendCommit (d : Dev) : Dev :=
  match d.frz.torn, d.wr.running with
  | true, some j =>
    let c := Config.freeValue d.freeIx % 3
    let d := d.stamped
    if c = 0 then
      let u := d.flash.head
      d.voidUnit.journalObjects.journalEvent Ctx.internal 0x21 0 (toLE 4 u)
    else if c = 1 then d
    else ((d.program j).committedJob j).journalObjects
  | _, _ => d

/-- The freeze command withdrawn: an OFF or ARMED port whose unit acted on the freeze alone has its gates held off again, and
a TRIPPED port keeps its safe state (R440). -/
def Dev.withdrawFreeze (d : Dev) (p : PortId) : Dev :=
  let d := d.onPort p fun x => { x with unit := { x.unit with arriving := x.unit.arriving.filter fun c => c.code ≠ 12 } }
  if (d.pstate p == .off || d.pstate p == .armed) && d.pnum p 0x22 2 == 12 && (d.port p).reg.reqUnit.isNone then
    d.releaseGates p
  else d

/-- RESUME (R440): the clocks restart where they stopped, or the instruction is refused. -/
def resumeStep (d : Dev) : Dev :=
  if d.tapOn then
    let d := d.tapInstr 0x44 false [false]
    if d.frozen = false then d
    else if d.frz.resumable = false ∨ d.frz.running = true then { d with frz := { d.frz with refused := true } }
    else
      let d := { d with frozen := false }
      let d := (d.portsPresent.foldl (fun d p => d.withdrawFreeze p) d).mendCommit
      { d with frz := Freeze.atReset }.inc 0x2700 3
  else d

/-- SYSRESET (R292, R434). -/
def sysresetStep (d : Dev) : Dev := if d.tapOn then (d.tapInstr 0x45 false [false]).resetWith 6 0 else d

/-! ### Identification and boundary scan -/

/-- The identification register (R462). -/
def Dev.idcode (d : Dev) : Nat :=
  1 + 2 * 0x5A3 + 2 ^ 12 * d.nat 0x1000 3 + 2 ^ 28 * Config.siliconRevision.toNat

/-- IDCODE (R462): 32 bits shifted out. -/
def idcodeStep (d : Dev) : Dev := if d.tapOn then d.tapInstr 0x01 false (bitsLE 32 d.idcode) else d

/-- A boundary register of 74 cells (R462). -/
def cells74 (b : List Bool) : List Bool := (b ++ List.replicate 74 false).take 74

/-- EXTEST (R462): the pins are captured and shifted out, the cells shifted in drive them. -/
def extestStep (pins drive : List Bool) (d : Dev) : Dev :=
  if d.tapOn then
    let d := (d.tapInstr 0x02 true (cells74 pins)).bscanCoast
    { d with tap := { d.tap with cells := cells74 drive } }
  else d

/-- SAMPLE/PRELOAD (R462): the pins are captured and the cells preloaded, without a hold on the pins. -/
def samplePreloadStep (pins preload : List Bool) (d : Dev) : Dev :=
  if d.tapOn then
    let d := d.tapInstr 0x03 false (cells74 pins)
    { d with tap := { d.tap with cells := cells74 preload } }
  else d

/-- HIGHZ (R462). -/
def highzStep (d : Dev) : Dev := if d.tapOn then (d.tapInstr 0x04 true [false]).bscanCoast else d

/-- CLAMP (R462). -/
def clampStep (d : Dev) : Dev := if d.tapOn then (d.tapInstr 0x05 true [false]).bscanCoast else d

/-- The codes that are instructions of their own (R434, R462, R463). -/
def tapCodes : List Nat := [0x01, 0x02, 0x03, 0x04, 0x05, 0x40, 0x41, 0x42, 0x43, 0x44, 0x45, 0x46]

/-- BYPASS (R462): 0xFF and every code that is not listed select the one-bit register, which passes its input on after the 0
it captures. -/
def bypassStep (code : Nat) (tdi : Bool) (d : Dev) : Dev :=
  if d.tapOn && !tapCodes.contains (code % 256) then d.tapInstr (code % 256) false [false, tdi] else d

/-! ### Object requests -/

/-- OBJ (R405 to R408, R463): at Update-DR the unit shifted in is taken and the outbound one is consumed, if 32 cycles have
passed; otherwise nothing is, and the next outbound unit is marked. In a freeze, in SLEEP and STORAGE and
outside the powered modes zeros are shifted, and in a start-up that BIST halted the BIST result (R291, log entry 142). -/
def objStep (cycles word : Nat) (d : Dev) : Dev :=
  if d.powered = false ∨ d.frozen = true then
    d.tapInstr 0x46 false (bitsLE 32 (if d.boot.phase = .halted then d.nat 0x2000 7 else 0))
  else
    let d := d.loadUnit .tap 3
    let d := d.tapInstr 0x46 false (bitsLE 32 d.tap.link.out)
    if cycles ≠ 32 then d.setLink .tap { d.tap.link with mark := true, asm := none }
    else
      let d := d.setLink .tap { d.tap.link with mark := false }
      (d.consumeUnit .tap).takeUnit .tap (toLE 4 word).reverse

/-- TAP_RESET (R463): Test-Logic-Reset drops an open assembly and every response not yet shifted out in full; the instruction
register returns to IDCODE, and a mark on the next outbound unit stays. -/
def tapResetStep (d : Dev) : Dev :=
  let d := d.onReqPort .tap fun x => { x with tx := [] }
  { d with tap := { d.tap with
    ir := 0x01, bscan := false, tdo := [], link := { UnitLink.atReset with mark := d.tap.link.mark } } }

/-! ### Meanings -/

/-- FREEZE. -/
def execFreeze (s : State) : Host.Outcome State Fault Refusal := .next (s.upd freezeStep)

/-- FZ_STATUS. -/
def execFzStatus (s : State) : Host.Outcome State Fault Refusal := .next (s.upd fzStatusStep)

/-- DUMP_ADDR. -/
def execDumpAddr (v : Nat) (s : State) : Host.Outcome State Fault Refusal := .next (s.upd (dumpAddrStep v))

/-- DUMP_DATA. -/
def execDumpData (words : Nat) (s : State) : Host.Outcome State Fault Refusal := .next (s.upd (dumpDataStep words))

/-- RESUME. -/
def execResume (s : State) : Host.Outcome State Fault Refusal := .next (s.upd resumeStep)

/-- SYSRESET. -/
def execSysreset (s : State) : Host.Outcome State Fault Refusal := .next (s.upd sysresetStep)

/-- IDCODE. -/
def execIdcode (s : State) : Host.Outcome State Fault Refusal := .next (s.upd idcodeStep)

/-- EXTEST. -/
def execExtest (pins drive : List Bool) (s : State) : Host.Outcome State Fault Refusal :=
  .next (s.upd (extestStep pins drive))

/-- SAMPLE_PRELOAD. -/
def execSamplePreload (pins preload : List Bool) (s : State) : Host.Outcome State Fault Refusal :=
  .next (s.upd (samplePreloadStep pins preload))

/-- HIGHZ. -/
def execHighz (s : State) : Host.Outcome State Fault Refusal := .next (s.upd highzStep)

/-- CLAMP. -/
def execClamp (s : State) : Host.Outcome State Fault Refusal := .next (s.upd clampStep)

/-- BYPASS. -/
def execBypass (code : Nat) (tdi : Bool) (s : State) : Host.Outcome State Fault Refusal :=
  .next (s.upd (bypassStep code tdi))

/-- OBJ. -/
def execObj (cycles word : Nat) (s : State) : Host.Outcome State Fault Refusal := .next (s.upd (objStep cycles word))

/-- TAP_RESET. -/
def execTapReset (s : State) : Host.Outcome State Fault Refusal := .next (s.upd tapResetStep)

end Sys2Proof.Machine
end

