-- ==== Sys2Proof/Machine/Boot.lean ====
section
/-! DEFINITION. Start-up from reset release to a powered mode, and the auto-run request (R279, R288 to R291, R305, R375,
R388, R394, R416, R417, R474). -/

namespace Sys2Proof.Machine

/-! ### The OTP shadow and the variant -/

/-- The shadow that a lane reads at start-up: partial and uncorrectable words count as weak (R413, R416). -/
def Fuses.shadow (f : Fuses) : Shadow :=
  { words := f.rows.foldr (fun e m => wordSet m e.1 e.2) f.words
    weak := (List.range 512).filter fun w => f.weak.contains w || f.broken.contains w
    closed := f.closed }

/-- The code of the variant adopted in 0x2400.01 (R428). -/
def variantCode (v : Nat) : Nat := if v = 0x4840 then 0 else if v = 0x4841 then 1 else 2

/-- The enables that have effect (R417): the bits the variant grants, and none without lane B. -/
def Dev.enables (d : Dev) (l : LaneId) : Nat :=
  let v := d.variantOf l
  let b := fun (k : Nat) (ok : Bool) => d.grantsB l && ok && d.feature l k
  bitsToNat [b 0 (v == 0x4840), b 1 (v == 0x4840), b 2 true, b 3 true]

/-- The start-up alarms of the fuse words (R291, R413, R416). -/
def Dev.otpAlarms (d : Dev) (l : LaneId) : Dev :=
  let f := d.fuses
  let priv := List.range 16
  let trim := crc32 (d.shadowBytes l 16 48) != (d.shadowWord l 5).toNat
  let marg := priv.any fun w => f.weak.contains w && !f.broken.contains w
  let ecc := (priv.any fun w => f.broken.contains w) || !variantValid (d.shadowWord l 0).toNat
  let d := if marg then d.putBit 0x2000 2 0 true else d
  let d := if ecc then d.putBit 0x2000 2 1 true else d
  let d := if trim then d.putBit 0x2000 2 2 true else d
  if priv.any fun w => f.partialAt w then d.putBit 0x2400 5 2 true else d

/-- The identity objects and what the fuses give them (R334, R428, R469, R470): 0x2400.01 reports the variant that the part adopts,
TK4822 where R4 makes it adopt that, whatever its marking says (R4, R466). -/
def Dev.putIdentity (d : Dev) (l : LaneId) : Dev :=
  let v := d.variantOf l
  let d := ((d.put 0x2400 1 (variantCode v : Nat)).put 0x2400 2 (d.shadowWord l 0).toNat).put 0x2400 3 (d.enables l : Nat)
  let d := ((d.put 0x1000 3 v).put 0x1000 4 Config.siliconRevision.toNat).put 0x1000 6 Config.bootRomVersion.toNat
  let d := (d.putVal 0x1000 5 (.bytes (d.shadowBytes l 52 4))).putVal 0x1110 2 (.bytes ((d.shadowBytes l 48 2).take 6))
  let d := if d.boot.laneB then d.putVal 0x1120 2 (.bytes ((d.shadowBytes l 50 2).take 6)) else d.put 0x2500 2 2
  PortId.all.foldl (fun d p => d.pput p 0x00 9 p.lane.num) d

/-- The fuse array read into the shadows, the variant fixed, and what the words say (R288, R415 to R418). -/
def Dev.readFuses (d : Dev) (l : LaneId) (otp : OtpReading) : Dev :=
  let f := d.fuses.readAll otp
  let d := { d with fuses := f, otp := { d.otp with shadows := ⟨f.shadow, f.shadow⟩ } }
  let d := { d with boot := { d.boot with laneB := d.grantsB l } }
  (((d.otpAlarms l).putIdentity l).putLocks.putMargins).incBy 0x2400 9 otp.corrected

/-! ### Lanes -/

/-- A lane whose BIST fails is lost, without a fault (R291). -/
def Dev.bistLost (d : Dev) (l : LaneId) : Dev :=
  let d := (d.onLane l fun x => { x with alive := false }).onLane l.other fun x => { x with otherLost := true }
  let d := (d.putBit 0x2000 2 4 true).putBit 0x2000 7 l.num true
  (((d.put 0x2500 (laneStateSub l) 1).put 0x2500 (laneStateSub l + 2) 0).putBit (0x2800 + l.num) 7 2 true).degradeEvent 0

/-- A lane out of its power-on reset, with the result that its BIST will have. -/
def Dev.releaseLane (d : Dev) (l : LaneId) (out bistOk : Bool) : Dev :=
  if out && d.lanesPresent.contains l && !(d.lane l).alive && !d.laneLost l then
    let d := d.onLane l fun x => { x with alive := true }
    if bistOk then d else { d with boot := { d.boot with bistBad := l :: d.boot.bistBad } }
  else d

/-- The end of the BIST step, which follows the decision on the root clock: the lanes that failed are lost (R288, R291). -/
def Dev.bistEnds (d : Dev) : Dev :=
  let d := d.boot.bistBad.foldl (fun d l => d.bistLost l) d
  { d with boot := { d.boot with bistBad := [] } }

/-! ### Flash at start-up -/

/-- The device record in the objects it holds (R343, R394). -/
def Dev.loadRecord (d : Dev) : Dev :=
  let r := d.flash.record
  let d := if d.flash.firstNewer.isNone then d.put 0x1400 6 1 else d
  let d := (d.putVal 0x1210 0 (.bytes r.key)).put 0x1300 1 r.policy
  (d.put 0x1413 1 r.bank).putBit 0x1200 4 0 (allZero r.key)

/-- The boot and catalogue bank in use: the active one, or the other where it fails its check (R288, R291, R395). -/
def Dev.loadBank (d : Dev) : Dev :=
  let use := fun (d : Dev) (n : Nat) =>
    let b := d.flash.bank n
    let d := ((d.put 0x2640 1 (Config.bankCatalogue b).toNat).put 0x2640 2 ((Config.bankKernels b).val + 1 : Nat)).putVal 0x2640 3
      (.bytes (toLE 8 (Config.bankDigest b).toNat))
    (d.put 0x2640 4 n).put 0x1000 7 (Config.bankVersion b).toNat
  let n := d.flash.record.bank
  if bankOk (d.flash.bank n) then use d n
  else
    let d := d.putBit 0x2000 2 5 true
    if bankOk (d.flash.bank (1 - n)) then use d (1 - n) else (d.putBit 0x2000 2 6 true).put 0x2640 4 n

/-- The last programmed unit of the journal checked against the tag before it (R375): a torn unit is voided, one that was
never begun is free again, and a complete one carries the chain on. -/
def Dev.checkJournal (d : Dev) : Dev :=
  let f := d.flash
  let u := (f.head + journalUnits - 1) % journalUnits
  match mapFind u f.units with
  | none => d
  | some b =>
    if allZero b then d
    else if b.all fun x => x == 0xFF then { d with flash := { f with units := mapErase u f.units, head := u } }
    else
      let before := { f with units := mapErase u f.units }
      let prev := match before.entries.getLast? with
        | some e => entryTag e
        | none => f.anchor
      if cmac8 d.chainKey (prev ++ b.take 56) = entryTag b then
        { d with flash := { f with number := nextNumber (entryNumber b), tag := entryTag b } }.putBit 0x1300 8 2 d.chainZero
      else
        ({ d with flash := { f with
            units := mapInsert u (List.replicate 64 0) f.units
            voided := min (f.voided + 1) 4294967295 } }).journalEvent Ctx.internal 0x21 0 (toLE 4 u)

/-- The journal's start-up (R371, R372, R375): an empty region is a journal created, the last unit is checked, and the
start-up event carries reset cause and alarms. -/
def Dev.startJournal (d : Dev) : Dev :=
  let d := if d.flash.units = [] ∧ d.flash.number = 0 then
      d.journalEvent Ctx.internal 0x01 0 ((d.shadowBytes d.clkLane 52 4).take 8)
    else d.checkJournal
  let d := if (d.roleKey d.clkLane 3).isNone then (d.putBit 0x1300 8 2 true).journalEvent Ctx.internal 0x22 0 [] else d
  (d.journalEvent Ctx.internal 0x30 0 (toLE 1 (d.nat 0x2000 3) ++ toLE 2 (d.nat 0x2000 2))).journalObjects

/-- RESET_RELEASE (R288, R388, R416, R417): the lanes that leave their power-on reset; the first starts the boot ROM, which
samples the pins and reads the fuses, and a second that follows in time joins it. The results of both BISTs arrive here and
count once the clocks are decided. -/
def resetReleaseStep (a b : Bool) (psel : Nat) (otp : OtpReading) (bistA bistB : Bool) (d : Dev) : Dev :=
  if d.boot.phase = .held then
    let l : LaneId := if a then .a else .b
    let e := d.readFuses l otp
    if a = false ∧ (b = false ∨ e.boot.laneB = false) then d
    else
      let d := (e.releaseLane .a a bistA).releaseLane .b b bistB
      { d with boot := { d.boot with psel := psel % 8, phase := .boot } }.put 0x1400 3 (psel % 8 : Nat)
  else if d.boot.phase = .boot then (d.releaseLane .a a bistA).releaseLane .b b bistB
  else d

/-! ### Clocks and settings -/

/-- The values of a profile's newest valid half, if they pass their checks (R387). -/
def Dev.readSettings (d : Dev) (n : Nat) : Option (List (Nat × List Byte)) :=
  match d.flash.newest n with
  | none => none
  | some h =>
    let x := d.flash.half n h
    match recordsOf x.records.length x.records with
    | none => none
    | some recs => if (recs.all fun e => d.recordOk e) && (d.withValues recs).setOk then some recs else none

/-- Values loaded at start-up, with the profile they come from, 0xFF for none, and the selection source (R396, R474). -/
def Dev.loadSettings (d : Dev) (recs : List (Nat × List Byte)) (n source : Nat) : Dev :=
  let d := ((d.withValues recs).afterLoad.put 0x1400 1 n).put 0x1400 2 source
  { d with boot := { d.boot with profile := n } }

/-- FACTORY_MINIMAL (R291): every object at its default. -/
def Dev.loadFactory (d : Dev) : Dev := (d.putBit 0x2000 2 8 true).loadSettings [] 0xFF 3

/-- Profile 0 under PROFILE_FALLBACK, or the factory minimal configuration (R291). -/
def Dev.loadFallback (d : Dev) : Dev :=
  let d := d.putBit 0x2000 2 7 true
  match d.readSettings 0 with
  | some recs => d.loadSettings recs 0 2
  | none => d.loadFactory

/-- The profile that the pins select (R288, R291, R388). -/
def Dev.loadSelected (d : Dev) : Dev :=
  let n := d.boot.psel
  match d.readSettings n with
  | some recs => d.loadSettings recs n 0
  | none => if n = 0 then d.loadFactory else d.loadFallback

/-- A calibration pass of every current-sensing port of a working lane, from this instant (R102, R288, R291). -/
def Dev.calibratePorts (d : Dev) : Dev :=
  PortId.all.foldl (fun d p =>
    if (d.lane p.lane).alive then (d.onPort p fun x => { x with fe := { x.fe with pass := none } }).startPass p else d) d

/-- A calibration pass of every general converter of a working lane; they convert from the end of start-up (R266, R269,
R288). -/
def Dev.calibrateGcs (d : Dev) : Dev :=
  GcId.all.foldl (fun d g =>
    let d := d.onGc g fun c => { c with held := true }
    if (d.lane g.lane).alive then d.gcBeginCal g ((d.lane g.lane).clk 0) else d) d

/-- The flash at start-up: device record, bank and journal are verified, and the settings of the profile are loaded (R288, R375,
R394, R474). -/
def Dev.startFlash (d : Dev) : Dev :=
  let d := d.loadRecord.loadBank.startJournal.putFlashStatus
  let d := d.loadSelected.calibratePorts.calibrateGcs
  (List.range 8).foldl (fun d n => d.putDirectory n) d

/-- The clocks are decided: the slot counters and hyperframe indices start at 0 together, the BIST step ends, and the flash is
read; without a lane that passes its BIST, start-up halts (R24, R288, R291). -/
def Dev.startClocks (d : Dev) : Dev :=
  let d := [LaneId.a, .b].foldl (fun d l => d.onLane l fun x => { x with slots := 0, hyper := 0 }) d
  let d := d.bistEnds
  if (d.lane .a).alive || (d.lane .b).alive then
    let d := d.startFlash
    { d with boot := { d.boot with phase := .clocked } }
  else { d with boot := { d.boot with phase := .halted } }

/-- The LFO frequency in mHz from the CLK_E cycles that a lane counts over 4096 LFO cycles (R302). -/
def lfoMilliHz (count : Nat) : Nat := if count = 0 then 0 else (narrow (4096 * 400000000 * 1000) count).toNat

/-- The LFO measured by each working lane against its active clock (R302); the object shows the measurement of the lane that
clocks the common domain (log entry 141). -/
def Dev.measureLfo (d : Dev) (lfoA lfoB : Nat) : Dev :=
  let one := fun (d : Dev) (l : LaneId) (n : Nat) =>
    if (d.lane l).alive then d.onLane l fun x => { x with mon := { x.mon with lfoCount := n } } else d
  let d := one (one d .a lfoA) .b lfoB
  d.put 0x2110 0xA (lfoMilliHz (d.lane d.clkLane).mon.lfoCount)

/-- ROOT_CLOCK_QUALIFIED (R288, R302): the working lanes switch to the root, and measure the LFO against it. -/
def rootClockQualifiedStep (lfoA lfoB : Nat) (d : Dev) : Dev :=
  if d.boot.phase = .boot then
    let d := (d.put 0x2110 1 1).measureLfo lfoA lfoB
    let d := [LaneId.a, .b].foldl (fun d l => if (d.lane l).alive then d.put 0x2110 (srcSub l) 1 else d) d
    d.startClocks
  else d

/-- ROOT_QUALIFICATION_TIMEOUT (R291, R302, R305, R307): the lanes stay on their backup oscillators and FLT_ROOT_CLOCK is
raised. -/
def rootQualificationTimeoutStep (lfoA lfoB : Nat) (d : Dev) : Dev :=
  if d.boot.phase = .boot then
    let d := (d.put 0x2110 4 4).measureLfo lfoA lfoB
    ((((d.putBit 0x2110 9 3 true).putBit 0x2110 9 0 true).deviceFault .rootClock).startClocks)
  else d

/-! ### The image of the profile -/

/-- The image in a profile's newest valid half. -/
def Flash.profileImage (f : Flash) (n : Nat) : List Byte :=
  match f.newest n with
  | some h => (f.half n h).image
  | none => []

/-- The image activated at the end of start-up (R82, R288). -/
def Dev.bootActivate (d : Dev) (im : Image) (source : Nat) : Dev :=
  let d := d.activate im source
  { d with boot := { d.boot with phase := .imageDue } }

/-- IMAGE_HYPERFRAME_START (R44, R79, R80, R82, R92, R132, R232, R266, R288, R441): 2000 slots after the activation, hyperframe
index 0 opens in both lanes, the monitors are armed, and at start-up STANDBY is entered. -/
def imageHyperframeStartStep (d : Dev) : Dev :=
  match d.activeAt, d.image with
  | some t, some im =>
    if t ≤ d.slotNow ∧ d.frozen = false then
      let d := { d with monArmed := true, activeAt := none }
      let d := [LaneId.a, .b].foldl (fun d l => d.onLane l fun x => { x with hyper := 0 }) d
      let d := PortId.all.foldl (fun d p => (d.startPort im p).convert p) d
      let d := GcId.all.foldl Dev.gcRelease d.comparePairs
      (if d.boot.phase = .imageDue then d.reachStandby else d).show
    else d
  | _, _ => d

/-- STARTUP_IMAGE_CHECK_COMPLETE (R74, R82, R288 to R291): the image of the loaded profile is activated, or profile 0 is
loaded in its place, or the factory minimal image; without a catalogue STANDBY is entered with no image. -/
def startupImageCheckCompleteStep (d : Dev) : Dev :=
  if d.boot.phase = .clocked then
    let n := d.boot.profile
    if d.bit 0x2000 2 6 then d.reachStandby
    else if n = 0xFF then d.bootActivate factoryMinimal 0x20
    else
      let v := d.checkImage (d.flash.profileImage n)
      let d := d.putVerdict v (d.bit 0x2000 2 7)
      match v with
      | .accepted im => { d with wr := { d.wr with staged := some im } }.bootActivate im n
      | .refused _ _ _ _ =>
        if n ≠ 0 then d.loadFallback.calibratePorts
        else d.loadFactory.bootActivate factoryMinimal 0x20
  else d

/-! ### Auto-run -/

/-- AUTO_RUN (R276, R279): 4000 slots after STANDBY the device writes 4 to 0x2001.00 itself, with origin internal: judged,
journaled or counted, and published like a host's (R366, R373). -/
def autoRunStep (d : Dev) : Dev :=
  match d.boot.autoAt with
  | none => d
  | some t =>
    if d.powered = true ∧ t ≤ d.slotNow then
      let d := { d with boot := { d.boot with autoAt := none } }
      let l := d.clkLane
      let s := (d.lane l).slots
      let k := 0x200100
      let raw : List Byte := [4]
      match d.judge Ctx.internal 0 k raw with
      | .ok =>
        if d.queueRoom then (d.formChange l Ctx.internal (s % 2 ^ 32) 0 k raw none).stamped
        else (d.inc 0x1300 0xB).putBit 0x2000 2 11 true
      | res => (d.recordRefusal Ctx.internal l k raw res).putBit 0x2000 2 11 true
    else d

/-! ### Meanings -/

/-- RESET_RELEASE. -/
def execResetRelease (a b : Bool) (psel : Nat) (otp : OtpReading) (bistA bistB : Bool) (s : State) :
    Host.Outcome State Fault Refusal :=
  .next (s.awake (resetReleaseStep a b psel otp bistA bistB))

/-- ROOT_CLOCK_QUALIFIED. -/
def execRootClockQualified (lfo : LfoSense) (s : State) : Host.Outcome State Fault Refusal :=
  .next (s.awake (rootClockQualifiedStep lfo.a lfo.b))

/-- ROOT_QUALIFICATION_TIMEOUT. -/
def execRootQualificationTimeout (lfo : LfoSense) (s : State) : Host.Outcome State Fault Refusal :=
  .next (s.awake (rootQualificationTimeoutStep lfo.a lfo.b))

/-- STARTUP_IMAGE_CHECK_COMPLETE. -/
def execStartupImageCheckComplete (s : State) : Host.Outcome State Fault Refusal :=
  .next (s.awake startupImageCheckCompleteStep)

/-- AUTO_RUN. -/
def execAutoRun (s : State) : Host.Outcome State Fault Refusal := .next (s.awake autoRunStep)

/-- IMAGE_HYPERFRAME_START. -/
def execImageHyperframeStart (s : State) : Host.Outcome State Fault Refusal := .next (s.awake imageHyperframeStartStep)

end Sys2Proof.Machine
end

