-- ==== Sys2Proof/Machine/Modulation.lean ====
section
/-! DEFINITION. The modulator: edge placement with carried residues, dead time, clamping, the judgement of the duty
cell at a carrier start, and all that a carrier start produces (R14, R15, R45, R76, R87 to R93, R106 to R110, R126,
R136, R206). -/

namespace Sys2Proof.Machine

/-- What the modulator does with a period. -/
inductive Drive where
  | duties (v : DutyVal)     -- edges from the three duty codes
  | zvv                      -- zero-voltage vector fallback: exactly half
  | off                      -- all six gates off
deriving DecidableEq, Repr

/-- One phase of one period: residues, transitions and the state in which it ends. -/
structure PhasePlan where
  rhoR : Int
  rhoF : Int
  trans : List Trans
  fin : PhaseEnd
  clamped : Bool
  code : Nat          -- duty as placed, as a code (R206)
deriving DecidableEq, Repr

/-- Edge placement with a carried residue (R107): the exact edge and the residue in 1/131070 step, the placed edge in
steps. -/
def placeEdge (exact rho : Int) : Int × Int :=
  let x := exact + rho
  let placed := (x + 65535) / 131070
  (placed, x - placed * 131070)

/-- The boundary change that opens a period: from how the phase ended to the side that is on at the period's start
(R109): the outgoing gate off at the boundary, the incoming on one dead time later. -/
def boundary (prev : PhaseEnd) (high : Bool) (dt : Int) : List Trans :=
  match prev, high with
  | .low, false => []
  | .high, true => []
  | _, h => [⟨0, dt, h, false⟩]

/-- The plan of one unclamped phase with placed edges (R107, R108). -/
def edgePlan (prev : PhaseEnd) (r f dt rhoR rhoF P : Int) : PhasePlan :=
  { rhoR := rhoR, rhoF := rhoF
    trans := boundary prev false dt ++ [⟨r, r + dt, true, false⟩, ⟨f, f + dt, false, false⟩]
    fin := .low, clamped := false
    code := (satU 16 (roundHA ((f - r) * 65535) P)).toNat }

/-- The plan of one phase at a duty code d in a period of P steps (R107 to R109); dt and mp are dead time and minimum
pulse in steps. -/
def phasePlan (prev : PhaseEnd) (rhoR rhoF : Int) (d : Nat) (P dt mp : Int) : PhasePlan :=
  let h := (d : Int) * P                       -- high-side interval in 1/65535 step
  if h < (dt + mp) * 65535 then
    ⟨0, 0, boundary prev false dt, .low, true, 0⟩
  else if P * 65535 - h < (dt + mp) * 65535 then
    ⟨0, 0, boundary prev true dt, .high, true, 65535⟩
  else
    let r := placeEdge (P * 65535 - h) rhoR
    let f := placeEdge (P * 65535 + h) rhoF
    edgePlan prev r.1 f.1 dt r.2 f.2 P

/-- The plan of one phase for what the modulator does with the period (R110). -/
def Drive.plan (v : Drive) (prev : PhaseEnd) (rhoR rhoF : Int) (pick : DutyVal → Nat) (P dt mp : Int) : PhasePlan :=
  match v with
  | .duties u => phasePlan prev rhoR rhoF (pick u) P dt mp
  | .zvv => edgePlan prev (P / 4) (3 * P / 4) dt 0 0 P
  | .off => ⟨rhoR, rhoF, [], .off, false, 0⟩

/-- The transitions of the ended period on the new period's axis; a turn-on still pending at a boundary change is
cancelled (R109). -/
def shiftTrans (P : Int) (change : Bool) (ts : List Trans) : List Trans :=
  ts.map fun t => ⟨t.toff - P, t.ton - P, t.rising, t.cancelled || (change && 0 < t.ton - P)⟩

/-- The segment pattern's mode (R112). -/
def patMode (pattern : Nat) : Nat := field pattern 4 3

/-- What the modulator does with the coming period (R76, R110): it judges the duty cell, as visible at the start of
slot c and with c − 1 as the current count, only in ALIGN, RAMP and CLOSED. -/
def Dev.chooseDrive (d : Dev) (p : PortId) : Drive :=
  let x := d.port p
  if x.reg.state.driving then
    let c := x.cons.dutyM
    let r := x.cells.duty.cur
    if c.stale r (d.slotOf p - 1) then
      match c.rule with
      | .zvv => .zvv
      | _ => .off
    else if patMode r.val.pattern = 3 then .off
    else .duties r.val
  else .off

/-- The modulator's judgement entered in consumer and counters, with a trip rule's action (R76, R78, R80). -/
def Dev.judgeDuty (d : Dev) (p : PortId) : Dev :=
  let x := d.port p
  if x.reg.state.driving then
    let c := x.cons.dutyM
    let r := x.cells.duty.cur
    let s := d.slotOf p - 1
    let d := (d.onPort p fun x => { x with cons := { x.cons with dutyM := c.after r s } }).countRead p 7 (c.stale r s)
      (c.skipped r)
    d.tripIf p (c.stale r s && c.rule == .trip)
  else d

/-- The plans of the three phases for the period that starts. -/
def Dev.plans (d : Dev) (p : PortId) (v : Drive) : Tri PhasePlan :=
  let m := (d.port p).mod
  let P : Int := 400 * d.frame p
  let dt := d.pnum p 0x40 2
  let mp := d.pnum p 0x40 6
  { u := v.plan m.ends.u m.rhoR.u m.rhoF.u (fun z => z.du) P dt mp
    v := v.plan m.ends.v m.rhoR.v m.rhoF.v (fun z => z.dv) P dt mp
    w := v.plan m.ends.w m.rhoR.w m.rhoF.w (fun z => z.dw) P dt mp }

/-- Whether a plan changes the phase at the boundary. -/
def PhasePlan.changes (q : PhasePlan) : Bool := q.trans.any fun t => t.toff == 0

/-- The transitions of a period on the axis of the period before it. -/
def nextTrans (P : Int) (q : Tri PhasePlan) : Tri (List Trans) :=
  let f := fun (ts : List Trans) => ts.map fun t => { t with toff := t.toff + P, ton := t.ton + P }
  ⟨f q.u.trans, f q.v.trans, f q.w.trans⟩

/-- Whether the dead times of all three phases overlap at an instant of a period (R206, R108). -/
def deadTogether (u v w : List Trans) : Bool :=
  u.any fun a => v.any fun b => w.any fun c =>
    decide (max (max a.toff (max b.toff c.toff)) 0 < min a.ton (min b.ton c.ton))

/-- The modulator with a new period begun; safe is the unit's output, under which coast has all gates off and ASC the low
sides on once its dead time has passed (R135, R206). -/
def Modulator.begin (m : Modulator) (slot : Nat) (v : Drive) (q : Tri PhasePlan) (P : Int) (safe : Nat) : Modulator :=
  let pu := shiftTrans P q.u.changes m.trans.u
  let pv := shiftTrans P q.v.changes m.trans.v
  let pw := shiftTrans P q.w.changes m.trans.w
  { m with
    rhoR := ⟨q.u.rhoR, q.v.rhoR, q.w.rhoR⟩
    rhoF := ⟨q.u.rhoF, q.v.rhoF, q.w.rhoF⟩
    trans := ⟨q.u.trans, q.v.trans, q.w.trans⟩
    prevTrans := ⟨pu, pv, pw⟩
    ends := ⟨q.u.fin, q.v.fin, q.w.fin⟩
    startSlot := slot
    running := true
    driving := v ≠ .off
    taken := ⟨q.u.code, q.v.code, q.w.code, match v with
      | .duties u => u.pattern
      | .zvv => 16
      | .off => 24⟩
    periods := m.periods + 1
    lowsAt := m.lowsAt - P
    offSeen := if safe = 2 then decide (0 < m.lowsAt - P)
      else safe == 1 || v == .off || deadTogether (pu ++ q.u.trans) (pv ++ q.v.trans) (pw ++ q.w.trans) }

/-- The clamped phases of a period (R109). -/
def clampCount (q : Tri PhasePlan) : Nat := b2n q.u.clamped + b2n q.v.clamped + b2n q.w.clamped

/-- A port's carrier starts at this slot boundary: its period grid φ + j × k passes here (R45), and it has not
started one in this slot. -/
def Dev.carrierDue (d : Dev) (p : PortId) : Bool :=
  match d.slotEntry p with
  | none => false
  | some e =>
    let l := d.lane p.lane
    d.clocked p.lane && d.monArmed && e.phi ≤ l.hyper && (l.hyper - e.phi) % e.k == 0 &&
    !((d.port p).mod.running && (d.port p).mod.startSlot == l.slots)

/-! ### What the ended period leaves -/

/-- A bus voltage in mV as an S14 code of the port's voltage scaling (R144): V_LSB is V_FS / 8192. -/
def busCode (mvSum n vfs : Int) : Int := satS 14 (roundHA (mvSum * 8192) (n * vfs * 10))

/-- The highest over-voltage threshold any sample reached (R136). -/
def Dev.ovState (d : Dev) (p : PortId) (ss : List Nat) : Nat :=
  let top : Int := (ss.foldl max 0 : Nat)
  if d.pnum p 0x20 0xF * 10 ≤ top then 3
  else if d.pnum p 0x20 0xE * 10 ≤ top then 2
  else if d.pnum p 0x20 0xD * 10 ≤ top then 1
  else 0

/-- The bus-voltage cell's value for the ended period; with no sample the previous value stays (R75, R136). -/
def Dev.busValue (d : Dev) (p : PortId) (ss : List Nat) : BusVal :=
  if ss = [] then (d.port p).cells.bus.cur.val
  else ⟨busCode (ss.foldl (· + ·) 0 : Nat) ss.length (d.pnum p 0x50 1), d.ovState p ss⟩

/-- Current and bus-voltage cells of the ended period, written in the slot that opens at its end (R14, R73, R93),
with the bus voltage reported in 0x3x22.09 and the period's counters. -/
def Dev.finishPeriod (d : Dev) (p : PortId) (next : Tri (List Trans)) (k : Nat) (o : PeriodIn) : Dev :=
  let s := d.slotOf p
  let cv := d.currentValue p next k o.cur
  let bv := d.busValue p o.bus
  let fe := d.carryChannels p next k o.cur
  let latch : CatchLatch :=
    let m := (d.port p).mod
    ⟨m.taken.du, m.taken.dv, m.taken.dw, bv.v, m.offSeen⟩
  let d := d.onPort p fun x => { x with
    cells := { x.cells with
      current := x.cells.current.write (s + 1) s false cv
      bus := x.cells.bus.write (s + 1) s false bv }
    fe := fe
    e1 := { x.e1 with latchNext := some latch }
    unit := { x.unit with busMv := (o.bus.getLast?).getD x.unit.busMv } }
  let d := d.countPeriod p o.cur cv
  if o.bus = [] then d
  else d.pput p 0x22 9 (roundHA ((o.bus.foldl (· + ·) 0 : Nat) : Int) (10 * (o.bus.length : Int)))

/-- Whether a phase's high side was turned on in a period: it has a rising transition whose turn-on was not
cancelled. -/
def turnedOn (ts : List Trans) : Bool := ts.any fun t => t.rising && !t.cancelled

/-- The bootstrap check of one phase over the ended period (R126): a voltage below 7.5 V at the high-side turn-on
withholds the pulse. -/
def withheld (ts : List Trans) (bootMv : Nat) : Bool := turnedOn ts && decide (bootMv < 7500)

/-- The count of consecutive carrier periods with a withheld pulse (R126). -/
def withheldRun (n : Nat) (ts : List Trans) (bootMv : Nat) : Nat := if withheld ts bootMv then n + 1 else 0

/-- Whether a withheld pulse lasts past the period's end: until the phase's next commanded transition both of its gates stay
off (R126). -/
def stillWithheld (old : Bool) (ts : List Trans) (fin : PhaseEnd) (bootMv : Nat) : Bool :=
  fin == .high && (if ts.isEmpty then old else withheld ts bootMv)

/-- The drivers' checks over the ended period: withheld pulses in 0x3x22.08, interlock delays above 200 ns in
0x3x22.0B (R124, R126). -/
def Dev.driverPeriod (d : Dev) (p : PortId) (o : PeriodIn) : Dev :=
  let t := (d.port p).mod.trans
  let n := b2n (withheld t.u o.bootU) + b2n (withheld t.v o.bootV) + b2n (withheld t.w o.bootW)
  let e := (d.port p).mod.ends
  let d := d.onPort p fun x => { x with unit := { x.unit with
    bootWithheld := ⟨withheldRun x.unit.bootWithheld.u t.u o.bootU, withheldRun x.unit.bootWithheld.v t.v o.bootV,
      withheldRun x.unit.bootWithheld.w t.w o.bootW⟩
    withheld := ⟨stillWithheld x.unit.withheld.u t.u e.u o.bootU, stillWithheld x.unit.withheld.v t.v e.v o.bootV,
      stillWithheld x.unit.withheld.w t.w e.w o.bootW⟩ } }
  (d.incBy (pidx p 0x22) 8 n).incBy (pidx p 0x22) 0xB (o.interlock.filter fun ns => 200 < ns).length

/-- A phase that the new period changes at its start is no longer withheld (R126). -/
def Dev.openPeriod (d : Dev) (p : PortId) (q : Tri PhasePlan) : Dev :=
  d.onPort p fun x => { x with unit := { x.unit with withheld :=
    ⟨x.unit.withheld.u && !q.u.changes, x.unit.withheld.v && !q.v.changes, x.unit.withheld.w && !q.w.changes⟩ } }

/-- CARRIER_PERIOD_START (R14, R15, R45, R76, R93, R106 to R110): the ended period's cells, latch and counters are
produced, the modulator judges the duty cell and the new period's edges are placed. -/
def carrierPeriodStartStep (p : PortId) (o : PeriodIn) (d : Dev) : Dev :=
  if d.carrierDue p then
    let k := d.frame p
    let v := d.chooseDrive p
    let q := d.plans p v
    let d := if (d.port p).mod.running then (d.driverPeriod p o).finishPeriod p (nextTrans (400 * k) q) k o else d
    let s := d.slotOf p
    let d := (d.judgeDuty p).openPeriod p q
    let safe := d.safeOut p
    let d := d.onPort p fun x => { x with mod := x.mod.begin s v q (400 * k) safe }
    d.incBy (pidx p 0x40) 0x13 (clampCount q)
  else d

/-- CARRIER_PERIOD_START. -/
def execCarrierPeriodStart (p : PortId) (obs : PeriodIn) (s : State) : Host.Outcome State Fault Refusal :=
  .next (s.awake (carrierPeriodStartStep p obs))

end Sys2Proof.Machine
end

