-- ==== Sys2Proof/Machine/Kernels0.lean ====
section
/-! DEFINITION. The kernels of engine 0, the current path (R94 to R96, R111 to R116, R137, R146 to R158, R234, R235,
R472). Internal values have 16 fractional bits (R145); gains and motor parameters are applied in physical units
through their code form (R146). -/

namespace Sys2Proof.Machine

/-- Engine 0 of a port changed by f. -/
def Dev.onE0 (d : Dev) (p : PortId) (f : E0 → E0) : Dev := d.onPort p fun x => { x with e0 := f x.e0 }

/-- The frame values of engine 0 changed by f. -/
def E0.onFr (e : E0) (f : E0Frame → E0Frame) : E0 := { e with fr := f e.fr }

/-- The states of engine 0 changed by f. -/
def E0.onSt (e : E0) (f : E0State → E0State) : E0 := { e with st := f e.st }

/-- The flags of engine 0 changed by f. -/
def E0.onFl (e : E0) (f : E0Flags → E0Flags) : E0 := { e with fl := f e.fl }

/-- A kernel's meaning applied when the active image places it at tick t of the present slot. -/
def kernel (p : PortId) (r : EngineRole) (id t : Nat) (f : Dev → Dev) (d : Dev) : Dev :=
  if d.runs p r id t then f d else d

/-- ω L i as a voltage in Q16 codes: ω in angle-cell units, L in nH, i in Q16 codes (R146, R152). -/
def Dev.emfL (d : Dev) (p : PortId) (w l i : Int) : Int := narrow (w * l * i * twoPi40 * 250000) (2 ^ 70 * d.grv p)

/-- ω ψ as a voltage in Q16 codes: ψ in µWb (R146, R152). -/
def Dev.emfPsi (d : Dev) (p : PortId) (w psi : Int) : Int :=
  narrow (w * psi * twoPi40 * 1638400 * 65536) (2 ^ 70 * d.pnum p 0x50 1)

/-- R i as a voltage in Q16 codes: R in µΩ (R146). -/
def Dev.dropR (d : Dev) (p : PortId) (r i : Int) : Int := narrow (r * i * 125) (d.grv p)

/-- A converted gain applied to a value (R146). -/
def Ratio.app (r : Ratio) (x : Int) : Int := narrow (r.num * x) r.den

/-- A voltage saturated at ± 8191 codes, in Q16 (R144). -/
def satV (v : Int) : Int := clampAbs (q16 8191) v

/-- A voltage in mV as Q16 codes (R144). -/
def Dev.mvCode (d : Dev) (p : PortId) (mv : Int) : Int := satV <| narrow (mv * 8192 * 65536) (d.pnum p 0x50 1 * 10)

/-- The port state that command flags show (R169). -/
def flagState (flags : Nat) : Nat := flags % 8

/-- Whether command flags show ALIGN, RAMP or CLOSED. -/
def flagDriving (flags : Nat) : Bool := 2 ≤ flagState flags && flagState flags ≤ 4

/-- The flags of a frame, where its controller states are held, with those states as they are when held (R153): what a kernel of
the frame has made of them already is taken back. -/
def E0.withFlags (e : E0) (f : E0Flags) : E0 :=
  { e with
    fl := f
    st := if f.hold then { e.st with xd := e.st.xdHold, xq := e.st.xqHold, deltaD := 0, deltaQ := 0, idFw := e.st.idFwHold }
      else e.st }

/-- The effect of a stale current, angle or bus-voltage cell on the frame (R153): `hold` where the controller states are
held. -/
def E0.stale (e : E0) (rule : Fallback) (holdAlways : Bool) : E0 :=
  e.withFlags { e.fl with
    fallback := true
    hold := e.fl.hold || holdAlways || rule == .zvv || rule == .coast || rule == .trip
    zvv := e.fl.zvv || rule == .zvv
    coast := e.fl.coast || rule == .coast }

/-- Engine 0 at its first kernel of a frame: the flags of the frame start anew, what it may hold is what it begins with, and the
recorded angles are one frame older (R95, R148, R153). -/
def E0.newFrame (e : E0) (start : Nat) : E0 :=
  { e with
    frame := start
    st := { e.st with
      formed := false, xdHold := e.st.xd, xqHold := e.st.xq, idFwHold := e.st.idFw
      thetaS1 := e.st.thetaS2, wS1 := e.st.wS2, thetaS2 := e.st.thetaS, wS2 := e.st.wS }
    fl := { e.fl with
      hold := false, coast := false, zvv := false, fallback := false, volLim := false, mtpaMis := false, ovm := false } }

/-! ### Currents -/

/-- The predicted phase currents of R95 in codes, from d and q currents (Q16) at an angle (Q16 codes). -/
def predict (id iq th : Int) : Int × Int × Int :=
  let ia := mulQ id (cosQ th) - mulQ iq (sinQ th)
  let ib := mulQ id (sinQ th) + mulQ iq (cosQ th)
  let h := narrow (mulSqrt3 ib) 2
  (ofQ ia, ofQ (-(narrow ia 2) + h), ofQ (-(narrow ia 2) - h))

/-- The phase currents passed on for a classification of the channels (R95). -/
def reconstruct (uPoor vPoor : Bool) (iu iv : Int) (pr : Int × Int × Int) : Int × Int × Int :=
  match uPoor, vPoor with
  | false, false => (iu, iv, -(iu + iv))
  | true, false => (-(iv + pr.2.2), iv, pr.2.2)
  | false, true => (iu, -(iu + pr.2.2), pr.2.2)
  | true, true => (pr.1, pr.2.1, pr.2.2)

/-- K_IIN (R94 to R96): the current cell is read and classified, a phase of low quality rebuilt, the both-poor count
kept while the command flags show a driving port. The flags are those of the setpoint cell as visible in this slot (R472); the
look at it is no judged read of that cell's consumer (DEDUCED, log entry 168). -/
def kIinBody (p : PortId) (t : Nat) (d : Dev) : Dev :=
  let x := d.port p
  let s := d.slotOf p
  let r := x.cells.current.cur
  let c := x.cons.cur0
  let st := c.stale r s
  let c' := c.after r s
  let v := c'.held
  let up := d.poor p v.uValid v.uGap
  let vp := d.poor p v.vValid v.vGap
  let k : Int := d.frame p
  let th := x.e0.st.thetaS1 + narrow (x.e0.st.wS1 * k) 2
  let i := reconstruct up vp v.iu v.iv (predict x.e0.st.recId x.e0.st.recIq th)
  let flags := (x.cons.sp0.after x.cells.setpoint.cur s).held.flags
  let n := if st then x.e0.st.bothPoor else if up && vp then x.e0.st.bothPoor + b2n (flagDriving flags) else 0
  let e : E0 := { x.e0 with
    fr := { x.e0.fr with iu := i.1, iv := i.2.1, iw := i.2.2 }
    st := { x.e0.st with bothPoor := n, qualSlot := s + lastSlots t 164 }
    fl := { x.e0.fl with uPoor := up, vPoor := vp } }
  let d := d.onPort p fun x => { x with cons := { x.cons with cur0 := c' }, e0 := if st then e.stale c.rule true else e }
  (d.countRead p 1 st (c.skipped r)).tripIf p (st && c.rule == .trip)

/-- A signed difference of two 32-bit slot counts. -/
def slotDiff (a b : Int) : Int := (a - b + 2147483648) % 4294967296 - 2147483648

/-- θ(c) of R148 in Q16 codes: the cell's angle carried from its write slot w to slot c. -/
def angleAt (a : AngVal) (w c : Int) : Int := wrapAngQ (q16 a.angle + a.speed * slotDiff c w)

/-- K_ANG_IN (R148): the three angles of the frame. -/
def kAngInBody (p : PortId) (d : Dev) : Dev :=
  let x := d.port p
  let s := d.slotOf p
  let r := x.cells.angle.cur
  let c := x.cons.ang0
  let st := c.stale r s
  let c' := c.after r s
  let a := c'.held
  let w := if st then x.e0.fl.wCell else r.wslot
  let k : Int := d.frame p
  let cn : Int := (x.cells.current.cur.wslot : Int) - k
  let half := narrow (a.speed * k) 2
  let t2 := angleAt a w (cn + 2 * k)
  let e : E0 := { x.e0 with
    fr := { x.e0.fr with
      thetaMeas := wrapAngQ (angleAt a w cn + half)
      thetaApply := wrapAngQ (t2 + half)
      omega := a.speed }
    st := { x.e0.st with thetaS := t2, wS := a.speed }
    fl := { x.e0.fl with wCell := w, angHeld := a } }
  let d := d.onPort p fun x => { x with cons := { x.cons with ang0 := c' }, e0 := if st then e.stale c.rule true else e }
  (d.countRead p 4 st (c.skipped r)).tripIf p (st && c.rule == .trip)

/-- K_VBUS_IN (R137, R153): the bus voltage of the frame. -/
def kVbusInBody (p : PortId) (d : Dev) : Dev :=
  let x := d.port p
  let s := d.slotOf p
  let r := x.cells.bus.cur
  let c := x.cons.bus0
  let st := c.stale r s
  let c' := c.after r s
  let e : E0 := { x.e0 with fr := { x.e0.fr with vbus := c'.held.v } }
  let d := d.onPort p fun x => { x with cons := { x.cons with bus0 := c' }, e0 := if st then e.stale c.rule false else e }
  (d.countRead p 8 st (c.skipped r)).tripIf p (st && c.rule == .trip)

/-- iα and iβ in Q16 codes from phase currents in codes (R147). -/
def clarke (iu iv iw : Int) : Int × Int :=
  (narrow (q16 (2 * iu - iv - iw)) 3, divSqrt3 (q16 (iv - iw)))

/-- K_CLARKE (R147). -/
def kClarkeBody (p : PortId) (d : Dev) : Dev :=
  d.onE0 p fun e => e.onFr fun f =>
    { f with ialpha := (clarke f.iu f.iv f.iw).1, ibeta := (clarke f.iu f.iv f.iw).2 }

/-- Rotation of (a, b) into the frame at an angle (R149). -/
def park (a b th : Int) : Int × Int := (mulQ a (cosQ th) + mulQ b (sinQ th), mulQ b (cosQ th) - mulQ a (sinQ th))

/-- Rotation of (d, q) out of the frame at an angle (R149). -/
def ipark (a b th : Int) : Int × Int := (mulQ a (cosQ th) - mulQ b (sinQ th), mulQ a (sinQ th) + mulQ b (cosQ th))

/-- K_PARK (R149): the measured d and q currents, which also become the record of R95. -/
def kParkBody (p : PortId) (d : Dev) : Dev :=
  d.onE0 p fun e =>
    let i := park e.fr.ialpha e.fr.ibeta e.fr.thetaMeas
    { e with fr := { e.fr with id := i.1, iq := i.2 }, st := { e.st with recId := i.1, recIq := i.2 } }

/-! ### Controllers -/

/-- The share factor g that a port's pair register supplies: 2 in the SOLO state of its own lane (R234). -/
def Dev.share (d : Dev) (p : PortId) : Nat :=
  if d.paired p && (d.port p).pair.state == p.lane.num + 1 then 2 else 1

/-- I_regen of R137 in Q16 codes: Ir in Q16 codes, V the bus voltage code. -/
def Dev.regenLimit (d : Dev) (p : PortId) (ir vbus : Int) (block : Bool) : Int :=
  let v := vbus * d.pnum p 0x50 1                       -- in 10 mV / 8192
  let ov1 := d.pnum p 0x20 0xD * 8192
  let ov2 := d.pnum p 0x20 0xE * 8192
  let a := d.pnum p 0x20 0x10
  if block then 0
  else if v < ov1 then ir
  else if v < ov2 then ir - narrow ((1000 - a) * ir * (v - ov1)) (1000 * (ov2 - ov1))
  else narrow (a * ir) 1000

/-- Steps 3, 4 and 6 of R158 on a reference pair in Q16 codes: circle of radius I_lim, then the regenerative limit.
Also whether the circle and whether the regenerative limit changed a value. -/
def Dev.limitRefs (d : Dev) (p : PortId) (ia iqs lim w vbus : Int) (block : Bool) : Int × Int × Bool × Bool :=
  let idr := clampAbs lim ia
  let mx := sqrtI (lim * lim - idr * idr)
  let iq1 := clampAbs mx iqs
  let reg := w ≠ 0 && sgn iq1 * sgn w < 0
  let rl := d.regenLimit p (min (q16 (d.pnum p 0x90 2)) lim) vbus block
  let iq2 := if reg then clampAbs rl iq1 else iq1
  (idr, iq2, idr ≠ ia || iq1 ≠ iqs, iq2 ≠ iq1)

/-- The references in force, scaled by g under the limits (R150, R234). -/
def Dev.scaledRefs (d : Dev) (p : PortId) (g : Nat) : Int × Int :=
  let e := (d.port p).e0
  if d.paired p then
    let r := d.limitRefs p (e.st.idRef * g) (e.st.iqRef * g) (q16 e.fl.sp.lim) e.fr.omega e.fr.vbus
      (bitOf e.fl.sp.flags 15)
    (r.1, r.2.1)
  else (e.st.idRef, e.st.iqRef)

/-- One axis of the PI controller of R151: output and next state; anti-windup in ‰. -/
def Dev.piAxis (d : Dev) (p : PortId) (kp ki : Ratio) (e x delta : Int) : Int × Int :=
  let u := kp.app e + x
  let x' := x + ki.app e + narrow (d.pnum p 0x50 6 * delta) 1000
  (satV u, satV x')

/-- K_PI_DQ (R150, R151, R153, R234, R235). Rs × Δi is added to the integrators behind the frame's output (DESIGN CHOICE, log entry
166). -/
def kPiDqBody (p : PortId) (d : Dev) : Dev :=
  let e := (d.port p).e0
  if flagDriving e.fl.sp.flags then
    let g := d.share p
    let r := d.scaledRefs p g
    let old := d.scaledRefs p e.st.gLast
    let change := g ≠ e.st.gLast
    let dD := if change then r.1 - old.1 else e.st.stepD
    let dQ := if change then r.2 - old.2 else e.st.stepQ
    let left := if change then 2 else e.st.stepLeft
    let gs := e.gains
    let pd := d.piAxis p gs.kpD gs.kiD (r.1 - e.fr.id) e.st.xd e.st.deltaD
    let pq := d.piAxis p gs.kpQ gs.kiQ (r.2 - e.fr.iq) e.st.xq e.st.deltaQ
    let addD := if left = 0 then 0 else gs.stepD.app dD
    let addQ := if left = 0 then 0 else gs.stepQ.app dQ
    let stepD := if change then gs.rs.app dD else 0
    let stepQ := if change then gs.rs.app dQ else 0
    let xd := (if e.fl.hold then e.st.xd else pd.2) + stepD
    let xq := (if e.fl.hold then e.st.xq else pq.2) + stepQ
    d.onE0 p fun e => { e with
      fr := { e.fr with ud := satV (pd.1 + addD), uq := satV (pq.1 + addQ) }
      st := { e.st with
        formed := true, xd := satV xd, xq := satV xq, xdHold := satV (e.st.xd + stepD), xqHold := satV (e.st.xq + stepQ)
        idS := r.1, iqS := r.2, gLast := g, stepLeft := left - 1, stepD := dD, stepQ := dQ } }
  else
    let g := d.share p
    let pd := d.piAxis p e.gains.kpD ⟨0, 1⟩ (-e.fr.id) 0 0
    let pq := d.piAxis p e.gains.kpQ ⟨0, 1⟩ (-e.fr.iq) 0 0
    d.onE0 p fun e => { e with
      fr := { e.fr with ud := pd.1, uq := pq.1 }
      st := { e.st with
        formed := true, xd := 0, xq := 0, xdHold := 0, xqHold := 0, deltaD := 0, deltaQ := 0
        idFw := 0, idRef := 0, iqRef := 0, idS := 0, iqS := 0
        gLast := g, stepLeft := 0, stepD := 0, stepQ := 0 } }

/-- K_DECOUPLE (R152). -/
def kDecoupleBody (p : PortId) (d : Dev) : Dev :=
  let e := (d.port p).e0
  let m := d.pnum p 0x50 7
  let meas := d.pnum p 0x50 8 == 1
  let ix := if meas then e.fr.id else e.st.idS
  let qx := if meas then e.fr.iq else e.st.iqS
  let w := e.fr.omega
  let cd := if m = 0 then 0 else -(e.gains.lq.app (w * qx))
  let cq := if m = 0 then 0 else e.gains.ld.app (w * ix)
  let ce := if m = 2 then e.gains.psi.app w else 0
  d.onE0 p fun e => e.onFr fun f => { f with vdCmd := satV (f.ud + cd), vqCmd := satV (f.uq + cq + ce) }

/-- K_HFI_INJ (R212): ± V_h on the d axis while the angle cell carries source 2 or 3; the sign alternates. -/
def kHfiInjBody (p : PortId) (d : Dev) : Dev :=
  let x := d.port p
  let src := x.e0.fl.angHeld.source
  if src = 2 ∨ src = 3 then
    let v := d.mvCode p (d.pnum p 0x80 0x12) * x.e1.hfi.s
    d.onPort p fun x => { x with
      e0 := x.e0.onFr fun f => { f with vdCmd := satV (f.vdCmd + v) }
      e1 := { x.e1 with hfi := { x.e1.hfi with s := -x.e1.hfi.s } } }
  else d

/-- Linear interpolation over points (x_i, y_i) with x ascending: below the first point from (x0, y0), above the last
its value. All values in the same fixed point. -/
def interp (x0 y0 : Int) : List (Int × Int) → Int → Int
  | [], _ => y0
  | (x1, y1) :: r, x =>
    if x < x1 then y0 + narrow ((y1 - y0) * (x - x0)) (x1 - x0) else interp x1 y1 r x

/-- The points of an array of pairs, in Q16. -/
def pairsQ : List Int → List (Int × Int)
  | a :: b :: r => (q16 a, q16 b) :: pairsQ r
  | _ => []

/-- The q reference in force in the frame (R150, R157, R234): the one that K_PI_DQ has used in it, or will use. -/
def Dev.iqInForce (d : Dev) (p : PortId) : Int :=
  let e := (d.port p).e0
  if e.st.formed then e.st.iqS else if flagDriving e.fl.sp.flags then (d.scaledRefs p (d.share p)).2 else 0

/-- K_MTPA (R157): the table at |iq*|; a point count other than the bound n returns 0 and sets the flag. -/
def kMtpaBody (p : PortId) (n : Nat) (d : Dev) : Dev :=
  let pts := pairsQ (d.arr (pidx p 0x50) 0x10)
  let mis := pts.length ≠ n
  d.onE0 p fun e => { e with
    st := { e.st with idMtpa := if mis then 0 else interp 0 0 pts (absI (d.iqInForce p)) }
    fl := { e.fl with mtpaMis := mis } }

/-- V_max of R154 in Q16 codes: r / 1000 × Vbus / √3. -/
def vMax (r vbus : Int) : Int := if vbus ≤ 0 then 0 else narrow (r * q16 vbus * invSqrt3q32) (1000 * 2 ^ 32)

/-- The limited vector of R154. -/
def limitVector (rule vd vq mag mx : Int) : Int × Int :=
  if mag ≤ mx then (vd, vq)
  else if rule = 0 then
    let vd' := clampAbs mx vd
    (vd', clampAbs (sqrtI (mx * mx - vd' * vd')) vq)
  else if mag = 0 then (0, 0)
  else (narrow (vd * mx) mag, narrow (vq * mx) mag)

/-- A setpoint in use, in Q16 codes: as held, or ramped to zero at the j-th stale read (R145, R153). -/
def useSetpoint (c : Consumer SpVal) (stale : Bool) (v : Int) : Int :=
  let l : Int := c.rampLen
  let j : Int := c.staleRun
  if stale && c.rule == .ramp then (if l ≤ j then 0 else narrow (q16 v * (l - j)) l) else q16 v

/-- The field-weakening feed-forward at a speed (R156): a table of zeros turns it off. -/
def Dev.idFf (d : Dev) (p : PortId) (w : Int) : Int :=
  let t := d.arr (pidx p 0x50) 0x11
  if t.all fun v => v == 0 then 0 else interp 0 0 (pairsQ t) (absI (speedOfCell w))

/-- The diagnostic word of engine 0 (R158). -/
def diagWord (ratio : Nat) (mis atLim act regen cur vol : Bool) : Nat :=
  ratio * 65536 + 128 * b2n mis + 64 * b2n atLim + 32 * b2n act + 16 * b2n regen + 2 * b2n cur + b2n vol

/-- A word of two S14 values (R475). -/
def twoS14 (lo hi : Int) : Nat := unsignedOf 16 (s14OfQ lo) + 65536 * unsignedOf 16 (s14OfQ hi)

/-- Whether field weakening is on in a frame (R155). -/
def Dev.weakens (d : Dev) (p : PortId) (sp : SpVal) : Bool := flagState sp.flags == 4 && d.pnum p 0x50 0xA == 1

/-- What K_FW_VLIM computes of the voltage (R154, R155, R156): limited vector, magnitude, V_max, id_fw, id_w. -/
def Dev.fieldWeak (d : Dev) (p : PortId) (sp : SpVal) : Int × Int × Int × Int × Int × Int × Bool × Bool :=
  let e := (d.port p).e0
  let mx := vMax (d.pnum p 0x40 0x12) e.fr.vbus
  let mag := norm2 e.fr.vdCmd e.fr.vqCmd
  let v := limitVector (d.pnum p 0x50 9) e.fr.vdCmd e.fr.vqCmd mag mx
  let vfw := narrow (d.pnum p 0x50 0xB * mx) 1000
  let ifw := q16 (d.pnum p 0x50 0xD)
  let on := d.weakens p sp
  let fw := if on then
      (if e.fl.hold then e.st.idFw
       else clampI (-ifw) 0 (e.st.idFw + e.gains.gfw.app (vfw - mag)))
    else 0
  let w := if on then max (d.idFf p e.fr.omega + fw) (-ifw) else 0
  (v.1, v.2, mag, mx, fw, w, w < e.st.idMtpa, w == -ifw && vfw < mag)

/-- A store into one of engine 0's shared-SRAM words (R37): 0 the diagnostic word, 1 to 3 the check words. -/
def E0Flags.setWord (f : E0Flags) (w v : Nat) : E0Flags :=
  match w with
  | 0 => { f with diag := v }
  | 1 => { f with chkI := v }
  | 2 => { f with chkV := v }
  | _ => { f with chkB := v }

/-- The words as an access performed at tick T sees them: with every store performed earlier (R37). -/
def E0Flags.settled (f : E0Flags) (T : Nat) : E0Flags :=
  let late := f.stores.filter fun w => T ≤ w.tick
  { (f.stores.filter fun w => w.tick < T).foldl (fun f w => f.setWord w.word w.val) f with stores := late }

/-- What K_FW_VLIM does once it has the radius (R137, R154 to R158): voltage limit, field weakening, the references for the
next frame, and the stores of its words at offsets 18 to 36 of an instance that started at tick T. -/
def kFwVlimCalc (p : PortId) (w : FwLate) (d : Dev) : Dev :=
  let e := (d.port p).e0
  let sp := e.fl.sp
  let (vd, vq, mag, mx, fw, iw, act, atl) := d.fieldWeak p sp
  let drive := flagDriving sp.flags
  let refs := d.limitRefs p (w.id + min e.st.idMtpa iw) w.iq (q16 sp.lim) e.fr.omega e.fr.vbus (bitOf sp.flags 15)
  let ratio := if mx = 0 then (if mag = 0 then (satU 16 (Config.divByZero 0)).toNat else 65535)
    else (satU 16 (roundHA (1000 * mag) mx)).toNat
  let vol := decide (mx < mag)
  d.onE0 p fun e => { e with
    fr := { e.fr with vd := vd, vq := vq }
    st := { e.st with
      deltaD := if e.fl.hold || !drive then 0 else vd - e.fr.vdCmd
      deltaQ := if e.fl.hold || !drive then 0 else vq - e.fr.vqCmd
      idFw := if drive then fw else 0
      idFwHold := if d.weakens p sp then e.st.idFwHold else 0
      idRef := if drive then refs.1 else 0
      iqRef := if drive then refs.2.1 else 0 }
    fl := { e.fl with
      volLim := vol
      stores := e.fl.stores ++ [
        ⟨w.tick + 24, 0, diagWord ratio e.fl.mtpaMis atl act refs.2.2.2 refs.2.2.1 vol⟩,
        ⟨w.tick + 30, 1, twoS14 e.fr.id e.fr.iq⟩,
        ⟨w.tick + 36, 2, twoS14 vd vq⟩,
        ⟨w.tick + 42, 3, unsignedOf 16 e.fr.vbus⟩] }
    late := none }

/-- Both integrators at zero where a frame starts them anew (R153). -/
def E0.fromZero (e : E0) (start : Bool) : E0 :=
  if start then { e with st := { e.st with xd := 0, xq := 0, xdHold := 0, xqHold := 0 } } else e

/-- K_FW_VLIM at its start tick t (R153, R222, R472): the setpoint cell is read. A frame whose command flags show no driving state
sets every controller state to zero, one that enters CLOSED from another state both integrators; under a coast fallback the states
are held. The radius is loaded at offset 12, in the slot of tick t + 18 (R37, R114). -/
def kFwVlimBody (p : PortId) (t : Nat) (d : Dev) : Dev :=
  let x := d.port p
  let s := d.slotOf p
  let r := x.cells.setpoint.cur
  let c := x.cons.sp0
  let st := c.stale r s
  let c' := c.after r s
  let sp := c'.held
  let coast := st && c.rule == .coast
  let start := !flagDriving sp.flags || (flagState sp.flags == 4 && flagState x.e0.fl.sp.flags ≠ 4)
  let w : FwLate := ⟨s + (t + 18) / 200, (d.lane p.lane).tick t, useSetpoint c' st sp.id, useSetpoint c' st sp.iq⟩
  let d := d.onPort p fun x => { x with
    cons := { x.cons with sp0 := c' }
    e0 := { (x.e0.withFlags { x.e0.fl with
        sp := sp
        fallback := x.e0.fl.fallback || st
        coast := x.e0.fl.coast || coast
        hold := x.e0.fl.hold || coast }).fromZero start with
      late := some w } }
  let d := d.countRead p 6 st (c.skipped r)
  if t + 18 < 200 then kFwVlimCalc p w d else d

/-- Engine 0 of a port with its load of the radius performed, once its slot has come (R37). -/
def Dev.resume0 (d : Dev) (p : PortId) : Dev :=
  match (d.port p).e0.late with
  | some w => if w.due ≤ d.slotOf p then kFwVlimCalc p w d else d
  | none => d

/-- Engine 0 of a port in the present frame, which is the carrier period (R42, R45). -/
def Dev.inFrame (d : Dev) (p : PortId) : Dev :=
  if (d.port p).e0.frame = d.frameStart p then d else d.onE0 p fun e => e.newFrame (d.frameStart p)

/-- Engine 0 of a port before a kernel: with what an earlier one has left for a later slot, and in the present frame. -/
def Dev.begin0 (d : Dev) (p : PortId) : Dev := (d.resume0 p).inFrame p

/-- A kernel of engine 0. -/
def kernel0 (p : PortId) (id t : Nat) (f : Dev → Dev) (d : Dev) : Dev := kernel p .e0 id t (fun d => f (d.begin0 p)) d

/-! ### Modulation kernels -/

/-- K_IPARK (R149). -/
def kIparkBody (p : PortId) (d : Dev) : Dev :=
  d.onE0 p fun e => e.onFr fun f =>
    { f with valpha := (ipark f.vd f.vq f.thetaApply).1, vbeta := (ipark f.vd f.vq f.thetaApply).2 }

/-- The three phase references of a vector (R111). -/
def phaseRefs (va vb : Int) : Int × Int × Int :=
  let h := narrow (mulSqrt3 vb) 2
  (va, -(narrow va 2) + h, -(narrow va 2) - h)

/-- The largest of three. -/
def max3 (t : Int × Int × Int) : Int := max t.1 (max t.2.1 t.2.2)

/-- The smallest of three. -/
def min3 (t : Int × Int × Int) : Int := min t.1 (min t.2.1 t.2.2)

/-- K_OVM (R115): the vector scaled to the hexagon boundary, whose radius at any angle makes the largest line-to-line
reference equal Vbus; with Vbus zero or negative the vector passes. -/
def kOvmBody (p : PortId) (d : Dev) : Dev :=
  let f := (d.port p).e0.fr
  let t := phaseRefs f.valpha f.vbeta
  let span := max3 t - min3 t
  let vb := q16 f.vbus
  if 0 < vb ∧ vb < span then
    (d.onE0 p fun e => { e with
      fr := { e.fr with valpha := narrow (f.valpha * vb) span, vbeta := narrow (f.vbeta * vb) span }
      fl := { e.fl with ovm := true } }).pinc p 0x40 0x14
  else d

/-- s(i) × scale of R116: the current over the band, limited to ± 1, times a voltage. -/
def deadScale (i band v : Int) : Int :=
  if absI i < q16 band then narrow (v * i) (q16 band) else v * sgn i

/-- Δv of R116 as (α, β) in Q16 codes, for d and q currents at an angle and a bus voltage code. -/
def Dev.deadTerm (d : Dev) (p : PortId) (ia ib vbus : Int) : Int × Int :=
  let tc := if d.pnum p 0x40 4 = 0 then d.pnum p 0x40 2 else d.pnum p 0x40 4
  let v := narrow (q16 vbus * tc) (400 * (d.frame p : Int))
  let t := phaseRefs ia ib
  let band := d.pnum p 0x40 5
  let u := deadScale t.1 band v
  let w := deadScale t.2.1 band v
  let z := deadScale t.2.2 band v
  (narrow (2 * u - w - z) 3, divSqrt3 (w - z))

/-- K_DTCOMP (R116): dead-time correction while 0x3x40.03 is 1, otherwise the vector passes. -/
def kDtcompBody (p : PortId) (d : Dev) : Dev :=
  if d.pnum p 0x40 3 = 1 then
    let f := (d.port p).e0.fr
    let i := ipark f.id f.iq f.thetaApply
    let c := d.deadTerm p i.1 i.2 f.vbus
    d.onE0 p fun e => e.onFr fun f => { f with valpha := satV (f.valpha + c.1), vbeta := satV (f.vbeta + c.2) }
  else d

/-- b ≥ √3 a, decided exactly. -/
def geSqrt3 (b a : Int) : Bool :=
  if 0 ≤ a then 0 ≤ b && 3 * a * a ≤ b * b else 0 ≤ b || b * b ≤ 3 * a * a

/-- b > √3 a, decided exactly. -/
def gtSqrt3 (b a : Int) : Bool :=
  if 0 ≤ a then 0 ≤ b && (3 * a * a < b * b || (a == 0 && 0 < b)) else 0 ≤ b || b * b < 3 * a * a

/-- The sector of a vector's angle; a border belongs to the higher sector (R112). The zero vector, to which the rule gives no
angle, has sector 1 (DESIGN CHOICE, log entry 167). -/
def sectorOf (a b : Int) : Nat :=
  if a = 0 ∧ b = 0 then 1
  else if 0 ≤ b ∧ geSqrt3 b a = false then 1
  else if geSqrt3 b a ∧ gtSqrt3 b (-a) then 2
  else if 0 < b then 3
  else if gtSqrt3 b a then 4
  else if geSqrt3 b (-a) = false then 5
  else 6

/-- A duty code: (1/2 + (v + v0) / Vbus) saturated to 0 … 1, times 65535, rounded half away from zero (R111). -/
def dutyCode (v v0 vb : Int) : Nat := (clampI 0 65535 (roundHA (65535 * (vb + 2 * (v + v0))) (2 * vb))).toNat

/-- The zero-voltage vector as K_ZVV and the modulation kernels write it (R111). -/
def zvvDuty : DutyVal := ⟨32768, 32768, 32768, 16⟩

/-- The pattern byte (R112). -/
def patternByte (ovm : Bool) (mode sector : Nat) : Nat := 32 * b2n ovm + 8 * mode + sector

/-- The duties of K_SVM7 (R111). -/
def svm7Duty (va vb vbus : Int) (ovm : Bool) : DutyVal :=
  let b := q16 vbus
  if b ≤ 0 then zvvDuty
  else
    let t := phaseRefs va vb
    let v0 := -(narrow (max3 t + min3 t) 2)
    ⟨dutyCode t.1 v0 b, dutyCode t.2.1 v0 b, dutyCode t.2.2 v0 b, patternByte ovm 0 (sectorOf va vb)⟩

/-- The duties of K_SVM5 (R113). -/
def svm5Duty (clampMode va vb vbus : Int) (ovm : Bool) : DutyVal :=
  let b := q16 vbus
  if b ≤ 0 then zvvDuty
  else
    let t := phaseRefs va vb
    let mx := max3 t
    let mn := min3 t
    -- twice the offset, so that Vbus / 2 stays exact
    let v02 := if clampMode = 0 ∧ absI mn ≤ absI mx then b - 2 * mx else -b - 2 * mn
    let code := fun (v : Int) => (clampI 0 65535 (roundHA (65535 * (b + 2 * v + v02)) (2 * b))).toNat
    ⟨code t.1, code t.2.1, code t.2.2, patternByte ovm 1 (sectorOf va vb)⟩

/-- The duties of a frame replaced. -/
def Dev.setDuty (d : Dev) (p : PortId) (v : DutyVal) : Dev := d.onE0 p fun e => e.onFr fun f => { f with duty := v }

/-- K_SVM7 (R111, R112). -/
def kSvm7Body (p : PortId) (d : Dev) : Dev :=
  let e := (d.port p).e0
  d.setDuty p (svm7Duty e.fr.valpha e.fr.vbeta e.fr.vbus e.fl.ovm)

/-- K_SVM5 (R112, R113). -/
def kSvm5Body (p : PortId) (d : Dev) : Dev :=
  let e := (d.port p).e0
  d.setDuty p (svm5Duty (d.pnum p 0x40 7) e.fr.valpha e.fr.vbeta e.fr.vbus e.fl.ovm)

/-- K_ZVV (R111). -/
def kZvvBody (p : PortId) (d : Dev) : Dev := d.setDuty p zvvDuty

/-- The duty cell's value: mode 3 under a coast fallback, the zero-voltage vector under its fallback, otherwise the frame's
duties (R19, R153), with OVM where K_OVM limited the frame's vector (R112). -/
def E0.dutyOut (e : E0) : DutyVal :=
  let v := if e.fl.coast then ⟨0, 0, 0, 24⟩ else if e.fl.zvv then zvvDuty else e.fr.duty
  { v with pattern := patternByte e.fl.ovm 0 (v.pattern % 32) }

/-- K_DUTY_OUT (R39, R75, R153): the duty cell, written at offset 30. -/
def kDutyOutBody (p : PortId) (t : Nat) (d : Dev) : Dev :=
  let s := d.slotOf p + writeSlots t 30
  d.onPort p fun x => { x with cells := { x.cells with
    duty := x.cells.duty.write (s + 1) s x.e0.fl.fallback x.e0.dutyOut } }

/-- K_IIN. -/
def execKIin (p : PortId) (t : Nat) (s : State) : Host.Outcome State Fault Refusal :=
  .next (s.awake (kernel0 p 0x01 t (kIinBody p t)))

/-- K_ANG_IN. -/
def execKAngIn (p : PortId) (t : Nat) (s : State) : Host.Outcome State Fault Refusal :=
  .next (s.awake (kernel0 p 0x02 t (kAngInBody p)))

/-- K_VBUS_IN. -/
def execKVbusIn (p : PortId) (t : Nat) (s : State) : Host.Outcome State Fault Refusal :=
  .next (s.awake (kernel0 p 0x03 t (kVbusInBody p)))

/-- K_CLARKE. -/
def execKClarke (p : PortId) (t : Nat) (s : State) : Host.Outcome State Fault Refusal :=
  .next (s.awake (kernel0 p 0x04 t (kClarkeBody p)))

/-- K_PARK. -/
def execKPark (p : PortId) (t : Nat) (s : State) : Host.Outcome State Fault Refusal :=
  .next (s.awake (kernel0 p 0x05 t (kParkBody p)))

/-- K_PI_DQ. -/
def execKPiDq (p : PortId) (t : Nat) (s : State) : Host.Outcome State Fault Refusal :=
  .next (s.awake (kernel0 p 0x06 t (kPiDqBody p)))

/-- K_DECOUPLE. -/
def execKDecouple (p : PortId) (t : Nat) (s : State) : Host.Outcome State Fault Refusal :=
  .next (s.awake (kernel0 p 0x07 t (kDecoupleBody p)))

/-- K_MTPA, with the n bound for its placed instance. -/
def execKMtpa (p : PortId) (t : Nat) (s : State) : Host.Outcome State Fault Refusal :=
  .next (s.awake (kernel0 p 0x08 t fun d => kMtpaBody p (((d.placed p .e0 0x08 t).map fun i => i.formula).getD 0) d))

/-- K_FW_VLIM. -/
def execKFwVlim (p : PortId) (t : Nat) (s : State) : Host.Outcome State Fault Refusal :=
  .next (s.awake (kernel0 p 0x09 t (kFwVlimBody p t)))

/-- K_IPARK. -/
def execKIpark (p : PortId) (t : Nat) (s : State) : Host.Outcome State Fault Refusal :=
  .next (s.awake (kernel0 p 0x0A t (kIparkBody p)))

/-- K_OVM. -/
def execKOvm (p : PortId) (t : Nat) (s : State) : Host.Outcome State Fault Refusal :=
  .next (s.awake (kernel0 p 0x0B t (kOvmBody p)))

/-- K_DTCOMP. -/
def execKDtcomp (p : PortId) (t : Nat) (s : State) : Host.Outcome State Fault Refusal :=
  .next (s.awake (kernel0 p 0x0C t (kDtcompBody p)))

/-- K_SVM7. -/
def execKSvm7 (p : PortId) (t : Nat) (s : State) : Host.Outcome State Fault Refusal :=
  .next (s.awake (kernel0 p 0x0D t (kSvm7Body p)))

/-- K_SVM5. -/
def execKSvm5 (p : PortId) (t : Nat) (s : State) : Host.Outcome State Fault Refusal :=
  .next (s.awake (kernel0 p 0x0E t (kSvm5Body p)))

/-- K_ZVV. -/
def execKZvv (p : PortId) (t : Nat) (s : State) : Host.Outcome State Fault Refusal :=
  .next (s.awake (kernel0 p 0x0F t (kZvvBody p)))

/-- K_HFI_INJ. -/
def execKHfiInj (p : PortId) (t : Nat) (s : State) : Host.Outcome State Fault Refusal :=
  .next (s.awake (kernel0 p 0x10 t (kHfiInjBody p)))

/-- K_DUTY_OUT. -/
def execKDutyOut (p : PortId) (t : Nat) (s : State) : Host.Outcome State Fault Refusal :=
  .next (s.awake (kernel0 p 0x11 t (kDutyOutBody p t)))

end Sys2Proof.Machine
end

