-- ==== Sys2Proof/Machine/StartUp.lean ====
section
/-! DEFINITION. Events of a sensorless port's start, catch and rotor-loss detection (R214, R218 to R226, R239). -/

namespace Sys2Proof.Machine

/-- A port's engine 1 changed by f. -/
def Dev.onE1 (d : Dev) (p : PortId) (f : E1 → E1) : Dev := d.onPort p fun x => { x with e1 := f x.e1 }

/-- The unit of the start timeline: this many parts of one slot, in which the ramp time T_r is whole (R218). -/
def Dev.startUnit (d : Dev) (p : PortId) : Nat := d.pnat p 0x80 9

/-- The phases of one attempt with their lengths in parts of a slot; the pause is the last (R218). -/
def Dev.startPhases (d : Dev) (p : PortId) : List (Nat × Nat) :=
  let ms := fun (sub : Nat) => d.pnat p 0x80 sub * 2000 * d.startUnit p
  if d.pnum p 0x80 1 = 0 then [(1, ms 5), (2, (d.pnat p 0x80 8 - d.pnat p 0x80 7) * 2000000), (3, ms 0xE)]
  else [(4, ms 0x17), (5, ms 0x19), (6, ms 0x19), (7, ms 0x17), (3, ms 0xE)]

/-- The parts of a slot from the start of an attempt to the end of a phase (R218). -/
def phaseEnd (ph : Nat) : List (Nat × Nat) → Nat
  | [] => 0
  | (q, n) :: r => if q = ph then n else n + phaseEnd ph r

/-- The attempt length A in parts of a slot (R218). -/
def attemptLength (l : List (Nat × Nat)) : Nat := l.foldl (fun n e => n + e.2) 0

/-- The phase that follows a phase within an attempt; after the last, the first. -/
def nextPhase (ph : Nat) (l : List (Nat × Nat)) : Nat :=
  match (l.dropWhile fun e => e.1 ≠ ph).drop 1 with
  | e :: _ => e.1
  | [] => match l with
    | e :: _ => e.1
    | [] => 0

/-- Whether the present phase's nominal time has run out at a carrier start of the port (R218). -/
def Dev.phaseOver (d : Dev) (p : PortId) : Bool :=
  let st := (d.port p).e1.start
  let l := d.startPhases p
  let m := (d.port p).mod
  d.sensorless p && (d.pstate p == .align || d.pstate p == .ramp) && st.phase ≠ 0 &&
  m.running && m.startSlot == d.slotOf p &&
  st.alignSlot * d.startUnit p + st.attempt * attemptLength l + phaseEnd st.phase l ≤ d.slotOf p * d.startUnit p

/-- A PLL speed of a frequency in 0.1 Hz with a direction: angle-cell units with 16 fractional bits. -/
def pllSpeed (f : Int) (dir : Int) : Int := cellOfSpeed (q16 (f * dir))

/-- The start of a phase (R218, R219): at the ramp's start the back-EMF PLL takes the align angle and the start
frequency, and in attempt 0 engine 1 requests RAMP, by its next occurrence of K_IF_RAMP (R472). -/
def Dev.beginPhase (d : Dev) (p : PortId) (ph : Nat) : Dev :=
  let s := d.slotOf p
  let f0 := d.pnum p 0x80 7
  let al := d.pnum p 0x80 2
  let d := d.onE1 p fun e => { e with start := { e.start with
    phase := ph
    phaseSlot := s
    polPos := e.start.polPos || ph == 5 } }
  if ph = 2 then
    let d := d.onE1 p fun e => { e with
      bemf := { e.bemf with pll := ⟨q16 al, pllSpeed f0 e.start.dir⟩ }
      start := { e.start with theta := q16 al, freq := q16 f0, refSlot := s, handCount := 0 } }
    d.onE1 p fun e => { e with start := { e.start with rampDue := d.pstate p == .align } }
  else d

/-- START_PHASE_BOUNDARY (R218, R219): the next phase begins at the first carrier start at or after its nominal time;
after a pause the next attempt begins. The end of a ramp or hold phase is START_ATTEMPT_FAILURE's. -/
def startPhaseBoundaryStep (p : PortId) (d : Dev) : Dev :=
  let st := (d.port p).e1.start
  if d.phaseOver p && st.phase ≠ 2 && st.phase ≠ 7 then
    let ph := nextPhase st.phase (d.startPhases p)
    let d := if st.phase = 3 then
        d.onE1 p fun e => { e with start := { e.start with attempt := e.start.attempt + 1, handCount := 0 } }
      else d
    d.beginPhase p ph
  else d

/-- START_ATTEMPT_FAILURE (R221, R223, R472): an attempt not handed over by the end of its ramp or hold phase fails: the pause
follows, or after the last attempt K_STOP_SEQ's request for COAST, in the slot of its instance's last tick, with START_FAILED. -/
def startAttemptFailureStep (p : PortId) (d : Dev) : Dev :=
  let st := (d.port p).e1.start
  if d.phaseOver p && (st.phase == 2 || st.phase == 7) && !st.handed &&
      st.handCount < d.pnat p 0x80 0xC then
    if st.attempt < d.pnat p 0x80 0xD then d.beginPhase p 3
    else
      let d := d.onE1 p fun e => { e with
        start := { e.start with failed := true, phase := 0 }
        loss := { e.loss with failures := min (e.loss.failures + 1) 4294967295 } }
      d.requestIn p ((d.port p).e2.mo.seqSlot - d.slotOf p) .coast false
  else d

/-- POLARITY_DECISION (R214): with sixteen frames in each sum, the means decide. After POLARITY_AMBIGUOUS they are not
compared again until the next entry into ALIGN (DESIGN CHOICE, log entry 135). -/
def polarityDecisionStep (p : PortId) (d : Dev) : Dev :=
  let h := (d.port p).e1.hfi
  let mg := 1000 + d.pnum p 0x80 0x1A
  if 16 ≤ h.cntP && 16 ≤ h.cntN && !h.resolved && !h.ambiguous then
    if h.sumP * h.cntN * mg < h.sumN * h.cntP * 1000 then
      d.onE1 p fun e => { e with hfi := { e.hfi with
        resolved := true, pll := { e.hfi.pll with theta := wrapAngQ (e.hfi.pll.theta + q16 8192) } } }
    else if h.sumN * h.cntP * mg < h.sumP * h.cntN * 1000 then
      d.onE1 p fun e => { e with hfi := { e.hfi with resolved := true } }
    else d.onE1 p fun e => { e with hfi := { e.hfi with ambiguous := true } }
  else d

/-- HANDOVER_REACHED (R171, R220, R223, R472): the count at its limit makes engine 1 request CLOSED, in the slot of the last tick
of the K_HANDOVER instance. -/
def handoverReachedStep (p : PortId) (d : Dev) : Dev :=
  let st := (d.port p).e1.start
  if (d.pstate p == .align || d.pstate p == .ramp) && !st.handed && d.pnat p 0x80 0xC ≤ st.handCount then
    d.onPort p fun x => { x with
      reg := { x.reg with reqE1 := some ⟨max (d.slotOf p) st.handSlot, .closed, false, false⟩ }
      e1 := { x.e1 with start := { x.e1.start with handed := true, phase := 0 } } }
  else d

/-- Whether the back-EMF at a speed would drive current into the bus (R225): |ω| ψ M / 1000 ≥ V̄bus / √3, with ω in
angle-cell units, ψ in µWb, M in ‰, V̄bus as a code of V_FS in 10 mV. -/
def shortsAt (w psi m vbus vfs : Int) : Bool :=
  decide (vbus * vfs * 10 * 2 ^ 102 ≤ absI w * 6908435304715 * psi * m * 2 * 8192 * sqrt3q32)

/-- The cause bits whose counts are not zero (R224). -/
def RotorLoss.causes (r : RotorLoss) : Nat :=
  b2n (decide (0 < r.conf)) + 2 * b2n (decide (0 < r.bemf)) + 4 * b2n (decide (0 < r.qsat))

/-- The request of K_ROTOR_LOSS, which counts in the slot of its instance's last tick, and the line that the lane of a pair asserts
with it (R225, R239, R472). -/
def Dev.lossRequest (d : Dev) (p : PortId) (slot : Nat) (c : SafeCmd) : Dev :=
  if slot ≤ d.slotOf p then
    let d := d.commandUnit p c
    if d.paired p then d.pairCommanded p else d
  else d.onPort p fun x => { x with unit := { x.unit with later := x.unit.later ++ [⟨slot, c, 0, true⟩] } }

/-- ROTOR_LOSS_DETECTED (R224, R225, R239): a count at its limit sets ROTOR_LOST and requests SHORTED or COAST (source
11), in the slot of the last tick of the K_ROTOR_LOSS instance; in a pair the lane asserts its line. -/
def rotorLossDetectedStep (p : PortId) (d : Dev) : Dev :=
  let x := d.port p
  let r := x.e1.loss
  let n := d.pnat p 0x80 0x1C
  if d.pstate p == .closed && !r.lost && (n ≤ r.conf || n ≤ r.bemf || n ≤ r.qsat) then
    let short := shortsAt r.wL (d.pnum p 0x10 5) (d.pnum p 0x80 0x20) x.e1.latch.vbus (d.pnum p 0x50 1)
    let d := d.onE1 p fun e => { e with loss := { e.loss with
      lost := true, cause := r.causes, losses := min (e.loss.losses + 1) 4294967295 } }
    d.lossRequest p r.slot ⟨11, some short, false, false⟩
  else d

/-- CATCH_CONFIRMED (R226): the catch count at its limit sets CAUGHT. -/
def catchConfirmedStep (p : PortId) (d : Dev) : Dev :=
  let c := (d.port p).e1.fly
  if (d.pstate p == .armed || d.pstate p == .coast) && !c.caught && d.pnat p 0x80 0xC ≤ c.count then
    d.onE1 p fun e => { e with fly := { e.fly with caught := true } }
  else d

/-- START_PHASE_BOUNDARY. -/
def execStartPhaseBoundary (p : PortId) (s : State) : Host.Outcome State Fault Refusal :=
  .next (s.awake (startPhaseBoundaryStep p))

/-- START_ATTEMPT_FAILURE. -/
def execStartAttemptFailure (p : PortId) (s : State) : Host.Outcome State Fault Refusal :=
  .next (s.awake (startAttemptFailureStep p))

/-- POLARITY_DECISION. -/
def execPolarityDecision (p : PortId) (s : State) : Host.Outcome State Fault Refusal :=
  .next (s.awake (polarityDecisionStep p))

/-- HANDOVER_REACHED. -/
def execHandoverReached (p : PortId) (s : State) : Host.Outcome State Fault Refusal :=
  .next (s.awake (handoverReachedStep p))

/-- ROTOR_LOSS_DETECTED. -/
def execRotorLossDetected (p : PortId) (s : State) : Host.Outcome State Fault Refusal :=
  .next (s.awake (rotorLossDetectedStep p))

/-- CATCH_CONFIRMED. -/
def execCatchConfirmed (p : PortId) (s : State) : Host.Outcome State Fault Refusal :=
  .next (s.awake (catchConfirmedStep p))

end Sys2Proof.Machine
end

