-- ==== Sys2Proof/Machine/Kernels1.lean ====
section
/-! DEFINITION. The kernels of engine 1, position and start-up (R186, R194, R198 to R200, R205 to R220, R224 to R227,
R472). Angles are in Q16 codes, PLL speeds in angle-cell units with 16 fractional bits. -/

namespace Sys2Proof.Machine

/-! ### Places in the hyperframe -/

/-- The slots from the present one to the next start of an instance, its tick not before t in the present slot. -/
def Image.slotsTo (im : Image) (i : Instance) (h t : Nat) : Nat :=
  (List.range (if i.period = 0 then 1 else i.count)).foldl (fun best j =>
    let o := i.slot + j * i.period
    let dist := if o = h ∧ i.tick < t then im.h else (o + im.h - h) % im.h
    min best dist) im.h

/-- The write slot of the next angle-cell write of a port, counted from the present slot (R39, R199); 0 while the image
places no K_ANG_OUT. -/
def Dev.angleWriteSlots (d : Dev) (p : PortId) (t : Nat) : Nat :=
  match d.image with
  | none => 0
  | some im =>
    let outs := im.insts.filter fun i => i.engine == EngineId.num ⟨p, .e1⟩ && i.kernel == 0x2F
    match outs.map fun i => im.slotsTo i (d.lane p.lane).hyper t + writeSlots i.tick 22 with
    | [] => 0
    | n :: r => r.foldl min n

/-! ### Feedback -/

/-- Engine 1's feedback path changed by f. -/
def Dev.onE1Fb (d : Dev) (p : PortId) (f : E1Fb → E1Fb) : Dev := d.onE1 p fun e => { e with fb := f e.fb }

/-- The latch of the feedback interface. -/
def Dev.fbLatch (d : Dev) (p : PortId) : FbLatch := (d.port p).fb.latch

/-- The latched flags as an input kernel takes them; SENT_FORMAT_MISMATCH is K_SENT_IN's (R186, R198). -/
def E1Fb.takeFlags (f : E1Fb) (l : FbLatch) : E1Fb := { f with flags := { l.flags with formatMis := f.flags.formatMis } }

/-- K_QEP_IN (R186, R199, R200): the reported count and the time stamp of its last edge, which are the port's position in modes 1
and 2 alone. -/
def kQepInBody (p : PortId) (d : Dev) : Dev :=
  let l := d.fbLatch p
  d.onE1Fb p fun f =>
    if d.quadrature p then { f.takeFlags l with x := l.p, stamp := l.edge, refClk := l.clk } else f.takeFlags l

/-- K_HALL_IN (R194): the latched Hall state, which is the port's position in mode 3 alone. -/
def kHallInBody (p : PortId) (d : Dev) : Dev :=
  let l := d.fbLatch p
  d.onE1Fb p fun f =>
    if d.fbMode p = 3 then { f.takeFlags l with hall := l.hall, stamp := l.hall.edgeAt, refClk := l.clk } else f.takeFlags l

/-- A speed in angle-cell units with 16 fractional bits: codes over CLK_A cycles, `num` in codes times `den` (R200). -/
def speedOf (num den cycles : Int) : Int := narrow (num * 2 ^ 32 * 50) (den * cycles)

/-- ω_f after one occurrence (R200). -/
def Dev.filterSpeed (d : Dev) (p : PortId) (wf w : Int) : Int := wf + narrow (w - wf) (2 ^ d.pnat p 0x70 0xB)

/-- The next edge angle from a Hall state in a direction (R193, R194): between its centre and that of the next state in
ascending order of centres. -/
def Dev.nextEdge (d : Dev) (p : PortId) (h : Nat) (dir : Int) : Int :=
  let pos := (d.hallPos p h + (if dir < 0 then 5 else 1)) % 6
  let other := ([1, 2, 3, 4, 5, 6].find? fun q => d.hallPos p q == pos).getD h
  edgeAngle (d.hallCentre p h) (d.hallCentre p other)

/-- Whether the zero-speed timeout has run since the last counted edge, at the latch (R194): as MOTION says, or by the stamps
(log entry 60). -/
def Dev.still (d : Dev) (p : PortId) (f : E1Fb) (edge : Int) : Bool :=
  !f.flags.motion || decide ((d.zeroCycles p : Int) < since f.refClk edge)

/-- The Hall speed at a latch instant (R194): the arc over the last interval, or over the elapsed time where that is
longer; 0 after the zero-speed timeout. -/
def Dev.hallSpeed (d : Dev) (p : PortId) (f : E1Fb) : Int :=
  let x := f.hall
  if d.still p f x.edgeAt ∨ x.prev = 0 then 0 else speedOf x.arc 1 (max (since f.refClk x.edgeAt) x.prev)

/-- The Hall angle at a latch instant in Q16 codes (R194): it runs from the edge, or from the skip (R193), that set it. -/
def Dev.hallAngle (d : Dev) (p : PortId) (f : E1Fb) : Int :=
  let x := f.hall
  let w := d.hallSpeed p f
  if d.still p f x.edgeAt then q16 (if 1 ≤ x.last ∧ x.last ≤ 6 then d.hallCentre p x.last else x.angle)
  else
    let run := narrow (w * since f.refClk x.base) (65536 * 50)
    let room := wrapAngQ (q16 (sgn w * (d.nextEdge p x.last (sgn w) - x.angle)))
    wrapAngQ (q16 x.angle + (if w = 0 then 0 else clampAbs room run))

/-- K_HALL_INTERP (R194, R199, R200): angle and speed of a Hall port at the latch; with direction invert the speed takes the
opposite sign. Where the image places no K_SPD_EST the speed is filtered here (log entry 21). -/
def kHallInterpBody (p : PortId) (d : Dev) : Dev :=
  if d.fbMode p ≠ 3 then d else
  let f := (d.port p).e1.fb
  let w0 := d.hallSpeed p f
  let w := if d.pnum p 0x70 4 = 1 then -w0 else w0
  let z := d.still p f f.hall.edgeAt
  let th := d.hallAngle p f
  let own := !d.places p .e1 0x25
  let wf := if z then 0 else if own then d.filterSpeed p f.wf w else f.wf
  d.onE1Fb p fun f => { f with theta := th, thetaH := th, w := w, wf := wf, zero := z }

/-- K_SENT_IN (R198, R199): a nibble count other than the n bound takes no frame. The position is v1, or C − v1 with
direction invert, and the port's in mode 4 alone. -/
def kSentInBody (p : PortId) (n : Nat) (d : Dev) : Dev :=
  let l := d.fbLatch p
  let bad := n ≠ formatNibbles (d.pnat p 0x70 0xF)
  let c := d.cpr p
  let x := if d.pnum p 0x70 4 = 1 then (c + 4096 * c - l.sent.v1) % c else l.sent.v1
  let d := d.onFb p fun f => { f with flags := { f.flags with formatMis := bad } }
  if bad then d.onE1Fb p fun f => { f with flags := { l.flags with formatMis := true } }
  else
    d.onE1Fb p fun f =>
      let f := { f with flags := { l.flags with formatMis := false } }
      if d.fbMode p = 4 then
        { f with x := x, got := l.sent.got, stamp := l.sent.trx, refClk := (l.sent.trx : Int) - d.pnum p 0x70 0x15 * 100 }
      else f

/-- The electrical angle of R199 at the latch instant, in Q16 codes. -/
def Dev.scaledAngle (d : Dev) (p : PortId) (f : E1Fb) : Int :=
  let a := d.pnum p 0x70 0xA
  if d.fbMode p = 3 then
    if d.pnum p 0x70 4 = 1 then wrapAngQ (q16 a - f.thetaH) else wrapAngQ (f.thetaH + q16 a)
  else q16 (wrapAng ((f.x * d.pnat p 0x10 1 * 16384 / d.cpr p : Nat) + a))

/-- K_ANG_SCALE (R199): the electrical angle, carried at the filtered speed to the boundary that opens the angle cell's
write slot. -/
def kAngScaleBody (p : PortId) (t : Nat) (d : Dev) : Dev :=
  let f := (d.port p).e1.fb
  let w : Int := ((d.lane p.lane).slots + d.angleWriteSlots p t) * 50
  d.onE1Fb p fun f' => { f' with
    theta := wrapAngQ (d.scaledAngle p f + narrow (f.wf * since w f.refClk) (65536 * 50)) }

/-- The positions held after an occurrence: the previous one becomes the older one where the position differs (R200). -/
def E1Fb.held (f : E1Fb) : E1Fb :=
  if f.seen = 0 then { f with lastX := f.x, lastStamp := f.stamp, seen := 1 }
  else if f.x ≠ f.lastX then
    { f with oldX := f.lastX, oldStamp := f.lastStamp, lastX := f.x, lastStamp := f.stamp, seen := 2 }
  else { f with lastStamp := f.stamp }

/-- The last two accepted SENT positions (R200): a new frame moves them on, and before the first there is none. -/
def E1Fb.heldSent (f : E1Fb) : E1Fb :=
  if f.got = false ∨ f.stamp = f.lastStamp ∧ f.seen ≠ 0 then f
  else if f.seen = 0 then { f with lastX := f.x, lastStamp := f.stamp, seen := 1 }
  else { f with oldX := f.lastX, oldStamp := f.lastStamp, lastX := f.x, lastStamp := f.stamp, seen := 2 }

/-- K_SPD_EST (R194, R200): a quadrature speed decays and ends as a Hall speed does, a SENT speed does not; without feedback there
is no position to take one from. -/
def kSpdEstBody (p : PortId) (d : Dev) : Dev :=
  let m := d.fbMode p
  let f0 := (d.port p).e1.fb
  if m = 0 then d
  else if m = 3 then
    d.onE1Fb p fun f => { f with wf := if f.zero then 0 else d.filterSpeed p f.wf f.w }
  else
    let f := if m = 4 then f0.heldSent else f0.held
    let df := reduceHalf (d.cpr p) ((f.lastX : Int) - f.oldX) * d.pnum p 0x10 1 * 16384
    let time := since f.lastStamp f.oldStamp
    let z := m ≠ 4 && d.still p f f.lastStamp
    let w := if z ∨ f.seen < 2 then 0
      else speedOf df (d.cpr p) (if m = 4 then time else max time (since f.refClk f.lastStamp))
    d.onE1Fb p fun _ => { f with w := w, wf := if z then 0 else d.filterSpeed p f.wf w, zero := z }

/-! ### PLL and back-EMF observer -/

/-- Kp eps in Q16 codes: Kp = 2 ωn T, bandwidth in Hz, frame in slots (R146, R210, log entry 22). -/
def pllKp (bw k eps : Int) : Int := narrow (bw * k * 16384 * eps) 1000000

/-- Ki eps as a speed change: ωn² T² per frame, over the frame's slots (R146, R210, log entry 22). -/
def pllKi (bw k eps : Int) : Int := narrow (bw * bw * k * eps * twoPi40) (2 ^ 10 * 4000000000000)

/-- The update of R210 with an error in Q16; a hold frame has the error 0 and leaves the speed. -/
def Pll.update (q : Pll) (bw k eps : Int) : Pll :=
  let w := q.w + pllKi bw k eps
  ⟨wrapAngQ (q.theta + narrow (w * k) 65536 + pllKp bw k eps), w⟩

/-- The sign of a speed, or a given sign while it is 0. -/
def signOr (w dflt : Int) : Int := if w = 0 then dflt else sgn w

/-- A value filtered with a time constant of eight frames (R211, log entry 22). -/
def filter8 (y x : Int) : Int := y + narrow (x - y) 8

/-- max(0, 1 − 2 ε) with 16 fractional bits (R211). -/
def plausFactor (epsF : Int) : Int := max 0 (65536 - 2 * epsF)

/-- Ê_ref in Q16 voltage codes (R210). -/
def Dev.eRef (d : Dev) (p : PortId) : Int := d.mvCode p (d.pnum p 0x80 0x11)

/-- v_obs in αβ as Q16 codes: the Clarke transform of the latched phase voltages (R206, R209). -/
def CatchLatch.clarke (l : CatchLatch) : Int × Int :=
  (narrow (l.vbus * 65536 * (2 * l.du - l.dv - l.dw)) (3 * 65535),
   divSqrt3 (narrow (l.vbus * 65536 * ((l.dv : Int) - l.dw)) 65535))

/-- K_OBS_BEMF (R19, R77, R80, R94, R206, R208, R209): engine 1's one read of the current cell, the hold judgement, and ê.
Under the coast rule a stale cell makes engine 1 request COAST while the port drives (DESIGN CHOICE, log entry 133). -/
def kObsBemfBody (p : PortId) (t : Nat) (d : Dev) : Dev :=
  let x := d.port p
  let r := x.cells.current.cur
  let c := x.cons.cur1
  let s := d.slotOf p
  let st := c.stale r s
  let c' := c.after r s
  let v := c'.held
  let k : Int := d.frame p
  let hold := st || d.poor p v.uValid v.uGap || d.poor p v.vValid v.vGap || x.e1.latch.gatesOff
  let b := x.e1.bemf
  let i := Sys2Proof.Machine.clarke v.iu v.iv (-(v.iu + v.iv))
  let vo := x.e1.latch.clarke
  let dv := d.deadTerm p i.1 i.2 x.e1.latch.vbus
  let rs := d.pnum p 0x10 2
  let lq := d.pnum p 0x10 4
  let ind := fun (now before : Int) => narrow (lq * (now - before) * 250000) (k * d.grv p)
  let b' := if hold then { b with hold := true, ref := if st then b.ref + k else (r.wslot : Int) }
    else { b with
      pA := b.iA, pB := b.iB, iA := i.1, iB := i.2, hold := false, ref := (r.wslot : Int)
      eA := satV (satV (vo.1 - dv.1) - d.dropR p rs i.1 - ind i.1 b.iA)
      eB := satV (satV (vo.2 - dv.2) - d.dropR p rs i.2 - ind i.2 b.iB) }
  let d := d.onPort p fun x => { x with
    cons := { x.cons with cur1 := c' }
    e1 := { x.e1 with bemf := b' } }
  let d := (d.countRead p 2 st (c.skipped r)).tripIf p (st && c.rule == .trip)
  if st && c.rule == .coast && (d.pstate p).driving then d.commandAt p (lastSlots t 248) ⟨11, some false, false, false⟩ 0 else d

/-- The error of R210 in Q16. -/
def bemfError (dir eA eB th mag ref : Int) : Int :=
  narrow (dir * (-(mulQ eA (cosQ th)) - mulQ eB (sinQ th)) * 65536) (max mag ref)

/-- K_PLL_ANG (R208, R210, R211): the back-EMF angle and its confidence; the currents of the period in the observer's
frame (R224). -/
def kPllAngBody (p : PortId) (d : Dev) : Dev :=
  let e := (d.port p).e1
  let b := e.bemf
  let k : Int := d.frame p
  let bw := d.pnum p 0x80 0x10
  let mag := norm2 b.eA b.eB
  let ref := d.eRef p
  if b.hold then d.onE1 p fun e => { e with bemf := { e.bemf with pll := b.pll.update bw k 0 } }
  else
    let eps := bemfError (signOr b.pll.w e.start.dir) b.eA b.eB b.pll.theta mag ref
    let ef := filter8 b.epsF (absI eps)
    let i := park b.iA b.iB b.pll.theta
    d.onE1 p fun e => { e with bemf := { e.bemf with
      pll := b.pll.update bw k eps
      epsF := ef
      conf := (roundHA (255 * min mag ref * plausFactor ef) (ref * 65536)).toNat
      idM := i.1, iqM := i.2 } }

/-! ### Injection -/

/-- Sum of a list. -/
def sumI (l : List Int) : Int := l.foldl (· + ·) 0

/-- conf_h of R213 for a response D and an error, in Q16. -/
def hfiConf (resp dmin eps : Int) (resolved : Bool) : Nat :=
  let c := if resp < dmin then 0 else (roundHA (255 * max 0 (65536 - 4 * absI eps)) 65536).toNat
  if resolved then c else min c 127

/-- K_OBS_HFI (R208, R213 to R215), with the L bound for the instance. -/
def kObsHfiBody (p : PortId) (taps : Nat) (d : Dev) : Dev :=
  let e := (d.port p).e1
  let h := e.hfi
  let b := e.bemf
  let k : Int := d.frame p
  let bw := d.pnum p 0x80 0x13
  let h' :=
    if b.hold then { h with pll := h.pll.update bw k 0, conf := if h.resolved then h.conf else min h.conf 127 }
    else
      let di := park (b.iA - b.pA) (b.iB - b.pB) h.pll.theta
      let hist := ((absI di.1, if di.1 < 0 then -di.2 else di.2) :: h.hist).take taps
      let n : Int := hist.length
      let sd := sumI (hist.map Prod.fst)
      let dmin := q16 (d.pnum p 0x80 0x14)
      let eps := clampAbs 65536 (narrow (sumI (hist.map Prod.snd) * 65536) (max sd (dmin * n)))
      let resp := narrow sd n
      let im := (park b.iA b.iB h.pll.theta).1
      let half := d.pnum p 0x80 0x18 * 32768
      { h with
        pll := h.pll.update bw k eps, hist := hist, resp := resp, conf := hfiConf resp dmin eps h.resolved
        sumP := if half < im then h.sumP + absI di.1 else h.sumP
        cntP := if half < im then h.cntP + 1 else h.cntP
        sumN := if im < -half then h.sumN + absI di.1 else h.sumN
        cntN := if im < -half then h.cntN + 1 else h.cntN }
  let pll := if e.blend.weight = 65536 then b.pll else h'.pll
  d.onE1 p fun e => { e with hfi := { h' with pll := pll } }

/-- The blend weight with 16 fractional bits (R215). -/
def Dev.blendWeight (d : Dev) (p : PortId) (w : Int) : Int :=
  let lo := pllSpeed (d.pnum p 0x80 0x15) 1
  let hi := pllSpeed (d.pnum p 0x80 0x16) 1
  if d.places p .e1 0x27 then clampI 0 65536 (narrow ((absI w - lo) * 65536) (hi - lo)) else 65536

/-- K_OBS_BLEND (R215). -/
def kObsBlendBody (p : PortId) (d : Dev) : Dev :=
  let e := (d.port p).e1
  let b := e.bemf
  let h := e.hfi
  let w := d.blendWeight p b.pll.w
  d.onE1 p fun e => { e with blend := {
    weight := w
    theta := wrapAngQ (h.pll.theta + mulQ w (wrapDiffQ (b.pll.theta - h.pll.theta)))
    w := h.pll.w + mulQ w (b.pll.w - h.pll.w)
    conf := (roundHA ((65536 - w) * h.conf + w * b.conf) 65536).toNat
    src := if w = 0 then 2 else if w = 65536 then 1 else 3 } }

/-- The blend a port has (R205, R215, R216): K_OBS_BLEND's; without injection kernels the back-EMF estimate with
w = 1; none where K_OBS_HFI is placed without K_OBS_BLEND (log entry 23). -/
def Dev.blendOf (d : Dev) (p : PortId) : Option Blend :=
  let b := (d.port p).e1.bemf
  if d.places p .e1 0x28 then some (d.port p).e1.blend
  else if d.places p .e1 0x27 then none
  else some ⟨65536, b.pll.theta, b.pll.w, b.conf, 1⟩

/-! ### Start-up -/

/-- K_ALIGN (R218): in the align phase, and in a pause of method 0, the imposed angle is the align angle. -/
def kAlignBody (p : PortId) (d : Dev) : Dev :=
  let st := (d.port p).e1.start
  if d.pnum p 0x80 1 = 0 ∧ (st.phase = 1 ∨ st.phase = 3) then
    d.onE1 p fun e => { e with start := { e.start with
      theta := q16 (d.pnum p 0x80 2), freq := 0, refSlot := (d.slotOf p : Nat) } }
  else d

/-- The request for RAMP at the start of attempt 0's ramp phase, in the slot of the last tick of K_IF_RAMP's instance (R219,
R472). -/
def Dev.rampRequest (d : Dev) (p : PortId) (t : Nat) : Dev :=
  if (d.port p).e1.start.rampDue then
    d.onPort p fun x => { x with
      reg := { x.reg with reqE1 := some ⟨d.slotOf p + lastSlots t 72, .ramp, false, false⟩ }
      e1 := { x.e1 with start := { x.e1.start with rampDue := false } } }
  else d

/-- K_IF_RAMP (R219): the I/f angle and frequency n slots into the ramp phase. -/
def kIfRampBody (p : PortId) (t : Nat) (d : Dev) : Dev :=
  let st := (d.port p).e1.start
  if st.phase = 2 then
    let n : Int := (d.slotOf p : Int) - st.phaseSlot
    let f0 := d.pnum p 0x80 7
    let a := d.pnum p 0x80 9
    (d.rampRequest p t).onE1 p fun e => { e with start := { e.start with
      theta := wrapAngQ (q16 (d.pnum p 0x80 2) +
        st.dir * narrow (2 ^ 30 * (f0 * n * 4000000 + a * n * n)) 80000000000000)
      freq := q16 f0 + narrow (a * n * 65536) 2000000
      refSlot := (d.slotOf p : Nat) } }
  else d

/-- Whether the handover counter runs: ramp phase in method 0, polarity-negative and hold phases in method 1 (R220). -/
def Dev.handoverRuns (d : Dev) (p : PortId) : Bool :=
  let st := (d.port p).e1.start
  (d.pstate p == .align || d.pstate p == .ramp) && !st.handed &&
  (if d.pnum p 0x80 1 = 0 then st.phase == 2 else (st.phase == 6 || st.phase == 7) && (d.port p).e1.hfi.resolved)

/-- K_HANDOVER (R208, R220): consecutive frames at or above the handover speed and confidence. -/
def kHandoverBody (p : PortId) (t : Nat) (d : Dev) : Dev :=
  let e := (d.port p).e1
  if d.handoverRuns p && !e.bemf.hold then
    let bl := (d.blendOf p).getD e.blend
    let conf := if d.pnum p 0x80 1 = 0 then bl.conf else e.hfi.conf
    let ok := pllSpeed (d.pnum p 0x80 0xA) 1 ≤ e.start.dir * bl.w ∧ d.pnat p 0x80 0xB ≤ conf
    d.onE1 p fun e => { e with start := { e.start with
      handCount := if ok then e.start.handCount + 1 else 0
      handSlot := d.slotOf p + lastSlots t 56 } }
  else d

/-! ### The catch loop -/

/-- A record's code, slot and cycle (R267). -/
def recCode (r : Nat) : Int := (field r 13 0 : Nat)
/-- The CLK_A instant of a record against a slot count: negative in the past. -/
def recClk (r slot : Nat) : Int := slotDiff (field r 63 32 : Nat) (slot % 2 ^ 32 : Nat) * 50 + (field r 31 26 : Nat)

/-- The largest and the smallest of three. -/
def spread3 (a b c : Int) : Int := max a (max b c) - min a (min b c)

/-- The written confidence of the catch loop until the count is reached (R226). -/
def catchWritten (count limit conf hc : Nat) : Nat := if limit ≤ count then conf else min conf (hc - 1)

/-- K_FLY_CATCH (R207, R226, R227): the catch loop is held by the conditions of R227 alone, not by those of R208 (DESIGN
CHOICE, log entry 134), with the entries bound for the instance and the CLK_A cycle of its start. -/
def kFlyCatchBody (p : PortId) (eu ev ew cyc : Nat) (d : Dev) : Dev :=
  let st := d.pstate p
  if st = .armed ∨ st = .coast then
    let e := (d.port p).e1
    let c := e.fly
    let s := d.slotOf p
    let k : Int := d.frame p
    let bw := d.pnum p 0x80 0x10
    let ru := d.gcRecord eu
    let rv := d.gcRecord ev
    let rw' := d.gcRecord ew
    let lsb := d.pnum p 0x80 0x22
    let a := (recCode ru - recCode rv) * lsb
    let b := (recCode rv - recCode rw') * lsb
    -- |v|² is 4 / 9 of this
    let sq := a * a + a * b + b * b
    let thr := d.pnum p 0x80 0x21 * 1000
    let vb := e.latch.vbus * d.pnum p 0x50 1 * 10000
    let tu := recClk ru s
    let tv := recClk rv s
    let tw := recClk rw' s
    let skew := 200 < spread3 tu tv tw ∨ min tu (min tv tw) < (cyc : Int) - 50 * k
    let clamp := 27075 * vb * vb ≤ 40000 * sq * 8192 * 8192
    let ref : Int := (s : Int) * 50 + tv
    let hc := d.pnat p 0x80 0xB
    let c' : Catch :=
      if skew ∨ clamp then
        { c with pll := c.pll.update bw k 0, refClk := c.refClk + 50 * k, count := 0, conf := 0, caught := false }
      else if 4 * sq < 9 * thr * thr then
        { c with pll := ⟨c.pll.theta, 0⟩, refClk := ref, count := 0, conf := 1, caught := false, havePhi := false }
      else
        let phi := atanQ ((2 * a + b) * 2 ^ 32) (b * sqrt3q32)
        let dphi := if c.havePhi then wrapDiffQ (phi - c.phi) else 0
        let dir := signOr c.pll.w (sgn dphi)
        let eps := clampAbs 65536 (narrow (wrapDiffQ (phi - dir * q16 4096 - c.pll.theta)) 4096)
        let ef := filter8 c.epsF (absI eps)
        let cf := (roundHA (255 * plausFactor ef) 65536).toNat
        let n := if hc ≤ cf then c.count + 1 else 0
        { c with
          pll := c.pll.update bw k eps, phi := phi, havePhi := true, refClk := ref + 50 * k, epsF := ef, count := n
          conf := catchWritten n (d.pnat p 0x80 0xC) cf hc
          caught := c.caught && n ≠ 0 }
    d.onE1 p fun e => { e with fly := { c' with clamped := decide clamp, skew := decide skew } }
  else d

/-! ### Rotor loss -/

/-- A frame counted: a true condition advances its count, a false one clears it (R224). -/
def runCount (n : Nat) (b : Bool) : Nat := if b then n + 1 else 0

/-- The three conditions of R224. -/
def Dev.lossConditions (d : Dev) (p : PortId) : Bool × Bool × Bool :=
  let e := (d.port p).e1
  let b := e.bemf
  let w := narrow (absI b.pll.w) 65536
  let want := d.emfPsi p w (d.pnum p 0x10 5) + d.emfL p w (d.pnum p 0x10 3 - d.pnum p 0x10 4) b.idM
  ((((d.blendOf p).getD e.blend).conf < d.pnat p 0x80 0x1B),
   decide (d.pnum p 0x80 0x1D * want < absI (norm2 b.eA b.eB - want) * 1000),
   decide (d.pnum p 0x80 0x1E * q16 (d.pnum p 0x90 1) ≤ absI b.iqM * 1000))

/-- K_ROTOR_LOSS (R208, R224, R225): the counts of the three conditions and ω_L. -/
def kRotorLossBody (p : PortId) (t : Nat) (d : Dev) : Dev :=
  let e := (d.port p).e1
  if d.pstate p = .closed ∧ e.bemf.hold = false ∧ pllSpeed (d.pnum p 0x80 0x1F) 1 ≤ absI e.bemf.pll.w then
    let q := d.lossConditions p
    d.onE1 p fun e => { e with loss := { e.loss with
      conf := runCount e.loss.conf q.1
      bemf := runCount e.loss.bemf q.2.1
      qsat := runCount e.loss.qsat q.2.2
      slot := d.slotOf p + lastSlots t 94
      wL := if q.1 || q.2.1 || q.2.2 then e.loss.wL else narrow e.bemf.pll.w 65536 } }
  else d

/-! ### The angle cell -/

/-- The rows of R216's table. -/
inductive AngleRow where
  | held | fly | align | hfi | ramp | blend
deriving DecidableEq, Repr

/-- The row of R216 for a port's state and phase; the row of OFF where the source's kernel is not placed. -/
def Dev.angleRow (d : Dev) (p : PortId) : AngleRow :=
  let st := (d.port p).e1.start
  let bl : AngleRow := if (d.blendOf p).isSome then .blend else .held
  match d.pstate p with
  | .off | .shorted | .tripped => .held
  | .armed | .coast => if d.places p .e1 0x2D then .fly else .held
  | .align =>
    if st.handed then bl
    else if d.pnum p 0x80 1 = 0 then .align
    else if d.places p .e1 0x27 then .hfi else .held
  | .ramp => if st.handed then bl else if st.phase = 2 then .ramp else .align
  | .closed => bl

/-- An angle carried at a PLL speed over a time of num / den slots. -/
def carry (th w num den : Int) : Int := wrapAngQ (th + narrow (w * num) (65536 * den))

/-- The angle cell's value for a sensorless port at the boundary of slot W (R216): angle in Q16 codes, speed with 16
fractional bits, confidence, source. -/
def Dev.sensorlessAngle (d : Dev) (p : PortId) (W : Int) : Int × Int × Nat × Nat :=
  let e := (d.port p).e1
  let k : Int := d.frame p
  let mid := 2 * slotDiff W e.bemf.ref - k
  match d.angleRow p with
  | .held => (q16 e.angle, 0, 0, 1)
  | .fly => (carry e.fly.pll.theta e.fly.pll.w (W * 50 - e.fly.refClk) 50, e.fly.pll.w, e.fly.conf, 1)
  | .align => (q16 (d.pnum p 0x80 2), 0, 0, 5)
  | .hfi => (carry e.hfi.pll.theta e.hfi.pll.w mid 2, e.hfi.pll.w, e.hfi.conf, 2)
  | .ramp =>
    let w := cellOfSpeed (e.start.freq * e.start.dir)
    (carry e.start.theta w (W - e.start.refSlot) 1, w, 0, 4)
  | .blend =>
    let b := (d.blendOf p).getD e.blend
    (carry b.theta b.w mid 2, b.w, b.conf, b.src)

/-- The confidence of a feedback port's angle cell (R200). SENT_STALE and SENT_FORMAT_MISMATCH outlast a change of mode and keep it
at 0 (DESIGN CHOICE, log entry 143). -/
def Dev.fbConf (d : Dev) (p : PortId) : Nat :=
  let f := (d.port p).e1.fb.flags
  let m := d.fbMode p
  if f.fault || f.sentStale || f.formatMis || ((m == 1 || m == 2) && !f.referenced) then 0 else 255

/-- A catch speed in 0.1 Hz: V_thr in mV over ψ in µWb, saturated to U16 (R226, log entry 14). -/
def catchSpeedOf (thr psi : Int) : Nat := (satU 16 (roundHA (thr * 10000 * 2 ^ 40) (psi * twoPi40))).toNat

/-- The sensorless flags of 0x3x81.01 (R230). -/
def E1.obsFlags (e : E1) : Nat :=
  bitsToNat [e.bemf.hold, e.start.failed, e.hfi.resolved, e.hfi.ambiguous, e.loss.lost, e.fly.caught, e.fly.clamped,
    e.fly.skew]

/-- The observer status of a port (R216, R230). -/
def Dev.obsStatus (d : Dev) (p : PortId) : ObsStatus :=
  let e := (d.port p).e1
  let b := (d.blendOf p).getD e.blend
  { flags := e.obsFlags, phase := e.start.phase, attempt := e.start.attempt, conf := b.conf
    weight := (roundHA (b.weight * 1000) 65536).toNat
    emf := (satU 16 (ofQ (norm2 e.bemf.eA e.bemf.eB))).toNat
    catchSpeed := catchSpeedOf (d.pnum p 0x80 0x21) (d.pnum p 0x10 5)
    cause := e.loss.cause, failures := e.loss.failures, losses := e.loss.losses, eddies := e.loss.eddies
    resp := (satU 16 (ofQ e.hfi.resp)).toNat }

/-- K_ANG_OUT (R39, R200, R216, R472): the angle cell at offset 22, and for a sensorless port the observer status, which
becomes visible in the slot after the instance's last tick. -/
def kAngOutBody (p : PortId) (t : Nat) (d : Dev) : Dev :=
  let s := d.slotOf p
  let W := s + writeSlots t 22
  let e := (d.port p).e1
  let r : Int × Int × Nat × Nat :=
    if d.sensorless p then d.sensorlessAngle p (W : Nat) else (e.fb.theta, e.fb.wf, d.fbConf p, 0)
  let v : AngVal := ⟨wrapAng (ofQ r.1), satS 32 (ofQ r.2.1), r.2.2.1, r.2.2.2⟩
  let due := s + lastSlots t 30 + 1
  let obs := d.obsStatus p
  d.onPort p fun x => { x with
    cells := { x.cells with angle := x.cells.angle.write (W + 1) W false v }
    e1 := { x.e1 with angle := v.angle, obsDue := x.e1.obsDue ++ (if d.sensorless p then [(due, obs)] else []) } }

/-! ### The kernels -/

/-- The value bound to a parameter of the instance placed at tick t, 0 where none is. -/
def Dev.bound (d : Dev) (p : PortId) (r : EngineRole) (kernel t param : Nat) : Nat :=
  match d.placed p r kernel t with
  | none => 0
  | some i => match i.bindings.find? fun b => b.param == param with
    | none => 0
    | some b => if b.object then d.nat (b.value / 256) (b.value % 256) else b.value

/-- The formula parameter of the instance placed at tick t. -/
def Dev.formula (d : Dev) (p : PortId) (r : EngineRole) (kernel t : Nat) : Nat :=
  ((d.placed p r kernel t).map fun i => i.formula).getD 0

/-- K_QEP_IN. -/
def execKQepIn (p : PortId) (t : Nat) (s : State) : Host.Outcome State Fault Refusal :=
  .next (s.awake (kernel p .e1 0x20 t (kQepInBody p)))

/-- K_HALL_IN. -/
def execKHallIn (p : PortId) (t : Nat) (s : State) : Host.Outcome State Fault Refusal :=
  .next (s.awake (kernel p .e1 0x21 t (kHallInBody p)))

/-- K_HALL_INTERP. -/
def execKHallInterp (p : PortId) (t : Nat) (s : State) : Host.Outcome State Fault Refusal :=
  .next (s.awake (kernel p .e1 0x22 t (kHallInterpBody p)))

/-- K_SENT_IN, with the n bound for its placed instance. -/
def execKSentIn (p : PortId) (t : Nat) (s : State) : Host.Outcome State Fault Refusal :=
  .next (s.awake (kernel p .e1 0x23 t fun d => kSentInBody p (d.formula p .e1 0x23 t) d))

/-- K_ANG_SCALE. -/
def execKAngScale (p : PortId) (t : Nat) (s : State) : Host.Outcome State Fault Refusal :=
  .next (s.awake (kernel p .e1 0x24 t (kAngScaleBody p t)))

/-- K_SPD_EST. -/
def execKSpdEst (p : PortId) (t : Nat) (s : State) : Host.Outcome State Fault Refusal :=
  .next (s.awake (kernel p .e1 0x25 t (kSpdEstBody p)))

/-- K_OBS_BEMF. -/
def execKObsBemf (p : PortId) (t : Nat) (s : State) : Host.Outcome State Fault Refusal :=
  .next (s.awake (kernel p .e1 0x26 t (kObsBemfBody p t)))

/-- K_OBS_HFI, with the L bound for its placed instance. -/
def execKObsHfi (p : PortId) (t : Nat) (s : State) : Host.Outcome State Fault Refusal :=
  .next (s.awake (kernel p .e1 0x27 t fun d => kObsHfiBody p (d.formula p .e1 0x27 t) d))

/-- K_OBS_BLEND. -/
def execKObsBlend (p : PortId) (t : Nat) (s : State) : Host.Outcome State Fault Refusal :=
  .next (s.awake (kernel p .e1 0x28 t (kObsBlendBody p)))

/-- K_PLL_ANG. -/
def execKPllAng (p : PortId) (t : Nat) (s : State) : Host.Outcome State Fault Refusal :=
  .next (s.awake (kernel p .e1 0x29 t (kPllAngBody p)))

/-- K_ALIGN. -/
def execKAlign (p : PortId) (t : Nat) (s : State) : Host.Outcome State Fault Refusal :=
  .next (s.awake (kernel p .e1 0x2A t (kAlignBody p)))

/-- K_IF_RAMP. -/
def execKIfRamp (p : PortId) (t : Nat) (s : State) : Host.Outcome State Fault Refusal :=
  .next (s.awake (kernel p .e1 0x2B t (kIfRampBody p t)))

/-- K_HANDOVER. -/
def execKHandover (p : PortId) (t : Nat) (s : State) : Host.Outcome State Fault Refusal :=
  .next (s.awake (kernel p .e1 0x2C t (kHandoverBody p t)))

/-- K_FLY_CATCH, with the entries bound as parameters 0, 1 and 2. -/
def execKFlyCatch (p : PortId) (t : Nat) (s : State) : Host.Outcome State Fault Refusal :=
  .next (s.awake (kernel p .e1 0x2D t fun d =>
    kFlyCatchBody p (d.bound p .e1 0x2D t 0) (d.bound p .e1 0x2D t 1) (d.bound p .e1 0x2D t 2) (t / 4) d))

/-- K_ROTOR_LOSS. -/
def execKRotorLoss (p : PortId) (t : Nat) (s : State) : Host.Outcome State Fault Refusal :=
  .next (s.awake (kernel p .e1 0x2E t (kRotorLossBody p t)))

/-- K_ANG_OUT. -/
def execKAngOut (p : PortId) (t : Nat) (s : State) : Host.Outcome State Fault Refusal :=
  .next (s.awake (kernel p .e1 0x2F t (kAngOutBody p t)))

end Sys2Proof.Machine
end

