-- ==== Sys2Proof/Machine/Kernels2.lean ====
section
/-! DEFINITION. The kernels of engine 2: motion, limits, recomputation check and the pair's exchange (R77, R78, R132,
R140, R159 to R161, R167 to R180, R205, R217, R218, R228, R234 to R238, R241 to R247, R252, R472, R473, R475). Speeds are in
0.1 Hz and currents in codes, both with 16 fractional bits. -/

namespace Sys2Proof.Machine

/-- Engine 2 of a port changed by f. -/
def Dev.onE2 (d : Dev) (p : PortId) (f : E2 → E2) : Dev := d.onPort p fun x => { x with e2 := f x.e2 }

/-- The motion states of engine 2 changed by f. -/
def Dev.onMo (d : Dev) (p : PortId) (f : E2Motion → E2Motion) : Dev := d.onE2 p fun e => { e with mo := f e.mo }

/-- The outputs of engine 2 changed by f. -/
def Dev.onOut (d : Dev) (p : PortId) (f : E2Out → E2Out) : Dev := d.onE2 p fun e => { e with out := f e.out }

/-- The pair unit of a port changed by f. -/
def Dev.onPair (d : Dev) (p : PortId) (f : PairUnit → PairUnit) : Dev := d.onPort p fun x => { x with pair := f x.pair }

/-- The speed-loop frame T_s of a port in slots (R42). -/
def Dev.speedSlots (d : Dev) (p : PortId) : Nat :=
  match d.slotEntry p with
  | some e => e.m * e.k
  | none => 0

/-- The slot at which the present speed frame of a port began (R42, R62): speed frames start with carrier period j when
j mod m is the speed phase, and carrier periods at the phase φ. -/
def Dev.speedStart (d : Dev) (p : PortId) : Int :=
  match d.slotEntry p with
  | some e =>
    let s : Int := d.slotOf p
    s - ((d.lane p.lane).hyper - (e.phi : Int) - e.sphase * e.k) % ((e.m * e.k : Nat) : Int)
  | none => d.slotOf p

/-- A kernel that acts once per speed frame: f in the frame's first occurrence, nothing in a later one (R173, R174,
R178). -/
def Dev.oncePerFrame (d : Dev) (p : PortId) (id : Nat) (f : Dev → Dev) : Dev :=
  let now := d.speedStart p
  if mapFind id (d.port p).e2.mo.acted = some now then d
  else f (d.onMo p fun m => { m with acted := mapInsert id now m.acted })

/-- Engine 2's read of the port state register: what K_SET_OUT shows, unless a transition that engine 2 requested has yet to
take effect (R169, R472). -/
def Dev.readState (d : Dev) (p : PortId) : Dev :=
  d.onPort p fun x =>
    if x.reg.reqE2.isSome then x else { x with e2 := { x.e2 with mo := { x.e2.mo with view := x.reg.state } } }

/-! ### Reads of engine 2 -/

/-- Engine 2's read of the angle cell (R19, R77). -/
def Dev.readAng2 (d : Dev) (p : PortId) : Dev :=
  let x := d.port p
  let s := d.slotOf p
  let r := x.cells.angle.cur
  let c := x.cons.ang2
  let st := c.stale r s
  let d := d.onPort p fun x => { x with
    cons := { x.cons with ang2 := c.after r s }
    e2 := { x.e2 with mo := { x.e2.mo with wCell := (c.after r s).held.speed } } }
  (d.countRead p 5 st (c.skipped r)).tripIf p (st && c.rule == .trip)

/-- Engine 2's read of the current cell (R19, R77). -/
def Dev.readCur2 (d : Dev) (p : PortId) : Dev :=
  let x := d.port p
  let s := d.slotOf p
  let r := x.cells.current.cur
  let c := x.cons.cur2
  let st := c.stale r s
  let d := d.onPort p fun x => { x with cons := { x.cons with cur2 := c.after r s } }
  (d.countRead p 3 st (c.skipped r)).tripIf p (st && c.rule == .trip)

/-- Engine 2's read of the duty cell (R19, R77). -/
def Dev.readDuty2 (d : Dev) (p : PortId) : Dev :=
  let x := d.port p
  let s := d.slotOf p
  let r := x.cells.duty.cur
  let c := x.cons.duty2
  let st := c.stale r s
  let d := d.onPort p fun x => { x with cons := { x.cons with duty2 := c.after r s } }
  (d.countRead p 9 st (c.skipped r)).tripIf p (st && c.rule == .trip)

/-- The angle cell as engine 2 uses it: the value held at its last read. -/
def Dev.ang2 (d : Dev) (p : PortId) : AngVal := (d.port p).cons.ang2.held

/-- Whether the speed is known: the angle cell fresh for engine 2 and its confidence not 0 (R172). -/
def Dev.speedKnown (d : Dev) (p : PortId) : Bool := !(d.port p).cons.ang2.wasStale && (d.ang2 p).conf ≠ 0

/-! ### Commands from the host -/

/-- The stamp of the frame of a stream that last carried its objects, as a lane sees it in its present slot: the newest
arrival stamped in this slot or earlier (R50, R51, R168). -/
def Dev.streamSeen (d : Dev) (l : LaneId) (s : Nat) : Option Nat :=
  let x := d.net.streams.getD s Stream.atReset
  let now := (d.lane l).slots
  let st := if l = .a then x.stampA else x.stampB
  if !x.got then none
  else if st ≤ now then some st
  else if l = .a then x.prevA else x.prevB

/-- Whether a Process object is stale for a lane (R168, R351): mapped by an active receive stream whose last frame is older
than its timeout, or that has had none. -/
def Dev.procStale (d : Dev) (l : LaneId) (key : Nat) : Bool :=
  (List.range 16).any fun s =>
    d.streamOn s && d.streamRx s && (d.streamMap s).any (fun e => mapKey e == key) &&
    match d.streamSeen l s with
    | none => true
    | some st => decide (st + d.streamSlots s < (d.lane l).slots)

/-- The torque setpoint in force at the j-th stale frame of a fallback (R180). -/
def Dev.staleTorque (d : Dev) (p : PortId) (fresh : Int) (j : Nat) : Int :=
  let l := d.pnum p 0x60 0xF
  if d.pnum p 0x60 0xE = 1 then (if l ≤ j then 0 else narrow (q16 fresh * (l - j)) l) else q16 fresh

/-- The accesses of K_PROC_IN to the bindings bs in the present slot (R168, R473): the values read, and whether an object
is stale. -/
def Dev.procRead (d : Dev) (p : PortId) (bs : List Binding) : List (Nat × Int) × Bool :=
  ((bs.filter fun b => b.object).map fun b => (b.param, d.num (b.value / 256) (b.value % 256)),
    bs.any fun b => b.object && d.procStale p.lane b.value)

/-- K_PROC_IN's judgement of the objects it has read (R167, R168, R175, R180): a fresh control word with RUN = 0 re-arms
RUN while the port was OFF, in ARMED or in COAST. -/
def kProcInJudge (p : PortId) (w : ProcLate) (d : Dev) : Dev :=
  let c := (d.port p).e2.cmd
  let v := fun n => ((w.vals.find? fun e => e.1 == n).map fun e => e.2).getD 0
  let d := d.onE2 p fun e => { e with proc := none }
  if w.stale then
    let j := (if mapFind 0x40 (d.port p).e2.mo.acted = some w.frame then c.staleRun else c.staleRun + 1)
    let d := d.onE2 p fun e => { e with
      cmd := { e.cmd with
        stale := true
        staleRun := j
        ctl := e.cmd.freshCtl
        spd := e.cmd.freshSpd
        trq := d.staleTorque p e.cmd.freshTrq j }
      mo := { e.mo with acted := mapInsert 0x40 w.frame e.mo.acted } }
    d.tripIf p (d.pnum p 0x60 0xE == 4)
  else
    let ctl := (v 0).toNat
    let arm := w.idle && !bitOf ctl 1
    d.onE2 p fun e => { e with cmd := { e.cmd with
      stale := false
      staleRun := 0
      ctl := ctl
      spd := v 1
      trq := q16 (v 2)
      freshCtl := ctl
      freshSpd := v 1
      freshTrq := v 2
      rearmed := e.cmd.rearmed || arm
      stopped := e.cmd.stopped && !arm } }

/-- K_PROC_IN at its start tick t (R37, R472, R473): the i-th binding is read at offset 12 + 6 i and performed six ticks
later, those of a later slot from what is published then. -/
def kProcInBody (p : PortId) (t : Nat) (bs : List Binding) (d : Dev) : Dev :=
  let n := (187 - t) / 6
  let (vals, stale) := d.procRead p (bs.take n)
  let idle := d.pstate p == .off || d.pstate p == .armed || d.pstate p == .coast
  let w : ProcLate := ⟨d.slotOf p + 1, d.speedStart p, idle, stale, vals, bs.drop n⟩
  if w.rest = [] then kProcInJudge p w d else d.onE2 p fun e => { e with proc := some w }

/-- RUN of the control word in force; a stop of the stream-loss fallback acts as RUN = 0 (R180). -/
def E2Cmd.run (c : E2Cmd) : Bool := bitOf c.ctl 1 && !c.streamStop

/-- ENABLE of the control word in force. -/
def E2Cmd.enable (c : E2Cmd) : Bool := bitOf c.ctl 0

/-- Whether the operating mode is torque (R177). -/
def Dev.torqueMode (d : Dev) (p : PortId) : Bool := d.pnum p 0x60 1 == 1

/-- The speed setpoint in force: 0 under fallback 1 (R180). -/
def Dev.speedSetpoint (d : Dev) (p : PortId) : Int :=
  let c := (d.port p).e2.cmd
  if c.stale && d.pnum p 0x60 0xE == 1 then 0 else c.spd

/-- The target of R178, in 0.1 Hz. -/
def Dev.target (d : Dev) (p : PortId) : Int := clampAbs (d.pnum p 0x60 8) (d.speedSetpoint p)

/-- The sign of the target, or in torque mode of the torque setpoint (R176, R179, R217). -/
def Dev.targetSign (d : Dev) (p : PortId) : Int :=
  if d.torqueMode p then sgn (d.port p).e2.cmd.trq else sgn (d.target p)

/-! ### Ramps -/

/-- A rate in units per second as a step of one speed frame. -/
def perFrame (v ts : Int) : Int := narrow (q16 v * ts) 2000000

/-- The limit that applies to a ramp at r with a target (R178). -/
def Dev.rampLimit (d : Dev) (p : PortId) (r tg : Int) : Int :=
  let acc := r = 0 ∨ (sgn r = sgn tg ∧ absI r < absI tg)
  if acc then d.pnum p 0x60 5 else d.pnum p 0x60 6

/-- A ramp that would be carried across zero ends there. -/
def stopAtZero (r r' : Int) : Int := if sgn r * sgn r' < 0 then 0 else r'

/-- One step of the linear ramp (R178). -/
def Dev.linearStep (d : Dev) (p : PortId) (r tg : Int) : Int :=
  let ts : Int := d.speedSlots p
  stopAtZero r (r + clampAbs (perFrame (d.rampLimit p r tg) ts) (tg - r))

/-- The value to which an S-curve runs: 0 while it ends a deceleration there or the target lies beyond 0, else the target
(R178). -/
def curveGoal (r tg : Int) (endZero : Bool) : Int := if endZero ∨ sgn r * sgn tg < 0 then 0 else tg

/-- The acceleration after a frame that begins with the difference `rest` to the goal (R178): within a² / (2 × jerk limit) of it
|a| is reduced, else a runs on towards it. dj is the jerk limit of the frame, lim the applying limit. -/
def curveAccel (j dj lim a rest : Int) : Int :=
  let dir := sgn rest
  let near := dir = 0 ∨ (sgn a = dir ∧ absI rest ≤ narrow (a * a) (2 * j * 65536))
  clampAbs lim (if near then a - sgn a * min (absI a) dj else a + dir * dj)

/-- One step of the S-curve (R178): the ramp value, its acceleration, and whether it ends a deceleration at 0. A step that reaches
its goal or zero ends there, and what is left of a is brought to 0 there within the jerk limit (DESIGN CHOICE, log entry 155). -/
def Dev.sStep (d : Dev) (p : PortId) (r a tg : Int) (endZero : Bool) : Int × Int × Bool :=
  let ts : Int := d.speedSlots p
  let j := d.pnum p 0x60 7
  let goal := curveGoal r tg endZero
  let a' := curveAccel j (perFrame j ts) (q16 (d.rampLimit p r tg)) a (goal - r)
  let r' := r + narrow (a' * ts) 2000000
  if 0 ≤ (r' - goal) * sgn (goal - r) then (goal, a', goal = 0 ∧ goal ≠ tg ∧ a' ≠ 0)
  else if sgn r * sgn r' < 0 then (0, a', a' ≠ 0)
  else (r', a', false)

/-- What K_RAMP and K_SCURVE share (R174, R178): outside CLOSED the ramp follows w_f; a held ramp stands. -/
def Dev.rampFrame (d : Dev) (p : PortId) (f : Int → Int → Int → Bool → Int × Int × Bool) : Dev :=
  let d := d.readState p
  let m := (d.port p).e2.mo
  let lim := if d.torqueMode p then m.limited else d.target p ≠ d.speedSetpoint p
  if d.pstate p ≠ .closed then
    d.onMo p fun m => { m with r := m.wf, a := 0, endZero := false, held := false, limited := lim }
  else if m.held then d.onMo p fun m => { m with a := 0, endZero := false, limited := lim }
  else
    let q := f m.r m.a (q16 (d.target p)) m.endZero
    d.onMo p fun m => { m with r := q.1, a := q.2.1, endZero := q.2.2, limited := lim }

/-- K_RAMP (R178). -/
def kRampBody (p : PortId) (d : Dev) : Dev :=
  d.oncePerFrame p 0x41 fun d => d.rampFrame p fun r _ tg _ =>
    let r' := d.linearStep p r tg
    (r', narrow ((r' - r) * 2000000) (d.speedSlots p), false)

/-- K_SCURVE (R178). -/
def kScurveBody (p : PortId) (d : Dev) : Dev :=
  d.oncePerFrame p 0x42 fun d => d.rampFrame p fun r a tg z => d.sStep p r a tg z

/-! ### Speed and torque -/

/-- G × R_sh, whose product with 8192 / 1.25 V is one over I_LSB (R85). -/
def Dev.gr (d : Dev) (p : PortId) : Int := d.gain p * d.pnum p 0x30 2

/-- w_f after a speed frame (R173). -/
def Dev.filteredSpeed (d : Dev) (p : PortId) : Int :=
  let m := (d.port p).e2.mo
  if d.pstate p == .off then 0
  else m.wf + narrow (speedOfCell m.wCell - m.wf) (2 ^ d.pnat p 0x60 9)

/-- The mean of R236, with which the integrator is replaced in SHARED while the receive cell is fresh: own x as sent and the
partner's x under the same frame tag. -/
def Dev.meanX (d : Dev) (p : PortId) : Option Int :=
  let u := (d.port p).pair
  if d.paired p && (d.port p).e2.out.pairView == 0 && u.wasFresh && !u.stale then
    (u.sent.find? fun r => r.tag == u.record.tag).map fun r => narrow (r.x + u.record.x) 2
  else none

/-- The output of R174 before its clamp: e in Q16 of 0.1 Hz, a in Q16 of 0.1 Hz/s. -/
def Dev.speedOut (d : Dev) (p : PortId) (e x a : Int) : Int :=
  let g := d.gr p * 8192
  let pp := d.pnum p 0x10 1
  let j := d.pnum p 0x60 4
  let ff := if j = 0 then 0 else
    narrow (j * a * twoPi40 * g) (18750000000 * pp * pp * d.pnum p 0x10 5 * 2 ^ 40)
  narrow (d.pnum p 0x60 2 * e * g) 12500000000000 + x + ff

/-- Ki_s × T_s × e (R174). -/
def Dev.speedInt (d : Dev) (p : PortId) (e : Int) : Int :=
  narrow (d.pnum p 0x60 3 * d.speedSlots p * e * (d.gr p * 8192)) (12500000000000 * 2000000)

/-- K_SPD_PI (R173, R174, R234, R236): the filtered speed, and in CLOSED in speed mode the Iq setpoint. -/
def kSpdPiBody (p : PortId) (d : Dev) : Dev :=
  (d.readAng2 p).oncePerFrame p 0x43 fun d =>
    let d := d.readState p
    let wf := d.filteredSpeed p
    let d := d.onMo p fun m => { m with wf := wf }
    let m := (d.port p).e2.mo
    if d.pstate p ≠ .closed then
      let d := d.onMo p fun m => { m with x := 0, sat := false, held := false }
      if (d.pstate p).driving || d.torqueMode p then d else d.onOut p fun o => { o with idSp := 0, iqSp := 0 }
    else if d.torqueMode p then d
    else
      let o := (d.port p).e2.out
      let lim := if d.paired p then narrow o.iLim o.ge else o.iLim
      let x0 := (d.meanX p).getD m.x
      let e := m.r - wf
      let u := d.speedOut p e x0 m.a
      let iq := clampAbs lim u
      let x := if u = iq ∨ sgn e ≠ sgn u then clampAbs lim (x0 + d.speedInt p e) else x0
      (d.onMo p fun m => { m with x := x, sat := decide (u ≠ iq), held := decide (u ≠ iq ∧ sgn u = sgn e) }).onOut p
        fun o => { o with idSp := 0, iqSp := iq }

/-- Iq of a torque in Q16 mN·m (R179, R234): T / (1.5 p ψ), half of it for a paired port. -/
def Dev.torqueCurrent (d : Dev) (p : PortId) (t : Int) : Int :=
  let share : Int := if d.paired p then 2 else 1
  clampAbs (q16 8191) (narrow (t * d.gr p * 8192) (1875 * d.pnum p 0x10 1 * d.pnum p 0x10 5 * share))

/-- K_TRQ_SET (R179, R234). -/
def kTrqSetBody (p : PortId) (d : Dev) : Dev :=
  if d.torqueMode p then
    let d := d.readState p
    if d.pstate p == .closed then
      let m := (d.port p).e2.mo
      let iq := d.torqueCurrent p (d.port p).e2.cmd.trq
      let lim := q16 (d.pnum p 0x60 8) < absI m.wf ∧ iq ≠ 0 ∧ sgn iq = sgn m.wf
      (d.onMo p fun m => { m with limited := decide lim }).onOut p
        fun o => { o with idSp := 0, iqSp := if lim then 0 else iq }
    else
      let d := d.onMo p fun m => { m with limited := false }
      if (d.pstate p).driving then d else d.onOut p fun o => { o with idSp := 0, iqSp := 0 }
  else d

/-! ### Limits -/

/-- Currents of mA in Q16 codes (R85). -/
def Dev.codesOfMa (d : Dev) (p : PortId) (ma : Int) : Int := narrow (ma * 65536 * d.gr p * 8192) 1250000000

/-- mA of a current in Q16 codes (R85, R145). -/
def Dev.maOfCodes (d : Dev) (p : PortId) (i : Int) : Int := roundHA (i * 1250000000) (65536 * d.gr p * 8192)

/-- The pair term in the survivor's SOLO state, t slots after the entry (R247). -/
def Dev.overloadLimit (d : Dev) (p : PortId) (iport t : Int) : Int :=
  let y := pairIdx p.pair
  let rated := q16 (d.num y 2)
  let top := min iport (narrow (d.num y 3 * rated) 1000)
  let low := min iport rated
  let excess := t - d.num y 4 * 2000
  let ramp := d.num y 5 * 2000
  if rated = 0 then iport
  else if excess < 0 then top
  else if ramp ≤ excess then low
  else top - narrow ((top - low) * excess) ramp

/-- I_pair of R247 in the pair state that engine 2 last read. -/
def Dev.pairLimit (d : Dev) (p : PortId) (iport : Int) : Int :=
  if !d.paired p then iport
  else
    let v := (d.port p).e2.out.pairView
    if v = 0 then iport
    else if v = soloOf p.lane then
      match (d.port p).pair.overloadSlot with
      | some s0 => d.overloadLimit p iport ((d.slotOf p : Int) - s0)
      | none => iport
    else 0

/-- Whether a port takes part in an active budget while it drives (R160, R161). -/
def Dev.budgeted (d : Dev) (p : PortId) : Bool :=
  d.num 0x2810 1 ≠ 0 && d.pnum p 0x90 3 ≠ 0 && (d.pstate p).driving

/-- The bus-current estimate Σ D I in Q16 codes (R161). -/
def busEstimate (u : DutyVal) (i : CurVal) : Int :=
  narrow (65536 * ((u.du : Int) * i.iu + (u.dv : Int) * i.iv - (u.dw : Int) * (i.iu + i.iv))) 65535

/-- The port's own NONMEMBER_OV2 bit of the lane status word (R159). -/
def nonmemberBit : PortId → Nat
  | .m1 | .m3 => 18
  | .m2 | .m4 => 19

/-- The request word of a port (R160). -/
def Dev.requestWord (d : Dev) (p : PortId) (driving limited : Bool) : Nat :=
  (if driving then d.pnat p 0x90 3 % 2 ^ 24 else 0) + 2 ^ 24 * b2n limited

/-- What K_LIM_BUDGET computes once it has the lane status word and the grant (R140, R159 to R161, R247): limit, budget
regulator, request word and REGEN_BLOCK. -/
def kLimBudgetCalc (p : PortId) (b : BudgetLate) (slot : Nat) (d : Dev) : Dev :=
  let x := d.port p
  let o := x.e2.out
  let w := b.status.getD (d.lane p.lane).status
  let iport := q16 (d.pnum p 0x90 1)
  let part := d.num 0x2810 1 ≠ 0 && d.pnum p 0x90 3 ≠ 0 && b.driving
  let ib := busEstimate x.cons.duty2.held x.cons.cur2.held
  let ibF := if part then o.ibF + narrow (ib - o.ibF) (2 ^ d.pnat p 0x90 5) else 0
  let bud := if part then
      clampI 0 iport (o.iBud + narrow (d.pnum p 0x90 4 * (d.codesOfMa p o.grant - ibF)) 1000)
    else iport
  let der := narrow (iport * (w % 1024 : Nat)) 1000
  let pr := d.pairLimit p iport
  let lim := decide (pr < der ∧ pr < bud)
  d.onE2 p fun e => { e with
    budget := none
    out := { e.out with
      iLim := min der (min pr bud)
      iBud := bud
      ibF := ibF
      pairLimited := lim
      regenBlock := bitOf w 16 || bitOf w (nonmemberBit p)
      reqNext := if b.due = slot ∨ 180 ≤ b.tick then some (slot + (b.tick + 20) / 200, d.requestWord p b.driving lim)
        else e.out.reqNext } }

/-- K_LIM_BUDGET at its start tick t (R19, R37, R160, R472): the cells are read, the lane status word is loaded at t + 12,
the request word stored at t + 18 and the grant loaded at t + 24. A request word that is stored a slot before the grant is
loaded carries PAIR_LIMITED as it stood. -/
def kLimBudgetBody (p : PortId) (t : Nat) (d : Dev) : Dev :=
  let d := (d.readCur2 p).readDuty2 p
  let s := d.slotOf p
  let drv := (d.pstate p).driving
  let status := if t + 12 < 200 then some (d.lane p.lane).status else none
  if t + 24 < 200 then kLimBudgetCalc p ⟨s, status, drv, t⟩ s d
  else d.onE2 p fun e => { e with
    budget := some ⟨s + 1, status, drv, t⟩
    out := if t < 180 then { e.out with reqNext := some (s, d.requestWord p drv e.out.pairLimited) } else e.out }

/-! ### The recomputation check -/

/-- A component within a tolerance of a stored S14 value (R475). -/
def near14 (v : Int) (word sh : Nat) (tol : Int) : Bool :=
  decide (absI (v - q16 (signedOf 16 (word / 2 ^ sh))) ≤ q16 tol)

/-- Whether a saturated duty is that of the phase that a mode 1 pattern clamps (R113, R475): in its sector the phase of the
largest reference at 65535, while 0x3x40.07 is 0, or that of the smallest at 0. -/
def clampedPhase (clampMode sector : Nat) (x : Phase) (duty : Nat) : Bool :=
  let (hi, lo) := ([(Phase.u, Phase.w), (.v, .w), (.v, .u), (.w, .u), (.w, .v), (.u, .v)].getD (sector - 1) (.u, .w))
  (clampMode = 0 && x == hi && duty == 65535) || (x == lo && duty == 0)

/-- Whether the duties cannot be compared with the vector (R475): OVM, mode 2 or 3, or a saturated duty other than the
clamped phase's in mode 1, which clamps one phase alone. -/
def dutySaturated (clampMode : Nat) (v : DutyVal) : Bool :=
  let mode := v.pattern / 8 % 4
  let ends := [(Phase.u, v.du), (.v, v.dv), (.w, v.dw)].filter fun e => e.2 == 0 || e.2 == 65535
  bitOf v.pattern 5 || 2 ≤ mode || 2 ≤ ends.length ||
    ends.any fun e => !(mode == 1 && clampedPhase clampMode (v.pattern % 8) e.1 e.2)

/-- K_CHECK_DQ's read of its cells: classification, reconstruction and angles from engine 2's own record, and the record's
advance (R94 to R96, R147, R148). Answers id, iq, θ_apply. -/
def Dev.recompute (d : Dev) (p : PortId) : Int × Int × Int × Int × Int :=
  let x := d.port p
  let o := x.e2.out
  let v := x.cons.cur2.held
  let a := x.cons.ang2.held
  let k : Int := d.frame p
  let w : Int := o.wSlot
  let cn : Int := (x.cells.current.cur.wslot : Int) - k
  let half := narrow (a.speed * k) 2
  let up := d.poor p v.uValid v.uGap
  let vp := d.poor p v.vValid v.vGap
  let th := o.thetaS1 + narrow (o.wS1 * k) 2
  let i := reconstruct up vp v.iu v.iv (predict o.recId o.recIq th)
  let ab := clarke i.1 i.2.1 i.2.2
  let t2 := angleAt a w (cn + 2 * k)
  let dq := park ab.1 ab.2 (wrapAngQ (angleAt a w cn + half))
  (dq.1, dq.2, wrapAngQ (t2 + half), t2, a.speed)

/-- The comparisons of R475 for recomputed currents, the held duty cell and the check words as loaded six ticks after the
offsets 6, 12 and 18 of an instance that started at tick T: whether one fails. -/
def Dev.checkFails (d : Dev) (p : PortId) (T : Nat) (id iq thA : Int) : Bool :=
  let x := d.port p
  let u := x.cons.duty2.held
  let chkI := (x.e0.fl.settled (T + 12)).chkI
  let chkV := (x.e0.fl.settled (T + 18)).chkV
  let chkB := (x.e0.fl.settled (T + 24)).chkB
  let tolI := d.num 0x2520 1
  let tolV := d.num 0x2520 2
  let badI := !(near14 id chkI 0 tolI && near14 iq chkI 16 tolI)
  let vb := signedOf 16 chkB
  let du : Int := u.du
  let dv : Int := u.dv
  let dw : Int := u.dw
  let va := narrow (q16 vb * (2 * du - dv - dw)) (3 * 65535)
  let vbt := divSqrt3 (narrow (q16 vb * (dv - dw)) 65535)
  let i := ipark id iq thA
  let c := if d.pnum p 0x40 3 = 1 then d.deadTerm p i.1 i.2 vb else (0, 0)
  let dq := park (va - c.1) (vbt - c.2) thA
  let badV := !(near14 dq.1 chkV 0 tolV && near14 dq.2 chkV 16 tolV)
  badI || (!dutySaturated (d.pnat p 0x40 7) u && badV)

/-- K_CHECK_DQ at its start tick t (R78, R472, R475): its command is issued at offset cycles − 5. -/
def kCheckDqBody (p : PortId) (t : Nat) (d : Dev) : Dev :=
  let d := ((d.readCur2 p).readAng2 p).readDuty2 p
  let d := if (d.port p).cons.ang2.wasStale then d
    else d.onOut p fun o => { o with wSlot := (d.port p).cells.angle.cur.wslot }
  let x := d.port p
  let stale := x.cons.cur2.wasStale || x.cons.ang2.wasStale || x.cons.duty2.wasStale
  let skip := stale || x.cells.duty.cur.fb
  let r := d.recompute p
  let bad := !skip && d.checkFails p ((d.lane p.lane).tick t) r.1 r.2.1 r.2.2.1
  let v := x.cons.cur2.held
  let good := !(d.poor p v.uValid v.uGap && d.poor p v.vValid v.vGap)
  let d := d.onOut p fun o => { o with
    checkOk := !bad
    senseOk := d.pnum p 0x32 1 == 2 && good
    recId := r.1
    recIq := r.2.1
    thetaS1 := o.thetaS2
    wS1 := o.wS2
    thetaS2 := r.2.2.2.1
    wS2 := r.2.2.2.2 }
  let d := if skip then d.inc 0x2520 3 else d
  if bad then d.commandAt p (lastSlots t 412) ⟨15, none, false, false⟩ FaultId.recompute.code else d

/-! ### The pair -/

/-- The residual of R243 in voltage codes, from a record's values; its components saturate (R144). -/
def Dev.residualOf (d : Dev) (p : PortId) (w id iq vd vq : Int) : Nat :=
  let rs := d.pnum p 0x10 2
  let a := q16 vd - d.dropR p rs (q16 id) + d.emfL p w (d.pnum p 0x10 4) (q16 iq)
  let b := q16 vq - d.dropR p rs (q16 iq) - d.emfL p w (d.pnum p 0x10 3) (q16 id) - d.emfPsi p w (d.pnum p 0x10 5)
  (satU 16 (ofQ (norm2 (satV a) (satV b)))).toNat

/-- Whether the survivor draws above the rated set current (R247). -/
def Dev.overloaded (d : Dev) (p : PortId) (id iq : Int) : Bool :=
  let rated := d.num (pairIdx p.pair) 2
  (d.port p).pair.state == soloOf p.lane && rated ≠ 0 && decide (rated * rated < id * id + iq * iq)

/-- The health word of a port (R237). -/
def Dev.healthWord (d : Dev) (p : PortId) (id iq : Int) : Nat :=
  let x := d.port p
  let drv := (d.pstate p).driving && d.safeOut p == 0 && !x.pair.ownLine
  bitsToNat [true, x.e2.out.checkOk, d.onRoot p.lane, x.e2.out.senseOk, (d.ang2 p).conf ≠ 0 && !x.fb.flags.fault,
    x.pair.blameSelf, x.pair.blamePartner, drv, d.overloaded p id iq]

/-- The record that engine 2 sends at tick T (R237): the frame tag counts current frames since activation, PORT_STATE is
engine 2's view, currents and voltages are the check words as stored by then. -/
def Dev.ownRecord (d : Dev) (p : PortId) (T : Nat) : XwVal :=
  let x := d.port p
  let f := x.e0.fl.settled T
  let a := d.ang2 p
  let id := signedOf 16 f.chkI
  let iq := signedOf 16 (f.chkI / 65536)
  let vd := signedOf 16 f.chkV
  let vq := signedOf 16 (f.chkV / 65536)
  { angle := (wrapAng a.angle).toNat, tag := x.mod.periods % 256
    pairByte := 128 * b2n x.e2.cmd.run + 64 * b2n x.e2.cmd.enable + 8 * x.e2.mo.view.code + x.pair.state % 4
    speed := a.speed, id := id, iq := iq, vd := vd, vq := vq, health := d.healthWord p id iq
    residual := d.residualOf p a.speed id iq vd vq, x := satS 32 x.e2.mo.x }

/-- The port state a record shows (R237). -/
def XwVal.portState (r : XwVal) : Nat := r.pairByte / 8 % 8

/-- Whether the pair may be re-formed (R246): both ports OFF, no active fault on either, both lanes running. -/
def Dev.reformable (d : Dev) (p : PortId) : Bool :=
  d.pstate p == .off && (d.port p).faults == [] && (d.port p.partner).faults == [] && (d.lane .a).alive &&
  (d.lane .b).alive && !d.laneLost .a && !d.laneLost .b && !(d.port p).pair.stale && (d.port p).pair.wasFresh &&
  (d.port p).pair.record.portState == 0

/-- LINK_STALE of the pair flags: the link of either lane is stale after it was fresh (R245, R254). -/
def Dev.putLinkStale (d : Dev) (p : PortId) : Dev :=
  let f := fun (q : PortId) => (d.port q).pair.stale && (d.port q).pair.wasFresh
  d.putBit (pairIdx p.pair) 0x14 2 (f p || f p.partner)

/-- Engine 2's read of the receive cell (R19, R80, R245): hold last; FLT_XW_LINK at the first stale frame after a fresh one,
withdrawn in the first fresh frame. -/
def Dev.readXw (d : Dev) (p : PortId) : Dev :=
  let x := d.port p
  let s := d.slotOf p
  let r := x.cells.xw.cur
  let c := x.cons.xw2
  let st := c.stale r s
  let u := x.pair
  let d := (d.onPort p fun x => { x with
    cons := { x.cons with xw2 := c.after r s }
    pair := { x.pair with
      record := if st then u.record else r.val
      wasFresh := u.wasFresh || !st
      stale := st } }).countRead p 10 st (c.skipped r)
  let d := if st && u.wasFresh && !u.stale then d.recordFault p .xwLink else d
  let d := if st then d else d.removeFaults p [FaultId.xwLink.code]
  d.putLinkStale p

/-- What K_XW_EXCH counts once a frame from the receive cell that it has read (R241, R244, R250): frames of a fresh, driving
partner whose line is asserted, frames since the verdict, stale frames. -/
def PairUnit.counted (u : PairUnit) (frame : Nat) : PairUnit :=
  if u.readFrame = frame + 1 then u
  else { u with
    readFrame := frame + 1
    lineDriving := if !u.stale && u.partnerLine && bitOf u.record.health 7 then u.lineDriving + 1 else 0
    staleFrames := if u.stale then u.staleFrames + 1 else 0
    verdictAge := if u.verdictAge = 0 then 0 else 1 + (frame - u.verdictFrame) }

/-- K_XW_EXCH (R40, R237, R245 to R247): the record goes out at the start tick over a link that is not idle, the receive cell
and the pair register are read, and a pair that can be re-formed is written SHARED. -/
def kXwExchBody (p : PortId) (t : Nat) (d : Dev) : Dev :=
  let d := d.readState p
  let T := (d.lane p.lane).tick t
  let frame := (d.port p).mod.periods
  let r := d.ownRecord p T
  let d := if d.linked p then d.sendRecord p T r else d
  let d := d.onPair p fun u => { u with sent := (r :: u.sent).take 16, residual := r.residual, tag := frame }
  let y := pairIdx p.pair
  let d := if bitOf r.health 8 then
      match (d.port p).pair.overloadSlot with
      | some s0 => d.put y 0x13 (clampI 0 65535 ((d.num y 4 * 2000 + s0 - d.slotOf p) / 2000))
      | none => d
    else d
  let d := (d.readXw p).onPair p fun u => { u.counted frame with exchSlot := d.slotOf p + lastSlots t 64 }
  let st := (d.port p).pair.state
  let d := d.onOut p fun o => { o with pairView := st, ge := if st = soloOf p.lane then 2 else 1 }
  if st ≠ 0 ∧ d.reformable p = true then
    (d.onPair p fun u => { u with
      blameSelf := false, blamePartner := false, verdictAge := 0
      writes := u.writes ++ [⟨d.slotOf p + lastSlots t 64, 2, 0, false, true⟩] }).putBit y 0x14 3 false
  else d

/-- The pair of records with the same frame tag: own as sent, partner's as received (R236, R238, R242). -/
def PairUnit.matched (u : PairUnit) : Option (XwVal × XwVal) :=
  if u.stale || !u.wasFresh then none
  else (u.sent.find? fun r => r.tag == u.record.tag).map fun r => (r, u.record)

/-- Whether the health check fails for a lane's record (R237, R242): bits [4:1] are zero (DEDUCED, log entry 66). -/
def XwVal.unhealthy (r : XwVal) : Bool := r.health / 2 % 16 = 0

/-- The measures and tolerances of the checks 0 to 4 of R242 on the records of lanes A and B, both with 16 fractional bits;
the checks of current and voltage are made in SHARED only. -/
def Dev.xwMeasures (d : Dev) (p : PortId) (a b : XwVal) : List (Int × Int) :=
  let y := pairIdx p.pair
  let shift : Int := match d.image with
    | some im => if bitOf im.pairFlags (2 + p.pair.num) then 1365 else 0
    | none => 0
  let rated := if d.num y 2 = 0 then d.pnum p 0x90 1 else d.num y 2
  let shared := (d.port p).e2.out.pairView = 0
  let cur := norm2 (q16 (a.id - b.id)) (q16 (a.iq - b.iq))
  let vol := norm2 (q16 (a.vd - b.vd)) (q16 (a.vq - b.vq))
  [(q16 (absI (wrapDiff ((a.angle : Int) - b.angle - shift))), q16 (d.num y 6)),
   (q16 (absI (a.speed - b.speed)), max (narrow (q16 (d.num y 7 * absI a.speed)) 1000) (cellOfSpeed (q16 (d.num y 8)))),
   (if shared then cur else 0, narrow (q16 (d.num y 9 * rated)) 1000),
   (if shared then vol else 0, q16 (d.num y 0xA)),
   (q16 (max a.residual b.residual : Nat), q16 (d.num y 0xB))]

/-- The checks that fail, bits of R242. -/
def failedChecks (ms : List (Int × Int)) (health : Bool) : Nat :=
  bitsToNat (ms.map (fun m => decide (m.2 < m.1)) ++ [health])

/-- Whether a frame is implausible (R244). -/
def implausible (ms : List (Int × Int)) (failed prev : Nat) : Bool :=
  (ms.any fun m => decide (2 * m.2 < m.1)) || (List.range 6).any fun i => bitOf failed i && bitOf prev i

/-- The lane that is blamed, or none for an unresolved verdict (R244). -/
def verdict (a b : XwVal) (margin : Int) : Option LaneId :=
  if a.unhealthy && !b.unhealthy then some .a
  else if b.unhealthy && !a.unhealthy then some .b
  else if margin < (a.residual : Int) - b.residual then some .a
  else if margin < (b.residual : Int) - a.residual then some .b
  else none

/-- The frames since a verdict against the partner run from its first (R244). -/
def PairUnit.judged (u : PairUnit) (frame : Nat) : PairUnit :=
  if u.verdictAge = 0 then { u with verdictAge := 1, verdictFrame := frame } else u

/-- What a lane does on a verdict (R244, R246, R472): the pair register is written at offset cycles − 5, the unit commanded
at offset cycles − 6. -/
def Dev.applyVerdict (d : Dev) (p : PortId) (t : Nat) (v : Option LaneId) : Dev :=
  let at' := d.slotOf p + lastSlots t 138
  let blame := fun (d : Dev) => d.commandAt p (lastSlots t 137) ⟨13, none, false, false⟩ FaultId.xwPlaus.code
  match v with
  | none =>
    (blame (d.onPair p fun u => { u with writes := u.writes ++ [⟨at', 1, 3, false, false⟩] })).putBit
      (pairIdx p.pair) 0x14 3 true
  | some l =>
    if l = p.lane then blame (d.onPair p fun u => { u with blameSelf := true })
    else d.onPort p fun x => { x with pair := { (x.pair.judged x.mod.periods) with
      blamePartner := true, writes := x.pair.writes ++ [⟨at', 1, soloOf p.lane, false, false⟩] } }

/-- K_XW_PLAUS's read of the receive cell, with the slots in which its write and its command complete (R472). -/
def Dev.startPlaus (d : Dev) (p : PortId) (t : Nat) : Dev :=
  let s := d.slotOf p
  (d.readXw p).onPair p fun u => { u with plausSlot := s + lastSlots t 138, plausCmd := s + lastSlots t 137 }

/-- K_XW_PLAUS (R80, R242 to R245, R472): the receive cell is read; evaluated with both ports in CLOSED and both records of
one tag fresh. -/
def kXwPlausBody (p : PortId) (t : Nat) (d : Dev) : Dev :=
  let d := d.startPlaus p t
  match (d.port p).pair.matched with
  | none => d
  | some (own, part) =>
    if own.portState = 4 ∧ part.portState = 4 then
      let a := if p.lane = .a then own else part
      let b := if p.lane = .a then part else own
      let ms := d.xwMeasures p a b
      let failed := failedChecks ms (a.unhealthy || b.unhealthy)
      let bad := implausible ms failed (d.port p).pair.prevFailed
      let d := d.onPair p fun u => { u with prevFailed := failed }
      let y := pairIdx p.pair
      let d := if failed = 0 then d else d.put y 0x11 failed
      if bad then
        let d := if p.lane = .a || (d.port p.partner).pair.stale then d.inc y 0x10 else d
        d.applyVerdict p t (verdict a b (d.num y 0xC))
      else d
    else d

/-! ### Supervision and outputs -/

/-- K_SUPERVISE (R132, R472): the speed flag's write, which takes effect in the slot after the instance's last tick. c is the
bound number of check positions. -/
def kSuperviseBody (p : PortId) (t c : Nat) (d : Dev) : Dev :=
  let d := d.readAng2 p
  let w := absI (d.ang2 p).speed * 20000000
  let due := d.slotOf p + lastSlots t (40 + 14 * c) + 1
  let set := fun (b : Bool) => d.onPort p fun x => { x with unit := { x.unit with speedDue := some (due, b) } }
  if d.pnum p 0x20 0xA * 2 ^ 30 ≤ w then set true
  else if w < d.pnum p 0x20 0xB * 2 ^ 30 then set false
  else d

/-- The phase of the start timeline at which the present speed frame begins, with the time since the phase's start: none
before ALIGN was entered (R218). -/
def phaseAt : List (Nat × Nat) → Nat → Option (Nat × Nat)
  | [], _ => none
  | (q, n) :: r, t => if t < n then some (q, t) else phaseAt r (t - n)

/-- The Id setpoint of a start (R218): of the phase that holds when the speed frame begins, with the sign of the start
direction. -/
def Dev.startId (d : Dev) (p : PortId) : Int :=
  let st := (d.port p).e1.start
  let l := d.startPhases p
  let n := attemptLength l
  let since := (d.speedStart p - st.alignSlot) * (d.startUnit p : Int)
  if since < 0 ∨ n = 0 then 0
  else match phaseAt l (since.toNat % n) with
    | some (1, t) =>
      let i := q16 (d.pnum p 0x80 3)
      let rise := d.pnum p 0x80 4 * 2000 * (d.startUnit p : Int)
      st.dir * (if rise ≤ t then i else narrow (i * t) rise)
    | some (2, _) => st.dir * q16 (d.pnum p 0x80 6)
    | some (5, _) => st.dir * q16 (d.pnum p 0x80 0x18)
    | some (6, _) => -(st.dir * q16 (d.pnum p 0x80 0x18))
    | _ => 0

/-- The command flags (R169, R177). -/
def E2.flags (e : E2) (torque : Bool) : Nat :=
  32768 * b2n e.out.regenBlock + 16384 * b2n torque + 8 * b2n e.mo.startNeg + e.mo.view.code

/-- K_SET_OUT (R75, R145, R169, R177, R218): the setpoint cell, written at offset 28. In ALIGN and RAMP the setpoints are
those of the start, 0 until the requested entry into ALIGN has begun its timeline. -/
def kSetOutBody (p : PortId) (t : Nat) (d : Dev) : Dev :=
  let v := (d.port p).e2.mo.view
  let d := if v == .align || v == .ramp then
      let i := if d.pstate p == .align || d.pstate p == .ramp then d.startId p else 0
      d.onOut p fun o => { o with idSp := i, iqSp := 0 }
    else d
  let e := (d.port p).e2
  let s := d.slotOf p + writeSlots t 28
  let c : SpVal := ⟨s14OfQ e.out.idSp, s14OfQ e.out.iqSp, s14OfQ e.out.iLim, e.flags (d.torqueMode p)⟩
  d.onPort p fun x => { x with cells := { x.cells with
    setpoint := x.cells.setpoint.write (s + 1) s (e.cmd.stale || x.cons.ang2.wasStale) c } }

/-- The motion flags of R183. -/
def E2.motionFlags (e : E2) : Nat :=
  bitsToNat [e.mo.limited, e.mo.held, e.mo.sat, e.mo.revPending, e.cmd.stale, e.cmd.stopped, e.mo.startRefused,
    e.mo.revStand, e.mo.unknown]

/-- The value that K_STATUS_OUT, started at tick T, stores for a bound object (R166, R183). The references of 0x3xA4.05 and .06
are those formed last, for the next frame, before any scaling (DESIGN CHOICE, log entry 130). -/
def Dev.statusValue (d : Dev) (p : PortId) (T blk sub : Nat) : Int :=
  let x := d.port p
  let f := x.e0.fl.settled T
  if blk = 0xA0 then
    if sub = 2 then satS 32 (ofQ x.e2.mo.wf)
    else if sub = 3 then satS 32 (ofQ x.e2.mo.r)
    else x.e2.motionFlags
  else if sub = 1 then signedOf 16 f.chkI
  else if sub = 2 then signedOf 16 (f.chkI / 65536)
  else if sub = 3 then signedOf 16 f.chkV
  else if sub = 4 then signedOf 16 (f.chkV / 65536)
  else if sub = 5 then s14OfQ x.e0.st.idRef
  else if sub = 6 then s14OfQ x.e0.st.iqRef
  else if sub = 7 then satU 16 (ofQ x.e2.out.iLim)
  else satS 32 (d.maOfCodes p x.e2.out.ibF)

/-- K_STATUS_OUT (R166, R183, R473): the i-th bound object is stored at offset 6 + 6 i and becomes visible at the next
boundary, or one later where the store is performed at tick 198 or 199. -/
def kStatusOutBody (p : PortId) (t : Nat) (bs : List Binding) (d : Dev) : Dev :=
  let ws := (bs.zip (List.range bs.length)).map fun e =>
    let key := e.1.value
    let w : StatusWrite := ⟨d.slotOf p + (t + 12 + 6 * e.2 + 2) / 200 + 1, d.slotOf p + (t + 6 + 6 * e.2) / 200, key,
      .num (d.statusValue p ((d.lane p.lane).tick t) (key / 256 % 256) (key % 256))⟩
    w
  d.onE2 p fun e => { e with status := e.status ++ ws }

/-! ### Stop and reversal sequencing -/

/-- Whether the kernels of the operating mode are placed (R177). -/
def Dev.modePlaced (d : Dev) (p : PortId) : Bool :=
  d.places p .e2 0x4C &&
  (if d.torqueMode p then d.places p .e2 0x44
   else (d.places p .e2 0x41 || d.places p .e2 0x42) && d.places p .e2 0x43)

/-- The kernels that engine 1 must place for a feedback mode, or for a sensorless port (R184, R205). -/
def feedbackKernels : Nat → List Nat
  | 0 => [0x26, 0x29, 0x2A, 0x2B, 0x2C, 0x2D, 0x2E, 0x2F]
  | 3 => [0x21, 0x22, 0x24, 0x2F]
  | 4 => [0x23, 0x24, 0x25, 0x2F]
  | _ => [0x20, 0x24, 0x25, 0x2F]

/-- Whether a port's start can be taken with the kernels placed (R177, R184, R205): injection needs its own and Ld below Lq.
K_HFI_INJ counts as placed wherever in engine 0's chain it stands (DESIGN CHOICE, log entry 174). -/
def Dev.startPlaced (d : Dev) (p : PortId) : Bool :=
  let m := d.pnat p 0x70 1
  let inj := m == 0 && d.pnum p 0x80 1 == 1
  d.modePlaced p && ((feedbackKernels m).all fun k => d.places p .e1 k) &&
  (!inj || (d.places p .e1 0x27 && d.places p .e1 0x28 && d.places p .e0 0x10 &&
    decide (d.pnum p 0x10 3 < d.pnum p 0x10 4)))

/-- The restart speed in 0.1 Hz (R176): 0 for a sensorless port without K_OBS_HFI. -/
def Dev.restartSpeed (d : Dev) (p : PortId) : Int :=
  if d.sensorless p && !d.places p .e1 0x27 then 0 else d.pnum p 0x60 0xD

/-- A transition that a K_STOP_SEQ instance started at tick t requests, in the slot of its last tick (R170, R472). -/
def Dev.request2 (d : Dev) (p : PortId) (t : Nat) (goal : PortState) (keepArm : Bool) : Dev :=
  d.requestIn p (lastSlots t 58) goal keepArm

/-- A start that is not taken (R171, R184, R205, R217). -/
def Dev.refuseStart (d : Dev) (p : PortId) : Dev := d.onMo p fun m => { m with startRefused := true }

/-- What both records of a pair ask for (R238, R245): RUN and ENABLE of own record and partner's; a port without a pair asks
alone. -/
def Dev.agreed (d : Dev) (p : PortId) : Bool × Bool :=
  if d.paired p then
    match (d.port p).pair.matched with
    | some (a, b) =>
      (bitOf a.pairByte 7 && bitOf b.pairByte 7, bitOf a.pairByte 6 && bitOf b.pairByte 6)
    | none => (false, false)
  else (true, true)

/-- Whether the stream-loss fallback stops the port in this frame (R180). -/
def Dev.streamStops (d : Dev) (p : PortId) : Bool :=
  let c := (d.port p).e2.cmd
  let rule := d.pnum p 0x60 0xE
  c.stale && (rule == 3 || (rule == 1 &&
    (if d.torqueMode p then decide (d.pnat p 0x60 0xF ≤ c.staleRun) else (d.port p).e2.mo.r == 0)))

/-- Whether a port belongs to the failed lane of a pair whose survivor is not OFF (R246): its register shows the partner's SOLO
state, and the partner's record a port state other than OFF. -/
def Dev.heldOut (d : Dev) (p : PortId) : Bool :=
  let u := (d.port p).pair
  d.paired p && u.state == soloOf p.lane.other && u.record.portState != 0

/-- K_STOP_SEQ in OFF (R104, R171, R232, R238, R246): the port of a failed lane stays OFF until the survivor's is OFF as well. -/
def Dev.seqOff (d : Dev) (p : PortId) (t : Nat) : Dev :=
  if (d.port p).e2.cmd.enable && !d.heldOut p then
    if !(d.port p).fe.everValid || (d.paired p && d.bit (pairIdx p.pair) 0x14 0) then d.refuseStart p
    else if (d.agreed p).2 then d.request2 p t .armed false
    else d
  else d

/-- K_STOP_SEQ in ARMED (R171, R177, R184, R205, R217, R228). -/
def Dev.seqArmed (d : Dev) (p : PortId) (t : Nat) : Dev :=
  let c := (d.port p).e2.cmd
  let g := d.agreed p
  if !c.enable then d.request2 p t .off false
  else if c.run && !d.startPlaced p then d.refuseStart p
  else if c.run && c.rearmed && g.1 && g.2 then
    if (d.ang2 p).conf == 0 then d.refuseStart p
    else
      let neg := decide (d.targetSign p < 0)
      let d := d.onPort p fun x => { x with
        e1 := { x.e1 with start := { x.e1.start with dirNeg := neg } }
        e2 := { x.e2 with mo := { x.e2.mo with startNeg := neg } } }
      if d.sensorless p && (d.ang2 p).conf < d.pnat p 0x80 0xB then d.request2 p t .align false
      else d.request2 p t .closed false
  else d

/-- A stop of the stream-loss fallback: STREAM_STOPPED, and RUN re-arming cancelled (R175, R180). -/
def Dev.streamStopped (d : Dev) (p : PortId) : Dev :=
  d.onE2 p fun e => { e with cmd := { e.cmd with
    stopped := e.cmd.stopped || e.cmd.streamStop
    rearmed := e.cmd.rearmed && !e.cmd.streamStop } }

/-- K_STOP_SEQ in ALIGN, RAMP and CLOSED (R171, R175, R176, R180). -/
def Dev.seqDriving (d : Dev) (p : PortId) (t : Nat) : Dev :=
  let e := (d.port p).e2
  let c := e.cmd
  let opp := d.targetSign p * sgn e.mo.wf < 0
  if !c.run || !c.enable then
    (d.streamStopped p).request2 p t .coast (!c.stale && !bitOf c.ctl 1)
  else if d.pstate p == .closed && opp && q16 (d.restartSpeed p) ≤ absI e.mo.wf then
    (d.onMo p fun m => { m with revPending := true }).request2 p t .coast true
  else d

/-- K_STOP_SEQ in COAST (R171, R172, R176, R180, R228): a stop of the stream-loss fallback against RUN = 1, the counts of
standstill and restart, then standstill before a restart. -/
def Dev.seqCoast (d : Dev) (p : PortId) (t : Nat) : Dev :=
  let d := if bitOf (d.port p).e2.cmd.ctl 1 then d.streamStopped p else d
  let e := (d.port p).e2
  let c := e.cmd
  let known := d.speedKnown p
  let wf := absI e.mo.wf
  let rs := q16 (d.restartSpeed p)
  let on := c.run && c.enable
  let opp := decide (d.targetSign p * sgn e.mo.wf < 0)
  let n := d.pnat p 0x60 0xB
  let still := if known && wf < q16 (d.pnum p 0x60 0xA) then e.mo.stopCount + 1 else 0
  let below := if known && wf < rs then e.mo.revCount + 1 else 0
  let pend := on && (e.mo.revPending || (opp && (!d.torqueMode p || decide (rs ≤ wf))))
  let r := (d.port p).reg
  let stand := e.mo.stand || n ≤ still || r.entrySlot + d.pnat p 0x60 0xC * 2000 ≤ d.slotOf p
  let d := d.onMo p fun m => { m with
    stopCount := still, revCount := below, revPending := pend, unknown := !known, stand := stand }
  let g := d.agreed p
  if stand then d.request2 p t (if c.enable then .armed else .off) false
  else if on && c.rearmed && g.1 && g.2 && known && (!opp || (pend && n ≤ below)) &&
      (!d.sensorless p || d.pnat p 0x80 0xB ≤ (d.ang2 p).conf) then d.request2 p t .closed false
  else d

/-- K_STOP_SEQ in TRIPPED (R252): no active fault and a fresh control word with ENABLE = 0. -/
def Dev.seqTripped (d : Dev) (p : PortId) (t : Nat) : Dev :=
  let c := (d.port p).e2.cmd
  if (d.port p).faults == [] && !c.stale && !c.enable then d.request2 p t .off false else d

/-- K_STOP_SEQ (R170 to R173, R175 to R177, R180, R217, R228, R238, R252). -/
def kStopSeqBody (p : PortId) (t : Nat) (d : Dev) : Dev :=
  (d.readAng2 p).oncePerFrame p 0x4C fun d =>
    let d := d.onMo p fun m => { m with
      view := d.pstate p
      seqSlot := d.slotOf p + lastSlots t 58
      unknown := false
      revStand := d.sensorless p && !d.places p .e1 0x27
      wf := if d.places p .e2 0x43 then m.wf else d.filteredSpeed p }
    let stop := d.streamStops p
    let d := d.onE2 p fun e => { e with cmd := { e.cmd with streamStop := stop } }
    let c := (d.port p).e2.cmd
    let d := d.onMo p fun m => { m with revPending := m.revPending && c.run && c.enable }
    match d.pstate p with
    | .off => d.seqOff p t
    | .armed => d.seqArmed p t
    | .align | .ramp | .closed => d.seqDriving p t
    | .coast => d.seqCoast p t
    | .shorted => d
    | .tripped => d.seqTripped p t

/-! ### The kernels -/

/-- Engine 2 of a port with the accesses performed whose slot has come (R37): K_PROC_IN's and K_LIM_BUDGET's. -/
def Dev.resume2 (d : Dev) (p : PortId) : Dev :=
  let d := match (d.port p).e2.proc with
    | some w =>
      if w.due ≤ d.slotOf p then
        let (vals, stale) := d.procRead p w.rest
        kProcInJudge p { w with stale := w.stale || stale, vals := w.vals ++ vals, rest := [] } d
      else d
    | none => d
  match (d.port p).e2.budget with
  | some b => if b.due ≤ d.slotOf p then kLimBudgetCalc p b (b.due - 1) d else d
  | none => d

/-- The engines of a port with what earlier instances have left for the present slot done. -/
def Dev.resumed (d : Dev) (p : PortId) : Dev := (d.resume0 p).resume2 p

/-- A kernel of engine 2, after what earlier ones have left for a later slot. -/
def kernel2 (p : PortId) (id t : Nat) (f : Dev → Dev) (d : Dev) : Dev := kernel p .e2 id t (fun d => f (d.resumed p)) d

/-- The bindings of the instance placed at tick t. -/
def Dev.bindings (d : Dev) (p : PortId) (kernel t : Nat) : List Binding :=
  match d.placed p .e2 kernel t with
  | some i => i.bindings
  | none => []

/-- K_PROC_IN. -/
def execKProcIn (p : PortId) (t : Nat) (s : State) : Host.Outcome State Fault Refusal :=
  .next (s.awake (kernel2 p 0x40 t fun d => kProcInBody p t (d.bindings p 0x40 t) d))

/-- K_RAMP. -/
def execKRamp (p : PortId) (t : Nat) (s : State) : Host.Outcome State Fault Refusal :=
  .next (s.awake (kernel2 p 0x41 t (kRampBody p)))

/-- K_SCURVE. -/
def execKScurve (p : PortId) (t : Nat) (s : State) : Host.Outcome State Fault Refusal :=
  .next (s.awake (kernel2 p 0x42 t (kScurveBody p)))

/-- K_SPD_PI. -/
def execKSpdPi (p : PortId) (t : Nat) (s : State) : Host.Outcome State Fault Refusal :=
  .next (s.awake (kernel2 p 0x43 t (kSpdPiBody p)))

/-- K_TRQ_SET. -/
def execKTrqSet (p : PortId) (t : Nat) (s : State) : Host.Outcome State Fault Refusal :=
  .next (s.awake (kernel2 p 0x44 t (kTrqSetBody p)))

/-- K_LIM_BUDGET. -/
def execKLimBudget (p : PortId) (t : Nat) (s : State) : Host.Outcome State Fault Refusal :=
  .next (s.awake (kernel2 p 0x45 t (kLimBudgetBody p t)))

/-- K_CHECK_DQ. -/
def execKCheckDq (p : PortId) (t : Nat) (s : State) : Host.Outcome State Fault Refusal :=
  .next (s.awake (kernel2 p 0x46 t (kCheckDqBody p t)))

/-- K_XW_EXCH. -/
def execKXwExch (p : PortId) (t : Nat) (s : State) : Host.Outcome State Fault Refusal :=
  .next (s.awake (kernel2 p 0x47 t (kXwExchBody p t)))

/-- K_XW_PLAUS. -/
def execKXwPlaus (p : PortId) (t : Nat) (s : State) : Host.Outcome State Fault Refusal :=
  .next (s.awake (kernel2 p 0x48 t (kXwPlausBody p t)))

/-- K_SUPERVISE, with the c bound for its placed instance. -/
def execKSupervise (p : PortId) (t : Nat) (s : State) : Host.Outcome State Fault Refusal :=
  .next (s.awake (kernel2 p 0x49 t fun d => kSuperviseBody p t (d.formula p .e2 0x49 t) d))

/-- K_SET_OUT. -/
def execKSetOut (p : PortId) (t : Nat) (s : State) : Host.Outcome State Fault Refusal :=
  .next (s.awake (kernel2 p 0x4A t (kSetOutBody p t)))

/-- K_STATUS_OUT. -/
def execKStatusOut (p : PortId) (t : Nat) (s : State) : Host.Outcome State Fault Refusal :=
  .next (s.awake (kernel2 p 0x4B t fun d => kStatusOutBody p t (d.bindings p 0x4B t) d))

/-- K_STOP_SEQ. -/
def execKStopSeq (p : PortId) (t : Nat) (s : State) : Host.Outcome State Fault Refusal :=
  .next (s.awake (kernel2 p 0x4C t (kStopSeqBody p t)))

end Sys2Proof.Machine
end

