-- ==== Sys2Proof/Machine/Slots.lean ====
section
/-! DEFINITION. The slot boundary, the budget allocation, the start of a calibration pass and the carrier grid lock (R18, R24,
R38, R41, R44, R50, R102, R117 to R120, R159, R160, R166, R183, R186, R204, R230, R267, R353, R473). -/

namespace Sys2Proof.Machine

/-! ### Cells and registers of a port -/

/-- The cells as visible in a slot (R18, R50). -/
def Cells.atBoundary (c : Cells) (slot : Nat) : Cells :=
  { current := c.current.atBoundary slot, angle := c.angle.atBoundary slot, setpoint := c.setpoint.atBoundary slot
    duty := c.duty.atBoundary slot, bus := c.bus.atBoundary slot, xw := c.xw.atBoundary slot }

/-- The interface's latch at the boundary that opens a slot (R186). The CLK_A cycle that it shares is the last one of the slot that
ends: an event of cycle 0 of the new slot is not in it (DESIGN CHOICE, log entry 172). -/
def Feedback.latched (f : Feedback) (clk : Nat) : Feedback :=
  { f with latch :=
      { clk := clk % 2 ^ 32, q := f.quad.q, p := f.quad.p, edge := f.quad.edge, h := f.hall.h
        hall := f.hall, flags := f.flags, sent := f.sent } }

/-- The newest observer status due in a slot (R230, R472). -/
def E1.obsAt (e : E1) (slot : Nat) : E1 :=
  { e with
    obs := match (e.obsDue.filter fun o => o.1 ≤ slot).getLast? with
      | some o => o.2
      | none => e.obs
    obsDue := e.obsDue.filter fun o => slot < o.1
    latch := e.latchNext.getD e.latch
    latchNext := none }

/-- A request word that a slot before has stored (R160). -/
def E2Out.stored (o : E2Out) (slot : Nat) : E2Out :=
  match o.reqNext with
  | some (s, w) => if s < slot then { o with reqWord := w, reqNext := none } else o
  | none => o

/-- A port at the boundary that opens a slot: cell writes visible, latch taken, registers as written, and engine 0's words as
stored by tick 197 of the slot before (R18, R38, R50, R186, R472). -/
def Port.atBoundary (x : Port) (slot : Nat) (clear : Bool) : Port :=
  { x with
    cells := x.cells.atBoundary slot
    fb := x.fb.latched (slot * 50)
    e0 := { x.e0 with fl := x.e0.fl.settled (200 * slot - 2) }
    e1 := x.e1.obsAt slot
    e2 := { x.e2 with
      out := x.e2.out.stored slot
      cmd := { x.e2.cmd with lastClear := x.e2.cmd.lastClear && clear }
      status := x.e2.status.filter fun w => slot < w.due } }

/-- The speed flag that K_SUPERVISE wrote, in its register from the slot it is due (R132, R472). -/
def Dev.speedFlagDue (d : Dev) (p : PortId) : Dev :=
  match (d.port p).unit.speedDue with
  | some (due, b) =>
    if due ≤ d.slotOf p then
      (d.onPort p fun x => { x with unit := { x.unit with speedDue := none } }).pput p 0x22 4 (b2n b : Nat)
    else d
  | none => d

/-! ### Objects written at a boundary -/

/-- The flags of 0x3x71.01 (R204). -/
def FbFlags.word (f : FbFlags) : Nat :=
  bitsToNat [f.fault, f.motion, f.direction, f.illegalEdge, f.referenced, f.mismatch, f.hallSkip, f.hallInvalid,
    f.sentStale, f.formatMis]

/-- The values of a list written to consecutive sub-indices of an object. -/
def Dev.putRow (d : Dev) (idx sub : Nat) (vs : List Int) : Dev :=
  (vs.zip (List.range vs.length)).foldl (fun d e => d.put idx (sub + e.2) e.1) d

/-- 0x3x71 from the latch and the angle cell (R204). -/
def Dev.putFeedback (d : Dev) (p : PortId) : Dev :=
  let x := d.port p
  let l := x.fb.latch
  let c := x.fb.counts
  let a := x.cells.angle.cur.val
  d.putRow (pidx p 0x71) 1
    [(l.flags.word : Nat), (l.q : Nat), (l.p : Nat), (c.illegal : Nat), (c.mismatches : Nat), c.lastDiff, (l.h : Nat),
     (c.skips : Nat), (l.sent.v1 : Nat), (l.sent.v2 : Nat), (l.sent.status : Nat), (c.accepted : Nat),
     (c.rejected : Nat), (c.lastRej : Nat), (c.tick : Nat), a.angle, satS 32 (ofQ (speedOfCell a.speed))]

/-- 0x3x81 from the observer status (R230). -/
def Dev.putObserver (d : Dev) (p : PortId) : Dev :=
  let o := (d.port p).e1.obs
  d.putRow (pidx p 0x81) 1
    [(o.flags : Nat), (o.phase : Nat), (o.attempt : Nat), (o.conf : Nat), (o.weight : Nat), (o.emf : Nat),
     (o.catchSpeed : Nat), (o.cause : Nat), (o.failures : Nat), (o.losses : Nat), (o.eddies : Nat), (o.resp : Nat)]

/-- 0x3xA0.01 from the port state register, and 0x3xA4.08 to .0B from the diagnostic word and the allocation (R166, R183). -/
def Dev.putActual (d : Dev) (p : PortId) : Dev :=
  let x := d.port p
  let o := x.e2.out
  let g := x.e0.fl.diag
  (d.pput p 0xA0 1 ((d.pstate p).code : Nat)).putRow (pidx p 0xA4) 8
    [(g / 65536 : Nat), (g % 256 + 8 * b2n o.limByBudget + 4 * b2n (bitOf o.reqWord 24) : Nat), (o.grant : Nat),
     (o.reqWord % 2 ^ 24 : Nat)]

/-- The stores of K_STATUS_OUT that become visible in a slot (R473). -/
def Dev.putStatus (d : Dev) (p : PortId) (slot : Nat) : Dev :=
  ((d.port p).e2.status.filter fun w => w.due ≤ slot).foldl (fun d w => d.putVal (w.key / 256) (w.key % 256) w.val) d

/-- The result records of a converter that become visible (R267). -/
def Dev.putResults (d : Dev) (g : GcId) : Dev :=
  let rs := (d.gcs.get g).results
  let d := d.onGc g fun c => { c with results := [] }
  rs.foldl (fun d r => d.put (gcIdx g 4) r.1 (r.2 : Nat)) d

/-- The values of stream frames due at a lane's boundary (R353). -/
def Dev.putStreams (d : Dev) (l : LaneId) : Dev :=
  let s := (d.lane l).slots
  let mine := fun (p : StreamPub) => p.lane == l && decide (p.due ≤ s)
  let vs := d.net.pubs.filter mine
  let d := { d with net := { d.net with pubs := d.net.pubs.filter fun p => !mine p } }
  vs.foldl (fun d v =>
    d.publish v.key v.raw (d.nat (streamIdx v.stream) 0x11) (d.nat (streamIdx v.stream) 3) false) d

/-! ### The boundary -/

/-- The kernels' commands whose slot has come, and the fault line of a pair that goes with a rotor-loss request (R239, R472). -/
def Dev.lateCommands (d : Dev) (p : PortId) : Dev :=
  let line := (d.port p).unit.later.any fun c => decide (c.due ≤ d.slotOf p) && c.line
  let d := d.releaseLate p
  if line && d.paired p then d.pairCommanded p else d

/-- A port's part of its lane's boundary. -/
def Dev.portBoundary (d : Dev) (p : PortId) : Dev :=
  let s := d.slotOf p
  let d := (d.putStatus p s).onPort p fun x => x.atBoundary s (d.bit (pidx p 0x61) 1 3)
  (((((d.lateCommands p).speedFlagDue p).putFeedback p).putObserver p).putActual p)

/-- A lane's counts advance: the slot count by one, and the hyperframe index with it while an image runs (R41, R44). -/
def Dev.advanceLane (d : Dev) (l : LaneId) : Dev :=
  let h := match d.image with
    | some im => im.h
    | none => 1
  d.onLane l fun x => { x with slots := x.slots + 1, hyper := if d.monArmed then (x.hyper + 1) % h else x.hyper }

/-- What stands at the end of a lane's slot as its next one opens: what its kernels left for a later slot is done, and the
counts advance (R18, R44, R472). -/
def Dev.laneOpens (d : Dev) (l : LaneId) : Dev := (l.ports.foldl (fun d p => d.resumed p) d).advanceLane l

/-- The converters of a lane. -/
def gcsOf : LaneId → List GcId
  | .a => [.g0, .g1]
  | .b => [.g2, .g3]

/-- What a lane does at the boundary that opens its slot (R50): stream values before changes, cells, latches and status
objects. -/
def Dev.laneBoundary (d : Dev) (l : LaneId) : Dev :=
  let d := d.putStreams l
  let d := l.ports.foldl (fun d p => d.portBoundary p) d
  let d := (gcsOf l).foldl (fun d g => d.putResults g) d
  if d.num (chopIdx l) 0x10 == 1 then d.putEngaged l ((d.lane l).tick 0) else d

/-- Frames that have left the transmit queues of the network ports: as many as the medium took, none while the port is OFF-line or
off the bus (R333, R336, log entry 9). -/
def Dev.drainTx (d : Dev) (o : Origin) : Dev :=
  if (d.reqPort o).tx.isEmpty || !d.busUp o then d
  else
    let n := Config.framesSent d.freeIx
    let d := d.onReqPort o fun x => { x with tx := x.tx.drop n }
    { d with freeIx := d.freeIx + 1 }

/-- What the network ports sense, in their status objects (R356). -/
def Dev.putNetSense (d : Dev) (net : NetSense) : Dev :=
  let d := d.putBit 0x1110 0x10 0 (d.portUp .n1 && net.beacon1)
  let d := d.putBit 0x1120 0x10 0 (d.portUp .n2 && net.beacon2)
  if d.num 0x1130 0x11 = 2 then d else d.put 0x1130 0x11 (b2n (d.portUp .n3 && net.passive) : Nat)

/-- The pin levels that a boundary samples: without lane B those of GPIO4 to GPIO7 read 0 (R468). -/
def Dev.gpioSeen (d : Dev) (gpio : Nat) : Nat := if d.boot.laneB then gpio % 256 else gpio % 16

/-- What the common domain does at the boundary of the lane that clocks it: time, with what AT may follow now (R318), pins,
network ports, chain port, shadows, queues (R310, R356, R404, R420, R450). -/
def Dev.commonBoundary (d : Dev) (gpio : Nat) (net : NetSense) : Dev :=
  let d := (((d.timeObjects).atSelect).putNetSense net).checkSteered
  let d := { d with gpioIn := d.gpioSeen gpio }.put 0x2010 3 (d.gpioSeen gpio : Nat)
  let d := ((d.putSources).chainBoundary).takeShadows
  (([Origin.n1, .n2, .n3].foldl (fun d o => d.drainTx o) d).putChainFlags)

/-! ### The carrier grid -/

/-- Whether any port of the active image is locked to the grid (R117). -/
def Dev.anyLocked (d : Dev) : Bool := PortId.all.any fun p => match d.slotEntry p with
  | some e => e.locked
  | none => false

/-- Whether the grid is disciplined (R117): without its timekeeping unit it runs free on the slot count (R27, log entry 139), and
so it does on a part without lane B, where the manual leaves open what "both lanes" are (DESIGN CHOICE, log entry 156). -/
def Dev.disciplined (d : Dev) : Bool :=
  !d.devFaulted .commonTime && d.num 0x2150 1 != 0 && d.anyLocked && (d.lane .a).alive && (d.lane .b).alive && d.onRoot .a &&
  d.onRoot .b

/-- The lock source's base (R118, R122). -/
def Dev.lockBase (d : Dev) : TimeBase :=
  match d.nat 0x2150 1 with
  | 2 => d.time.t0.base
  | 3 => d.time.t1.base
  | _ => d.time.at'

/-- Whether the lock source reports valid (R118). -/
def Dev.lockValid (d : Dev) : Bool :=
  match d.nat 0x2150 1 with
  | 1 => d.bit 0x2100 0xA 0
  | 2 => d.tracking .t0
  | 3 => d.tracking .t1
  | _ => false

/-- CARRIER_UNLOCKED set in the ports with bit 0 set, or cleared in every port (R118, R121). -/
def Dev.carrierUnlocked (d : Dev) (b : Bool) : Dev :=
  (if b then d.lockedPorts else PortId.all).foldl (fun d p => d.putBit (pidx p 0x40) 0x16 0 b) d

/-- The mean of the grid's trim over the last 1 s (R118). -/
def Dev.holdTrim (d : Dev) : Int :=
  let ts := d.grid.trims
  if ts = [] then d.num 0x2150 0x12 else narrow (ts.foldl (· + ·) 0) ts.length

/-- The grid lock's changes of state that need no measurement (R117, R118, R120). On the way from FREE to the first measurement
0x3x40.15 still reads 0x7FFFFFFF (DESIGN CHOICE, log entry 169). -/
def Dev.gridCheck (d : Dev) : Dev :=
  let st := d.nat 0x2150 0x10
  if !d.disciplined then
    if st = 0 then d
    else
      let d := (((d.put 0x2150 0x10 0).put 0x2150 0x12 0).carrierUnlocked true).putPhase none
      { d with grid := { d.grid with goodRun := 0, badRun := 0 } }
  else if st = 0 ∨ st = 3 then
    if d.lockValid then { d with grid := { d.grid with goodRun := 0, badRun := 0 } }.put 0x2150 0x10 1 else d
  else if d.lockValid then d
  else ((d.put 0x2150 0x10 3).put 0x2150 0x12 d.holdTrim).carrierUnlocked true

/-- The phase error of R118 in units of the bases: source time of the boundary minus the nearest anchored instant. -/
def phaseError (src anchorNs : Int) (h hyper : Nat) : Int :=
  let per := (h : Int) * 500 * nsUnit
  let x := src - (anchorNs + 500 * hyper) * nsUnit
  if per = 0 then 0 else (x + per / 2) % per - per / 2

/-- The trim of R118 in ppb: the source's rate and the phase term. -/
def gridTrim (incr e ms : Int) : Int :=
  let f := narrow ((incr - 5 * nsUnit) * 1000000000) (5 * nsUnit)
  let ph := clampAbs 200000 (narrow (e * 1000) (nsUnit * ms))
  clampAbs 650000 (f + ph)

/-- The lock state after a measurement: beyond 40 ns when the instants moved, 100 measurements within 20 ns, 10 beyond
40 ns (R118). A return to ACQUIRING because the instants moved counts no lock loss and leaves CARRIER_UNLOCKED as it was, which
R118 does not state (DESIGN CHOICE, log entry 118). -/
def Dev.gridLock (d : Dev) (e : Int) : Dev :=
  let g := d.grid
  let far := decide (40 * nsUnit < absI e)
  let near := decide (absI e ≤ 20 * nsUnit)
  let good := if near then g.goodRun + 1 else 0
  let bad := if far then g.badRun + 1 else 0
  let st := d.nat 0x2150 0x10
  let d := { d with grid := { g with goodRun := good, badRun := bad, moved := false } }
  if st = 2 then
    if g.moved && far then { d with grid := { d.grid with goodRun := 0, badRun := 0 } }.put 0x2150 0x10 1
    else if 10 ≤ bad then
      (({ d with grid := { d.grid with goodRun := 0, badRun := 0 } }.put 0x2150 0x10 1).inc 0x2150 0x13).carrierUnlocked
        true
    else d
  else if 100 ≤ good then
    ({ d with grid := { d.grid with badRun := 0 } }.put 0x2150 0x10 2).carrierUnlocked false
  else d

/-- The hyperframe slot index of the present slot on the grid: before the hyperframe index 0 of an activation, counted back from
it (R82, R118). -/
def Dev.gridIndex (d : Dev) (h : Nat) : Nat :=
  match d.activeAt with
  | some b => if h = 0 then 0 else (h - (b - d.slotNow) % h) % h
  | none => (d.lane d.clkLane).hyper

/-- The trim in force, kept for the mean over the last 1 s (R118). -/
def Dev.keepTrim (d : Dev) : Dev :=
  { d with grid := { d.grid with trims := (d.num 0x2150 0x12 :: d.grid.trims).take 10000 } }

/-- GRID_PHASE_MEASUREMENT (R117 to R120): every 200 slots the phase error, the trim and the lock state. -/
def gridPhaseMeasurementStep (d : Dev) : Dev :=
  if d.clocked d.clkLane && d.grid.slot + 200 ≤ d.slotNow then
    let d := { d with grid := { d.grid with slot := d.slotNow } }.gridCheck
    let st := d.nat 0x2150 0x10
    (if st = 1 ∨ st = 2 then
      match d.image with
      | none => d
      | some im =>
        let b := d.lockBase
        let e := phaseError b.val (d.num 0x2150 2) im.h (d.gridIndex im.h)
        let ns := satS 32 (roundHA e nsUnit)
        let trim := gridTrim b.incr e (d.num 0x2150 3)
        let d := (((d.put 0x2150 0x11 ns).put 0x2150 0x12 trim).putPhase (some ns))
        d.gridLock e
    else d).keepTrim.show
  else d

/-! ### SLOT_BOUNDARY -/

/-- Whether slots are counted: from the decision on the root clock until the lanes lose their power (R288). -/
def Dev.slotsRun (d : Dev) : Bool :=
  match d.boot.phase with
  | .clocked | .imageDue | .up | .goingDown => true
  | _ => false

/-- DT and AT as a lane that does not clock the common domain finds them at its own boundary, `ticks` CLK_P ticks behind the last
boundary of the one that does (R325, log entry 137). -/
def Dev.crossBases (d : Dev) (ticks : Nat) : Dev :=
  let t := (d.advanceTime ticks).time
  { d with time := { d.time with cross := (t.dt.ns, t.at'.ns) } }

/-- SLOT_BOUNDARY (R18, R24, R41, R44, R50): a slot of lane l opens, with that of the other lane while both run on the root.
`ticks` are the CLK_P ticks since the last boundary of the lane that clocks the common domain, `gpio` the pin levels, `net` what
the network ports sense. Arrived requests are sampled here, or by CHANGE_PUBLICATION where the boundary publishes first, or as the
next slot opens (log entry 182). Requests of the slots that open read what stands then (R362). -/
def slotBoundaryStep (l : LaneId) (ticks gpio : Nat) (net : NetSense) (d : Dev) : Dev :=
  if d.clocked l && d.slotsRun then
    let ls := d.lanesWith l
    let c := d.clkLane
    let d := d.sampledAll
    let d := ls.foldl (fun d l => d.laneOpens l) d
    let d := if ls.contains c then d.advanceTime ticks else d
    let d := ls.foldl (fun d l => d.laneBoundary l) d
    let d :=
      if ls.contains c then (d.commonBoundary gpio net).gridCheck
      else d.crossBases ticks
    let d := if d.dueChanges.1.isEmpty && d.dueProcs.isEmpty then d.sampledAll else d
    (ls.foldl (fun d l => d.finishSnapshot l) (d.takeJobs ls)).showLanes ls
  else d

/-! ### BUDGET_ALLOCATION -/

/-- The lane status word (R159). -/
def Dev.laneStatusWord (d : Dev) (l : LaneId) : Nat :=
  let non := l.ports.map fun p => (d.port p).unit.nonMember
  (d.nat 0x2820 (match l with
    | .a => 0x10
    | .b => 0x11)) % 1024 + 65536 * b2n (d.chopFault l) + 131072 * b2n (d.lane l).otherLost + 262144 * bitsToNat non

/-- The ports of a lane in the order of 0x2810.03 (R160, R165). -/
def Dev.budgetOrder (d : Dev) (l : LaneId) : List PortId :=
  [12, 8, 4, 0].filterMap fun sh =>
    let n := d.nat 0x2810 3 / 2 ^ sh % 16
    l.ports.find? fun p => p.num + 1 == n

/-- A lane's budget in mA (R160): the whole for a part without lane B or while the other lane is lost. -/
def Dev.laneBudget (d : Dev) (l : LaneId) : Int :=
  let b := d.num 0x2810 1
  let share := roundHA (b * d.num 0x2810 2) 1000
  if !d.boot.laneB || (d.lane l).otherLost then b
  else match l with
    | .a => share
    | .b => b - share

/-- The allocation over the ports in their order (R160): each takes what is left up to its request. -/
def Dev.allocate (d : Dev) : Int → List PortId → Dev
  | _, [] => d
  | rem, p :: ps =>
    let req : Int := (d.port p).e2.out.reqWord % 2 ^ 24
    let part := d.pnum p 0x90 3 ≠ 0 ∧ d.num 0x2810 1 ≠ 0
    let g := if part then min req rem else 0
    let d := d.onOut p fun o => { o with grant := g.toNat, limByBudget := decide (part ∧ g < req) }
    d.allocate (rem - g) ps

/-- BUDGET_ALLOCATION (R38, R159, R160): once a slot, in its ticks 198 and 199: the grants, and the lane status word. -/
def budgetAllocationStep (l : LaneId) (d : Dev) : Dev :=
  let s := (d.lane l).slots
  if d.clocked l && d.slotsRun && (d.lane l).budgetSlot != some s then
    let d := l.ports.foldl (fun d p => d.onOut p fun o => o.stored (s + 1)) d
    let b := d.laneBudget l
    let d := (d.allocate b (d.budgetOrder l)).put 0x2810 (match l with
      | .a => 0x10
      | .b => 0x11) (if d.num 0x2810 1 = 0 then 0 else b)
    let w := d.laneStatusWord l
    d.onLane l fun x => { x with status := w, budgetSlot := some s }
  else d

/-! ### CS_START_CALIBRATION -/

/-- CS_START_CALIBRATION (R102): the published write of 0x01 to 0x3x31.00, or another start event that waits, starts a pass. -/
def csStartCalibrationStep (p : PortId) (d : Dev) : Dev :=
  if d.clocked p.lane then
    match d.pubOf (pidx p 0x31) 0 with
    | some _ => ((d.dropPub (pidx p 0x31) 0).startPass p).showAt p.lane
    | none => if (d.port p).fe.calDue then (d.startPass p).showAt p.lane else d
  else d

/-! ### Meanings -/

/-- SLOT_BOUNDARY. -/
def execSlotBoundary (l : LaneId) (ticks : Nat) (x : BoundarySense) (s : State) : Host.Outcome State Fault Refusal :=
  .next (s.awake (slotBoundaryStep l ticks x.gpio x.net))

/-- BUDGET_ALLOCATION. -/
def execBudgetAllocation (l : LaneId) (s : State) : Host.Outcome State Fault Refusal :=
  .next (s.awake (budgetAllocationStep l))

/-- CS_START_CALIBRATION. -/
def execCsStartCalibration (p : PortId) (s : State) : Host.Outcome State Fault Refusal :=
  .next (s.awake (csStartCalibrationStep p))

/-- GRID_PHASE_MEASUREMENT. -/
def execGridPhaseMeasurement (s : State) : Host.Outcome State Fault Refusal :=
  .next (s.awake gridPhaseMeasurementStep)

end Sys2Proof.Machine
end

