-- ==== Sys2Proof/Machine/OverCurrent.lean ====
section
/-! DEFINITION. The over-current comparator (R89, R98, R99). -/

namespace Sys2Proof.Machine

/-- One level count after an instant: windowed instants neither advance nor clear it (R98). -/
def levelCount (n : Nat) (exceeds skip : Bool) : Nat := if skip then n else if exceeds then n + 1 else 0

/-- Whether a calibrated sample's magnitude exceeds a level in codes: the sample is compared with its fractional bits, not
rounded to an S14 code (DESIGN CHOICE, log entry 132). -/
def exceeds (x level : Int) : Bool := decide (level * 2 ^ 20 < absI x)

/-- A port as the opening of its next slot leaves it: cells visible and a state transition taken (R18, R170). -/
def Dev.portAhead (d : Dev) (p : PortId) : Dev :=
  let d := d.onLane p.lane fun x => { x with slots := x.slots + 1 }
  portStateTransitionStep p (d.onPort p fun x => { x with cells := x.cells.atBoundary (d.slotOf p) })

/-- The transitions of the period that follows, on the running period's axis, in its last slot: the boundary changes of R109 have
windows that begin 100 ns before the period's end, and what the modulator will take is then decided (R76, R89, R109). -/
def Dev.transAhead (d : Dev) (p : PortId) : Tri (List Trans) :=
  let m := (d.port p).mod
  let k := d.frame p
  if m.running && d.slotOf p + 1 == m.startSlot + k then
    let e := d.portAhead p
    nextTrans (400 * k) (e.plans p (e.chooseDrive p))
  else ⟨[], [], []⟩

/-- The comparator after one sample instant (R98). A sample with OVR also exceeds a hard level below 8192 (DESIGN CHOICE, log
entry 132: the rule says so for the level test only). -/
def Dev.ocInstant (d : Dev) (p : PortId) (next : Tri (List Trans)) (c : OcCounts) (o : OcSample) : OcCounts :=
  let xu := d.corrected p .u o.tag o.s.u
  let xv := d.corrected p .v o.tag o.s.v
  let xw := -(xu + xv)
  let lvl := d.pnum p 0x30 8
  let hard := d.pnum p 0x30 0xA
  let wu := d.winAt p next .u o.tag
  let wv := d.winAt p next .v o.tag
  let wOvr := o.s.uOvr || o.s.vOvr
  let hc := fun (n : Nat) (x : Int) (ovr : Bool) =>
    if hard = 0 then 0 else if (if hard = 8192 then ovr else ovr || exceeds x hard) then n + 1 else 0
  { level :=
      { u := levelCount c.level.u (o.s.uOvr || exceeds xu lvl) wu
        v := levelCount c.level.v (o.s.vOvr || exceeds xv lvl) wv
        w := levelCount c.level.w (wOvr || exceeds xw lvl) (wu || wv) }
    hard := { u := hc c.hard.u xu o.s.uOvr, v := hc c.hard.v xv o.s.vOvr, w := hc c.hard.w xw wOvr } }

/-- Whether a count has reached its limit (R98). -/
def OcCounts.trips (c : OcCounts) (limit : Nat) : Bool :=
  limit ≤ c.level.u || limit ≤ c.level.v || limit ≤ c.level.w || 2 ≤ c.hard.u || 2 ≤ c.hard.v || 2 ≤ c.hard.w

/-- The counts through a run of instants, stopping at the first trip. -/
def Dev.ocRun (d : Dev) (p : PortId) (next : Tri (List Trans)) (limit : Nat) : List OcSample → OcCounts → OcCounts
  | [], c => c
  | o :: r, c =>
    let c' := d.ocInstant p next c o
    if c'.trips limit then c' else d.ocRun p next limit r c'

/-- OVERCURRENT_TRIP (R98, R134): the comparator sees the given instants; a count that reaches its limit is counted, raises
FLT_OVERCURRENT and commands the unit (source 1); the counts start again. During a safe state a trip changes nothing but its
count. Disarmed during a calibration pass (R100), the run counts stand as they were until the pass has ended (DESIGN CHOICE, log
entry 132). -/
def overcurrentTripStep (p : PortId) (obs : List OcSample) (d : Dev) : Dev :=
  let x := d.port p
  if (d.lane p.lane).alive && x.fe.pass.isNone then
    let c := d.ocRun p (d.transAhead p) (d.pnat p 0x30 9) obs x.fe.oc
    if c.trips (d.pnat p 0x30 9) then
      let safe := d.safeOut p ≠ 0
      let d := (d.onPort p fun x => { x with fe := { x.fe with oc := ⟨⟨0, 0, 0⟩, ⟨0, 0, 0⟩⟩ } }).pinc p 0x33 7
      if safe then d else d.trip p .overcurrent 1
    else d.onPort p fun x => { x with fe := { x.fe with oc := c } }
  else d

/-- OVERCURRENT_TRIP. -/
def execOvercurrentTrip (p : PortId) (obs : List OcSample) (s : State) : Host.Outcome State Fault Refusal :=
  .next (s.awake (overcurrentTripStep p obs))

end Sys2Proof.Machine
end

