-- ==== Sys2Proof/Machine/Dispatch.lean ====
section
/-! DEFINITION. What every command does: one arm per constructor, one meaning per arm. -/

namespace Sys2Proof.Machine

def exec (i : Instr) (s : State) : Host.Outcome State Fault Refusal :=
  match i with
  | .slotBoundary l ticks x => Sys2Proof.Machine.execSlotBoundary l ticks x s
  | .changePublication => Sys2Proof.Machine.execChangePublication s
  | .budgetAllocation l => Sys2Proof.Machine.execBudgetAllocation l s
  | .alu e t op dst a b c => Sys2Proof.Machine.execAlu e t op dst a b c s
  | .multiply e t op dst a b c => Sys2Proof.Machine.execMultiply e t op dst a b c s
  | .sineCosine e t dstSin dstCos angle => Sys2Proof.Machine.execSineCosine e t dstSin dstCos angle s
  | .divideSquareRoot e t sqrt sat dst a b => Sys2Proof.Machine.execDivideSquareRoot e t sqrt sat dst a b s
  | .scratchpadAccess e t op wide addr ecc => Sys2Proof.Machine.execScratchpadAccess e t op wide addr ecc s
  | .sharedSramAccess e t op addr ecc => Sys2Proof.Machine.execSharedSramAccess e t op addr ecc s
  | .stagePortAccess e t op => Sys2Proof.Machine.execStagePortAccess e t op s
  | .crosswindSend p t angle pairByte speed id iq vd vq health residual x => Sys2Proof.Machine.execCrosswindSend p t angle pairByte speed id iq vd vq health residual x s
  | .branch e t taken target => Sys2Proof.Machine.execBranch e t taken target s
  | .loopSetUp e t second count => Sys2Proof.Machine.execLoopSetUp e t second count s
  | .kIin p t => Sys2Proof.Machine.execKIin p t s
  | .kAngIn p t => Sys2Proof.Machine.execKAngIn p t s
  | .kVbusIn p t => Sys2Proof.Machine.execKVbusIn p t s
  | .kClarke p t => Sys2Proof.Machine.execKClarke p t s
  | .kPark p t => Sys2Proof.Machine.execKPark p t s
  | .kPiDq p t => Sys2Proof.Machine.execKPiDq p t s
  | .kDecouple p t => Sys2Proof.Machine.execKDecouple p t s
  | .kMtpa p t => Sys2Proof.Machine.execKMtpa p t s
  | .kFwVlim p t => Sys2Proof.Machine.execKFwVlim p t s
  | .kIpark p t => Sys2Proof.Machine.execKIpark p t s
  | .kOvm p t => Sys2Proof.Machine.execKOvm p t s
  | .kDtcomp p t => Sys2Proof.Machine.execKDtcomp p t s
  | .kSvm7 p t => Sys2Proof.Machine.execKSvm7 p t s
  | .kSvm5 p t => Sys2Proof.Machine.execKSvm5 p t s
  | .kZvv p t => Sys2Proof.Machine.execKZvv p t s
  | .kHfiInj p t => Sys2Proof.Machine.execKHfiInj p t s
  | .kDutyOut p t => Sys2Proof.Machine.execKDutyOut p t s
  | .kQepIn p t => Sys2Proof.Machine.execKQepIn p t s
  | .kHallIn p t => Sys2Proof.Machine.execKHallIn p t s
  | .kHallInterp p t => Sys2Proof.Machine.execKHallInterp p t s
  | .kSentIn p t => Sys2Proof.Machine.execKSentIn p t s
  | .kAngScale p t => Sys2Proof.Machine.execKAngScale p t s
  | .kSpdEst p t => Sys2Proof.Machine.execKSpdEst p t s
  | .kObsBemf p t => Sys2Proof.Machine.execKObsBemf p t s
  | .kObsHfi p t => Sys2Proof.Machine.execKObsHfi p t s
  | .kObsBlend p t => Sys2Proof.Machine.execKObsBlend p t s
  | .kPllAng p t => Sys2Proof.Machine.execKPllAng p t s
  | .kAlign p t => Sys2Proof.Machine.execKAlign p t s
  | .kIfRamp p t => Sys2Proof.Machine.execKIfRamp p t s
  | .kHandover p t => Sys2Proof.Machine.execKHandover p t s
  | .kFlyCatch p t => Sys2Proof.Machine.execKFlyCatch p t s
  | .kRotorLoss p t => Sys2Proof.Machine.execKRotorLoss p t s
  | .kAngOut p t => Sys2Proof.Machine.execKAngOut p t s
  | .kProcIn p t => Sys2Proof.Machine.execKProcIn p t s
  | .kRamp p t => Sys2Proof.Machine.execKRamp p t s
  | .kScurve p t => Sys2Proof.Machine.execKScurve p t s
  | .kSpdPi p t => Sys2Proof.Machine.execKSpdPi p t s
  | .kTrqSet p t => Sys2Proof.Machine.execKTrqSet p t s
  | .kLimBudget p t => Sys2Proof.Machine.execKLimBudget p t s
  | .kCheckDq p t => Sys2Proof.Machine.execKCheckDq p t s
  | .kXwExch p t => Sys2Proof.Machine.execKXwExch p t s
  | .kXwPlaus p t => Sys2Proof.Machine.execKXwPlaus p t s
  | .kSupervise p t => Sys2Proof.Machine.execKSupervise p t s
  | .kSetOut p t => Sys2Proof.Machine.execKSetOut p t s
  | .kStatusOut p t => Sys2Proof.Machine.execKStatusOut p t s
  | .kStopSeq p t => Sys2Proof.Machine.execKStopSeq p t s
  | .portStateTransition p => Sys2Proof.Machine.execPortStateTransition p s
  | .engineTimingFault e ev => Sys2Proof.Machine.execEngineTimingFault e ev s
  | .carrierPeriodStart p obs => Sys2Proof.Machine.execCarrierPeriodStart p obs s
  | .overcurrentTrip p obs => Sys2Proof.Machine.execOvercurrentTrip p obs s
  | .bothPoorLimit p => Sys2Proof.Machine.execBothPoorLimit p s
  | .csStartCalibration p => Sys2Proof.Machine.execCsStartCalibration p s
  | .calibrationInterval p => Sys2Proof.Machine.execCalibrationInterval p s
  | .csCalibrationEnd p sums => Sys2Proof.Machine.execCsCalibrationEnd p sums s
  | .bootUvFault p => Sys2Proof.Machine.execBootUvFault p s
  | .gdSupplyFault l vgdMv heldNs => Sys2Proof.Machine.execGdSupplyFault l vgdMv heldNs s
  | .desaturation p g sense onNs aboveNs => Sys2Proof.Machine.execDesaturation p g sense onNs aboveNs s
  | .phaseNodeCheck p x high c => Sys2Proof.Machine.execPhaseNodeCheck p x high c s
  | .gdFeedbackFault p => Sys2Proof.Machine.execGdFeedbackFault p s
  | .safeStateCommand p step => Sys2Proof.Machine.execSafeStateCommand p s step
  | .ascRelease p codes => Sys2Proof.Machine.execAscRelease p codes s
  | .safeStateReleaseOff p => Sys2Proof.Machine.execSafeStateReleaseOff p s
  | .chopperEngage p t mv => Sys2Proof.Machine.execChopperEngage p t mv s
  | .chopperRelease l t mv1 mv2 => Sys2Proof.Machine.execChopperRelease l t mv1 mv2 s
  | .chopperDrainCheck l t brksMv => Sys2Proof.Machine.execChopperDrainCheck l t brksMv s
  | .chopperEffectCheck l t mv1 mv2 => Sys2Proof.Machine.execChopperEffectCheck l t mv1 mv2 s
  | .nonmemberOv2 p t mv => Sys2Proof.Machine.execNonmemberOv2 p t mv s
  | .nonmemberOv2Withdraw p t mv => Sys2Proof.Machine.execNonmemberOv2Withdraw p t mv s
  | .escalationDelay p t mv => Sys2Proof.Machine.execEscalationDelay p t mv s
  | .busOv3 p mv aboveNs => Sys2Proof.Machine.execBusOv3 p mv aboveNs s
  | .gridPhaseMeasurement => Sys2Proof.Machine.execGridPhaseMeasurement s
  | .coastTimeout p => Sys2Proof.Machine.execCoastTimeout p s
  | .standstill p => Sys2Proof.Machine.execStandstill p s
  | .faultClear p obs => Sys2Proof.Machine.execFaultClear p obs s
  | .quadratureEdge p a b cycle => Sys2Proof.Machine.execQuadratureEdge p a b cycle s
  | .illegalBucketLeak p => Sys2Proof.Machine.execIllegalBucketLeak p s
  | .illegalBucketLimit p => Sys2Proof.Machine.execIllegalBucketLimit p s
  | .indexEvent x => Sys2Proof.Machine.execIndexEvent x s
  | .indexMismatchLimit p => Sys2Proof.Machine.execIndexMismatchLimit p s
  | .presetCount p => Sys2Proof.Machine.execPresetCount p s
  | .hallStateChange p h cycle => Sys2Proof.Machine.execHallStateChange p h cycle s
  | .hallInvalidTimeout p => Sys2Proof.Machine.execHallInvalidTimeout p s
  | .zeroSpeedTimeout p => Sys2Proof.Machine.execZeroSpeedTimeout p s
  | .sentFrameReceived p f => Sys2Proof.Machine.execSentFrameReceived p f s
  | .sentTimeout p => Sys2Proof.Machine.execSentTimeout p s
  | .startPhaseBoundary p => Sys2Proof.Machine.execStartPhaseBoundary p s
  | .startAttemptFailure p => Sys2Proof.Machine.execStartAttemptFailure p s
  | .polarityDecision p => Sys2Proof.Machine.execPolarityDecision p s
  | .handoverReached p => Sys2Proof.Machine.execHandoverReached p s
  | .rotorLossDetected p => Sys2Proof.Machine.execRotorLossDetected p s
  | .catchConfirmed p => Sys2Proof.Machine.execCatchConfirmed p s
  | .crosswindRecordArrival p t => Sys2Proof.Machine.execCrosswindRecordArrival p t s
  | .faultLineReceived p => Sys2Proof.Machine.execFaultLineReceived p s
  | .pairStateTransition p => Sys2Proof.Machine.execPairStateTransition p s
  | .xwLineFault p => Sys2Proof.Machine.execXwLineFault p s
  | .blamedPartnerDriving p => Sys2Proof.Machine.execBlamedPartnerDriving p s
  | .overloadTimeExpiry p => Sys2Proof.Machine.execOverloadTimeExpiry p s
  | .partnerLaneLost l => Sys2Proof.Machine.execPartnerLaneLost l s
  | .degradedEntry => Sys2Proof.Machine.execDegradedEntry s
  | .gcConversionComplete g x => Sys2Proof.Machine.execGcConversionComplete g x s
  | .restartSequence g => Sys2Proof.Machine.execRestartSequence g s
  | .gcRestartTakesEffect g => Sys2Proof.Machine.execGcRestartTakesEffect g s
  | .injectedRequest g => Sys2Proof.Machine.execInjectedRequest g s
  | .gcStartCalibration g => Sys2Proof.Machine.execGcStartCalibration g s
  | .gcCalibrationEnd g sums => Sys2Proof.Machine.execGcCalibrationEnd g sums s
  | .modeRequestSleep => Sys2Proof.Machine.execModeRequestSleep s
  | .modeRequestStandby => Sys2Proof.Machine.execModeRequestStandby s
  | .modeRequestRun => Sys2Proof.Machine.execModeRequestRun s
  | .privilegedRequestStorage => Sys2Proof.Machine.execPrivilegedRequestStorage s
  | .privilegedRequestConfigure => Sys2Proof.Machine.execPrivilegedRequestConfigure s
  | .lowPowerEntry => Sys2Proof.Machine.execLowPowerEntry s
  | .autoRun => Sys2Proof.Machine.execAutoRun s
  | .wakePin rising held => Sys2Proof.Machine.execWakePin rising held s
  | .wakeTimer elapsed => Sys2Proof.Machine.execWakeTimer elapsed s
  | .canWakeUp cycle => Sys2Proof.Machine.execCanWakeUp s cycle
  | .vbatReconnect mv low => Sys2Proof.Machine.execVbatReconnect mv low s
  | .supplyUv l rail mv heldNs => Sys2Proof.Machine.execSupplyUv l rail mv heldNs s
  | .sensorSupplyFault l mv loadMa heldNs => Sys2Proof.Machine.execSensorSupplyFault l mv loadMa heldNs s
  | .laneSupplyReturn x => Sys2Proof.Machine.execLaneSupplyReturn x s
  | .bothLanesLost common => Sys2Proof.Machine.execBothLanesLost s common
  | .powerOnReset => Sys2Proof.Machine.execPowerOnReset s
  | .resetNPulse lowNs => Sys2Proof.Machine.execResetNPulse lowNs s
  | .deviceReset => Sys2Proof.Machine.execDeviceReset s
  | .resetRelease a b psel otp bistA bistB => Sys2Proof.Machine.execResetRelease a b psel otp bistA bistB s
  | .rootClockQualified lfo => Sys2Proof.Machine.execRootClockQualified lfo s
  | .rootQualificationTimeout lfo => Sys2Proof.Machine.execRootQualificationTimeout lfo s
  | .laneNotReady l => Sys2Proof.Machine.execLaneNotReady l s
  | .startupImageCheckComplete => Sys2Proof.Machine.execStartupImageCheckComplete s
  | .thermalMeasurement l obs => Sys2Proof.Machine.execThermalMeasurement l obs s
  | .overtemp l decidegrees heldNs => Sys2Proof.Machine.execOvertemp l decidegrees heldNs s
  | .vgdBelow7v l vgdMv => Sys2Proof.Machine.execVgdBelow7v l vgdMv s
  | .islandUnpowered => Sys2Proof.Machine.execIslandUnpowered s
  | .rootClockLoss l obs => Sys2Proof.Machine.execRootClockLoss l obs s
  | .backupTrimAdjust l dev => Sys2Proof.Machine.execBackupTrimAdjust l dev s
  | .backupSteeringStep l devPpm => Sys2Proof.Machine.execBackupSteeringStep l devPpm s
  | .laneClockComparison l w count => Sys2Proof.Machine.execLaneClockComparison l w count s
  | .laneClockFault l => Sys2Proof.Machine.execLaneClockFault l s
  | .commonTimeFault => Sys2Proof.Machine.execCommonTimeFault s
  | .syncReceived n m rx => Sys2Proof.Machine.execSyncReceived n m rx s
  | .followUpReceived n m => Sys2Proof.Machine.execFollowUpReceived n m s
  | .announceReceived n m => Sys2Proof.Machine.execAnnounceReceived n m s
  | .pdelayReqReceived n requester seq rx tx => Sys2Proof.Machine.execPdelayReqReceived n requester seq rx tx s
  | .pdelayRespReceived n m rx => Sys2Proof.Machine.execPdelayRespReceived n m rx s
  | .pdelayReqSend n tx => Sys2Proof.Machine.execPdelayReqSend n tx s
  | .syncReceiptTimeout x n => Sys2Proof.Machine.execSyncReceiptTimeout x n s
  | .announceReceiptTimeout x n => Sys2Proof.Machine.execAnnounceReceiptTimeout x n s
  | .atSwitchComplete => Sys2Proof.Machine.execAtSwitchComplete s
  | .atRevert => Sys2Proof.Machine.execAtRevert s
  | .domainEnable x => Sys2Proof.Machine.execDomainEnable x s
  | .setDt => Sys2Proof.Machine.execSetDt s
  | .timedActionArm e => Sys2Proof.Machine.execTimedActionArm e s
  | .timedActionCancel e => Sys2Proof.Machine.execTimedActionCancel e s
  | .syncPulse e => Sys2Proof.Machine.execSyncPulse e s
  | .syncPulseEnd out => Sys2Proof.Machine.execSyncPulseEnd out s
  | .applyValue e => Sys2Proof.Machine.execApplyValue e s
  | .reanchorCarrierGrid e => Sys2Proof.Machine.execReanchorCarrierGrid e s
  | .timedModeRequest e => Sys2Proof.Machine.execTimedModeRequest e s
  | .journalCommitStart => Sys2Proof.Machine.execJournalCommitStart s
  | .journalCommitComplete first second => Sys2Proof.Machine.execJournalCommitComplete first second s
  | .journalBlockEraseComplete => Sys2Proof.Machine.execJournalBlockEraseComplete s
  | .acknowledge => Sys2Proof.Machine.execAcknowledge s
  | .takeSnapshot => Sys2Proof.Machine.execTakeSnapshot s
  | .requestArrival o h canId pdu => Sys2Proof.Machine.execRequestArrival o h canId pdu s
  | .read o => Sys2Proof.Machine.execRead o s
  | .write o vppMv => Sys2Proof.Machine.execWrite o vppMv s
  | .readSegment o => Sys2Proof.Machine.execReadSegment o s
  | .writeSegment o vppMv => Sys2Proof.Machine.execWriteSegment o vppMv s
  | .stagingBufferWrite o => Sys2Proof.Machine.execStagingBufferWrite o s
  | .openSession o => Sys2Proof.Machine.execOpenSession o s
  | .auth o => Sys2Proof.Machine.execAuth o s
  | .close o => Sys2Proof.Machine.execClose o s
  | .attach o => Sys2Proof.Machine.execAttach o s
  | .detach o => Sys2Proof.Machine.execDetach o s
  | .openExpiry id => Sys2Proof.Machine.execOpenExpiry id s
  | .sessionTimeout id => Sys2Proof.Machine.execSessionTimeout id s
  | .authLockoutExpiry o => Sys2Proof.Machine.execAuthLockoutExpiry o s
  | .bridgeExecution o => Sys2Proof.Machine.execBridgeExecution o s
  | .streamFrameArrival o h canId pdu => Sys2Proof.Machine.execStreamFrameArrival o h canId pdu s
  | .streamTimeout n => Sys2Proof.Machine.execStreamTimeout n s
  | .streamTransmit n => Sys2Proof.Machine.execStreamTransmit n s
  | .arpRequest n mac ip => Sys2Proof.Machine.execArpRequest n mac ip s
  | .neighbourSolicitation n mac target => Sys2Proof.Machine.execNeighbourSolicitation n mac target s
  | .echoRequest n h data => Sys2Proof.Machine.execEchoRequest n h data s
  | .busOff => Sys2Proof.Machine.execBusOff s
  | .busOffRecovery => Sys2Proof.Machine.execBusOffRecovery s
  | .n3Takeover => Sys2Proof.Machine.execN3Takeover s
  | .n3TakeoverComplete => Sys2Proof.Machine.execN3TakeoverComplete s
  | .ipv4LinkLocalClaim n addr conflict => Sys2Proof.Machine.execIpv4LinkLocalClaim n addr conflict s
  | .bankStaging o => Sys2Proof.Machine.execBankStaging o s
  | .verifyStagedImage => Sys2Proof.Machine.execVerifyStagedImage s
  | .imageVerificationComplete => Sys2Proof.Machine.execImageVerificationComplete s
  | .activateStagedImage => Sys2Proof.Machine.execActivateStagedImage s
  | .imageHyperframeStart => Sys2Proof.Machine.execImageHyperframeStart s
  | .selectProfile => Sys2Proof.Machine.execSelectProfile s
  | .profileLoadComplete => Sys2Proof.Machine.execProfileLoadComplete s
  | .saveProfile => Sys2Proof.Machine.execSaveProfile s
  | .profileSaveComplete differs => Sys2Proof.Machine.execProfileSaveComplete differs s
  | .eraseProfile => Sys2Proof.Machine.execEraseProfile s
  | .profileEraseComplete => Sys2Proof.Machine.execProfileEraseComplete s
  | .deviceRecordWrite => Sys2Proof.Machine.execDeviceRecordWrite s
  | .bankEraseComplete => Sys2Proof.Machine.execBankEraseComplete s
  | .verifyInactiveBank => Sys2Proof.Machine.execVerifyInactiveBank s
  | .bankVerificationComplete => Sys2Proof.Machine.execBankVerificationComplete s
  | .switchBanks => Sys2Proof.Machine.execSwitchBanks s
  | .programWord => Sys2Proof.Machine.execProgramWord s
  | .otpProgramComplete r => Sys2Proof.Machine.execOtpProgramComplete r s
  | .lockRegion => Sys2Proof.Machine.execLockRegion s
  | .otpLockComplete weak r => Sys2Proof.Machine.execOtpLockComplete weak r s
  | .otpPeriodicReread reading complete => Sys2Proof.Machine.execOtpPeriodicReread reading complete s
  | .ordinaryWordsRead weak => Sys2Proof.Machine.execOrdinaryWordsRead weak s
  | .chainCsnFall sckHigh => Sys2Proof.Machine.execChainCsnFall sckHigh s
  | .chainCsnRise sckHigh edges bits => Sys2Proof.Machine.execChainCsnRise sckHigh edges bits s
  | .chainStartUnit => Sys2Proof.Machine.execChainStartUnit s
  | .chainDataUnit => Sys2Proof.Machine.execChainDataUnit s
  | .chainAbortUnit => Sys2Proof.Machine.execChainAbortUnit s
  | .freeze => Sys2Proof.Machine.execFreeze s
  | .fzStatus => Sys2Proof.Machine.execFzStatus s
  | .dumpAddr v => Sys2Proof.Machine.execDumpAddr v s
  | .dumpData words => Sys2Proof.Machine.execDumpData words s
  | .resume => Sys2Proof.Machine.execResume s
  | .sysreset => Sys2Proof.Machine.execSysreset s
  | .idcode => Sys2Proof.Machine.execIdcode s
  | .extest pins drive => Sys2Proof.Machine.execExtest pins drive s
  | .samplePreload pins preload => Sys2Proof.Machine.execSamplePreload pins preload s
  | .highz => Sys2Proof.Machine.execHighz s
  | .clamp => Sys2Proof.Machine.execClamp s
  | .bypass code tdi => Sys2Proof.Machine.execBypass code tdi s
  | .obj cycles word => Sys2Proof.Machine.execObj cycles word s
  | .tapReset => Sys2Proof.Machine.execTapReset s
  | .lullNTrigger low => Sys2Proof.Machine.execLullNTrigger low s
  | .selfDumpStart quietUs => Sys2Proof.Machine.execSelfDumpStart quietUs s
  | .freezeCommand => Sys2Proof.Machine.execFreezeCommand s
  | .selfDumpComplete => Sys2Proof.Machine.execSelfDumpComplete s
  | .releaseCapture => Sys2Proof.Machine.execReleaseCapture s
  | .captureEraseComplete => Sys2Proof.Machine.execCaptureEraseComplete s
  | .traceRecordWrite => Sys2Proof.Machine.execTraceRecordWrite s
  | .returnConsentSet => Sys2Proof.Machine.execReturnConsentSet s
  | .returnConsentClear => Sys2Proof.Machine.execReturnConsentClear s

end Sys2Proof.Machine
end

