-- ==== Sys2Proof/Safety.lean ====
section
/-! DEFINITION. The terms in which claims are stated: a command that completes, the commands that act in a freeze, and the
invariants of the state. -/

namespace Sys2Proof.Machine

/-- The command completes in a state that has property P. -/
def Answers (c : Instr) (s : State) (P : State → Prop) : Prop := ∃ u, exec c s = .next u ∧ P u

/-- The commands that a freeze does not hold: the safe-state units, the analogue protections, the supply monitors, the
resets, the freeze trigger and the test access port (R431 to R441, R462). -/
def unheld : Instr → Bool
  | .desaturation .. | .gdFeedbackFault .. | .gdSupplyFault .. | .vgdBelow7v .. | .safeStateCommand .. | .busOv3 ..
  | .supplyUv .. | .overtemp .. | .bothLanesLost .. | .laneSupplyReturn .. | .powerOnReset | .resetNPulse ..
  | .lullNTrigger .. | .selfDumpStart .. | .selfDumpComplete | .freeze | .fzStatus | .dumpAddr .. | .dumpData ..
  | .resume | .sysreset | .idcode | .extest .. | .samplePreload .. | .highz | .clamp | .bypass .. | .obj ..
  | .tapReset => true
  | _ => false

/-- A request as its port takes it for service (R347, R348): the block with the request taken and counted. -/
def Dev.taken (d : Dev) (o : Origin) (i : Nat) (r : Request) : Dev := d.take o i (d.serveSlot o - firstService o r.stamp)

/-- Whom and what the response to a request served in the present slot of a port answers (R339, R348). -/
def Dev.replyNow (d : Dev) (o : Origin) (r : Request) : Reply := d.replyTo o r (d.serveSlot o - firstService o r.stamp)

/-- The response frame to a request (R335, R337, R339, R348): OK_DELAYED after a delay, and a payload only on success. -/
def Dev.response (d : Dev) (y : Reply) (res : Res) (payload : List Byte) : TxFrame :=
  let code := if res = .ok ∧ y.delay ≠ 0 then Res.okDelayed.code else res.code
  d.framed (originOf y.origin) 1 y.partner y.back (taggedPdu y.session y.key
    (pduBytes 1 y.opcode y.session y.seq code (delayUs y.delay) (if res = .ok then payload else [])))

/-- A lane carries a request out itself: the object is at home in it or in both, or its home lane is lost or absent (R28,
R29). -/
def Dev.atHome (d : Dev) (l : LaneId) (key : Nat) : Prop :=
  ∀ h, homeOf (key / 256) = .lane h → h = l ∨ d.laneLost h = true ∨ d.boot.laneB = false

/-- The offset of a Sync from the slave port (R316): the grandmaster's time at its reception minus the base's, both in units
of 2^-32 ns, from the origin in ns, the correction in 2^-16 ns and the ingress instant on DT in ns. -/
def Dev.syncOffset (d : Dev) (x : DomId) (n : NetPort) (origin : Nat) (correction rx : Int) : Int :=
  let b := (d.time.dom x).base
  let z := portTimeIdx n
  let at' := b.val + narrow (((rx - d.num z 1) * nsUnit - d.time.dt.val) * b.incr) d.time.dt.incr
  origin * nsUnit + correction * 65536 + (d.nat z 0x10 + d.num z 3 + d.num (domIdx x) 6) * nsUnit - at'

/-- The rate ratio minus one of a Sync, from its cumulative rate offset and the neighbour's (R316). -/
def Dev.syncRate (d : Dev) (n : NetPort) (rateOfs : Int) : Int :=
  let r := (d.time.peer n).nrr
  rateOfs + r + narrow (rateOfs * r) (2 ^ 41)

/-- The parts of the block, one for each field of its state. -/
inductive Part where
  | objs | ports | lanes | image | monArmed | activeAt | frozen | degradeDue | published
  | gcs | devFaults | boot | grid | time | net | wr | flash | fuses
  | otp | chain | tap | frz | shown | snap | gpioIn | freeIx
deriving DecidableEq, Repr

/-- A part is the same in two states of the block. -/
def Part.same : Part → Dev → Dev → Prop
  | .objs, d, e => d.objs = e.objs
  | .ports, d, e => d.ports = e.ports
  | .lanes, d, e => d.lanes = e.lanes
  | .image, d, e => d.image = e.image
  | .monArmed, d, e => d.monArmed = e.monArmed
  | .activeAt, d, e => d.activeAt = e.activeAt
  | .frozen, d, e => d.frozen = e.frozen
  | .degradeDue, d, e => d.degradeDue = e.degradeDue
  | .published, d, e => d.published = e.published
  | .gcs, d, e => d.gcs = e.gcs
  | .devFaults, d, e => d.devFaults = e.devFaults
  | .boot, d, e => d.boot = e.boot
  | .grid, d, e => d.grid = e.grid
  | .time, d, e => d.time = e.time
  | .net, d, e => d.net = e.net
  | .wr, d, e => d.wr = e.wr
  | .flash, d, e => d.flash = e.flash
  | .fuses, d, e => d.fuses = e.fuses
  | .otp, d, e => d.otp = e.otp
  | .chain, d, e => d.chain = e.chain
  | .tap, d, e => d.tap = e.tap
  | .frz, d, e => d.frz = e.frz
  | .shown, d, e => d.shown = e.shown
  | .snap, d, e => d.snap = e.snap
  | .gpioIn, d, e => d.gpioIn = e.gpioIn
  | .freeIx, d, e => d.freeIx = e.freeIx

/-- The parts that a command may change; resets, wake-up and the end of the entry into a low-power mode may change all
(R281, R282, R292). -/
def Part.changedBy (x : Part) : Instr → Bool
  | .slotBoundary .. => [.objs, .ports, .lanes, .published, .gcs, .grid, .time, .net, .wr, .flash, .otp, .chain, .shown, .snap, .gpioIn, .freeIx].contains x
  | .changePublication | .applyValue .. | .reanchorCarrierGrid .. => [.objs, .ports, .published, .grid, .time, .net, .wr, .flash, .shown, .freeIx].contains x
  | .budgetAllocation .. | .chopperEngage .. | .chopperRelease .. | .faultClear .. | .vgdBelow7v .. => [.objs, .ports, .lanes].contains x
  | .alu .. => [.ports, .freeIx].contains x
  | .multiply .. | .sineCosine .. | .divideSquareRoot .. | .stagePortAccess .. | .crosswindSend .. | .branch ..
  | .loopSetUp .. | .kClarke .. | .kPark .. | .kPiDq .. | .kDecouple .. | .kMtpa .. | .kIpark .. | .kDtcomp ..
  | .kSvm7 .. | .kSvm5 .. | .kZvv .. | .kHfiInj .. | .kDutyOut .. | .kQepIn .. | .kHallIn .. | .kHallInterp ..
  | .kSentIn .. | .kAngScale .. | .kSpdEst .. | .kObsHfi .. | .kObsBlend .. | .kPllAng .. | .kAlign .. | .kIfRamp ..
  | .kHandover .. | .kFlyCatch .. | .kRotorLoss .. | .kAngOut .. | .nonmemberOv2 .. | .nonmemberOv2Withdraw ..
  | .escalationDelay .. | .coastTimeout .. | .standstill .. | .quadratureEdge .. | .illegalBucketLeak ..
  | .indexEvent .. | .hallStateChange .. | .zeroSpeedTimeout .. | .sentFrameReceived .. | .startPhaseBoundary ..
  | .polarityDecision .. | .handoverReached .. | .catchConfirmed .. | .crosswindRecordArrival ..
  | .overloadTimeExpiry .. => x == .ports
  | .scratchpadAccess .. | .kIin .. | .kAngIn .. | .kVbusIn .. | .kObsBemf .. | .kProcIn .. | .kRamp .. | .kScurve ..
  | .kSpdPi .. | .kTrqSet .. | .kLimBudget .. | .kCheckDq .. | .kXwExch .. | .kXwPlaus .. | .kSupervise ..
  | .kSetOut .. | .kStatusOut .. | .kStopSeq .. | .engineTimingFault .. | .carrierPeriodStart ..
  | .overcurrentTrip .. | .bothPoorLimit .. | .csCalibrationEnd .. | .bootUvFault .. | .gdSupplyFault ..
  | .desaturation .. | .gdFeedbackFault .. | .busOv3 .. | .illegalBucketLimit .. | .indexMismatchLimit ..
  | .hallInvalidTimeout .. | .sentTimeout .. | .startAttemptFailure .. | .xwLineFault .. | .blamedPartnerDriving ..
  | .sensorSupplyFault .. => [.objs, .ports, .wr, .freeIx].contains x
  | .sharedSramAccess .. | .chopperDrainCheck .. | .chopperEffectCheck .. => [.objs, .ports, .lanes, .wr, .freeIx].contains x
  | .kFwVlim .. | .kOvm .. | .portStateTransition .. | .calibrationInterval .. | .phaseNodeCheck ..
  | .safeStateCommand .. | .ascRelease .. | .safeStateReleaseOff .. | .rotorLossDetected .. | .faultLineReceived ..
  | .pairStateTransition .. => [.objs, .ports].contains x
  | .csStartCalibration .. => [.objs, .ports, .published, .shown].contains x
  | .gridPhaseMeasurement => [.objs, .grid, .shown].contains x
  | .presetCount .. => [.ports, .published, .shown].contains x
  | .partnerLaneLost .. => [.objs, .lanes, .degradeDue, .gcs, .net, .chain, .tap].contains x
  | .degradedEntry | .backupTrimAdjust .. | .busOff | .busOffRecovery | .n3TakeoverComplete | .ipv4LinkLocalClaim .. => x == .objs
  | .gcConversionComplete .. | .gcRestartTakesEffect .. => [.objs, .gcs].contains x
  | .restartSequence .. | .injectedRequest .. | .gcStartCalibration .. => [.objs, .published, .gcs, .shown].contains x
  | .gcCalibrationEnd .. => [.objs, .gcs, .shown, .freeIx].contains x
  | .modeRequestSleep | .privilegedRequestStorage => [.objs, .lanes, .published, .gcs, .boot, .time, .net, .wr, .shown, .freeIx].contains x
  | .modeRequestStandby => [.objs, .ports, .published, .boot, .shown].contains x
  | .modeRequestRun | .privilegedRequestConfigure => [.objs, .published, .boot, .shown].contains x
  | .lowPowerEntry | .wakePin .. | .wakeTimer .. | .canWakeUp .. | .vbatReconnect .. | .bothLanesLost ..
  | .powerOnReset | .resetNPulse .. | .deviceReset | .sysreset => true
  | .autoRun => [.objs, .boot, .wr, .freeIx].contains x
  | .supplyUv .. | .overtemp .. | .laneClockFault .. => [.objs, .ports, .lanes, .degradeDue, .gcs, .net, .wr, .chain, .tap, .freeIx].contains x
  | .laneSupplyReturn .. => x == .lanes
  | .resetRelease .. => [.objs, .lanes, .boot, .fuses, .otp].contains x
  | .rootClockQualified .. => [.objs, .ports, .lanes, .degradeDue, .gcs, .boot, .grid, .time, .net, .wr, .flash, .freeIx].contains x
  | .rootQualificationTimeout .. => [.objs, .ports, .lanes, .degradeDue, .gcs, .devFaults, .boot, .grid, .time, .net, .wr, .flash, .freeIx].contains x
  | .laneNotReady .. => [.objs, .lanes, .degradeDue].contains x
  | .startupImageCheckComplete => [.objs, .ports, .image, .monArmed, .activeAt, .frozen, .gcs, .boot, .grid, .time, .net, .wr, .chain, .frz, .freeIx].contains x
  | .thermalMeasurement .. => [.objs, .otp].contains x
  | .islandUnpowered => x == .boot
  | .rootClockLoss .. => [.objs, .lanes, .degradeDue, .devFaults, .wr, .freeIx].contains x
  | .backupSteeringStep .. | .laneClockComparison .. => [.objs, .lanes].contains x
  | .commonTimeFault => [.objs, .degradeDue, .devFaults, .wr].contains x
  | .syncReceived .. | .followUpReceived .. | .announceReceived .. | .pdelayRespReceived .. | .pdelayReqSend ..
  | .syncReceiptTimeout .. | .announceReceiptTimeout .. | .atSwitchComplete | .atRevert | .syncPulse .. => [.objs, .time].contains x
  | .pdelayReqReceived .. | .syncPulseEnd .. => x == .time
  | .domainEnable .. | .setDt | .timedActionArm .. | .timedActionCancel .. | .timedModeRequest .. => [.objs, .published, .time, .shown].contains x
  | .journalCommitStart => [.objs, .net, .wr].contains x
  | .journalCommitComplete .. => [.objs, .degradeDue, .devFaults, .net, .wr, .flash, .otp].contains x
  | .journalBlockEraseComplete | .profileSaveComplete .. | .profileEraseComplete | .traceRecordWrite => [.objs, .wr, .flash, .freeIx].contains x
  | .acknowledge => [.objs, .published, .wr, .flash, .shown].contains x
  | .takeSnapshot => [.objs, .published, .shown, .snap].contains x
  | .requestArrival .. | .attach .. | .openExpiry .. | .streamTransmit .. => [.objs, .net].contains x
  | .read .. | .write .. | .readSegment .. | .writeSegment .. | .stagingBufferWrite .. | .bridgeExecution ..
  | .bankStaging .. => [.objs, .net, .wr, .otp, .freeIx].contains x
  | .openSession .. => [.objs, .net, .freeIx].contains x
  | .auth .. | .close .. | .detach .. | .sessionTimeout .. | .streamFrameArrival .. => [.objs, .net, .wr, .freeIx].contains x
  | .authLockoutExpiry .. | .arpRequest .. | .neighbourSolicitation .. | .echoRequest .. | .n3Takeover => x == .net
  | .streamTimeout .. => [.objs, .wr, .freeIx].contains x
  | .verifyStagedImage | .selectProfile | .eraseProfile | .verifyInactiveBank => [.objs, .published, .wr, .shown].contains x
  | .imageVerificationComplete | .bankVerificationComplete => [.objs, .wr].contains x
  | .activateStagedImage => [.objs, .ports, .image, .monArmed, .activeAt, .published, .gcs, .grid, .time, .shown].contains x
  | .imageHyperframeStart => [.objs, .ports, .lanes, .monArmed, .activeAt, .frozen, .gcs, .boot, .wr, .chain, .frz, .shown, .freeIx].contains x
  | .profileLoadComplete => [.objs, .ports, .image, .monArmed, .activeAt, .gcs, .grid, .time, .net, .wr, .shown, .freeIx].contains x
  | .saveProfile => [.objs, .published, .wr, .flash, .shown, .freeIx].contains x
  | .deviceRecordWrite | .captureEraseComplete => [.wr, .flash].contains x
  | .bankEraseComplete => [.objs, .wr, .flash].contains x
  | .switchBanks => [.objs, .published, .shown].contains x
  | .programWord => [.objs, .published, .flash, .otp, .shown].contains x
  | .otpProgramComplete .. | .otpLockComplete .. => [.objs, .flash, .fuses, .otp].contains x
  | .lockRegion => [.objs, .published, .otp, .shown].contains x
  | .otpPeriodicReread .. => [.objs, .degradeDue, .devFaults, .wr, .fuses, .otp].contains x
  | .ordinaryWordsRead .. => [.objs, .net, .fuses, .otp].contains x
  | .chainCsnFall .. => [.chain, .tap].contains x
  | .chainCsnRise .. | .chainStartUnit | .chainDataUnit | .chainAbortUnit | .obj .. => [.objs, .net, .chain, .tap].contains x
  | .freeze => [.objs, .ports, .frozen, .wr, .tap, .frz, .freeIx].contains x
  | .fzStatus | .dumpAddr .. | .idcode | .samplePreload .. | .bypass .. => x == .tap
  | .dumpData .. => [.tap, .frz].contains x
  | .resume => [.objs, .ports, .frozen, .wr, .flash, .otp, .tap, .frz, .freeIx].contains x
  | .extest .. | .highz | .clamp => [.objs, .ports, .lanes, .tap].contains x
  | .tapReset => [.net, .tap].contains x
  | .lullNTrigger .. => [.objs, .ports, .frozen, .boot, .wr, .frz, .freeIx].contains x
  | .selfDumpStart .. => [.wr, .flash, .frz].contains x
  | .freezeCommand => [.objs, .ports, .frozen, .published, .wr, .frz, .shown, .freeIx].contains x
  | .selfDumpComplete => [.flash, .frz].contains x
  | .releaseCapture => [.published, .wr, .flash, .shown].contains x
  | .returnConsentSet => [.objs, .published, .flash, .shown, .freeIx].contains x
  | .returnConsentClear => [.objs, .published, .flash, .shown].contains x

/-- The port of a command that acts on one port alone. -/
def ownPort : Instr → Option PortId
  | .alu e .. | .multiply e .. | .sineCosine e .. | .divideSquareRoot e .. | .scratchpadAccess e ..
  | .sharedSramAccess e .. | .stagePortAccess e .. | .branch e .. | .loopSetUp e .. | .engineTimingFault e .. => some e.port
  | .crosswindSend p .. | .kIin p .. | .kAngIn p .. | .kVbusIn p .. | .kClarke p .. | .kPark p .. | .kPiDq p ..
  | .kDecouple p .. | .kMtpa p .. | .kFwVlim p .. | .kIpark p .. | .kOvm p .. | .kDtcomp p .. | .kSvm7 p ..
  | .kSvm5 p .. | .kZvv p .. | .kHfiInj p .. | .kDutyOut p .. | .kQepIn p .. | .kHallIn p .. | .kHallInterp p ..
  | .kSentIn p .. | .kAngScale p .. | .kSpdEst p .. | .kObsBemf p .. | .kObsHfi p .. | .kObsBlend p ..
  | .kPllAng p .. | .kAlign p .. | .kIfRamp p .. | .kHandover p .. | .kFlyCatch p .. | .kRotorLoss p ..
  | .kAngOut p .. | .kProcIn p .. | .kRamp p .. | .kScurve p .. | .kSpdPi p .. | .kTrqSet p .. | .kLimBudget p ..
  | .kCheckDq p .. | .kXwExch p .. | .kXwPlaus p .. | .kSupervise p .. | .kSetOut p .. | .kStatusOut p ..
  | .kStopSeq p .. | .portStateTransition p | .carrierPeriodStart p .. | .overcurrentTrip p .. | .bothPoorLimit p
  | .csStartCalibration p | .calibrationInterval p | .csCalibrationEnd p .. | .bootUvFault p | .desaturation p ..
  | .phaseNodeCheck p .. | .gdFeedbackFault p | .safeStateCommand p .. | .ascRelease p .. | .safeStateReleaseOff p
  | .chopperEngage p .. | .nonmemberOv2 p .. | .nonmemberOv2Withdraw p .. | .escalationDelay p .. | .busOv3 p ..
  | .coastTimeout p | .standstill p | .quadratureEdge p .. | .illegalBucketLeak p | .illegalBucketLimit p
  | .indexMismatchLimit p | .presetCount p | .hallStateChange p .. | .hallInvalidTimeout p | .zeroSpeedTimeout p
  | .sentFrameReceived p .. | .sentTimeout p | .startPhaseBoundary p | .startAttemptFailure p | .polarityDecision p
  | .handoverReached p | .rotorLossDetected p | .catchConfirmed p | .faultLineReceived p | .pairStateTransition p
  | .xwLineFault p | .blamedPartnerDriving p | .overloadTimeExpiry p => some p
  | .indexEvent x => some x.port
  | _ => none

/-- The indices of the objects that such a command may change: states, counters and the fault record of its port, the state of
its pair, and the counters that the ports share. -/
def ownIndices (p : PortId) : List Nat :=
  [pidx p 0x22, pidx p 0x32, pidx p 0x33, pidx p 0x40, pidx p 0xA0, pidx p 0xB0, pairIdx p.pair, 0x2520, 0x2641, 0x2642,
   0x2646, 0x2650 + p.num, 0x2721, chopIdx p.lane]

/-- The canonical form of everything the state holds as a sparse map: the objects, and the words of the registers, the
scratchpads, the shared memories and the fuses. -/
def Dev.canonical (d : Dev) : Prop :=
  d.objs.wf = true ∧ (∀ l, wordsWf (d.lane l).sram = true) ∧
  (∀ e : EngineId, wordsWf (d.engine e).pad = true ∧ wordsWf (d.engine e).regs = true) ∧ wordsWf d.fuses.words = true ∧
  wordsWf d.fuses.checks = true ∧ ∀ l, wordsWf (d.otp.shadows.get l).words = true

end Sys2Proof.Machine
end

