-- ==== Sys2Proof/Certificates/Slice0/Obligations.lean ====
section
/-! DEFINITION. The statements for the provers: what the manual's rules say of the block, command by command and of the whole
machine. -/

open Sys2Proof Sys2Proof.Machine

/-! ### The operations of an engine -/

/-- An ALU operation of an engine that can issue: its result, by the operation's rule, can be used from the next tick on, and
nothing else of the block changes (R31, R32, R34). -/
def Sys2Proof.Says.AluWritesItsResultAfterOneTick : Prop :=
  ∀ (s : State) (e : EngineId) (t : Nat) (op : AluOp) (dst : Nat) (a b c : Src), s.dev.issues e t .any = true →
    let g := s.dev.engine e
    let T := s.dev.engTick e t
    let v := aluResult op (g.src T a) (g.src T b) (g.src T c) (BitVec.ofInt 32 (Config.freeValue s.dev.freeIx))
    exec (.alu e t op dst a b c) s = .next { s with dev :=
      { s.dev.setEngine e (((g.used T .any).settle T).back (T + 1) dst v) with freeIx := s.dev.freeIx + 1 } }

/-- A bundle has three positions: an operation that would be the fourth, or would need one of two positions already taken by
memory and multiply operations, or the one position of the other units once taken, does not issue; nor does any operation while
no image runs or outside every placed instance (R11, R31, R36, R56, R82). -/
def Sys2Proof.Says.BundlesHaveThreePositions : Prop :=
  ∀ (s : State) (e : EngineId) (t : Nat) (op : AluOp) (m : MulOp) (dst : Nat) (a b c : Src),
    let g := (s.dev.engine e).bundleAt (s.dev.engTick e t)
    (g.any + g.low + g.high = 3 ∨ s.dev.monArmed = false ∨ s.dev.covered e (s.dev.lane e.port.lane).hyper t = false →
      exec (.alu e t op dst a b c) s = .next s ∧ exec (.multiply e t m dst a b c) s = .next s ∧
      exec (.sineCosine e t dst dst a) s = .next s) ∧
    (g.low = 2 → exec (.multiply e t m dst a b c) s = .next s) ∧
    (g.high = 1 → exec (.sineCosine e t dst dst a) s = .next s ∧ exec (.loopSetUp e t false dst) s = .next s ∧
      exec (.branch e t true dst) s = .next s)

/-- The other operations that write registers: a product after three ticks, sine and cosine after eight, a quotient or a
square root after fourteen, in which the unit takes no other; each changes the engine alone (R31, R32, R34). -/
def Sys2Proof.Says.LongOperationsWriteTheirResultAfterTheirLatency : Prop :=
  ∀ (s : State) (e : EngineId) (t : Nat),
    let g := s.dev.engine e
    let T := s.dev.engTick e t
    (∀ op dst a b c, s.dev.issues e t .low = true → exec (.multiply e t op dst a b c) s = .next (s.upd fun d =>
      d.setEngine e (((g.used T .low).settle T).back (T + 3) dst (mulResult op (g.src T a) (g.src T b) (g.src T c))))) ∧
    (∀ dstSin dstCos a, s.dev.issues e t .high = true → Answers (.sineCosine e t dstSin dstCos a) s fun u =>
      let x : Int := (g.src T a).toNat % 16384
      (∀ r, r ≠ e → u.dev.engine r = s.dev.engine r) ∧
      (⟨T + 8, dstSin, sinS16 x⟩ : WriteBack) ∈ (u.dev.engine e).backs ∧
      (⟨T + 8, dstCos, sinS16 (x + 4096)⟩ : WriteBack) ∈ (u.dev.engine e).backs) ∧
    (∀ sqrt sat dst a b, s.dev.issues e t .high = true → g.divFree ≤ T → Answers (.divideSquareRoot e t sqrt sat dst a b) s fun u =>
      let v := if sqrt then sqrtResult (g.src T a) else divResult sat (g.src T a) (g.src T b)
      (∀ r, r ≠ e → u.dev.engine r = s.dev.engine r) ∧
      (u.dev.engine e).divFree = T + 14 ∧ (⟨T + 14, dst, v⟩ : WriteBack) ∈ (u.dev.engine e).backs)

/-- A scratchpad store is held back for loads of later ticks and a load gives the word as the ticks before left it; a
shared-SRAM access happens in a tick the engine owns, its load usable six ticks later; a word that does not exist stops the
machine (R31, R36, R37).
Model's choice: the fault for a word that does not exist (log entry 6). -/
def Obligations.MemoryAccessesReadAndWriteTheirWord : Prop :=
  ∀ (s : State) (e : EngineId) (t addr : Nat),
    let g := s.dev.engine e
    let T := s.dev.engTick e t
    (∀ dst, s.dev.issues e t .low = true → addr < 8192 → Answers (.scratchpadAccess e t (.load dst) false addr .none) s fun u =>
      (⟨T + 1, dst, wordGet (g.padAt T).pad addr⟩ : WriteBack) ∈ (u.dev.engine e).backs ∧
      ∀ r, r ≠ e → u.dev.engine r = s.dev.engine r) ∧
    (∀ x, s.dev.issues e t .low = true → addr < 8192 → Answers (.scratchpadAccess e t (.store x) false addr .none) s fun u =>
      (⟨T, addr, g.src T x⟩ : PadStore) ∈ (u.dev.engine e).padStores ∧
      (u.dev.engine e).pad = (g.padAt T).pad ∧ ∀ r, r ≠ e → u.dev.engine r = s.dev.engine r) ∧
    (∀ op wide ecc, 8192 ≤ addr + b2n wide →
      exec (.scratchpadAccess e t op wide addr ecc) s = .fault .noSuchWord) ∧
    (∀ dst, s.dev.issues e t .high = true → ownsTick e t = true → addr < 524288 →
      Answers (.sharedSramAccess e t (.load dst) addr .none) s fun u =>
        (⟨T + 6, dst, wordGet (s.dev.lane e.port.lane).sram addr⟩ : WriteBack) ∈ (u.dev.engine e).backs ∧
        ∀ l, (u.dev.lane l).sram = (s.dev.lane l).sram) ∧
    (∀ x a, s.dev.issues e t .high = true → ownsTick e t = true → addr < 524288 →
      Answers (.sharedSramAccess e t (.store x) addr .none) s fun u =>
        wordGet (u.dev.lane e.port.lane).sram a =
          (if a = addr then g.src T x else wordGet (s.dev.lane e.port.lane).sram a) ∧
        (u.dev.lane e.port.lane.other).sram = (s.dev.lane e.port.lane.other).sram) ∧
    (∀ op ecc, 524288 ≤ addr → exec (.sharedSramAccess e t op addr ecc) s = .fault .noSuchWord)

/-- A corrected memory error adds to the engine's counter and changes no timing; a double-bit error gives the load the word as
read, raises FLT_ENGINE_ECC on the port and commands its safe-state unit with source 14 (R35, R131, R252). -/
def Sys2Proof.Says.DoubleBitErrorRaisesEngineEcc : Prop :=
  ∀ (s : State) (e : EngineId) (t addr dst : Nat) (lo hi : Word), s.dev.issues e t .low = true → addr < 8192 →
    Answers (.scratchpadAccess e t (.load dst) false addr (.double lo hi)) s (fun u =>
      (⟨s.dev.engTick e t + 1, dst, lo⟩ : WriteBack) ∈ (u.dev.engine e).backs ∧
      u.dev.faulted e.port .engineEcc = true ∧ u.dev.pnum e.port 0xB0 4 = 0x0102 ∧
      (u.dev.port e.port).unit.arriving = (s.dev.port e.port).unit.arriving ++ [⟨14, none, false, false⟩] ∧
      (∀ q, q ≠ e.port → u.dev.port q = s.dev.port q)) ∧
    Answers (.scratchpadAccess e t (.load dst) false addr .single) s (fun u =>
      u.dev.num 0x2646 (e.num + 1) = min (s.dev.num 0x2646 (e.num + 1) + 1) 4294967295 ∧
      (u.dev.port e.port).unit = (s.dev.port e.port).unit ∧ (u.dev.port e.port).faults = (s.dev.port e.port).faults)

/-- A branch takes two ticks and sets the next bundle; a loop counter takes 1 to 65 536; neither changes anything but the
engine (R33). -/
def Sys2Proof.Says.BranchAndLoopSetUpChangeTheEngineAlone : Prop :=
  ∀ (s : State) (e : EngineId) (t : Nat), s.dev.issues e t .high = true →
    let g := (s.dev.engine e).used (s.dev.engTick e t) .high
    (∀ taken target, target < 2048 → g.pc + 1 < 2048 → exec (.branch e t taken target) s = .next (s.upd fun d =>
      d.setEngine e { g with branchTick := s.dev.engTick e t + 1, pc := if taken then target else g.pc + 1 })) ∧
    (∀ count, 1 ≤ count → count ≤ 65536 →
      exec (.loopSetUp e t false count) s = .next (s.upd fun d => d.setEngine e { g with loop0 := count }) ∧
      exec (.loopSetUp e t true count) s = .next (s.upd fun d => d.setEngine e { g with loop1 := count })) ∧
    ∀ taken target, Answers (.branch e t taken target) s fun u =>
      ∀ op dst a b c, exec (.alu e (t + 1) op dst a b c) u = .next u

/-- A cell read puts its eight words into registers four ticks later, and so does a read of a converter's result record that the
image claims for the engine with its two; a write of the cell that the engine produces is visible
from the slot after the one in which it completes (R17, R18, R39, R75, R267). -/
def Sys2Proof.Says.StagePortReadsAndWritesCells : Prop :=
  ∀ (s : State) (p : PortId) (t : Nat), s.dev.frozen = false →
    let n := s.dev.slotOf p + writeSlots t 0
    (∀ r c dst, s.dev.issues ⟨p, r⟩ t .high = true → Answers (.stagePortAccess ⟨p, r⟩ t (.read c dst)) s fun u =>
      (∀ k, k < 8 → (⟨s.dev.engTick ⟨p, r⟩ t + 4, dst + k,
        BitVec.ofNat 32 (leNat (((s.dev.cellBytes p c).drop (4 * k)).take 4))⟩ : WriteBack) ∈ (u.dev.engine ⟨p, r⟩).backs) ∧
      (u.dev.port p).cells = (s.dev.port p).cells) ∧
    (∀ r g n dst, s.dev.issues ⟨p, r⟩ t .high = true → g.lane = p.lane →
      s.dev.gcClaimedFor (16 * g.num + n) ⟨p, r⟩ = true → Answers (.stagePortAccess ⟨p, r⟩ t (.record g n dst)) s fun u =>
        let w := s.dev.gcRecord (16 * g.num + n)
        let T := s.dev.engTick ⟨p, r⟩ t + 4
        (⟨T, dst, BitVec.ofNat 32 w⟩ : WriteBack) ∈ (u.dev.engine ⟨p, r⟩).backs ∧
        (⟨T, dst + 1, BitVec.ofNat 32 (w / 2 ^ 32)⟩ : WriteBack) ∈ (u.dev.engine ⟨p, r⟩).backs ∧
        (u.dev.port p).cells = (s.dev.port p).cells) ∧
    (∀ a w f x fb, a < 16384 → f < 256 → x < 256 → s.dev.issues ⟨p, .e1⟩ t .high = true →
      Answers (.stagePortAccess ⟨p, .e1⟩ t (.writeAngle a w f x fb)) s fun u =>
        (u.dev.port p).cells = { (s.dev.port p).cells with
          angle := (s.dev.port p).cells.angle.write (n + 1) n fb ⟨(a : Int), satS 32 w, f, x⟩ }) ∧
    (∀ id iq lim fl fb, fl < 65536 → s.dev.issues ⟨p, .e2⟩ t .high = true →
      Answers (.stagePortAccess ⟨p, .e2⟩ t (.writeSetpoint id iq lim fl fb)) s fun u =>
        (u.dev.port p).cells = { (s.dev.port p).cells with
          setpoint := (s.dev.port p).cells.setpoint.write (n + 1) n fb ⟨satS 14 id, satS 14 iq, satS 14 lim, fl⟩ }) ∧
    (∀ du dv dw pat fb, du < 65536 → dv < 65536 → dw < 65536 → pat < 256 → s.dev.issues ⟨p, .e0⟩ t .high = true →
      Answers (.stagePortAccess ⟨p, .e0⟩ t (.writeDuty du dv dw pat fb)) s fun u =>
        (u.dev.port p).cells = { (s.dev.port p).cells with
          duty := (s.dev.port p).cells.duty.write (n + 1) n fb ⟨du, dv, dw, pat⟩ })

/-- A crosswind record of a paired port that has sent none for a frame goes on the link, to arrive as the newest write of the
partner's receive cell 400 ticks later, exactly so on the root clock; the link of a lost lane is idle (R12, R23, R31, R40). -/
def Sys2Proof.Says.CrosswindRecordsTravelTheLink : Prop :=
  ∀ (s : State) (p : PortId) (t : Nat),
    (∀ (x : XwVal), x.angle < 16384 → x.pairByte < 256 → x.health < 65536 → x.residual < 65536 →
      x.tag = (s.dev.port p).mod.periods % 256 → s.dev.issues ⟨p, .e2⟩ t .high = true → s.dev.linked p = true →
      ((s.dev.engine ⟨p, .e2⟩).lastSend = 0 ∨
        (s.dev.engine ⟨p, .e2⟩).lastSend - 1 + s.dev.frame p * 200 ≤ s.dev.engTick ⟨p, .e2⟩ t) →
      Answers (.crosswindSend p t x.angle x.pairByte x.speed x.id x.iq x.vd x.vq x.health x.residual x.x) s fun u =>
        (u.dev.port p).flight = (s.dev.port p).flight ++ [(s.dev.engTick ⟨p, .e2⟩ t,
          { x with speed := satS 32 x.speed, id := satS 14 x.id, iq := satS 14 x.iq, vd := satS 14 x.vd,
                   vq := satS 14 x.vq, x := satS 32 x.x })] ∧
        ∀ q, q ≠ p → u.dev.port q = s.dev.port q) ∧
    (∀ T r rest, (s.dev.port p.partner).flight = (T, r) :: rest → s.dev.clocked p.lane = true → t < 200 →
      s.dev.linked p.partner = true → s.dev.arrives p T t = true → Answers (.crosswindRecordArrival p t) s fun u =>
        (u.dev.port p.partner).flight = rest ∧
        (u.dev.port p).cells.xw =
          (s.dev.port p).cells.xw.write ((s.dev.lane p.lane).slots + 1) (T / 200) false r) ∧
    (∀ T r rest, (s.dev.port p.partner).flight = (T, r) :: rest → s.dev.onRoot .a = true → s.dev.onRoot .b = true →
      T + 400 ≠ (s.dev.lane p.lane).tick t → exec (.crosswindRecordArrival p t) s = .next s) ∧
    (s.dev.laneLost p.partner.lane = true → exec (.crosswindRecordArrival p t) s = .next s)

/-- An armed slot monitor that finds a bundle outside every placed instance, or a certified marker displaced or absent,
counts the mismatch, raises FLT_ENGINE_TIMING and commands the unit with source 8 (R56, R59, R131). -/
def Sys2Proof.Says.SlotMonitorMismatchRaisesEngineTiming : Prop :=
  ∀ (s : State) (e : EngineId) (ev : MonEvent), s.dev.clocked e.port.lane = true → s.dev.monArmed = true →
    s.dev.monMismatch e ev = true → Answers (.engineTimingFault e ev) s fun u =>
      u.dev.num 0x2641 (e.num + 1) = min (s.dev.num 0x2641 (e.num + 1) + 1) 4294967295 ∧
      u.dev.faulted e.port .engineTiming = true ∧ u.dev.pnum e.port 0xB0 4 = 0x0101 ∧
      (u.dev.port e.port).unit.arriving = (s.dev.port e.port).unit.arriving ++ [⟨8, none, false, false⟩] ∧
      ∀ q, q ≠ e.port → u.dev.port q = s.dev.port q

/-! ### The kernels of engine 0 -/

/-- The current, angle and bus-voltage cells are read by engine 0: a fresh cell's value becomes the frame's, the third phase
current is minus the sum of the two measured ones, and the angles of the frame are carried from the cell's write slot. The first
kernel of a frame starts the frame's flags anew and ages the recorded angles; the others find them as they stand, in whatever
order the image places them (R19, R95, R137, R148, R153). -/
def Sys2Proof.Says.EngineZeroReadsItsCells : Prop :=
  ∀ (s : State) (p : PortId) (t : Nat),
    let d := s.dev.begin0 p
    let x := d.port p
    let n := s.dev.slotOf p
    (s.dev.runs p .e0 0x01 t = true → x.cons.cur0.stale x.cells.current.cur n = false →
      s.dev.poor p x.cells.current.cur.val.uValid x.cells.current.cur.val.uGap = false →
      s.dev.poor p x.cells.current.cur.val.vValid x.cells.current.cur.val.vGap = false →
      Answers (.kIin p t) s fun u =>
        let f := (u.dev.port p).e0
        let v := x.cells.current.cur.val
        f.fr.iu = v.iu ∧ f.fr.iv = v.iv ∧ f.fr.iw = -(v.iu + v.iv) ∧ f.fl.hold = x.e0.fl.hold ∧ f.fl.coast = x.e0.fl.coast ∧
        f.fl.zvv = x.e0.fl.zvv ∧ f.fl.uPoor = false ∧ f.fl.vPoor = false ∧ (u.dev.port p).faults = x.faults) ∧
    (s.dev.runs p .e0 0x02 t = true → x.cons.ang0.stale x.cells.angle.cur n = false →
      Answers (.kAngIn p t) s fun u =>
        let a := x.cells.angle.cur.val
        let k : Int := s.dev.frame p
        let f := (u.dev.port p).e0
        f.fr.omega = a.speed ∧ f.fl.angHeld = a ∧ f.st.thetaS1 = x.e0.st.thetaS1 ∧ f.st.wS = a.speed ∧
        f.st.thetaS = angleAt a x.cells.angle.cur.wslot ((x.cells.current.cur.wslot : Int) + k) ∧
        f.fr.thetaMeas = wrapAngQ (angleAt a x.cells.angle.cur.wslot ((x.cells.current.cur.wslot : Int) - k) +
          narrow (a.speed * k) 2)) ∧
    (s.dev.runs p .e0 0x03 t = true → x.cons.bus0.stale x.cells.bus.cur n = false →
      Answers (.kVbusIn p t) s fun u =>
        (u.dev.port p).e0.fr.vbus = x.cells.bus.cur.val.v ∧ (u.dev.port p).e0.fl = x.e0.fl) ∧
    ((s.dev.port p).e0.frame = s.dev.frameStart p → d = s.dev.resume0 p) ∧
    ((s.dev.port p).e0.frame ≠ s.dev.frameStart p →
      let r := ((s.dev.resume0 p).port p).e0
      x.e0.frame = s.dev.frameStart p ∧ x.e0.fl.hold = false ∧ x.e0.fl.coast = false ∧ x.e0.fl.zvv = false ∧
      x.e0.fl.fallback = false ∧ x.e0.fl.ovm = false ∧ x.e0.fl.mtpaMis = false ∧ x.e0.st.thetaS1 = r.st.thetaS2 ∧
      x.e0.st.thetaS2 = r.st.thetaS ∧ x.e0.st.xd = r.st.xd ∧ x.e0.st.xq = r.st.xq ∧ x.e0.fr = r.fr)

/-- A stale current cell of engine 0 under the trip rule raises FLT_HANDOFF_STALE on the port, commands its unit with
source 9, and the value used stays the one held (R19, R78, R153). -/
def Sys2Proof.Says.StaleCurrentCellUnderTripRaisesHandoffStale : Prop :=
  ∀ (s : State) (p : PortId) (t : Nat),
    let x := s.dev.port p
    s.dev.runs p .e0 0x01 t = true → x.cons.cur0.stale x.cells.current.cur (s.dev.slotOf p) = true →
    x.cons.cur0.rule = .trip → Answers (.kIin p t) s fun u =>
      u.dev.faulted p .handoffStale = true ∧ u.dev.pnum p 0xB0 4 = 0x0104 ∧
      (u.dev.port p).unit.arriving = x.unit.arriving ++ [⟨9, none, false, false⟩] ∧
      (u.dev.port p).cons.cur0.held = x.cons.cur0.held ∧ (u.dev.port p).e0.fl.hold = true ∧
      u.dev.num (0x2650 + p.num) 0x11 = min (s.dev.num (0x2650 + p.num) 0x11 + 1) 4294967295

/-- The transformations of engine 0: K_CLARKE forms the stator pair, the α component of currents without sum being the U
current; K_PARK rotates by the measured angle into the controller's record; K_IPARK rotates back by the applied angle; each
changes nothing but the frame of engine 0 beside what an earlier kernel left for this slot (R147, R149). -/
def Sys2Proof.Says.ClarkeAndParkTransformTheFrame : Prop :=
  ∀ (s : State) (p : PortId) (t : Nat),
    let e := ((s.dev.begin0 p).port p).e0
    (s.dev.runs p .e0 0x04 t = true → e.fr.iu + e.fr.iv + e.fr.iw = 0 →
      exec (.kClarke p t) s = .next (s.upd fun d => (d.begin0 p).onE0 p fun e => { e with
        fr := { e.fr with ialpha := e.fr.iu * 65536, ibeta := divSqrt3 ((e.fr.iv - e.fr.iw) * 65536) } })) ∧
    (s.dev.runs p .e0 0x05 t = true →
      let i := park e.fr.ialpha e.fr.ibeta e.fr.thetaMeas
      exec (.kPark p t) s = .next (s.upd fun d => (d.begin0 p).onE0 p fun e => { e with
        fr := { e.fr with id := i.1, iq := i.2 }, st := { e.st with recId := i.1, recIq := i.2 } })) ∧
    (s.dev.runs p .e0 0x0A t = true →
      let v := ipark e.fr.vd e.fr.vq e.fr.thetaApply
      exec (.kIpark p t) s = .next (s.upd fun d => (d.begin0 p).onE0 p fun e => { e with
        fr := { e.fr with valpha := v.1, vbeta := v.2 } })) ∧
    (∀ w, (s.dev.port p).e0.late = some w → w.due ≤ s.dev.slotOf p → s.dev.resume0 p = kFwVlimCalc p w s.dev) ∧
    ((s.dev.port p).e0.late = none → s.dev.resume0 p = s.dev) ∧
    ∀ a b, park a b 0 = (a, b) ∧ ipark a b 0 = (a, b)

/-- The current controllers of a port that drives take the scaled references and keep their integrators within the code
range; in a port that does not drive every state of theirs is zero (R150, R151, R234). -/
def Sys2Proof.Says.CurrentControllersFollowTheReferences : Prop :=
  ∀ (s : State) (p : PortId) (t : Nat), s.dev.runs p .e0 0x06 t = true →
    let d := s.dev.begin0 p
    let e := (d.port p).e0
    (flagDriving e.fl.sp.flags = true → Answers (.kPiDq p t) s fun u =>
      let v := (u.dev.port p).e0.st
      let f := (u.dev.port p).e0.fr
      v.idS = (d.scaledRefs p (d.share p)).1 ∧ v.iqS = (d.scaledRefs p (d.share p)).2 ∧
      v.gLast = d.share p ∧ -(8191 * 65536) ≤ v.xd ∧ v.xd ≤ 8191 * 65536 ∧
      -(8191 * 65536) ≤ v.xq ∧ v.xq ≤ 8191 * 65536 ∧ -(8191 * 65536) ≤ f.ud ∧ f.ud ≤ 8191 * 65536 ∧
      -(8191 * 65536) ≤ f.uq ∧ f.uq ≤ 8191 * 65536 ∧ (u.dev.port p).e0.fl = e.fl) ∧
    (flagDriving e.fl.sp.flags = false → Answers (.kPiDq p t) s fun u =>
      let v := (u.dev.port p).e0
      v.fr.ud = (d.piAxis p e.gains.kpD ⟨0, 1⟩ (-e.fr.id) 0 0).1 ∧ v.fl = e.fl ∧ v.st.xd = 0 ∧ v.st.xq = 0 ∧
      v.st.idRef = 0 ∧ v.st.iqRef = 0 ∧ v.st.idFw = 0)

/-- The voltage command: K_DECOUPLE with mode 0 passes the controllers' outputs; K_MTPA looks the current reference up in its
table, and with a table of another length than bound returns 0 and says so; K_HFI_INJ adds the injected voltage on the d axis
with alternating sign under source 2 or 3, and otherwise adds nothing; K_FW_VLIM lets a vector within V_max pass, in a port that
does not drive forms zero references, starts the current integrators from zero where the flags enter CLOSED, and stores its
words at the offsets of the catalogue; one that starts too late in a slot for its load at offset 12 leaves the rest to that
load's slot (R144, R152, R153, R154, R157, R158, R212). -/
def Sys2Proof.Says.VoltageCommandIsFormedAndLimited : Prop :=
  ∀ (s : State) (p : PortId) (t : Nat),
    let d := s.dev.begin0 p
    let x := d.port p
    let T := (s.dev.lane p.lane).tick t
    (s.dev.runs p .e0 0x07 t = true → d.pnum p 0x50 7 = 0 → Answers (.kDecouple p t) s fun u =>
      (u.dev.port p).e0.fr.vdCmd = satV x.e0.fr.ud ∧ (u.dev.port p).e0.fr.vqCmd = satV x.e0.fr.uq) ∧
    (∀ i, s.dev.runs p .e0 0x08 t = true → s.dev.placed p .e0 0x08 t = some i →
      let pts := pairsQ (d.arr (pidx p 0x50) 0x10)
      (pts.length = i.formula → exec (.kMtpa p t) s = .next (s.upd fun _ => d.onE0 p fun e => { e with
        st := { e.st with idMtpa := interp 0 0 pts (absI (d.iqInForce p)) }, fl := { e.fl with mtpaMis := false } })) ∧
      (pts.length ≠ i.formula → exec (.kMtpa p t) s = .next (s.upd fun d => (d.begin0 p).onE0 p fun e => { e with
        st := { e.st with idMtpa := 0 }, fl := { e.fl with mtpaMis := true } }))) ∧
    (s.dev.runs p .e0 0x10 t = true → (x.e0.fl.angHeld.source = 2 ∨ x.e0.fl.angHeld.source = 3) →
      Answers (.kHfiInj p t) s fun u =>
        (u.dev.port p).e0.fr.vdCmd =
          satV (x.e0.fr.vdCmd + d.mvCode p (d.pnum p 0x80 0x12) * x.e1.hfi.s) ∧
        (u.dev.port p).e1.hfi.s = -x.e1.hfi.s) ∧
    (s.dev.runs p .e0 0x10 t = true → x.e0.fl.angHeld.source ≠ 2 → x.e0.fl.angHeld.source ≠ 3 →
      exec (.kHfiInj p t) s = .next (s.upd fun d => d.begin0 p)) ∧
    (s.dev.runs p .e0 0x09 t = true → t + 18 < 200 → flagDriving x.cells.setpoint.cur.val.flags = false →
      x.cons.sp0.stale x.cells.setpoint.cur (s.dev.slotOf p) = false →
      norm2 x.e0.fr.vdCmd x.e0.fr.vqCmd ≤ vMax (d.pnum p 0x40 0x12) x.e0.fr.vbus →
      Answers (.kFwVlim p t) s fun u =>
        let e := (u.dev.port p).e0
        e.fr.vd = x.e0.fr.vdCmd ∧ e.fr.vq = x.e0.fr.vqCmd ∧ e.fl.volLim = false ∧ e.st.idRef = 0 ∧ e.st.iqRef = 0 ∧
        e.st.idFw = 0 ∧ e.st.xd = 0 ∧ e.st.xq = 0 ∧ e.fl.sp = x.cells.setpoint.cur.val ∧
        (⟨T + 30, 1, twoS14 x.e0.fr.id x.e0.fr.iq⟩ : WordStore) ∈ e.fl.stores ∧
        (⟨T + 36, 2, twoS14 x.e0.fr.vdCmd x.e0.fr.vqCmd⟩ : WordStore) ∈ e.fl.stores ∧
        (⟨T + 42, 3, unsignedOf 16 x.e0.fr.vbus⟩ : WordStore) ∈ e.fl.stores) ∧
    (s.dev.runs p .e0 0x09 t = true → flagState x.cells.setpoint.cur.val.flags = 4 → flagState x.e0.fl.sp.flags ≠ 4 →
      x.cons.sp0.stale x.cells.setpoint.cur (s.dev.slotOf p) = false → Answers (.kFwVlim p t) s fun u =>
        (u.dev.port p).e0.st.xd = 0 ∧ (u.dev.port p).e0.st.xq = 0) ∧
    (s.dev.runs p .e0 0x09 t = true → 200 ≤ t + 18 →
      x.cons.sp0.stale x.cells.setpoint.cur (s.dev.slotOf p) = false → Answers (.kFwVlim p t) s fun u =>
        let v := x.cells.setpoint.cur.val
        (u.dev.port p).e0.late = some ⟨s.dev.slotOf p + (t + 18) / 200, T, v.id * 65536, v.iq * 65536⟩ ∧
        (u.dev.port p).e0.fl.stores = x.e0.fl.stores ∧ (u.dev.port p).e0.fl.sp = v)

/-- The modulation kernels: K_OVM counts a vector beyond the hexagon and lets one within pass; K_DTCOMP turned off passes;
K_SVM7 and K_SVM5 without bus voltage, and K_ZVV always, form the zero-voltage vector; K_SVM7 gives a zero vector the middle
duty in all phases; K_SVM5 clamps the largest phase to 65535 or the smallest to 0 (R111, R112, R113, R115, R116). -/
def Sys2Proof.Says.ModulationKernelsFormDuties : Prop :=
  ∀ (s : State) (p : PortId) (t : Nat),
    let d := s.dev.begin0 p
    let f := (d.port p).e0.fr
    let r := phaseRefs f.valpha f.vbeta
    let span := max3 r - min3 r
    (s.dev.runs p .e0 0x0B t = true → 0 < f.vbus → f.vbus * 65536 < span → Answers (.kOvm p t) s fun u =>
      (u.dev.port p).e0.fl.ovm = true ∧
      (u.dev.port p).e0.fr.valpha = narrow (f.valpha * (f.vbus * 65536)) span ∧
      (u.dev.port p).e0.fr.vbeta = narrow (f.vbeta * (f.vbus * 65536)) span ∧
      u.dev.pnum p 0x40 0x14 = min (d.pnum p 0x40 0x14 + 1) 4294967295) ∧
    (s.dev.runs p .e0 0x0B t = true → (f.vbus ≤ 0 ∨ span ≤ f.vbus * 65536) →
      exec (.kOvm p t) s = .next (s.upd fun d => d.begin0 p)) ∧
    (s.dev.runs p .e0 0x0C t = true → d.pnum p 0x40 3 = 0 → exec (.kDtcomp p t) s = .next (s.upd fun d => d.begin0 p)) ∧
    (s.dev.runs p .e0 0x0C t = true → d.pnum p 0x40 3 = 1 → Answers (.kDtcomp p t) s fun u =>
      let i := ipark f.id f.iq f.thetaApply
      (u.dev.port p).e0.fr.valpha = satV (f.valpha + (d.deadTerm p i.1 i.2 f.vbus).1)) ∧
    (s.dev.runs p .e0 0x0D t = true → f.vbus ≤ 0 → Answers (.kSvm7 p t) s fun u =>
      (u.dev.port p).e0.fr.duty = ⟨32768, 32768, 32768, 16⟩) ∧
    (s.dev.runs p .e0 0x0D t = true → 0 < f.vbus → f.valpha = 0 → f.vbeta = 0 → Answers (.kSvm7 p t) s fun u =>
      let d := (u.dev.port p).e0.fr.duty
      d.du = 32768 ∧ d.dv = 32768 ∧ d.dw = 32768) ∧
    (s.dev.runs p .e0 0x0E t = true → f.vbus ≤ 0 → Answers (.kSvm5 p t) s fun u =>
      (u.dev.port p).e0.fr.duty = ⟨32768, 32768, 32768, 16⟩) ∧
    (s.dev.runs p .e0 0x0E t = true → 0 < f.vbus → Answers (.kSvm5 p t) s fun u =>
      let v := (u.dev.port p).e0.fr.duty
      v.pattern = patternByte (d.port p).e0.fl.ovm 1 (sectorOf f.valpha f.vbeta) ∧
      (if d.pnum p 0x40 7 = 0 ∧ absI (min3 r) ≤ absI (max3 r) then
          (r.1 = max3 r → v.du = 65535) ∧ (r.2.1 = max3 r → v.dv = 65535) ∧ (r.2.2 = max3 r → v.dw = 65535)
        else (r.1 = min3 r → v.du = 0) ∧ (r.2.1 = min3 r → v.dv = 0) ∧ (r.2.2 = min3 r → v.dw = 0))) ∧
    (s.dev.runs p .e0 0x0F t = true → Answers (.kZvv p t) s fun u =>
      (u.dev.port p).e0.fr.duty = ⟨32768, 32768, 32768, 16⟩)

/-- K_DUTY_OUT writes the duty cell, visible from the slot after the one in which the write completes: mode 3 under a coast
fallback, the zero-voltage vector under its fallback, and otherwise the frame's duties; bit 5 of the pattern shows whether K_OVM
limited the frame's vector (R18, R39, R75, R112, R153). -/
def Sys2Proof.Says.DutyOutWritesTheDutyCell : Prop :=
  ∀ (s : State) (p : PortId) (t : Nat), s.dev.runs p .e0 0x11 t = true →
    let e := ((s.dev.begin0 p).port p).e0
    let n := s.dev.slotOf p + writeSlots t 30
    let v : DutyVal := if e.fl.coast then ⟨0, 0, 0, 24⟩ else if e.fl.zvv then ⟨32768, 32768, 32768, 16⟩ else e.fr.duty
    let w : DutyVal := { v with pattern := v.pattern % 32 + (if e.fl.ovm then 32 else 0) }
    exec (.kDutyOut p t) s = .next (s.upd fun d => (d.begin0 p).onPort p fun x => { x with
      cells := { x.cells with duty := x.cells.duty.write (n + 1) n e.fl.fallback w } })

/-! ### The kernels of engine 1 -/

/-- The feedback kernels take the latched flags, and the latched position where the port's mode is theirs; a SENT nibble count
other than the bound one takes no frame and sets SENT_FORMAT_MISMATCH; nothing else of the block changes (R184, R186, R194, R198,
R199). -/
def Sys2Proof.Says.FeedbackKernelsTakeTheLatch : Prop :=
  ∀ (s : State) (p : PortId) (t : Nat),
    let l := (s.dev.port p).fb.latch
    let m := s.dev.fbMode p
    (s.dev.runs p .e1 0x20 t = true → (m = 1 ∨ m = 2) → exec (.kQepIn p t) s = .next (s.upd fun d => d.onE1Fb p fun f =>
      { f with x := l.p, stamp := l.edge, refClk := l.clk, flags := { l.flags with formatMis := f.flags.formatMis } })) ∧
    (s.dev.runs p .e1 0x20 t = true → m ≠ 1 → m ≠ 2 → exec (.kQepIn p t) s = .next (s.upd fun d => d.onE1Fb p fun f =>
      { f with flags := { l.flags with formatMis := f.flags.formatMis } })) ∧
    (s.dev.runs p .e1 0x21 t = true → m = 3 → exec (.kHallIn p t) s = .next (s.upd fun d => d.onE1Fb p fun f =>
      { f with
        hall := l.hall, stamp := l.hall.edgeAt, refClk := l.clk
        flags := { l.flags with formatMis := f.flags.formatMis } })) ∧
    (s.dev.runs p .e1 0x21 t = true → m ≠ 3 → exec (.kHallIn p t) s = .next (s.upd fun d => d.onE1Fb p fun f =>
      { f with flags := { l.flags with formatMis := f.flags.formatMis } })) ∧
    (∀ i, s.dev.runs p .e1 0x23 t = true → s.dev.placed p .e1 0x23 t = some i →
      i.formula ≠ formatNibbles (s.dev.pnat p 0x70 0xF) → Answers (.kSentIn p t) s fun u =>
        (u.dev.port p).e1.fb.flags.formatMis = true ∧ (u.dev.port p).fb.flags.formatMis = true ∧
        (u.dev.port p).e1.fb.x = (s.dev.port p).e1.fb.x) ∧
    (∀ i, s.dev.runs p .e1 0x23 t = true → s.dev.placed p .e1 0x23 t = some i →
      i.formula = formatNibbles (s.dev.pnat p 0x70 0xF) → s.dev.pnum p 0x70 4 = 0 → m = 4 → Answers (.kSentIn p t) s fun u =>
        (u.dev.port p).e1.fb.x = l.sent.v1 ∧ (u.dev.port p).e1.fb.stamp = l.sent.trx ∧
        (u.dev.port p).e1.fb.refClk = (l.sent.trx : Int) - s.dev.pnum p 0x70 0x15 * 100 ∧
        (u.dev.port p).e1.fb.flags.formatMis = false) ∧
    (∀ i, s.dev.runs p .e1 0x23 t = true → s.dev.placed p .e1 0x23 t = some i →
      i.formula = formatNibbles (s.dev.pnat p 0x70 0xF) → m ≠ 4 → Answers (.kSentIn p t) s fun u =>
        (u.dev.port p).e1.fb.x = (s.dev.port p).e1.fb.x ∧ (u.dev.port p).e1.fb.refClk = (s.dev.port p).e1.fb.refClk)

/-- K_HALL_INTERP forms the Hall speed and angle at the latch instant: zero at the centre of the state once the zero-speed
timeout has run, else the arc over the last interval or the longer elapsed time, and the angle of the edge carried at that
speed as far as the next edge; direction invert turns the sign of the speed; the speed is filtered here without K_SPD_EST. On a
port of another mode it does nothing (R194, R200). -/
def Sys2Proof.Says.HallSpeedAndAngleFollowTheEdge : Prop :=
  ∀ (s : State) (p : PortId) (t : Nat), s.dev.runs p .e1 0x22 t = true →
    let f := (s.dev.port p).e1.fb
    let x := f.hall
    let age := since f.refClk x.edgeAt
    (s.dev.fbMode p ≠ 3 → exec (.kHallInterp p t) s = .next s) ∧
    (s.dev.fbMode p = 3 → s.dev.still p f x.edgeAt = true → Answers (.kHallInterp p t) s fun u =>
      let g := (u.dev.port p).e1.fb
      g.w = 0 ∧ g.wf = 0 ∧ g.zero = true ∧
      (1 ≤ x.last → x.last ≤ 6 → g.theta = s.dev.hallCentre p x.last * 65536)) ∧
    (s.dev.fbMode p = 3 → s.dev.still p f x.edgeAt = false → x.prev ≠ 0 → Answers (.kHallInterp p t) s fun u =>
      let g := (u.dev.port p).e1.fb
      let w0 := narrow (x.arc * 2 ^ 32 * 50) (max age x.prev)
      let room := wrapAngQ (sgn w0 * (s.dev.nextEdge p x.last (sgn w0) - x.angle) * 65536)
      let run := narrow (w0 * since f.refClk x.base) (65536 * 50)
      g.w = (if s.dev.pnum p 0x70 4 = 1 then -w0 else w0) ∧ g.zero = false ∧
      (w0 ≠ 0 → g.theta = wrapAngQ (x.angle * 65536 + clampAbs room run)) ∧
      g.wf = (if s.dev.places p .e1 0x25 = true then f.wf else s.dev.filterSpeed p f.wf g.w)) ∧
    (s.dev.fbMode p = 3 → s.dev.still p f x.edgeAt = false → x.prev = 0 → Answers (.kHallInterp p t) s fun u =>
      (u.dev.port p).e1.fb.w = 0 ∧ (u.dev.port p).e1.fb.zero = false ∧
      (u.dev.port p).e1.fb.theta = wrapAngQ (x.angle * 65536))

/-- Angle and speed from a feedback interface: the angle is carried at the filtered speed to the boundary of the angle
cell's write slot; beyond the zero-speed timeout a quadrature speed is zero, and between edges it is the change of position
over the interval or the longer elapsed time; a SENT speed is the change of position between its last two frames; the
filtered speed takes its share of the difference; without feedback nothing changes (R194, R199, R200). -/
def Sys2Proof.Says.FeedbackAngleAndSpeedFollowTheEdges : Prop :=
  ∀ (s : State) (p : PortId) (t : Nat),
    let f := (s.dev.port p).e1.fb
    (s.dev.runs p .e1 0x24 t = true → Answers (.kAngScale p t) s fun u =>
      let w : Int := (s.dev.slotOf p + s.dev.angleWriteSlots p t) * 50
      (u.dev.port p).e1.fb.theta =
        wrapAngQ (s.dev.scaledAngle p f + narrow (f.wf * since w f.refClk) (65536 * 50)) ∧
      (u.dev.port p).e1.fb.w = f.w ∧ (u.dev.port p).e1.fb.wf = f.wf) ∧
    (s.dev.runs p .e1 0x25 t = true → s.dev.fbMode p = 1 → s.dev.still p f.held f.held.lastStamp = true →
      Answers (.kSpdEst p t) s fun u =>
        (u.dev.port p).e1.fb.w = 0 ∧ (u.dev.port p).e1.fb.wf = 0 ∧ (u.dev.port p).e1.fb.zero = true) ∧
    (s.dev.runs p .e1 0x25 t = true → s.dev.fbMode p = 1 → s.dev.still p f.held f.held.lastStamp = false →
      f.held.seen = 2 → Answers (.kSpdEst p t) s fun u =>
        let g := f.held
        let w := speedOf (reduceHalf (s.dev.cpr p) ((g.lastX : Int) - g.oldX) * s.dev.pnum p 0x10 1 * 16384) (s.dev.cpr p)
          (max (since g.lastStamp g.oldStamp) (since g.refClk g.lastStamp))
        (u.dev.port p).e1.fb.w = w ∧
        (u.dev.port p).e1.fb.wf = f.wf + narrow (w - f.wf) (2 ^ s.dev.pnat p 0x70 0xB)) ∧
    (s.dev.runs p .e1 0x25 t = true → s.dev.fbMode p = 4 → f.heldSent.seen = 2 → Answers (.kSpdEst p t) s fun u =>
      let g := f.heldSent
      let w := speedOf (reduceHalf (s.dev.cpr p) ((g.lastX : Int) - g.oldX) * s.dev.pnum p 0x10 1 * 16384) (s.dev.cpr p)
        (since g.lastStamp g.oldStamp)
      (u.dev.port p).e1.fb.w = w ∧
      (u.dev.port p).e1.fb.wf = f.wf + narrow (w - f.wf) (2 ^ s.dev.pnat p 0x70 0xB)) ∧
    (s.dev.runs p .e1 0x25 t = true → s.dev.fbMode p = 4 → f.heldSent.seen < 2 → Answers (.kSpdEst p t) s fun u =>
      (u.dev.port p).e1.fb.w = 0) ∧
    (s.dev.runs p .e1 0x25 t = true → s.dev.fbMode p = 3 → f.zero = false → Answers (.kSpdEst p t) s fun u =>
      (u.dev.port p).e1.fb.wf = f.wf + narrow (f.w - f.wf) (2 ^ s.dev.pnat p 0x70 0xB)) ∧
    (s.dev.runs p .e1 0x25 t = true → s.dev.fbMode p = 0 → exec (.kSpdEst p t) s = .next s)

/-- A frame in which every gate was off is a hold frame of the observers: the EMF estimate, the confidences and the speeds
stay, the angles run on; without a resolved polarity the injection's confidence stays at most 127 (R206, R208 to
R210, R213). Otherwise K_PLL_ANG steps its speed and angle by the EMF's error, and forms the confidence from its magnitude
and the filtered error (R210, R211). -/
def Sys2Proof.Says.HoldFramesKeepTheObservers : Prop :=
  ∀ (s : State) (p : PortId) (t : Nat),
    let e := (s.dev.port p).e1
    let k : Int := s.dev.frame p
    (s.dev.runs p .e1 0x26 t = true → e.latch.gatesOff = true → Answers (.kObsBemf p t) s fun u =>
      let b := (u.dev.port p).e1.bemf
      b.hold = true ∧ b.eA = e.bemf.eA ∧ b.eB = e.bemf.eB ∧ b.iA = e.bemf.iA ∧ b.iB = e.bemf.iB ∧ b.pll = e.bemf.pll) ∧
    (s.dev.runs p .e1 0x29 t = true → e.bemf.hold = true → Answers (.kPllAng p t) s fun u =>
      let b := (u.dev.port p).e1.bemf
      b.pll.w = e.bemf.pll.w ∧ b.pll.theta = wrapAngQ (e.bemf.pll.theta + narrow (e.bemf.pll.w * k) 65536) ∧
      b.conf = e.bemf.conf ∧ b.epsF = e.bemf.epsF) ∧
    (s.dev.runs p .e1 0x29 t = true → e.bemf.hold = false → Answers (.kPllAng p t) s fun u =>
      let b := (u.dev.port p).e1.bemf
      let q := e.bemf.pll
      let bw := s.dev.pnum p 0x80 0x10
      let dir := if q.w = 0 then e.start.dir else sgn q.w
      let mag := norm2 e.bemf.eA e.bemf.eB
      let ref := s.dev.eRef p
      let eps := narrow (dir * (-(mulQ e.bemf.eA (cosQ q.theta)) - mulQ e.bemf.eB (sinQ q.theta)) * 65536) (max mag ref)
      b.pll.w = q.w + pllKi bw k eps ∧
      b.pll.theta = wrapAngQ (q.theta + narrow ((q.w + pllKi bw k eps) * k) 65536 + pllKp bw k eps) ∧
      b.epsF = filter8 e.bemf.epsF (absI eps) ∧
      b.conf = (roundHA (255 * min mag ref * plausFactor (filter8 e.bemf.epsF (absI eps))) (ref * 65536)).toNat ∧
      b.eA = e.bemf.eA ∧ b.eB = e.bemf.eB ∧ b.hold = false) ∧
    (s.dev.runs p .e1 0x27 t = true → e.bemf.hold = true → e.blend.weight ≠ 65536 → Answers (.kObsHfi p t) s fun u =>
      let h := (u.dev.port p).e1.hfi
      h.pll.w = e.hfi.pll.w ∧ h.conf = (if e.hfi.resolved then e.hfi.conf else min e.hfi.conf 127) ∧
        h.hist = e.hfi.hist ∧ h.resolved = e.hfi.resolved)

/-- In a frame with a fresh current cell, good samples and gates that switched, K_OBS_BEMF forms the EMF estimate: the
commanded voltage less the dead-time term, the resistive drop and the inductive term of the change of the currents; the cell
is read once (R19, R206, R209). In such a frame K_OBS_HFI divides the sums of its window of responses: the error, its PLL
step, and its confidence (R213, R214), and its PLL follows the back-EMF estimate while that has full weight (R215). -/
def Sys2Proof.Says.ObserversEstimateFromTheFrame : Prop :=
  ∀ (s : State) (p : PortId) (t : Nat),
    let x := s.dev.port p
    let r := x.cells.current.cur
    let n := s.dev.slotOf p
    let v := (x.cons.cur1.after r n).held
    let e := x.e1
    let k : Int := s.dev.frame p
    (s.dev.runs p .e1 0x26 t = true → x.cons.cur1.stale r n = false → s.dev.poor p v.uValid v.uGap = false →
      s.dev.poor p v.vValid v.vGap = false → e.latch.gatesOff = false → Answers (.kObsBemf p t) s fun u =>
        let b := (u.dev.port p).e1.bemf
        let i := clarke v.iu v.iv (-(v.iu + v.iv))
        let dv := s.dev.deadTerm p i.1 i.2 e.latch.vbus
        let ind := fun (now before : Int) => narrow (s.dev.pnum p 0x10 4 * (now - before) * 250000) (k * s.dev.grv p)
        b.hold = false ∧ b.iA = i.1 ∧ b.iB = i.2 ∧ b.pA = e.bemf.iA ∧ b.pB = e.bemf.iB ∧ b.ref = (r.wslot : Int) ∧
        b.eA = satV (satV (e.latch.clarke.1 - dv.1) - s.dev.dropR p (s.dev.pnum p 0x10 2) i.1 - ind i.1 e.bemf.iA) ∧
        b.eB = satV (satV (e.latch.clarke.2 - dv.2) - s.dev.dropR p (s.dev.pnum p 0x10 2) i.2 - ind i.2 e.bemf.iB) ∧
        (u.dev.port p).cons.cur1 = x.cons.cur1.after r n ∧ b.pll = e.bemf.pll) ∧
    (∀ i, s.dev.runs p .e1 0x27 t = true → s.dev.placed p .e1 0x27 t = some i → e.bemf.hold = false →
      Answers (.kObsHfi p t) s fun u =>
        let h := (u.dev.port p).e1.hfi
        let di := park (e.bemf.iA - e.bemf.pA) (e.bemf.iB - e.bemf.pB) e.hfi.pll.theta
        let dmin := s.dev.pnum p 0x80 0x14 * 65536
        let sd := sumI (h.hist.map Prod.fst)
        let c : Int := h.hist.length
        let eps := clampAbs 65536 (narrow (sumI (h.hist.map Prod.snd) * 65536) (max sd (dmin * c)))
        h.hist = ((absI di.1, if di.1 < 0 then -di.2 else di.2) :: e.hfi.hist).take i.formula ∧
        h.resp = narrow sd c ∧ (h.resp < dmin → h.conf = 0) ∧
        (dmin ≤ h.resp → e.hfi.resolved = true →
          h.conf = (roundHA (255 * max 0 (65536 - 4 * absI eps)) 65536).toNat) ∧
        (dmin ≤ h.resp → e.hfi.resolved = false →
          h.conf = min (roundHA (255 * max 0 (65536 - 4 * absI eps)) 65536).toNat 127) ∧
        (e.blend.weight ≠ 65536 → h.pll = e.hfi.pll.update (s.dev.pnum p 0x80 0x13) k eps) ∧
        (e.blend.weight = 65536 → h.pll = e.bemf.pll))

/-- Without the injection observer the blend is the back-EMF estimate with full weight, its confidence and source 1; with it the
weight rises from 0 to 1 between the two speeds of the blend, and angle, speed and confidence lie between the two estimates by
that weight (R215). -/
def Sys2Proof.Says.BlendLiesBetweenTheEstimates : Prop :=
  ∀ (s : State) (p : PortId) (t : Nat), s.dev.runs p .e1 0x28 t = true →
    let m := (s.dev.port p).e1.bemf
    let h := (s.dev.port p).e1.hfi
    (s.dev.places p .e1 0x27 = false → Answers (.kObsBlend p t) s fun u =>
      let b := (u.dev.port p).e1.blend
      b.weight = 65536 ∧ b.src = 1 ∧ b.conf = m.conf ∧ b.w = m.pll.w) ∧
    (s.dev.places p .e1 0x27 = true → Answers (.kObsBlend p t) s fun u =>
      let b := (u.dev.port p).e1.blend
      let lo := pllSpeed (s.dev.pnum p 0x80 0x15) 1
      let hi := pllSpeed (s.dev.pnum p 0x80 0x16) 1
      let w := clampI 0 65536 (narrow ((absI m.pll.w - lo) * 65536) (hi - lo))
      b.weight = w ∧ b.theta = wrapAngQ (h.pll.theta + mulQ w (wrapDiffQ (m.pll.theta - h.pll.theta))) ∧
      b.w = h.pll.w + mulQ w (m.pll.w - h.pll.w) ∧
      b.conf = (roundHA ((65536 - w) * h.conf + w * m.conf) 65536).toNat ∧
      b.src = (if w = 0 then 2 else if w = 65536 then 1 else 3))

/-- The start-up kernels: the align angle is imposed in the align phase; the ramp begins at the align angle with its start
frequency, and its first frame of attempt 0 requests RAMP in the slot of the kernel's last tick; the handover count advances at or
above the handover speed and confidence and is cleared below (R171, R218 to R220, R472). -/
def Sys2Proof.Says.StartUpKernelsFollowThePhases : Prop :=
  ∀ (s : State) (p : PortId) (t : Nat),
    let e := (s.dev.port p).e1
    (s.dev.runs p .e1 0x2A t = true → s.dev.pnum p 0x80 1 = 0 → e.start.phase = 1 → Answers (.kAlign p t) s fun u =>
      let v := (u.dev.port p).e1.start
      v.theta = s.dev.pnum p 0x80 2 * 65536 ∧ v.freq = 0 ∧ v.refSlot = s.dev.slotOf p) ∧
    (s.dev.runs p .e1 0x2B t = true → e.start.phase = 2 → e.start.phaseSlot = s.dev.slotOf p →
      Answers (.kIfRamp p t) s fun u =>
        let v := (u.dev.port p).e1.start
        v.theta = wrapAngQ (s.dev.pnum p 0x80 2 * 65536) ∧ v.freq = s.dev.pnum p 0x80 7 * 65536 ∧ v.rampDue = false ∧
        (u.dev.port p).reg.reqE1 = (if e.start.rampDue then some ⟨s.dev.slotOf p + lastSlots t 72, .ramp, false, false⟩
          else (s.dev.port p).reg.reqE1)) ∧
    (s.dev.runs p .e1 0x2C t = true → s.dev.handoverRuns p = true → e.bemf.hold = false → s.dev.pnum p 0x80 1 = 0 →
      ∀ b, s.dev.blendOf p = some b → Answers (.kHandover p t) s fun u =>
        (u.dev.port p).e1.start.handCount =
          if pllSpeed (s.dev.pnum p 0x80 0xA) 1 ≤ e.start.dir * b.w ∧ s.dev.pnat p 0x80 0xB ≤ b.conf then
            e.start.handCount + 1 else 0)

/-- The catch loop runs in ARMED and COAST alone; records taken more than 200 cycles apart, or one older than a carrier
period, mark the frame as skewed: no confidence, no catch, the speed kept (R226, R227). -/
def Sys2Proof.Says.CatchLoopRefusesSkewedRecords : Prop :=
  ∀ (s : State) (p : PortId) (t : Nat),
    let r := fun k => recClk (s.dev.gcRecord (s.dev.bound p .e1 0x2D t k)) (s.dev.slotOf p)
    (s.dev.runs p .e1 0x2D t = true → (s.dev.pstate p = .armed ∨ s.dev.pstate p = .coast) →
      (200 < spread3 (r 0) (r 1) (r 2) ∨
        min (r 0) (min (r 1) (r 2)) < ((t / 4 : Nat) : Int) - 50 * (s.dev.frame p : Int)) →
      Answers (.kFlyCatch p t) s fun u =>
        let c := (u.dev.port p).e1.fly
        c.skew = true ∧ c.count = 0 ∧ c.conf = 0 ∧ c.caught = false ∧ c.pll.w = (s.dev.port p).e1.fly.pll.w) ∧
    (s.dev.pstate p ≠ .armed → s.dev.pstate p ≠ .coast → exec (.kFlyCatch p t) s = .next s)

/-- With records that belong together and lie below the diode clamp it finds a standing rotor below a voltage, with
confidence 1, and above it steps its PLL to the angle of the terminal voltage, counting the confident frames (R226, R227). -/
def Sys2Proof.Says.CatchLoopFollowsTheTerminalVoltage : Prop :=
  ∀ (s : State) (p : PortId) (t : Nat),
    let r := fun k => s.dev.gcRecord (s.dev.bound p .e1 0x2D t k)
    let n := s.dev.slotOf p
    let c0 := (s.dev.port p).e1.fly
    let k : Int := s.dev.frame p
    let lsb := s.dev.pnum p 0x80 0x22
    let a := (recCode (r 0) - recCode (r 1)) * lsb
    let b := (recCode (r 1) - recCode (r 2)) * lsb
    let sq := a * a + a * b + b * b
    let thr := s.dev.pnum p 0x80 0x21 * 1000
    let vb := (s.dev.port p).e1.latch.vbus * s.dev.pnum p 0x50 1 * 10000
    s.dev.runs p .e1 0x2D t = true → (s.dev.pstate p = .armed ∨ s.dev.pstate p = .coast) →
    spread3 (recClk (r 0) n) (recClk (r 1) n) (recClk (r 2) n) ≤ 200 →
    ((t / 4 : Nat) : Int) - 50 * k ≤ min (recClk (r 0) n) (min (recClk (r 1) n) (recClk (r 2) n)) →
    40000 * sq * 8192 * 8192 < 27075 * vb * vb →
      (4 * sq < 9 * thr * thr → Answers (.kFlyCatch p t) s fun u =>
        let c := (u.dev.port p).e1.fly
        c.pll.w = 0 ∧ c.pll.theta = c0.pll.theta ∧ c.conf = 1 ∧ c.count = 0 ∧ c.caught = false ∧ c.skew = false ∧
        c.clamped = false) ∧
      (9 * thr * thr ≤ 4 * sq → Answers (.kFlyCatch p t) s fun u =>
        let c := (u.dev.port p).e1.fly
        let phi := atanQ ((2 * a + b) * 2 ^ 32) (b * sqrt3q32)
        let dir := signOr c0.pll.w (sgn (if c0.havePhi then wrapDiffQ (phi - c0.phi) else 0))
        let eps := clampAbs 65536 (narrow (wrapDiffQ (phi - dir * (4096 * 65536) - c0.pll.theta)) 4096)
        let full := (roundHA (255 * plausFactor (filter8 c0.epsF (absI eps))) 65536).toNat
        let hc := s.dev.pnat p 0x80 0xB
        c.phi = phi ∧ c.havePhi = true ∧ c.pll = c0.pll.update (s.dev.pnum p 0x80 0x10) k eps ∧
        c.count = (if hc ≤ full then c0.count + 1 else 0) ∧
        c.conf = (if s.dev.pnat p 0x80 0xC ≤ c.count then full else min full (hc - 1)) ∧
        c.refClk = (n : Int) * 50 + recClk (r 1) n + 50 * k ∧ c.skew = false ∧ c.clamped = false)

/-- In CLOSED above its speed and outside hold frames, each of the three rotor-loss conditions advances its own count while it
holds and clears it otherwise; elsewhere the counts stay (R224). -/
def Sys2Proof.Says.RotorLossConditionsAreCountedApart : Prop :=
  ∀ (s : State) (p : PortId) (t : Nat),
    let e := (s.dev.port p).e1
    let q := s.dev.lossConditions p
    (s.dev.runs p .e1 0x2E t = true → s.dev.pstate p = .closed → e.bemf.hold = false →
      pllSpeed (s.dev.pnum p 0x80 0x1F) 1 ≤ absI e.bemf.pll.w → Answers (.kRotorLoss p t) s fun u =>
        let l := (u.dev.port p).e1.loss
        l.conf = (if q.1 then e.loss.conf + 1 else 0) ∧ l.bemf = (if q.2.1 then e.loss.bemf + 1 else 0) ∧
        l.qsat = (if q.2.2 then e.loss.qsat + 1 else 0)) ∧
    (s.dev.pstate p ≠ .closed → exec (.kRotorLoss p t) s = .next s)

/-- K_ANG_OUT of a port with a feedback interface writes the angle cell: angle and filtered speed of the interface, source
0, confidence 255 with a good reference and 0 under a feedback fault; in OFF a sensorless port holds its angle at speed 0
(R39, R75, R200, R216). -/
def Sys2Proof.Says.AngOutWritesTheAngleCell : Prop :=
  ∀ (s : State) (p : PortId) (t : Nat), s.dev.runs p .e1 0x2F t = true →
    let e := (s.dev.port p).e1
    let n := s.dev.slotOf p + writeSlots t 22
    (s.dev.sensorless p = false → Answers (.kAngOut p t) s fun u =>
      (u.dev.port p).cells = { (s.dev.port p).cells with
        angle := (s.dev.port p).cells.angle.write (n + 1) n false
          ⟨wrapAng (ofQ e.fb.theta), satS 32 (ofQ e.fb.wf), s.dev.fbConf p, 0⟩ }) ∧
    (e.fb.flags.fault = true → s.dev.fbConf p = 0) ∧
    (s.dev.sensorless p = true → s.dev.pstate p = .off → Answers (.kAngOut p t) s fun u =>
      ∃ a, (u.dev.port p).cells.angle = (s.dev.port p).cells.angle.write (n + 1) n false ⟨a, 0, 0, 1⟩ ∧
        (0 ≤ e.angle → e.angle < 16384 → a = e.angle))

/-! ### The kernels of engine 2 -/

/-- K_PROC_IN takes the bound objects together while none of them is stale; a stale one leaves the last fresh control word in
force and says so; what a start late in the slot cannot read is read in the next one. Nothing left over, a kernel of engine
2 begins with the state as it stands (R37, R168, R180, R473). -/
def Sys2Proof.Says.ProcInTakesTheBoundObjects : Prop :=
  ∀ (s : State) (p : PortId) (t : Nat),
    let d := s.dev.resumed p
    let bs := s.dev.bindings p 0x40 t
    let stale := bs.any fun b => b.object && d.procStale p.lane b.value
    let value := fun n => (((bs.filter fun b => b.object).find? fun b => b.param == n).map fun b =>
      d.num (b.value / 256) (b.value % 256)).getD 0
    ((s.dev.port p).e0.late = none → (s.dev.port p).e2.proc = none → (s.dev.port p).e2.budget = none → d = s.dev) ∧
    (s.dev.runs p .e2 0x40 t = true → bs.length ≤ (187 - t) / 6 → stale = false → Answers (.kProcIn p t) s fun u =>
      let c := (u.dev.port p).e2.cmd
      c.stale = false ∧ c.staleRun = 0 ∧ c.ctl = (value 0).toNat ∧ c.spd = value 1 ∧
      c.trq = value 2 * 65536 ∧ (u.dev.port p).cells = (d.port p).cells) ∧
    (s.dev.runs p .e2 0x40 t = true → bs.length ≤ (187 - t) / 6 → stale = true → Answers (.kProcIn p t) s fun u =>
      let c := (u.dev.port p).e2.cmd
      c.stale = true ∧ c.ctl = (d.port p).e2.cmd.freshCtl ∧ c.spd = (d.port p).e2.cmd.freshSpd) ∧
    (s.dev.runs p .e2 0x40 t = true → (187 - t) / 6 < bs.length → Answers (.kProcIn p t) s fun u =>
      (u.dev.port p).e2.cmd = (d.port p).e2.cmd ∧
      ∃ w, (u.dev.port p).e2.proc = some w ∧ w.due = s.dev.slotOf p + 1 ∧ w.rest = bs.drop ((187 - t) / 6))

/-- The ramps act once in a speed frame: outside CLOSED the ramp value follows the filtered speed; in CLOSED it takes its
step towards the limited target unless it is held (R174, R178). -/
def Sys2Proof.Says.RampsStepOncePerSpeedFrame : Prop :=
  ∀ (s : State) (p : PortId) (t : Nat),
    let d := s.dev.resumed p
    let m := (d.port p).e2.mo
    let goal := d.target p * 65536
    (s.dev.runs p .e2 0x41 t = true → mapFind 0x41 m.acted ≠ some (d.speedStart p) → d.pstate p ≠ .closed →
      Answers (.kRamp p t) s fun u =>
        (u.dev.port p).e2.mo.r = m.wf ∧ (u.dev.port p).e2.mo.a = 0 ∧ (u.dev.port p).e2.mo.held = false) ∧
    (s.dev.runs p .e2 0x41 t = true → mapFind 0x41 m.acted ≠ some (d.speedStart p) → d.pstate p = .closed →
      m.held = false → Answers (.kRamp p t) s fun u => (u.dev.port p).e2.mo.r = d.linearStep p m.r goal) ∧
    (s.dev.runs p .e2 0x42 t = true → mapFind 0x42 m.acted ≠ some (d.speedStart p) → d.pstate p = .closed →
      m.held = false → Answers (.kScurve p t) s fun u =>
        let q := d.sStep p m.r m.a goal m.endZero
        (u.dev.port p).e2.mo.r = q.1 ∧ (u.dev.port p).e2.mo.a = q.2.1 ∧ (u.dev.port p).e2.mo.endZero = q.2.2) ∧
    (s.dev.runs p .e2 0x41 t = true → mapFind 0x41 m.acted = some (d.speedStart p) →
      exec (.kRamp p t) s = .next (s.upd fun _ => d)) ∧
    (s.dev.runs p .e2 0x42 t = true → mapFind 0x42 m.acted = some (d.speedStart p) →
      exec (.kScurve p t) s = .next (s.upd fun _ => d))

/-- The speed controller: in OFF the filtered speed and the integrator are zero; in CLOSED in speed mode the Iq setpoint of a
port without a pair stays within the current limit and the Id setpoint is zero (R173, R174). -/
def Sys2Proof.Says.SpeedControllerStaysWithinTheLimit : Prop :=
  ∀ (s : State) (p : PortId) (t : Nat), s.dev.runs p .e2 0x43 t = true →
    let d := s.dev.resumed p
    let e := (d.port p).e2
    mapFind 0x43 e.mo.acted ≠ some (d.speedStart p) →
    (d.pstate p = .off → Answers (.kSpdPi p t) s fun u =>
      (u.dev.port p).e2.mo.wf = 0 ∧ (u.dev.port p).e2.mo.x = 0 ∧ (u.dev.port p).e2.mo.sat = false) ∧
    (d.pstate p = .closed → d.torqueMode p = false → d.paired p = false → 0 ≤ e.out.iLim →
      Answers (.kSpdPi p t) s fun u =>
        let o := (u.dev.port p).e2.out
        o.idSp = 0 ∧ -e.out.iLim ≤ o.iqSp ∧ o.iqSp ≤ e.out.iLim ∧ o.iLim = e.out.iLim)

/-- K_TRQ_SET in CLOSED in torque mode forms the Iq of the torque setpoint, and none that would drive further a speed beyond
the speed limit; in speed mode it does nothing (R177, R179). -/
def Sys2Proof.Says.TorqueSetpointIsCutBeyondTheSpeedLimit : Prop :=
  ∀ (s : State) (p : PortId) (t : Nat),
    let d := s.dev.resumed p
    let e := (d.port p).e2
    let iq := d.torqueCurrent p e.cmd.trq
    (s.dev.runs p .e2 0x44 t = true → d.torqueMode p = true → d.pstate p = .closed →
      Answers (.kTrqSet p t) s fun u =>
        let fast := d.pnum p 0x60 8 * 65536 < absI e.mo.wf ∧ iq ≠ 0 ∧ sgn iq = sgn e.mo.wf
        (fast → (u.dev.port p).e2.out.iqSp = 0 ∧ (u.dev.port p).e2.mo.limited = true) ∧
        (¬ fast → (u.dev.port p).e2.out.iqSp = iq ∧ (u.dev.port p).e2.mo.limited = false) ∧
        (u.dev.port p).e2.out.idSp = 0) ∧
    (s.dev.runs p .e2 0x44 t = true → d.torqueMode p = false → exec (.kTrqSet p t) s = .next (s.upd fun _ => d))

/-- K_LIM_BUDGET of a port outside the budget and without a pair: the current limit is the port's own, derated by the lane
status word's share, never above it; the regenerative block follows the chopper bits; the request waits for the allocation
that sees its store; a start whose load of the grant is performed in the next slot leaves the limit as it is until then
(R37, R140, R159, R160, R472). -/
def Sys2Proof.Says.CurrentLimitIsDerated : Prop :=
  ∀ (s : State) (p : PortId) (t : Nat), s.dev.runs p .e2 0x45 t = true →
    let d := s.dev.resumed p
    d.num 0x2810 1 = 0 → d.paired p = false →
    (t + 24 < 200 → Answers (.kLimBudget p t) s fun u =>
      let o := (u.dev.port p).e2.out
      let own := d.pnum p 0x90 1 * 65536
      let w := (d.lane p.lane).status
      o.iBud = own ∧ o.ibF = 0 ∧ o.iLim = min (narrow (own * (w % 1024 : Nat)) 1000) own ∧ o.iLim ≤ own ∧
      o.regenBlock = (bitOf w 16 || bitOf w (nonmemberBit p)) ∧
      (∃ r, o.reqNext = some (s.dev.slotOf p + (t + 20) / 200, r)) ∧ u.dev.lane p.lane = d.lane p.lane) ∧
    (176 ≤ t → Answers (.kLimBudget p t) s fun u =>
      (u.dev.port p).e2.out.iLim = (d.port p).e2.out.iLim ∧
      ∃ b, (u.dev.port p).e2.budget = some b ∧ b.due = s.dev.slotOf p + 1 ∧ b.tick = t)

/-- K_CHECK_DQ does not judge a frame whose duties come from a fallback: it counts it as skipped and CHECK_OK stays set. In
a frame with fresh cells it clears CHECK_OK and commands the unit, with source 15, exactly where a comparison fails, in the
slot of the last tick of its instance: a current that differs from the stored word by more than its tolerance fails it, and a
saturated duty spares the voltage (R78, R472, R475). -/
def Sys2Proof.Says.RecomputationJudgesFreshFrames : Prop :=
  ∀ (s : State) (p : PortId) (t : Nat), s.dev.runs p .e2 0x46 t = true →
    let d := s.dev.resumed p
    let x := d.port p
    let n := s.dev.slotOf p
    let read := ((d.readCur2 p).readAng2 p).readDuty2 p
    let base := read.onOut p fun o => { o with wSlot := x.cells.angle.cur.wslot }
    let T := (d.lane p.lane).tick t
    let r := base.recompute p
    let cmd : SafeCmd := ⟨15, none, false, false⟩
    (x.cells.duty.cur.fb = true → Answers (.kCheckDq p t) s fun u =>
      (u.dev.port p).e2.out.checkOk = true ∧ u.dev.num 0x2520 3 = min (d.num 0x2520 3 + 1) 4294967295) ∧
    (x.cells.duty.cur.fb = false → x.cons.cur2.stale x.cells.current.cur n = false →
      x.cons.ang2.stale x.cells.angle.cur n = false → x.cons.duty2.stale x.cells.duty.cur n = false →
      (base.checkFails p T r.1 r.2.1 r.2.2.1 = false → Answers (.kCheckDq p t) s fun u =>
        (u.dev.port p).e2.out.checkOk = true ∧ (u.dev.port p).faults = (d.port p).faults ∧
        (u.dev.port p).unit = (d.port p).unit ∧ u.dev.num 0x2520 3 = d.num 0x2520 3) ∧
      (base.checkFails p T r.1 r.2.1 r.2.2.1 = true → Answers (.kCheckDq p t) s fun u =>
        (u.dev.port p).e2.out.checkOk = false ∧
        (lastSlots t 412 = 0 → u.dev.faulted p .recompute = true ∧ cmd ∈ (u.dev.port p).unit.arriving) ∧
        (lastSlots t 412 ≠ 0 → ⟨n + lastSlots t 412, cmd, FaultId.recompute.code, false⟩ ∈ (u.dev.port p).unit.later))) ∧
    (∀ (id iq th : Int),
      (base.num 0x2520 1 * 65536 < absI (id - signedOf 16 ((x.e0.fl.settled (T + 12)).chkI) * 65536) →
        base.checkFails p T id iq th = true) ∧
      (base.num 0x2520 1 * 65536 < absI (iq - signedOf 16 ((x.e0.fl.settled (T + 12)).chkI / 65536) * 65536) →
        base.checkFails p T id iq th = true) ∧
      (absI (id - signedOf 16 ((x.e0.fl.settled (T + 12)).chkI) * 65536) ≤ base.num 0x2520 1 * 65536 →
        absI (iq - signedOf 16 ((x.e0.fl.settled (T + 12)).chkI / 65536) * 65536) ≤ base.num 0x2520 1 * 65536 →
        2 ≤ (base.port p).cons.duty2.held.pattern / 8 % 4 → base.checkFails p T id iq th = false))

/-- K_XW_EXCH sends one record over a linked port, with the count of current frames as its tag, and takes the pair state and
the share factor; K_XW_PLAUS reads the receive cell, judges only records of one tag with both ports in CLOSED, and keeps
which checks failed, the health check where the four bits of a record's word are zero; the frames since a verdict against the
partner run from the first one (R12, R40, R80, R234, R237, R241 to R244, R472). That all four bits are to be zero is the model's
reading (log entry 66). -/
def Sys2Proof.Says.PairKernelsExchangeAndJudgeRecords : Prop :=
  ∀ (s : State) (p : PortId) (t : Nat),
    let d := s.dev.resumed p
    let x := d.port p
    let read := d.startPlaus p t
    (s.dev.runs p .e2 0x47 t = true → Answers (.kXwExch p t) s fun u =>
      let y := u.dev.port p
      (∃ r, (d.linked p = true → y.flight = x.flight ++ [((d.lane p.lane).tick t, r)]) ∧
        (d.linked p = false → y.flight = x.flight) ∧ r.tag = x.mod.periods % 256 ∧ y.pair.sent.head? = some r) ∧
      y.pair.exchSlot = s.dev.slotOf p + lastSlots t 64 ∧ y.e2.out.pairView = x.pair.state ∧
      y.e2.out.ge = (if x.pair.state = soloOf p.lane then 2 else 1)) ∧
    (s.dev.runs p .e2 0x48 t = true → (read.port p).pair.matched = none →
      exec (.kXwPlaus p t) s = .next (s.upd fun _ => read)) ∧
    (∀ own part, s.dev.runs p .e2 0x48 t = true → (read.port p).pair.matched = some (own, part) →
      (own.portState ≠ 4 ∨ part.portState ≠ 4) → exec (.kXwPlaus p t) s = .next (s.upd fun _ => read)) ∧
    (∀ own part, s.dev.runs p .e2 0x48 t = true → (read.port p).pair.matched = some (own, part) → own.portState = 4 →
      part.portState = 4 → Answers (.kXwPlaus p t) s fun u =>
        let a := if p.lane = .a then own else part
        let b := if p.lane = .a then part else own
        (u.dev.port p).pair.prevFailed =
          failedChecks (read.xwMeasures p a b) (a.unhealthy || b.unhealthy)) ∧
    (∀ r : XwVal, r.unhealthy = true ↔ ∀ k, k < 4 → bitOf r.health (k + 1) = false) ∧
    (∀ n (u : PairUnit), (u.verdictAge = 0 → (u.judged n).verdictAge = 1 ∧ (u.judged n).verdictFrame = n) ∧
      (u.verdictAge ≠ 0 → u.judged n = u))

/-- K_SUPERVISE with a fresh angle cell has the speed flag set at or above its upper speed and cleared below its lower one,
from the slot after the instance's last tick (R132, R472). -/
def Sys2Proof.Says.SuperviseWritesTheSpeedFlag : Prop :=
  ∀ (s : State) (p : PortId) (t : Nat) (i : Instance), s.dev.runs p .e2 0x49 t = true →
    s.dev.placed p .e2 0x49 t = some i →
    let d := s.dev.resumed p
    let r := (d.port p).cells.angle.cur
    (d.port p).cons.ang2.stale r (s.dev.slotOf p) = false →
    let w := absI r.val.speed * 20000000
    let due := s.dev.slotOf p + lastSlots t (40 + 14 * i.formula) + 1
    (d.pnum p 0x20 0xA * 2 ^ 30 ≤ w → Answers (.kSupervise p t) s fun u =>
      (u.dev.port p).unit.speedDue = some (due, true)) ∧
    (w < d.pnum p 0x20 0xA * 2 ^ 30 → w < d.pnum p 0x20 0xB * 2 ^ 30 → Answers (.kSupervise p t) s fun u =>
      (u.dev.port p).unit.speedDue = some (due, false)) ∧
    (w < d.pnum p 0x20 0xA * 2 ^ 30 → d.pnum p 0x20 0xB * 2 ^ 30 ≤ w → Answers (.kSupervise p t) s fun u =>
      (u.dev.port p).unit = (d.port p).unit)

/-- K_SET_OUT outside a start writes the setpoints as they stand into the setpoint cell, and K_STATUS_OUT stores one value for
every bound object; neither changes anything else (R75, R169, R473). -/
def Sys2Proof.Says.SetpointsAndStatusAreWritten : Prop :=
  ∀ (s : State) (p : PortId) (t : Nat),
    let d := s.dev.resumed p
    let x := d.port p
    (s.dev.runs p .e2 0x4A t = true → x.e2.mo.view ≠ .align → x.e2.mo.view ≠ .ramp →
      let n := s.dev.slotOf p + writeSlots t 28
      let v : SpVal := ⟨s14OfQ x.e2.out.idSp, s14OfQ x.e2.out.iqSp, s14OfQ x.e2.out.iLim,
        x.e2.flags (d.torqueMode p)⟩
      exec (.kSetOut p t) s = .next (s.upd fun _ => d.onPort p fun x => { x with
        cells := { x.cells with
          setpoint := x.cells.setpoint.write (n + 1) n (x.e2.cmd.stale || x.cons.ang2.wasStale) v } })) ∧
    (s.dev.runs p .e2 0x4B t = true → Answers (.kStatusOut p t) s fun u =>
      (u.dev.port p).e2.status.length = x.e2.status.length + (s.dev.bindings p 0x4B t).length ∧
      (u.dev.port p).e2.cmd = x.e2.cmd ∧ (u.dev.port p).e2.out = x.e2.out ∧ u.dev.objs = d.objs)

/-- K_STOP_SEQ requests the port state that its rules give: ARMED from OFF on ENABLE after a valid calibration, OFF from ARMED
without ENABLE, START_REFUSED in ARMED with RUN while a kernel of the start is missing, COAST from a driving state without
RUN, with a command of source 11 to the unit, and OFF from TRIPPED once no fault is active and a fresh control word has
ENABLE 0; the port of a failed lane stays OFF while its pair's survivor is not OFF (R104, R170, R171, R175, R246, R472). -/
def Sys2Proof.Says.StopSequenceRequestsPortStates : Prop :=
  ∀ (s : State) (p : PortId) (t : Nat), s.dev.runs p .e2 0x4C t = true →
    let d := s.dev.resumed p
    let x := d.port p
    let due := s.dev.slotOf p + lastSlots t 58
    mapFind 0x4C x.e2.mo.acted ≠ some (d.speedStart p) →
    (d.pstate p = .off → x.e2.cmd.enable = true → x.fe.everValid = true → d.paired p = false →
      Answers (.kStopSeq p t) s fun u =>
        (u.dev.port p).reg.reqE2 = some ⟨due, .armed, false, false⟩ ∧ (u.dev.port p).reg.state = .off) ∧
    (d.pstate p = .off → d.heldOut p = true → Answers (.kStopSeq p t) s fun u =>
      (u.dev.port p).reg.reqE2 = x.reg.reqE2 ∧ (u.dev.port p).reg.state = .off) ∧
    (d.pstate p = .armed → x.e2.cmd.enable = false → Answers (.kStopSeq p t) s fun u =>
      (u.dev.port p).reg.reqE2 = some ⟨due, .off, false, false⟩) ∧
    (d.pstate p = .armed → x.e2.cmd.enable = true → bitOf x.e2.cmd.ctl 1 = true → x.e2.cmd.stale = false →
      d.startPlaced p = false → Answers (.kStopSeq p t) s fun u =>
        (u.dev.port p).e2.mo.startRefused = true ∧ (u.dev.port p).reg.reqE2 = x.reg.reqE2) ∧
    (d.pstate p = .closed → bitOf x.e2.cmd.ctl 1 = false → Answers (.kStopSeq p t) s fun u =>
      (∃ k, (u.dev.port p).reg.reqE2 = some ⟨due, .coast, k, false⟩ ∧
        (lastSlots t 58 = 0 → (⟨11, some false, false, k⟩ : SafeCmd) ∈ (u.dev.port p).unit.arriving) ∧
        (lastSlots t 58 ≠ 0 → (⟨due, ⟨11, some false, false, k⟩, 0, false⟩ : LateCmd) ∈ (u.dev.port p).unit.later)) ∧
      (u.dev.port p).reg.state = .closed) ∧
    (d.pstate p = .tripped → x.faults = [] → x.cons.ang2.rule ≠ .trip → x.e2.cmd.stale = false →
      x.e2.cmd.enable = false → Answers (.kStopSeq p t) s fun u =>
        (u.dev.port p).reg.reqE2 = some ⟨due, .off, false, false⟩)

/-! ### Port states, current sensing, modulation and start-up -/

/-- A request of engine 2 that no request of the safe-state unit precedes takes effect at the start of the next slot if the table
permits the transition, and is otherwise counted and ignored, a request for the state that stands among them; but in STANDBY and
CONFIGURE the port state register refuses every transition out of OFF, and these refusals are not counted. The unit's own request
prevails over both engines' (R170, R171, R183, R275). -/
def Sys2Proof.Says.PortStateRequestsTakeEffectInTheNextSlot : Prop :=
  ∀ (s : State) (p : PortId) (q : StateReq), s.dev.frozen = false →
    let r := (s.dev.port p).reg
    let n := s.dev.slotOf p
    (r.reqUnit = none → r.reqE2 = some q → q.slot < n →
      (r.state ≠ .off ∨ (s.dev.mode ≠ 2 ∧ s.dev.mode ≠ 3)) → e2May r.state q.target = true →
      Answers (.portStateTransition p) s fun u =>
        u.dev.pstate p = q.target ∧ (u.dev.port p).reg.entrySlot = n ∧ (u.dev.port p).reg.reqE2 = none ∧
        ∀ x, x ≠ p → u.dev.port x = s.dev.port x) ∧
    (r.reqUnit = none → r.reqE2 = some q → q.slot < n →
      (r.state ≠ .off ∨ (s.dev.mode ≠ 2 ∧ s.dev.mode ≠ 3)) → e2May r.state q.target = false →
      Answers (.portStateTransition p) s fun u =>
        u.dev.pstate p = r.state ∧ u.dev.pnum p 0xA0 5 = min (s.dev.pnum p 0xA0 5 + 1) 4294967295 ∧
        (u.dev.port p).unit = (s.dev.port p).unit) ∧
    (r.reqUnit = some q → q.slot < n → q.target = .tripped → r.state ≠ .off → r.state ≠ .tripped →
      Answers (.portStateTransition p) s fun u =>
        u.dev.pstate p = .tripped ∧ (u.dev.port p).e2.cmd.rearmed = false) ∧
    (r.reqUnit = some q → q.slot < n → q.target = r.state → r.state = .tripped → Answers (.portStateTransition p) s fun u =>
      u.dev.pstate p = .tripped ∧ u.dev.pnum p 0xA0 5 = min (s.dev.pnum p 0xA0 5 + 1) 4294967295) ∧
    ((s.dev.mode = 2 ∨ s.dev.mode = 3) → r.reqUnit = none → r.reqE2 = some q → q.slot < n → r.state = .off →
      Answers (.portStateTransition p) s fun u =>
        u.dev.pstate p = .off ∧ u.dev.pnum p 0xA0 5 = s.dev.pnum p 0xA0 5)

/-- A count of the comparator that reaches its limit raises FLT_OVERCURRENT, commands the unit with source 1, counts the trip
and starts the counts again; while the unit holds a safe state the trip is counted and changes nothing else; during a
calibration pass the comparator sees nothing (R98, R100, R131, R134). -/
def Sys2Proof.Says.OvercurrentTripsThePort : Prop :=
  ∀ (s : State) (p : PortId) (obs : List OcSample), s.dev.frozen = false →
    let f := (s.dev.port p).fe
    let lim := s.dev.pnat p 0x30 9
    let nx := s.dev.transAhead p
    ((s.dev.lane p.lane).alive = true → f.pass = none → s.dev.safeOut p = 0 → (s.dev.ocRun p nx lim obs f.oc).trips lim = true →
      Answers (.overcurrentTrip p obs) s fun u =>
        u.dev.faulted p .overcurrent = true ∧ u.dev.pnum p 0xB0 4 = 0x0201 ∧
        (u.dev.port p).unit.arriving = (s.dev.port p).unit.arriving ++ [⟨1, none, false, false⟩] ∧
        (u.dev.port p).fe.oc = ⟨⟨0, 0, 0⟩, ⟨0, 0, 0⟩⟩ ∧
        u.dev.pnum p 0x33 7 = min (s.dev.pnum p 0x33 7 + 1) 4294967295) ∧
    ((s.dev.lane p.lane).alive = true → f.pass = none → s.dev.safeOut p ≠ 0 →
      (s.dev.ocRun p nx lim obs f.oc).trips lim = true → Answers (.overcurrentTrip p obs) s fun u =>
        (u.dev.port p).faults = (s.dev.port p).faults ∧ (u.dev.port p).unit = (s.dev.port p).unit ∧
        (u.dev.port p).fe.oc = ⟨⟨0, 0, 0⟩, ⟨0, 0, 0⟩⟩ ∧
        u.dev.pnum p 0x33 7 = min (s.dev.pnum p 0x33 7 + 1) 4294967295) ∧
    ((s.dev.lane p.lane).alive = true → f.pass = none → (s.dev.ocRun p nx lim obs f.oc).trips lim = false →
      Answers (.overcurrentTrip p obs) s fun u => (u.dev.port p).fe.oc = s.dev.ocRun p nx lim obs f.oc ∧
        (u.dev.port p).faults = (s.dev.port p).faults ∧ (u.dev.port p).unit = (s.dev.port p).unit) ∧
    (f.pass.isSome = true → exec (.overcurrentTrip p obs) s = .next s)

/-- The both-poor count at its limit raises FLT_CS_QUALITY with source 7, in the slot of the last tick of the K_IIN instance that
counted last (R96, R131, R472). -/
def Sys2Proof.Says.BothPoorFramesRaiseCsQuality : Prop :=
  ∀ (s : State) (p : PortId), s.dev.frozen = false → s.dev.pnat p 0x30 7 ≤ (s.dev.port p).e0.st.bothPoor →
    let x := s.dev.port p
    let due := x.e0.st.qualSlot
    (due ≤ s.dev.slotOf p → Answers (.bothPoorLimit p) s fun u =>
      u.dev.faulted p .csQuality = true ∧ u.dev.pnum p 0xB0 4 = 0x0202 ∧ (u.dev.port p).e0.st.bothPoor = 0 ∧
      (u.dev.port p).unit.arriving = x.unit.arriving ++ [⟨7, none, false, false⟩]) ∧
    (s.dev.slotOf p < due → Answers (.bothPoorLimit p) s fun u =>
      (u.dev.port p).e0.st.bothPoor = 0 ∧ (u.dev.port p).faults = x.faults ∧
      (u.dev.port p).unit.arriving = x.unit.arriving ∧
      (u.dev.port p).unit.later = x.unit.later ++ [⟨due, ⟨7, none, false, false⟩, FaultId.csQuality.code, false⟩])

/-- Current-sensing calibration: in ARMED a new pass starts the interval after the last; a waiting start event starts a pass;
a pass within its limits publishes its factors, one outside raises FLT_CS_CAL, is counted and leaves the former factors (R100
to R104). -/
def Sys2Proof.Says.CurrentSensingCalibrationPublishesOrFails : Prop :=
  ∀ (s : State) (p : PortId) (c : CalSums), s.dev.frozen = false →
    let f := (s.dev.port p).fe
    let ou := calOffsetOf c.offU
    let ov := calOffsetOf c.offV
    let gu := calGainOf c.posU c.negU
    let gv := calGainOf c.posV c.negV
    (s.dev.pstate p = .armed → s.dev.pnat p 0x30 0xB ≠ 0 → f.pass = none →
      f.lastStart + s.dev.pnat p 0x30 0xB * 2000 ≤ s.dev.slotOf p → Answers (.calibrationInterval p) s fun u =>
        (u.dev.port p).fe.pass = some ⟨s.dev.slotOf p, s.dev.pnat p 0x32 1⟩ ∧ u.dev.pnum p 0x32 1 = 1) ∧
    (f.pass.isSome = true → calOk ou gu = true → calOk ov gv = true → Answers (.csCalibrationEnd p c) s fun u =>
      u.dev.pnum p 0x32 1 = 2 ∧ u.dev.pnum p 0x32 2 = ou ∧ u.dev.pnum p 0x32 3 = ov ∧ u.dev.pnum p 0x32 4 = gu ∧
      u.dev.pnum p 0x32 5 = gv ∧ (u.dev.port p).fe.pass = none ∧ (u.dev.port p).fe.everValid = true ∧
      (u.dev.port p).faults = (s.dev.port p).faults) ∧
    (f.pass.isSome = true → (calOk ou gu = false ∨ calOk ov gv = false) → Answers (.csCalibrationEnd p c) s fun u =>
      u.dev.faulted p .csCal = true ∧ u.dev.pnum p 0x32 2 = s.dev.pnum p 0x32 2 ∧
      u.dev.pnum p 0x32 4 = s.dev.pnum p 0x32 4 ∧ (u.dev.port p).fe.pass = none ∧
      u.dev.pnum p 0x33 6 = min (s.dev.pnum p 0x33 6 + 1) 4294967295 ∧
      (u.dev.port p).unit = (s.dev.port p).unit)

/-- A carrier period that starts writes the current and bus-voltage cells of the period that ends, visible from the next
slot, and begins the new one in this slot; off the port's period grid nothing happens (R45, R93, R136). -/
def Sys2Proof.Says.CarrierPeriodsStartOnTheirGrid : Prop :=
  ∀ (s : State) (p : PortId) (o : PeriodIn),
    let n := s.dev.slotOf p
    let x := s.dev.port p
    (s.dev.carrierDue p = true → x.mod.running = true → Answers (.carrierPeriodStart p o) s fun u =>
      let d := s.dev.driverPeriod p o
      let k := s.dev.frame p
      let next := nextTrans (400 * k) (s.dev.plans p (s.dev.chooseDrive p))
      (u.dev.port p).cells.current = x.cells.current.write (n + 1) n false (d.currentValue p next k o.cur) ∧
      (u.dev.port p).cells.bus = x.cells.bus.write (n + 1) n false (d.busValue p o.bus) ∧
      (u.dev.port p).mod.startSlot = n ∧ (u.dev.port p).mod.periods = x.mod.periods + 1 ∧
      (u.dev.port p).cells.angle = x.cells.angle ∧ (u.dev.port p).cells.duty = x.cells.duty) ∧
    (s.dev.carrierDue p = true → x.mod.running = false → Answers (.carrierPeriodStart p o) s fun u =>
      (u.dev.port p).mod.running = true ∧ (u.dev.port p).mod.startSlot = n ∧ (u.dev.port p).cells = x.cells) ∧
    (s.dev.carrierDue p = false → exec (.carrierPeriodStart p o) s = .next s)

/-- The events of a sensorless start: a phase that is over gives way to the next; an attempt not handed over by the end of its
ramp is followed by the pause, or after the last one by a request for COAST with START_FAILED, in the slot of the last tick of
K_STOP_SEQ; the handover count at its limit requests CLOSED in the slot of the counting instance's last tick (R218, R220, R221,
R223, R472). -/
def Sys2Proof.Says.StartSequenceAdvancesOrFails : Prop :=
  ∀ (s : State) (p : PortId), s.dev.frozen = false →
    let st := (s.dev.port p).e1.start
    let n := s.dev.slotOf p
    (s.dev.phaseOver p = true → st.phase = 1 → s.dev.pnum p 0x80 1 = 0 → s.dev.pstate p = .align →
      Answers (.startPhaseBoundary p) s fun u =>
        (u.dev.port p).e1.start.phase = 2 ∧ (u.dev.port p).e1.start.phaseSlot = n ∧
        (u.dev.port p).e1.start.rampDue = true ∧ (u.dev.port p).reg = (s.dev.port p).reg) ∧
    (s.dev.phaseOver p = true → st.phase = 2 → st.handed = false → st.handCount < s.dev.pnat p 0x80 0xC →
      st.attempt < s.dev.pnat p 0x80 0xD → Answers (.startAttemptFailure p) s fun u =>
        (u.dev.port p).e1.start.phase = 3 ∧ (u.dev.port p).e1.start.failed = st.failed) ∧
    (s.dev.phaseOver p = true → st.phase = 2 → st.handed = false → st.handCount < s.dev.pnat p 0x80 0xC →
      s.dev.pnat p 0x80 0xD ≤ st.attempt → Answers (.startAttemptFailure p) s fun u =>
        let due := max n (s.dev.port p).e2.mo.seqSlot
        let c : SafeCmd := ⟨11, some false, false, false⟩
        (u.dev.port p).e1.start.failed = true ∧ (u.dev.port p).reg.reqE2 = some ⟨due, .coast, false, false⟩ ∧
        (u.dev.port p).e2.mo.view = .coast ∧
        (if due = n then (u.dev.port p).unit.arriving = (s.dev.port p).unit.arriving ++ [c]
          else (u.dev.port p).unit.later = (s.dev.port p).unit.later ++ [⟨due, c, 0, false⟩])) ∧
    (s.dev.pstate p = .ramp → st.handed = false → s.dev.pnat p 0x80 0xC ≤ st.handCount →
      Answers (.handoverReached p) s fun u =>
        (u.dev.port p).reg.reqE1 = some ⟨max n st.handSlot, .closed, false, false⟩ ∧ (u.dev.port p).e1.start.handed = true)

/-- The decisions of the observers: with sixteen frames in each sum the polarity is resolved by the margin, turned by half a
turn where the negative sum is larger and as it stands where the positive one is, or ambiguous; a rotor-loss count at its limit
sets ROTOR_LOST and sends an engine request to the unit, in the slot of the counting instance's last tick; the catch count at its
limit sets CAUGHT (R214, R224 to R226, R472). -/
def Sys2Proof.Says.ObserverDecisionsSetTheirFlags : Prop :=
  ∀ (s : State) (p : PortId), s.dev.frozen = false →
    let e := (s.dev.port p).e1
    let h := e.hfi
    let mg := 1000 + s.dev.pnum p 0x80 0x1A
    (16 ≤ h.cntP → 16 ≤ h.cntN → h.resolved = false → h.ambiguous = false → Answers (.polarityDecision p) s fun u =>
      let g := (u.dev.port p).e1.hfi
      (h.sumP * h.cntN * mg < h.sumN * h.cntP * 1000 → g.resolved = true ∧
        g.pll.theta = wrapAngQ (h.pll.theta + 8192 * 65536)) ∧
      (h.sumN * h.cntP * 1000 ≤ h.sumP * h.cntN * mg → h.sumN * h.cntP * mg < h.sumP * h.cntN * 1000 →
        g.resolved = true ∧ g.pll = h.pll ∧ g.ambiguous = false) ∧
      (h.sumN * h.cntP * 1000 ≤ h.sumP * h.cntN * mg → h.sumP * h.cntN * 1000 ≤ h.sumN * h.cntP * mg →
        g.ambiguous = true ∧ g.resolved = false)) ∧
    (s.dev.pstate p = .closed → e.loss.lost = false → s.dev.pnat p 0x80 0x1C ≤ e.loss.conf → s.dev.paired p = false →
      Answers (.rotorLossDetected p) s fun u =>
        (u.dev.port p).e1.loss.lost = true ∧ (u.dev.port p).e1.loss.cause = e.loss.causes ∧
        (let short := shortsAt e.loss.wL (s.dev.pnum p 0x10 5) (s.dev.pnum p 0x80 0x20) e.latch.vbus (s.dev.pnum p 0x50 1)
        (e.loss.slot ≤ s.dev.slotOf p → (u.dev.port p).unit.arriving =
          (s.dev.port p).unit.arriving ++ [⟨11, some short, false, false⟩]) ∧
        (s.dev.slotOf p < e.loss.slot → (u.dev.port p).unit.arriving = (s.dev.port p).unit.arriving ∧
          (u.dev.port p).unit.later =
            (s.dev.port p).unit.later ++ [⟨e.loss.slot, ⟨11, some short, false, false⟩, 0, true⟩]))) ∧
    (s.dev.pstate p = .armed → e.fly.caught = false → s.dev.pnat p 0x80 0xC ≤ e.fly.count →
      exec (.catchConfirmed p) s = .next (s.upd fun d => d.onPort p fun x => { x with
        e1 := { x.e1 with fly := { x.e1.fly with caught := true } } }))

/-! ### Gate drivers, safe state and choppers -/

/-- Commands that have arrived at a safe-state unit are evaluated together, at any instant of a slot: the unit's output is the one
that the orders choose, coast whenever order 1 applies, none is left waiting, and a fault command asks for TRIPPED unless the port
is OFF; this holds in a freeze too (R131, R133, R135). -/
def Sys2Proof.Says.SafeStateUnitAppliesTheChosenState : Prop :=
  ∀ (s : State) (p : PortId), (s.dev.port p).unit.arriving ≠ [] →
    let cs := (s.dev.port p).unit.arriving
    ∀ step, Answers (.safeStateCommand p step) s fun u =>
      u.dev.safeOut p = s.dev.nextOut p cs ∧ (u.dev.port p).unit.arriving = [] ∧
      (s.dev.order1 p = true → u.dev.safeOut p = 1) ∧
      (s.dev.pstate p ≠ .off → (cs.any fun c => tripsCode c.code) = true →
        ∃ k e, (u.dev.port p).reg.reqUnit = some ⟨s.dev.slotOf p, .tripped, k, e⟩) ∧
      (s.dev.safeOut p = 0 → u.dev.pnum p 0x22 0xA = min (s.dev.pnum p 0x22 0xA + 1) 4294967295) ∧
      (∀ q, q ≠ p → u.dev.port q = s.dev.port q)

/-- ASC ends in coast once the U current has kept its sign for longer than half a period of the release speed, and SHORTED
then goes to COAST, unless TRIPPED has been asked for in the slot; an OFF port without fault or waiting command is released,
but under EXTEST, HIGHZ and CLAMP the unit coasts on (R131, R134, R170, R171, R462). -/
def Sys2Proof.Says.SafeStatesAreReleased : Prop :=
  ∀ (s : State) (p : PortId), s.dev.frozen = false →
    let x := s.dev.port p
    (∀ codes, s.dev.safeOut p = 2 → x.reg.state = .shorted →
      ascQuietLong (ascRun (s.dev.pnum p 0x20 0xC) (s.dev.pnat p 0x20 0xB) codes x.unit).ascQuiet (s.dev.pnat p 0x20 0xB) = true →
      Answers (.ascRelease p codes) s fun u =>
        u.dev.safeOut p = 1 ∧
        ((∀ q, x.reg.reqUnit = some q → q.target ≠ .tripped) →
          (u.dev.port p).reg.reqUnit = some ⟨s.dev.slotOf p, .coast, false, false⟩) ∧
        (∀ q, x.reg.reqUnit = some q → q.target = .tripped → (u.dev.port p).reg.reqUnit = some q)) ∧
    (∀ codes, s.dev.safeOut p ≠ 2 → exec (.ascRelease p codes) s = .next s) ∧
    (x.reg.state = .off → x.faults = [] → x.unit.arriving = [] → s.dev.safeOut p ≠ 0 → s.dev.tap.bscan = true →
      exec (.safeStateReleaseOff p) s = .next s) ∧
    (x.reg.state = .off → x.faults = [] → x.unit.arriving = [] → s.dev.safeOut p ≠ 0 → s.dev.tap.bscan = false →
      Answers (.safeStateReleaseOff p) s fun u =>
        u.dev.safeOut p = 0 ∧ u.dev.pnum p 0x22 2 = 0 ∧ (u.dev.port p).unit.heldOff = [])

/-- The gate-driver protections: each raises its fault and commands the unit with its source, a pulse withheld for its bootstrap
voltage leaving nothing to check; a desaturated gate is held off and, on the low side, inhibits ASC; a phase node is judged at its
check points only, in a freeze too; VGD below 9.0 V is reported as the lane's supply fault, below 7.0 V it lets the lane's units
apply coast only (R126 to R128, R130, R131, R133, R283, R297, R431).
Model's choice: a check placed after a delay is evaluated at any later instant (log entry 41). -/
def Obligations.GateDriverProtectionsTrip : Prop :=
  ∀ (s : State) (p : PortId),
    let x := s.dev.port p
    (s.dev.frozen = false → 2 ≤ x.unit.bootWithheld.v → Answers (.bootUvFault p) s fun u =>
      u.dev.faulted p .gdBootUv = true ∧ (u.dev.port p).unit.bootWithheld = ⟨0, 0, 0⟩ ∧
      (u.dev.port p).unit.arriving = x.unit.arriving ++ [⟨4, none, false, false⟩]) ∧
    (∀ g boot, boot < 7500 → s.dev.safeOut p = 0 → s.dev.gateOn p g (some boot) = false) ∧
    (∀ g vds boot on above, (s.dev.lane p.lane).alive = true → s.dev.gateOn p g boot = true →
      s.dev.desaturated p vds on above = true → Answers (.desaturation p g ⟨vds, boot⟩ on above) s fun u =>
        u.dev.faulted p .gdDesat = true ∧ u.dev.pnum p 0x22 6 = gateNum g ∧
        (u.dev.port p).unit.heldOff = x.unit.heldOff ++ [gateNum g] ∧
        (u.dev.port p).unit.arriving = x.unit.arriving ++ [⟨2, none, false, false⟩] ∧
        (g.high = false → u.dev.pnum p 0x22 3 = 1 ∧ (s.dev.safeOut p = 2 → u.dev.safeOut p = 1))) ∧
    (2 ≤ x.unit.nodeMiss.w → x.unit.nodeHighLow.w = true → Answers (.gdFeedbackFault p) s fun u =>
      u.dev.faulted p .gdFeedback = true ∧ u.dev.pnum p 0x22 3 = 1 ∧ (u.dev.port p).unit.nodeMiss = ⟨0, 0, 0⟩ ∧
      (u.dev.port p).unit.arriving = x.unit.arriving ++ [⟨3, none, false, false⟩]) ∧
    (∀ f high l on boundary boot, (s.dev.lane p.lane).alive = true → s.dev.gateOn p ⟨f, high⟩ boot = true →
      s.dev.checkPoint p on boundary = true → l ≠ (if high then NodeLevel.high else NodeLevel.low) →
      Answers (.phaseNodeCheck p f high ⟨l, on, boundary, boot⟩) s fun u =>
        (u.dev.port p).unit.nodeMiss.get f = x.unit.nodeMiss.get f + 1 ∧
        u.dev.pnum p 0x22 7 = min (s.dev.pnum p 0x22 7 + 1) 4294967295) ∧
    (∀ f high on boundary boot, (s.dev.lane p.lane).alive = true → s.dev.gateOn p ⟨f, high⟩ boot = true →
      s.dev.checkPoint p on boundary = true →
      Answers (.phaseNodeCheck p f high ⟨if high then NodeLevel.high else NodeLevel.low, on, boundary, boot⟩) s fun u =>
        (u.dev.port p).unit.nodeMiss.get f = 0 ∧ u.dev.objs = s.dev.objs) ∧
    (∀ f high l on boot, (on ≠ s.dev.pnat p 0x20 8 → exec (.phaseNodeCheck p f high ⟨l, on, false, boot⟩) s = .next s) ∧
      (on < s.dev.pnat p 0x20 8 → exec (.phaseNodeCheck p f high ⟨l, on, true, boot⟩) s = .next s)) ∧
    (∀ mv held, (s.dev.lane p.lane).alive = true → mv < 9000 → 2000 ≤ held →
      Answers (.gdSupplyFault p.lane mv held) s fun u =>
        u.dev.faulted p .gdSupply = true ∧ u.dev.faulted p.sibling .gdSupply = true ∧
        (s.dev.laneLost p.lane = false → u.dev.num (0x2800 + p.lane.num) 8 = 6) ∧
        (s.dev.pstate p ≠ .off →
          (u.dev.port p).unit.arriving = x.unit.arriving ++ [⟨5, none, false, false⟩]) ∧
        (s.dev.pstate p = .off → (u.dev.port p).unit.arriving = x.unit.arriving)) ∧
    (∀ mv, mv < 7000 → Answers (.vgdBelow7v p.lane mv) s fun u =>
      (u.dev.lane p.lane).vgdLow = true ∧ u.dev.order1 p = true ∧ u.dev.safeOut p ≠ 2)

/-- The brake chopper engages at a member port's OV2, at least 10 µs after its last release, counts the engagement, and is
released once every member lies below its release level (R138, R143). -/
def Sys2Proof.Says.ChopperEngagesAndReleases : Prop :=
  ∀ (s : State), s.dev.frozen = false →
    (∀ p t mv, (s.dev.lane p.lane).alive = true → s.dev.member p = true → s.dev.ov2Mv p ≤ mv →
      s.dev.num (chopIdx p.lane) 0x10 = 0 → (s.dev.lane p.lane).chop.faultAt = none →
      ((s.dev.lane p.lane).chop.gateTick = 0 ∨
        (s.dev.lane p.lane).chop.gateTick + 4000 ≤ (s.dev.lane p.lane).tick t) →
      Answers (.chopperEngage p t mv) s fun u =>
        u.dev.num (chopIdx p.lane) 0x10 = 1 ∧
        u.dev.num (chopIdx p.lane) 0x12 = min (s.dev.num (chopIdx p.lane) 0x12 + 1) 4294967295 ∧
        (u.dev.lane p.lane).chop.gateTick = (s.dev.lane p.lane).tick t ∧ (u.dev.port p).unit.busMv = mv) ∧
    (∀ l t mv1 mv2, (s.dev.lane l).alive = true → s.dev.num (chopIdx l) 0x10 = 1 →
      (s.dev.lane l).chop.gateTick + 4000 ≤ (s.dev.lane l).tick t →
      (∀ p, p.lane = l → s.dev.member p = true →
        ((s.dev.setBusBoth l mv1 mv2).port p).unit.busMv < s.dev.ov2Release p) →
      Answers (.chopperRelease l t mv1 mv2) s fun u =>
        u.dev.num (chopIdx l) 0x10 = 0 ∧ (u.dev.lane l).chop.gateTick = (s.dev.lane l).tick t)

/-- The chopper's checks: above 2.0 V while on it is OPEN, and 50 µs after the engagement a bus above its value then by more
than the margin is INEFFECTIVE; either sets its cause bit and makes FLT_BRK_FAULT active on the lane's ports (R139, R143). -/
def Sys2Proof.Says.ChopperFaultsAreFound : Prop :=
  ∀ (s : State) (l : LaneId) (t : Nat), s.dev.frozen = false → (s.dev.lane l).alive = true →
    s.dev.num (chopIdx l) 0x10 = 1 →
    let c := (s.dev.lane l).chop
    let n := (s.dev.lane l).tick t
    (∀ mv, s.dev.num (chopIdx l) 1 = 1 → c.gateTick ≠ 0 → c.gateTick + s.dev.nat (chopIdx l) 2 * 2 / 5 ≤ n → 2000 < mv →
      Answers (.chopperDrainCheck l t mv) s fun u =>
        u.dev.bit (chopIdx l) 0x11 0 = true ∧ u.dev.chopFault l = true ∧
        ∀ p, p.lane = l → u.dev.faulted p .brkFault = true) ∧
    (∀ mv1 mv2, c.gateTick + 20000 ≤ n →
      c.engagedMv + s.dev.nat (chopIdx l) 3 * 10 < (s.dev.setBusBoth l mv1 mv2).memberMax l →
      Answers (.chopperEffectCheck l t mv1 mv2) s fun u =>
        u.dev.bit (chopIdx l) 0x11 1 = true ∧ u.dev.chopFault l = true ∧
        ∀ p, p.lane = l → u.dev.faulted p .brkFault = true)

/-- Over-voltage without a chopper: a non-member's sample at its OV2 sets its bit and starts the escalation, whose delay with
the sample still there commands ASC under order 4 with source 10; samples below the release level for the delay withdraw the
bit; OV3 raises FLT_BUS_OV3 with source 6, with order 4 while the chopper fault is active (R139 to R141). -/
def Sys2Proof.Says.OverVoltageEscalates : Prop :=
  ∀ (s : State) (p : PortId),
    let x := (s.dev.port p).unit
    let n := fun t => (s.dev.lane p.lane).tick t
    (∀ t mv, s.dev.frozen = false → (s.dev.lane p.lane).alive = true → s.dev.member p = false → s.dev.ov2Mv p ≤ mv →
      x.nonMember = false → Answers (.nonmemberOv2 p t mv) s fun u =>
        (u.dev.port p).unit = { x with busMv := mv, nonMember := true, ov2Below := none, escalateAt := some (n t) }) ∧
    (∀ t mv since, s.dev.frozen = false → x.nonMember = true → x.ov2Below = some since → mv < s.dev.ov2Release p →
      since + s.dev.pnat p 0x20 0x12 * 400 ≤ n t → Answers (.nonmemberOv2Withdraw p t mv) s fun u =>
        (u.dev.port p).unit = { x with busMv := mv, nonMember := false, ov2Below := none, escalateAt := none }) ∧
    (∀ t mv t0, s.dev.frozen = false → x.escalateAt = some t0 → t0 + s.dev.pnat p 0x20 0x12 * 400 ≤ n t →
      s.dev.ov2Mv p ≤ mv → s.dev.pstate p ≠ .off → Answers (.escalationDelay p t mv) s fun u =>
        (u.dev.port p).unit.arriving = x.arriving ++ [⟨10, none, true, false⟩] ∧
        (u.dev.port p).unit.escalateAt = none) ∧
    (∀ mv above, (s.dev.lane p.lane).alive = true → s.dev.pnat p 0x20 0xF * 10 < mv → 200 ≤ above →
      Answers (.busOv3 p mv above) s fun u =>
        u.dev.faulted p .busOv3 = true ∧ u.dev.pnum p 0xB0 4 = 0x0306 ∧
        (u.dev.port p).unit.arriving = x.arriving ++ [⟨6, none, s.dev.chopFault p.lane, false⟩])

/-- In COAST the coast timeout, or the filtered speed below the stop speed for its frames, counts as standstill (R171,
R172). -/
def Sys2Proof.Says.StandstillIsFoundInCoast : Prop :=
  ∀ (s : State) (p : PortId), s.dev.frozen = false → s.dev.pstate p = .coast →
    ((s.dev.port p).reg.entrySlot + s.dev.pnat p 0x60 0xC * 2000 ≤ s.dev.slotOf p →
      exec (.coastTimeout p) s = .next (s.upd fun d => d.onPort p fun x =>
        { x with e2 := { x.e2 with mo := { x.e2.mo with stand := true } } })) ∧
    (s.dev.pnat p 0x60 0xB ≤ (s.dev.port p).e2.mo.stopCount →
      exec (.standstill p) s = .next (s.upd fun d => d.onPort p fun x =>
        { x with e2 := { x.e2 with mo := { x.e2.mo with stand := true } } }))

/-- A change of FAULT_CLEAR from 0 to 1 removes from the port exactly the active faults of class C whose condition has ended;
the others stay (R252, R253). -/
def Sys2Proof.Says.FaultClearRemovesEndedFaults : Prop :=
  ∀ (s : State) (p : PortId) (o : ClearObs), s.dev.frozen = false → (s.dev.lane p.lane).alive = true →
    s.dev.bit (pidx p 0x61) 1 3 = true → (s.dev.port p).e2.cmd.lastClear = false →
    Answers (.faultClear p o) s fun u =>
      (∀ f, f ∈ (u.dev.port p).faults ↔
        f ∈ (s.dev.port p).faults ∧ ¬ (f ∈ classC ∧ s.dev.ended p o f = true)) ∧
      (u.dev.port p).e2.cmd.lastClear = true ∧
      ((u.dev.port p).faults = [] → (s.dev.port p).faults ≠ [] → u.dev.pnum p 0xB0 2 = 0)

/-! ### Feedback interfaces -/

/-- A line takes a level once it has held it for one sample more than its filter asks. A quadrature edge of one filtered channel
counts one step in its direction, stamped with the first sample of its new level; a change of both channels at once counts
nothing, fills the illegal bucket and is counted as illegal; no edge changes nothing (R185, R188, R190). -/
def Sys2Proof.Says.QuadratureEdgesCountOrFillTheBucket : Prop :=
  ∀ (s : State) (p : PortId) (ra rb : LineSample) (cycle : Nat), s.dev.frozen = false →
    (s.dev.lane p.lane).alive = true → (s.dev.fbMode p = 1 ∨ s.dev.fbMode p = 2) →
    let f := (s.dev.port p).fb
    let q := f.quad
    let n := s.dev.pnat p 0x70 2
    let a := if n < ra.held then ra.level else q.prevA
    let b := if n < rb.held then rb.level else q.prevB
    (a ≠ q.prevA → b ≠ q.prevB → Answers (.quadratureEdge p ra rb cycle) s fun u =>
      let g := (u.dev.port p).fb
      g.quad.q = q.q ∧ g.quad.p = q.p ∧ g.quad.bucket = q.bucket + 1 ∧ g.flags.illegalEdge = true ∧
      g.counts.illegal = sat32 (f.counts.illegal + 1) ∧ g.quad.prevA = a ∧ g.quad.prevB = b ∧ g.quad.edge = q.edge) ∧
    ((a = q.prevA ↔ b ≠ q.prevB) → Answers (.quadratureEdge p ra rb cycle) s fun u =>
      let g := (u.dev.port p).fb
      let n := quadSign q.prevA q.prevB a b * (if s.dev.pnum p 0x70 4 = 1 then -1 else 1)
      let first : Int := (s.dev.lane p.lane).clk cycle + 1 - (if a = q.prevA then rb.held else ra.held)
      (g.quad.q, g.quad.p) = countStep (s.dev.cpr p) q.q q.p n ∧
      ((if a = q.prevA then rb.held else ra.held) ≤ 2 ^ 32 → (g.quad.edge : Int) = first % 2 ^ 32) ∧
      g.quad.bucket = q.bucket ∧ g.flags.motion = true ∧ g.counts = f.counts) ∧
    (a = q.prevA → b = q.prevB → exec (.quadratureEdge p ra rb cycle) s = .next s)

/-- The illegal bucket leaks one at every leak period, never below zero; beyond its limit it raises FLT_FB_ILLEGAL and
commands the safe-state unit with source 16, which is not done again while it is active, nor in feedback mode 0 (R131, R190,
R201). -/
def Sys2Proof.Says.IllegalBucketLeaksAndTrips : Prop :=
  ∀ (s : State) (p : PortId), s.dev.frozen = false →
    let q := (s.dev.port p).fb.quad
    ((s.dev.lane p.lane).alive = true → q.leakSlot + s.dev.pnat p 0x70 9 * 2000 ≤ s.dev.slotOf p →
      Answers (.illegalBucketLeak p) s fun u =>
        (u.dev.port p).fb.quad.bucket = q.bucket - 1 ∧ (u.dev.port p).fb.quad.q = q.q) ∧
    (s.dev.fbMode p ≠ 0 → s.dev.pnat p 0x70 8 < q.bucket → s.dev.faulted p .fbIllegal = false →
      Answers (.illegalBucketLimit p) s fun u =>
        u.dev.faulted p .fbIllegal = true ∧ u.dev.pnum p 0xB0 4 = 0x0401 ∧ (u.dev.port p).fb.flags.fault = true ∧
        (u.dev.port p).unit.arriving = (s.dev.port p).unit.arriving ++ [⟨16, none, false, false⟩]) ∧
    (s.dev.fbMode p = 0 → exec (.illegalBucketLimit p) s = .next s) ∧
    (s.dev.faulted p .fbIllegal = true → exec (.illegalBucketLimit p) s = .next s)

/-- A rising edge of the filtered index line is an index event, any other sample none. The first index event shifts both counts so
that the raw count reads the configured value, and references them; a later one is a match, which clears the run of mismatches, or
a mismatch, which is counted; the third in a row raises FLT_FB_INDEX and commands the safe-state unit with source 16; a preset
sets both counts and the reference (R131, R185, R191, R192, R201). -/
def Sys2Proof.Says.IndexAndPresetReferenceTheCount : Prop :=
  ∀ (s : State) (p : PortId) (z : LineSample), s.dev.frozen = false →
    let f := (s.dev.port p).fb
    let c := s.dev.cpr p
    let diff : Int := s.dev.pnum p 0x70 6 - f.quad.q
    let rises := f.quad.z = false ∧ z.level = true ∧ s.dev.pnat p 0x70 3 < z.held
    (¬ rises → (s.dev.lane p.lane).alive = true → s.dev.fbMode p = 1 → Answers (.indexEvent ⟨p, z⟩) s fun u =>
      (u.dev.port p).fb = { f with quad := { f.quad with
        z := if s.dev.pnat p 0x70 3 < z.held then z.level else f.quad.z } }) ∧
    (rises → (s.dev.lane p.lane).alive = true → s.dev.fbMode p = 1 → f.flags.referenced = false → 0 < c →
      Answers (.indexEvent ⟨p, z⟩) s fun u =>
        (u.dev.port p).fb.flags.referenced = true ∧
        ((u.dev.port p).fb.quad.q : Int) = s.dev.pnum p 0x70 6 % c ∧
        (u.dev.port p).fb.quad.p = shiftBy c f.quad.p diff) ∧
    (rises → (s.dev.lane p.lane).alive = true → s.dev.fbMode p = 1 → f.flags.referenced = true → diff = 0 →
      Answers (.indexEvent ⟨p, z⟩) s fun u =>
        (u.dev.port p).fb.quad.missRun = 0 ∧ (u.dev.port p).fb.flags.mismatch = false ∧
        (u.dev.port p).fb.quad.q = f.quad.q) ∧
    (rises → (s.dev.lane p.lane).alive = true → s.dev.fbMode p = 1 → f.flags.referenced = true → diff ≠ 0 →
      Answers (.indexEvent ⟨p, z⟩) s fun u =>
        (u.dev.port p).fb.quad.missRun = f.quad.missRun + 1 ∧ (u.dev.port p).fb.flags.mismatch = true ∧
        (u.dev.port p).fb.counts.lastDiff = reduceHalf c diff ∧
        (u.dev.port p).fb.quad.q = (if s.dev.pnum p 0x70 7 = 1 then shiftBy c f.quad.q diff else f.quad.q) ∧
        (u.dev.port p).fb.counts.mismatches = sat32 (f.counts.mismatches + 1)) ∧
    (s.dev.fbMode p = 1 → 3 ≤ f.quad.missRun → Answers (.indexMismatchLimit p) s fun u =>
      u.dev.faulted p .fbIndex = true ∧ (u.dev.port p).fb.quad.missRun = 0 ∧ (u.dev.port p).fb.flags.fault = true ∧
      (u.dev.port p).unit.arriving = (s.dev.port p).unit.arriving ++ [⟨16, none, false, false⟩]) ∧
    (s.dev.fbMode p = 0 → exec (.indexMismatchLimit p) s = .next s) ∧
    (∀ v session origin rest, s.dev.published = ⟨objKey (pidx p 0x72) 0, .num v, session, origin⟩ :: rest →
      Answers (.presetCount p) s fun u =>
        (u.dev.port p).fb.quad.q = v.toNat ∧ (u.dev.port p).fb.quad.p = v.toNat ∧
        (u.dev.port p).fb.flags.referenced = true ∧ u.dev.published = rest)

/-- Hall states, of the three filtered lines: 0 and 7 are invalid from the instant they appear, and raise FLT_FB_HALL, with the
safe-state command of source 16, when the latch shows no valid state in time; a neighbouring state is an edge at the midpoint of
the two centres; another is a skip to its own centre, counted and put into the illegal bucket; the return of the last valid state
is neither, and the first valid state of all is taken at its centre. Every change is stamped (R51, R131, R185, R186, R190, R193,
R201). -/
def Sys2Proof.Says.HallStatesAreEdgesSkipsOrInvalid : Prop :=
  ∀ (s : State) (p : PortId) (r1 r2 r3 : LineSample) (cycle : Nat), s.dev.frozen = false →
    (s.dev.lane p.lane).alive = true → s.dev.fbMode p = 3 →
    let x := (s.dev.port p).fb.hall
    let line := fun (n k : Nat) (r : LineSample) => if n < r.held then r.level else bitOf x.h k
    let h := bitsToNat [line (s.dev.pnat p 0x70 2) 0 r1, line (s.dev.pnat p 0x70 2) 1 r2, line (s.dev.pnat p 0x70 3) 2 r3]
    let now := (s.dev.lane p.lane).stamp cycle (hallHeld x.h h r1 r2 r3)
    let df := (s.dev.hallPos p h + 6 - s.dev.hallPos p x.last) % 6
    ((h = 0 ∨ h = 7) → h ≠ x.h → Answers (.hallStateChange p ⟨r1, r2, r3⟩ cycle) s fun u =>
      let g := (u.dev.port p).fb
      g.hall.h = h ∧ g.hall.invalidAt = some (x.invalidAt.getD now) ∧ g.flags.hallInvalid = true ∧
      g.hall.last = x.last ∧ g.hall.angle = x.angle ∧ g.hall.stamp = now ∧ g.hall.edgeAt = x.edgeAt) ∧
    (1 ≤ h → h ≤ 6 → h ≠ x.h → x.last ≠ 0 → (df = 1 ∨ df = 5) → Answers (.hallStateChange p ⟨r1, r2, r3⟩ cycle) s fun u =>
      let g := (u.dev.port p).fb
      g.hall.h = h ∧ g.hall.last = h ∧ g.hall.stamp = now ∧ g.hall.edgeAt = now ∧
      g.hall.angle = edgeAngle (s.dev.hallCentre p x.last) (s.dev.hallCentre p h) ∧
      g.hall.dir = (if df = 1 then 1 else -1) ∧ (x.dir ≠ 0 → (g.hall.prev : Int) = ((now : Int) - x.edgeAt) % 2 ^ 32) ∧
      g.flags.hallInvalid = false ∧ g.flags.hallSkip = false) ∧
    (1 ≤ h → h ≤ 6 → h ≠ x.h → x.last ≠ 0 → 2 ≤ df → df ≤ 4 → Answers (.hallStateChange p ⟨r1, r2, r3⟩ cycle) s fun u =>
      let g := (u.dev.port p).fb
      g.hall.angle = s.dev.hallCentre p h ∧ g.flags.hallSkip = true ∧ g.hall.stamp = now ∧
      g.quad.bucket = (s.dev.port p).fb.quad.bucket + 1 ∧
      g.counts.skips = sat32 ((s.dev.port p).fb.counts.skips + 1)) ∧
    (1 ≤ h → h ≤ 6 → h ≠ x.h → x.last ≠ 0 → df = 0 → Answers (.hallStateChange p ⟨r1, r2, r3⟩ cycle) s fun u =>
      let g := (u.dev.port p).fb
      g.hall.h = h ∧ g.hall.invalidAt = none ∧ g.flags.hallInvalid = false ∧ g.hall.angle = x.angle ∧
      g.hall.stamp = now ∧ g.hall.edgeAt = x.edgeAt ∧ g.counts = (s.dev.port p).fb.counts) ∧
    (1 ≤ h → h ≤ 6 → h ≠ x.h → x.last = 0 → Answers (.hallStateChange p ⟨r1, r2, r3⟩ cycle) s fun u =>
      let g := (u.dev.port p).fb
      g.hall.last = h ∧ g.hall.angle = s.dev.hallCentre p h ∧ g.hall.stamp = now ∧ g.flags.hallInvalid = false) ∧
    (h = x.h → exec (.hallStateChange p ⟨r1, r2, r3⟩ cycle) s = .next s) ∧
    (let l := (s.dev.port p).fb.latch
    (∀ t0, l.hall.invalidAt = some t0 → x.invalidAt = some t0 → s.dev.pnum p 0x70 0xE * 100 ≤ ((l.clk : Int) - t0) % 2 ^ 32 →
      Answers (.hallInvalidTimeout p) s fun u =>
        u.dev.faulted p .fbHall = true ∧ (u.dev.port p).fb.hall.invalidAt = none ∧ (u.dev.port p).fb.flags.fault = true ∧
        (u.dev.port p).unit.arriving = (s.dev.port p).unit.arriving ++ [⟨16, none, false, false⟩]) ∧
    (∀ t0, l.hall.invalidAt = some t0 → ((l.clk : Int) - t0) % 2 ^ 32 < s.dev.pnum p 0x70 0xE * 100 →
      exec (.hallInvalidTimeout p) s = .next s) ∧
    (l.hall.invalidAt = none → exec (.hallInvalidTimeout p) s = .next s))

/-- Without an edge for longer than the zero-speed timeout, as the latch holds it, and none since, MOTION is cleared, and on a
quadrature or Hall port the speed of engine 1's feedback path is zero; a SENT port keeps its speed. An edge after the latch keeps
the timeout from acting (R51, R194, R200, R204). -/
def Sys2Proof.Says.ZeroSpeedTimeoutClearsTheSpeed : Prop :=
  ∀ (s : State) (p : PortId), s.dev.frozen = false → (s.dev.lane p.lane).alive = true → s.dev.fbMode p ≠ 0 →
    let f := (s.dev.port p).fb
    let m := s.dev.fbMode p
    let t := f.latch.lastEvent m
    (f.lastEvent m ≠ t → exec (.zeroSpeedTimeout p) s = .next s) ∧
    ((s.dev.zeroCycles p : Int) < ((f.latch.clk : Int) - t) % 2 ^ 32 → f.lastEvent m = t →
    Answers (.zeroSpeedTimeout p) s fun u =>
      (s.dev.fbMode p ≠ 4 → (u.dev.port p).e1.fb.w = 0 ∧ (u.dev.port p).e1.fb.wf = 0 ∧ (u.dev.port p).e1.fb.zero = true) ∧
      (s.dev.fbMode p = 4 → (u.dev.port p).e1 = (s.dev.port p).e1) ∧
      (u.dev.port p).fb.flags.motion = false ∧ u.dev.objs = s.dev.objs)

/-- A SENT frame that its filter passes and that has no cause of rejection is accepted: its value is the first three data
nibbles, most significant first; any other is counted as rejected with its cause and changes no value; without an accepted
frame for the timeout FLT_FB_SENT is raised and the safe-state unit commanded with source 16 (R131, R185, R195 to R198, R201). -/
def Sys2Proof.Says.SentFramesAreAcceptedOrRejected : Prop :=
  ∀ (s : State) (p : PortId) (x : SentFrame), s.dev.frozen = false → (s.dev.lane p.lane).alive = true →
    s.dev.fbMode p = 4 →
    let f := (s.dev.port p).fb
    (s.dev.pnat p 0x70 3 < x.low → s.dev.sentCause p x = 0 → Answers (.sentFrameReceived p x) s fun u =>
      let g := (u.dev.port p).fb
      let ns := sentValues x
      g.sent.v1 = ns.getD 1 0 * 256 + ns.getD 2 0 * 16 + ns.getD 3 0 ∧ g.sent.status = ns.getD 0 0 ∧
      g.sent.trx = (s.dev.lane p.lane).stamp x.cycle x.low ∧ g.sent.prevCal = some x.cal ∧
      g.counts.accepted = sat32 (f.counts.accepted + 1) ∧ g.flags.sentStale = false) ∧
    (s.dev.pnat p 0x70 3 < x.low → s.dev.sentCause p x ≠ 0 → Answers (.sentFrameReceived p x) s fun u =>
      let g := (u.dev.port p).fb
      g.sent.v1 = f.sent.v1 ∧ g.sent.v2 = f.sent.v2 ∧ g.sent.trx = f.sent.trx ∧
      g.counts.rejected = sat32 (f.counts.rejected + 1) ∧ g.counts.lastRej = s.dev.sentCause p x) ∧
    (x.low ≤ s.dev.pnat p 0x70 3 → exec (.sentFrameReceived p x) s = .next s) ∧
    (f.flags.sentStale = false →
      s.dev.pnum p 0x70 0x12 * 100 < (((s.dev.lane p.lane).clk 0 : Int) -
        (if f.latch.sent.got then f.latch.sent.trx else f.sentArm)) % 2 ^ 32 →
      Answers (.sentTimeout p) s fun u =>
        u.dev.faulted p .fbSent = true ∧ (u.dev.port p).fb.flags.sentStale = true ∧ (u.dev.port p).fb.flags.fault = true ∧
        (u.dev.port p).unit.arriving = (s.dev.port p).unit.arriving ++ [⟨16, none, false, false⟩])

/-! ### Pairs and lanes -/

/-- The partner's asserted line is latched once; a SHARED register then asks for SOLO of the receiving lane, or for LOST where
the receiving port is itself TRIPPED or SHORTED; a register in the partner's SOLO state asks for LOST (R240, R241, R246). -/
def Sys2Proof.Says.FaultLineLeavesASurvivor : Prop :=
  ∀ (s : State) (p : PortId), s.dev.frozen = false →
    let v := (s.dev.port p).pair
    ((s.dev.lane p.lane).alive = true → s.dev.paired p = true → s.dev.partnerAsserts p = true → v.partnerLine = false →
      v.lineIgnored = false → v.state = 0 → Answers (.faultLineReceived p) s fun u =>
        let w := (u.dev.port p).pair
        let bad := s.dev.pstate p = .tripped ∨ s.dev.pstate p = .shorted ∨ v.ownLine = true
        w.partnerLine = true ∧
        (bad → w.writes = v.writes ++ [⟨s.dev.slotOf p, 0, 3, false, false⟩]) ∧
        (¬ bad → w.writes = v.writes ++ [⟨s.dev.slotOf p, 0, soloOf p.lane, false, false⟩]) ∧
        w.ownLine = v.ownLine) ∧
    ((s.dev.lane p.lane).alive = true → s.dev.paired p = true → s.dev.partnerAsserts p = true → v.partnerLine = false →
      v.lineIgnored = false → v.state = soloOf p.partner.lane → Answers (.faultLineReceived p) s fun u =>
        (u.dev.port p).pair.partnerLine = true ∧
        (u.dev.port p).pair.writes = v.writes ++ [⟨s.dev.slotOf p, 0, 3, false, false⟩]) ∧
    (v.partnerLine = true → exec (.faultLineReceived p) s = .next s)

/-- A write of the pair register takes effect in the slot after it: from SHARED into SOLO of the own lane it starts the overload
timer and is counted; a state from which it may not be entered is kept (R241, R246, R247). -/
def Sys2Proof.Says.PairRegisterFollowsItsWrites : Prop :=
  ∀ (s : State) (p : PortId) (w : PairWrite), s.dev.frozen = false →
    let v := (s.dev.port p).pair
    v.writes = [w] → w.slot < s.dev.slotOf p →
    (pairMay v.state w = true → Answers (.pairStateTransition p) s fun u =>
      (u.dev.port p).pair.state = w.state ∧ (u.dev.port p).pair.writes = [] ∧
      (w.state = soloOf p.lane → (u.dev.port p).pair.overloadSlot = some (s.dev.slotOf p) ∧
        u.dev.num (pairIdx p.pair) 0x12 = min (s.dev.num (pairIdx p.pair) 0x12 + 1) 4294967295) ∧
      (w.state = 3 → w.rearm = false → (u.dev.port p).pair.ownLine = true) ∧
      (∀ q, q ≠ p → u.dev.port q = s.dev.port q)) ∧
    (pairMay v.state w = false → Answers (.pairStateTransition p) s fun u =>
      (u.dev.port p).pair.state = v.state ∧ (u.dev.port p).pair.writes = []) ∧
    (v.state = 3 → w.state ≠ 0 → pairMay v.state w = false)

/-- A partner that drives with its line asserted, a blamed partner that drives on, and the end of the overload time: the line is
ignored under FLT_XW_LINE, the pair is lost with a command of source 13, both where K_XW_EXCH's and K_XW_PLAUS's latest
instance completes them, and the release ramp starts (R241, R244, R247, R472). -/
def Sys2Proof.Says.PairSupervisionActs : Prop :=
  ∀ (s : State) (p : PortId), s.dev.frozen = false →
    let v := (s.dev.port p).pair
    let n := s.dev.slotOf p
    (s.dev.paired p = true → v.partnerLine = true → v.lineIgnored = false → 2 ≤ v.lineDriving →
      Answers (.xwLineFault p) s fun u =>
        u.dev.faulted p .xwLine = true ∧ (u.dev.port p).pair.lineIgnored = true ∧
        (u.dev.port p).pair.writes = v.writes ++ [⟨max n v.exchSlot, 2, 0, true, false⟩]) ∧
    (s.dev.paired p = true → 3 ≤ v.verdictAge → v.stale = false → v.record.driving = true →
      Answers (.blamedPartnerDriving p) s fun u =>
        (u.dev.port p).pair.writes = v.writes ++ [⟨max n v.plausSlot, 1, 3, false, false⟩] ∧
        (if v.plausCmd ≤ n then (u.dev.port p).unit.arriving = (s.dev.port p).unit.arriving ++ [⟨13, none, false, false⟩]
          else (u.dev.port p).unit.later = (s.dev.port p).unit.later ++ [⟨v.plausCmd, ⟨13, none, false, false⟩, 0, false⟩])) ∧
    (∀ s0, v.overloadSlot = some s0 → v.overloadOver = none → s0 + s.dev.nat (pairIdx p.pair) 4 * 2000 ≤ n →
      Answers (.overloadTimeExpiry p) s fun u =>
        (u.dev.port p).pair.overloadOver = some (s0 + s.dev.nat (pairIdx p.pair) 4 * 2000) ∧
        (u.dev.port p).pair.state = v.state)

/-- A lane that finds its partner's line asserted, and not ignored, and the records stale for two frames treats the other lane as
lost, with that lane's general converters stopped for good, an event of R251, upon which RUN becomes DEGRADED; without such an
event DEGRADED is not entered (R241, R250, R251, R266, R276). -/
def Sys2Proof.Says.LostPartnerLaneLeadsToDegraded : Prop :=
  ∀ (s : State) (l : LaneId), s.dev.frozen = false →
    (∀ p, p.lane = l → (s.dev.lane l).alive = true → (s.dev.lane l).otherLost = false → s.dev.paired p = true →
      (s.dev.port p).pair.partnerLine = true → (s.dev.port p).pair.lineIgnored = false →
      2 ≤ (s.dev.port p).pair.staleFrames →
      Answers (.partnerLaneLost l) s fun u =>
        (u.dev.lane l).otherLost = true ∧ u.dev.laneLost l.other = true ∧ u.dev.degradeDue = true ∧
        (∀ g : GcId, g.lane = l.other → (u.dev.gcs.get g).job = none ∧ u.dev.gcRuns g = false) ∧
        u.dev.ports = s.dev.ports) ∧
    ((∀ p, p.lane = l → (s.dev.port p).pair.lineIgnored = true) → exec (.partnerLaneLost l) s = .next s) ∧
    (s.dev.degradeDue = true → s.dev.mode = 4 → Answers .degradedEntry s fun u =>
      u.dev.mode = 5 ∧ u.dev.ports = s.dev.ports ∧ u.dev.lanes = s.dev.lanes) ∧
    (s.dev.degradeDue = false → exec .degradedEntry s = .next s)

/-! ### General converters -/

/-- A conversion whose end has passed leaves one record for the next slot, with the instant of its sample, the code and OVR, and
gives way to the next conversion; without one in progress, and with the converter's lane lost, nothing happens. The code of an
input within the span is its share of the span at the word's gain, and an input outside gives the end of the span with OVR (R257
to R263, R266, R267). -/
def Sys2Proof.Says.ConversionsLeaveARecord : Prop :=
  ∀ (s : State) (g : GcId) (x : GcSample), s.dev.frozen = false →
    let c := s.dev.gcs.get g
    (c.job = none → exec (.gcConversionComplete g x) s = .next s) ∧
    (s.dev.laneLost g.lane = true → exec (.gcConversionComplete g x) s = .next s) ∧
    (∀ j, c.job = some j → s.dev.gcRuns g = true →
      (j.start + gcSampleCycles j.word + gcPhase (s.dev.gcMode g)) / 50 ≤ (s.dev.lane g.lane).slots →
      Answers (.gcConversionComplete g x) s fun u =>
        (∃ r, (u.dev.gcs.get g).results = c.results ++ [((match j.entry with
          | some e => e + 1
          | none => 0x11), r)] ∧
          r % 65536 = s.dev.gcCode g j.word x ∧ r / 2 ^ 32 = (j.start + gcSampleCycles j.word) / 50 % 2 ^ 32 ∧
          bitOf r 25 = (gcBeyond j.word x.level).isSome) ∧ u.dev.ports = s.dev.ports) ∧
    (∀ w, (240000000 < gcScaled w x.level → s.dev.gcCode g w x = 16383 ∧ (gcBeyond w x.level).isSome = true) ∧
      (gcScaled w x.level < 0 → s.dev.gcCode g w x = 0 ∧ (gcBeyond w x.level).isSome = true) ∧
      (0 ≤ gcScaled w x.level → gcScaled w x.level ≤ 240000000 → x.err = 0 → s.dev.num (gcIdx g 5) (2 + gcGain w) = 0 →
        s.dev.num (gcIdx g 5) (5 + gcGain w) = 32768 →
        (s.dev.gcCode g w x : Int) = min 16383 (gcScaled w x.level * 16384 / 240000000) ∧
        (gcBeyond w x.level).isSome = false))

/-- A restart request, behind an injected request or a calibration of the same boundary, waits for the pass's end and a second
one is counted as an overrun; taking effect, the requested configuration becomes the active one; an injected request waits for
the conversion in progress; each is consumed (R264, R268, R270). -/
def Sys2Proof.Says.ConverterRequestsAreTaken : Prop :=
  ∀ (s : State) (g : GcId) (v : ObjVal) (session origin : Nat) (rest : List Published), s.dev.frozen = false →
    let c := s.dev.gcs.get g
    let alone := s.dev.pubOf (gcIdx g 2) 2 = none ∧ s.dev.pubOf (gcIdx g 2) 3 = none
    (s.dev.pubOf (gcIdx g 2) 2 ≠ none ∨ s.dev.pubOf (gcIdx g 2) 3 ≠ none → exec (.restartSequence g) s = .next s) ∧
    (s.dev.published = ⟨objKey (gcIdx g 2) 1, v, session, origin⟩ :: rest → alone → s.dev.bit (gcIdx g 3) 3 1 = true →
      Answers (.restartSequence g) s fun u =>
        u.dev.num (gcIdx g 3) 5 = min (s.dev.num (gcIdx g 3) 5 + 1) 4294967295 ∧ u.dev.published = rest ∧
        u.dev.gcs = s.dev.gcs) ∧
    (s.dev.published = ⟨objKey (gcIdx g 2) 1, v, session, origin⟩ :: rest → alone → s.dev.bit (gcIdx g 3) 3 1 = false →
      s.dev.gcMode g ≠ 0 → Answers (.restartSequence g) s fun u =>
        u.dev.bit (gcIdx g 3) 3 1 = true ∧ u.dev.published = rest ∧ u.dev.gcs = s.dev.gcs) ∧
    (∀ clk, c.passEnd = some clk → s.dev.gcRuns g = true → s.dev.bit (gcIdx g 3) 3 1 = true →
      Answers (.gcRestartTakesEffect g) s fun u =>
        u.dev.num (gcIdx g 3) 1 = s.dev.num (gcIdx g 0) 1 ∧ u.dev.nat (gcIdx g 3) 2 = s.dev.nat (gcIdx g 0) 2 ∧
        u.dev.bit (gcIdx g 3) 3 1 = false ∧ (u.dev.gcs.get g).passEnd = none) ∧
    (∀ j, s.dev.published = ⟨objKey (gcIdx g 2) 2, v, session, origin⟩ :: rest →
      s.dev.gcInjects g v.toInt.toNat = true → c.cal = none → c.calReq = false → c.job = some j → Answers (.injectedRequest g) s fun u =>
        (u.dev.gcs.get g).inject = some ⟨v.toInt.toNat, false⟩ ∧ (u.dev.gcs.get g).job = some j ∧
        u.dev.bit (gcIdx g 3) 3 2 = true ∧ u.dev.published = rest) ∧
    (s.dev.published = ⟨objKey (gcIdx g 2) 2, v, session, origin⟩ :: rest → s.dev.bit (gcIdx g 3) 3 2 = true →
      exec (.injectedRequest g) s = .next (s.upd fun d => { d with published := rest }))

/-- A calibration pass of a converter starts once nothing converts; at its end factors within their limits are published, and
others leave the former ones and are counted (R269 to R271). -/
def Sys2Proof.Says.ConverterCalibrationPublishesOrFails : Prop :=
  ∀ (s : State) (g : GcId), s.dev.frozen = false → s.dev.gcRuns g = true →
    let c := s.dev.gcs.get g
    let now := (s.dev.lane g.lane).clk 0
    (∀ v session origin rest, s.dev.published = ⟨objKey (gcIdx g 2) 3, v, session, origin⟩ :: rest →
      s.dev.pubOf (gcIdx g 2) 2 = none → c.cal = none →
      c.calReq = false → c.job = none → c.inject = none → Answers (.gcStartCalibration g) s fun u =>
        (u.dev.gcs.get g).cal = some now ∧ u.dev.num (gcIdx g 5) 1 = 1 ∧ u.dev.bit (gcIdx g 3) 3 4 = true) ∧
    (∀ t0 q, c.cal = some t0 → t0 + 104160 ≤ now →
      let good := gcFactorsOk (gcOffsetOf q.low1) (gcFactorOf q.low1 q.high1) && gcFactorsOk (gcOffsetOf q.low2)
        (gcFactorOf q.low2 q.high2) && gcFactorsOk (gcOffsetOf q.low4) (gcFactorOf q.low4 q.high4)
      (good = true → Answers (.gcCalibrationEnd g q) s fun u =>
        u.dev.num (gcIdx g 5) 1 = 2 ∧ u.dev.num (gcIdx g 5) 2 = gcOffsetOf q.low1 ∧
        u.dev.num (gcIdx g 5) 5 = gcFactorOf q.low1 q.high1 ∧ (u.dev.gcs.get g).everValid = true ∧
        (u.dev.gcs.get g).cal = none) ∧
      (good = false → Answers (.gcCalibrationEnd g q) s fun u =>
        u.dev.num (gcIdx g 5) 2 = s.dev.num (gcIdx g 5) 2 ∧ u.dev.num (gcIdx g 5) 5 = s.dev.num (gcIdx g 5) 5 ∧
        u.dev.num (gcIdx g 3) 8 = min (s.dev.num (gcIdx g 3) 8 + 1) 4294967295))

/-! ### Modes, resets, supplies and temperatures -/

/-- The changes of mode that a published request brings about in the slots it may: SLEEP and STORAGE take the power of both lanes
away and discard the timed actions, CONFIGURE is entered, and STANDBY from RUN, an ARMED port passing to OFF, as from CONFIGURE
unless an image is being verified; RUN is entered, or DEGRADED after an event of R251; the request is consumed (R276, R278, R281).
-/
def Sys2Proof.Says.ModeRequestsChangeTheMode : Prop :=
  ∀ (s : State) (session origin : Nat) (rest : List Published), s.dev.frozen = false → s.dev.powered = true →
    s.dev.boot.modeSlot ≠ some s.dev.slotNow →
    let pub := fun (i : Nat) (v : Int) => (⟨objKey i 0, .num v, session, origin⟩ : Published) :: rest
    (s.dev.published = pub 0x2001 1 → s.dev.mode = 2 → Answers .modeRequestSleep s fun u =>
      u.dev.boot.phase = .goingDown ∧ u.dev.boot.target = 1 ∧ (∀ l, (u.dev.lane l).alive = false) ∧
      u.dev.published = rest ∧ u.dev.num 0x2132 0 = 0 ∧ u.dev.flash = s.dev.flash ∧ u.dev.fuses = s.dev.fuses) ∧
    (s.dev.published = pub 0x2003 0 → s.dev.mode = 2 → Answers .privilegedRequestStorage s fun u =>
      u.dev.boot.phase = .goingDown ∧ u.dev.boot.target = 0 ∧ (∀ l, (u.dev.lane l).alive = false) ∧
      u.dev.published = rest ∧ u.dev.flash = s.dev.flash ∧ u.dev.fuses = s.dev.fuses) ∧
    (s.dev.published = pub 0x2003 3 → s.dev.mode = 2 → Answers .privilegedRequestConfigure s fun u =>
      u.dev.mode = 3 ∧ u.dev.published = rest ∧ u.dev.ports = s.dev.ports ∧ u.dev.lanes = s.dev.lanes) ∧
    (s.dev.published = pub 0x2001 2 → s.dev.mode = 4 → s.dev.anyMoving = false → Answers .modeRequestStandby s fun u =>
      u.dev.mode = 2 ∧ u.dev.published = rest ∧
      (∀ p, s.dev.pstate p = .armed → u.dev.pstate p = .off) ∧
      (∀ p, s.dev.pstate p ≠ .armed → u.dev.pstate p = s.dev.pstate p)) ∧
    (s.dev.published = pub 0x2001 2 → s.dev.mode = 3 → s.dev.nat 0x2620 1 ≠ 2 → Answers .modeRequestStandby s fun u =>
      u.dev.mode = 2 ∧ u.dev.published = rest ∧ u.dev.ports = s.dev.ports ∧ u.dev.image = s.dev.image) ∧
    (s.dev.published = pub 0x2001 4 → s.dev.mode = 2 → s.dev.image.isSome = true → s.dev.bit 0x2000 2 2 = false →
      s.dev.bit 0x2000 2 6 = false → Answers .modeRequestRun s fun u =>
        u.dev.mode = (if s.dev.degradeDue then 5 else 4) ∧ u.dev.boot.everRun = true ∧ u.dev.published = rest ∧
        u.dev.ports = s.dev.ports)

/-- What is not provided does not change the mode: a request for RUN, STANDBY, SLEEP, CONFIGURE or STORAGE from another mode than
the table gives it, and one for STANDBY while an image is being verified, is dropped without any other effect; a second one in a
slot waits, and so does one before which another mode request was published (R276 to R278). -/
def Sys2Proof.Says.ModeRequestsOfAnotherModeAreDropped : Prop :=
  ∀ (s : State) (session origin : Nat) (rest : List Published), s.dev.frozen = false → s.dev.powered = true →
    let pub := fun (i : Nat) (v : Int) => (⟨objKey i 0, .num v, session, origin⟩ : Published) :: rest
    let ends := fun (c : Instr) (i : Nat) (v : Int) (from' : List Nat) => s.dev.published = pub i v →
      (s.dev.boot.modeSlot ≠ some s.dev.slotNow → s.dev.mode ∉ from' →
        exec c s = .next (s.upd fun d => { d with published := rest })) ∧
      (s.dev.boot.modeSlot = some s.dev.slotNow → exec c s = .next s)
    ends .modeRequestRun 0x2001 4 [2] ∧ ends .modeRequestStandby 0x2001 2 [3, 4] ∧ ends .modeRequestSleep 0x2001 1 [2] ∧
    ends .privilegedRequestConfigure 0x2003 3 [2] ∧ ends .privilegedRequestStorage 0x2003 0 [2] ∧
    (s.dev.published = pub 0x2001 2 → s.dev.boot.modeSlot ≠ some s.dev.slotNow → s.dev.mode = 3 → s.dev.nat 0x2620 1 = 2 →
      exec .modeRequestStandby s = .next (s.upd fun d => { d with published := rest })) ∧
    ((∃ v, s.dev.published = pub 0x2003 v) → exec .modeRequestRun s = .next s ∧ exec .modeRequestStandby s = .next s ∧
      exec .modeRequestSleep s = .next s) ∧
    ((∃ v, s.dev.published = pub 0x2001 v) → exec .privilegedRequestConfigure s = .next s ∧
      exec .privilegedRequestStorage s = .next s)

/-- SLEEP or STORAGE, once its entry is complete, has nothing of the state but the flash, the fuses and the island with its wake
settings; a wake source latched on the way leads straight on into a reset with cause 4 or 5 (R281, R282). -/
def Sys2Proof.Says.LowPowerKeepsFlashAndIsland : Prop :=
  ∀ (s : State), s.dev.frozen = false → s.dev.boot.phase = .goingDown →
    let b := s.dev.boot
    (b.island.latched = 0 → Answers .lowPowerEntry s fun u =>
      u.dev.boot.phase = .low ∧ u.dev.mode = b.target ∧ u.dev.boot.island = b.island ∧ u.dev.ports = Dev.atReset.ports ∧
      u.dev.image = none ∧ u.dev.net = Dev.atReset.net ∧ u.dev.flash.traces = s.dev.flash.traces ∧
      u.dev.fuses.spares = s.dev.fuses.spares) ∧
    (b.island.latched ≠ 0 → Answers .lowPowerEntry s fun u =>
      u.dev.boot.phase = .held ∧ u.dev.num 0x2000 3 = (if b.target = 1 then 4 else 5) ∧
      u.dev.num 0x2000 4 = b.island.latched)

/-- The wake sources of a device in SLEEP: the pin held for 50 µs with the configured edge, the timer, CAN and the return of
VBAT; each starts the device with reset cause 4 and reports itself, or the highest of those that fire within one LFO cycle
(R276, R280, R282). -/
def Sys2Proof.Says.WakeSourcesStartTheDevice : Prop :=
  ∀ (s : State), s.dev.frozen = false → s.dev.boot.phase = .low → s.dev.boot.target = 1 →
    s.dev.boot.island.unpowered = false →
    let i := s.dev.boot.island
    let woken := fun (src : Int) (u : State) => u.dev.boot.phase = .held ∧ u.dev.num 0x2000 3 = 4 ∧
      u.dev.num 0x2000 4 = src ∧ u.dev.ports = (if s.dev.tap.bscan then Dev.atReset.unitsCoast else Dev.atReset).ports ∧
      u.dev.flash.traces = s.dev.flash.traces
    (∀ held c, 50 ≤ held → i.edge = 0 → Answers (.wakePin true ⟨held, c⟩) s (woken 1)) ∧
    (∀ held c, held < 50 → ∀ r, exec (.wakePin r ⟨held, c⟩) s = .next s) ∧
    (∀ ms c, i.timerMs ≠ 0 → i.timerMs ≤ ms → Answers (.wakeTimer ⟨ms, c⟩) s (woken 2)) ∧
    (∀ c, i.can = true → Answers (.canWakeUp c) s (woken 3)) ∧
    (∀ mv us c, 4500 < mv → 1000 ≤ us → Answers (.vbatReconnect mv ⟨us, c⟩) s (woken 4)) ∧
    (∀ ms held c c', i.timerMs ≠ 0 → i.timerMs ≤ ms → 50 ≤ held → i.edge = 0 → Answers (.wakeTimer ⟨ms, c⟩) s fun u =>
      Answers (.wakePin true ⟨held, c'⟩) u fun v => v.dev.num 0x2000 4 = if c' = c then 1 else 2) ∧
    Answers .islandUnpowered s (fun u => u.dev.boot.island.unpowered = true ∧ u.dev.boot.island.edge = i.edge ∧
      u.dev.objs = s.dev.objs ∧ u.dev.flash = s.dev.flash)

/-- Every reset takes all state to its reset values but flash, fuses, the TAP, the level at LULL_N and whether the part has a lane
B, reports its cause, and leaves the device held: cause 1 at power-on, 2 from a RESET_N pulse of 10 µs or more, 3 from a host, 7
with both lanes lost or without the supply of the common domain; pulses below 1 µs do nothing. Where boundary scan goes on over
it, the units coast on (R285, R292, R293, R462). -/
def Sys2Proof.Says.ResetsKeepFlashAndFuses : Prop :=
  ∀ (s : State), s.dev.boot.phase ≠ .held →
    let reset := fun (cause : Int) (u : State) => u.dev.boot =
      { Dev.atReset.boot with lullLow := s.dev.boot.lullLow, laneB := s.dev.boot.laneB } ∧ u.dev.num 0x2000 3 = cause ∧
      u.dev.ports = (if cause ≠ 1 ∧ s.dev.tap.bscan = true then Dev.atReset.unitsCoast else Dev.atReset).ports ∧
      u.dev.lanes = Dev.atReset.lanes ∧ u.dev.image = none ∧
      u.dev.frozen = false ∧ u.dev.published = [] ∧ u.dev.flash.recA = s.dev.flash.recA ∧
      u.dev.flash.halves = s.dev.flash.halves ∧ u.dev.fuses.spares = s.dev.fuses.spares ∧ u.pending = s.pending
    Answers .powerOnReset s (reset 1) ∧
    (∀ ns, 10000 ≤ ns → Answers (.resetNPulse ns) s (reset 2)) ∧
    (∀ ns, ns < 1000 → exec (.resetNPulse ns) s = .next s) ∧
    (∀ v session origin rest, s.dev.frozen = false →
      s.dev.published = ⟨objKey 0x2004 0, v, session, origin⟩ :: rest → Answers .deviceReset s (reset 3)) ∧
    (s.dev.boot.phase ≠ .low → s.dev.boot.phase ≠ .goingDown → Answers (.bothLanesLost true) s (reset 7)) ∧
    (s.dev.boot.phase ≠ .low → s.dev.boot.phase ≠ .goingDown → s.dev.boot.phase ≠ .halted → s.dev.laneLost .a = true →
      (s.dev.laneLost .b = true ∨ s.dev.boot.laneB = false) → Answers (.bothLanesLost false) s (reset 7))

/-- A rail outside its window for its filter time and a temperature above 165 °C for 5 µs make the lane lost: FLT_SUPPLY_UV or
FLT_OVERTEMP is active on its ports, which are commanded with source 13 after it, its general converters stop for good, and it is
an event of R251; a lost lane whose supply returns above 5.3 V stays in reset with its gates off (R250, R266, R283, R284, R295).
-/
def Sys2Proof.Says.SupplyAndTemperatureLossLoseTheLane : Prop :=
  ∀ (s : State) (l : LaneId),
    ((s.dev.lane l).alive = true → s.dev.laneLost l = false →
      (∀ rail mv held, railFilter rail ≤ held → (mv < railLow rail ∨ railAbove rail mv = true) →
        Answers (.supplyUv l rail mv held) s fun u =>
        u.dev.laneLost l = true ∧ u.dev.num (0x2800 + l.num) 8 = railCode rail + 128 * b2n (railAbove rail mv) ∧
        (u.dev.lane l.other).otherLost = true ∧ u.dev.degradeDue = true ∧
        (∀ g : GcId, g.lane = l → (u.dev.gcs.get g).job = none ∧ u.dev.gcRuns g = false) ∧
        ∀ p, p.lane = l → u.dev.faulted p .supplyUv = true ∧ (u.dev.port p).unit.arriving =
          (s.dev.port p).unit.arriving ++ [⟨13, none, false, false⟩]) ∧
      (∀ t held, 1650 < t → 5000 ≤ held → Answers (.overtemp l t held) s fun u =>
        u.dev.laneLost l = true ∧ u.dev.degradeDue = true ∧
        (∀ g : GcId, g.lane = l → (u.dev.gcs.get g).job = none ∧ u.dev.gcRuns g = false) ∧
        ∀ p, p.lane = l → u.dev.faulted p .overtemp = true)) ∧
    (∀ mv, s.dev.laneLost l = true → 5300 < mv → Answers (.laneSupplyReturn ⟨l, mv⟩) s fun u =>
      (u.dev.lane l).alive = false ∧ u.dev.laneLost l = true ∧ u.dev.ports = s.dev.ports ∧
      ∀ p g boot, p.lane = l → u.dev.gateOn p g boot = false) ∧
    (∀ mv, mv ≤ 5300 → exec (.laneSupplyReturn ⟨l, mv⟩) s = .next s)

/-- A sensor supply outside its window or overloaded for 5 µs is a fault of the lane's ports and commands those with a feedback
interface, source 17, its cause being shown unless the lane is lost; a lane released too late for start-up is lost with the
cause FLT_SUPPLY_UV (R283, R289, R297). -/
def Sys2Proof.Says.SensorSupplyAndLateLanes : Prop :=
  ∀ (s : State) (l : LaneId), s.dev.frozen = false →
    (∀ mv ma held, (s.dev.lane l).alive = true → 5000 ≤ held → (mv < 4600 ∨ 5400 < mv ∨ 75 < ma) →
      Answers (.sensorSupplyFault l mv ma held) s fun u =>
        u.dev.num (0x2800 + l.num) 8 = (if s.dev.laneLost l then s.dev.num (0x2800 + l.num) 8
          else 5 + 128 * (b2n (decide (5400 < mv)) : Int)) ∧
        ∀ p, p.lane = l → u.dev.faulted p .sensorSupply = true ∧
          (s.dev.sensorless p = true → (u.dev.port p).unit = (s.dev.port p).unit) ∧
          (s.dev.sensorless p = false → (u.dev.port p).unit.arriving =
            (s.dev.port p).unit.arriving ++ [⟨17, none, false, false⟩])) ∧
    ((s.dev.boot.phase = .boot ∨ s.dev.boot.phase = .clocked ∨ s.dev.boot.phase = .imageDue) →
      (s.dev.lane l).alive = false → (s.dev.lane l.other).alive = true →
      s.dev.laneLost l = false → (l = .a ∨ s.dev.boot.laneB = true) → Answers (.laneNotReady l) s fun u =>
        u.dev.laneLost l = true ∧ u.dev.num 0x2500 (laneStateSub l + 2) = 0x0603 ∧
        (u.dev.lane l.other).otherLost = true ∧ u.dev.degradeDue = true)

/-- The lane supervisor's measurements are reported, and the derating factor falls at once to the one that the hottest point
gives and rises by no more than one per mille; lane A shows the root's deviation (R294, R297, R298, R309). -/
def Sys2Proof.Says.MeasurementsAreReportedAndDerate : Prop :=
  ∀ (s : State) (l : LaneId) (o : LaneObs), s.dev.frozen = false → (s.dev.lane l).alive = true →
    s.dev.laneLost l = false →
    let th := max (max o.drv1 o.drv2) (max o.engines o.regulators)
    let g := deratingOf th (s.dev.num 0x2820 1) (s.dev.num 0x2820 2) (s.dev.num 0x2820 3)
    let old := s.dev.num 0x2820 (deratingSub l)
    Answers (.thermalMeasurement l o) s fun u =>
      u.dev.num (0x2800 + l.num) 1 = o.vbat ∧ u.dev.num (0x2800 + l.num) 6 = o.vgd ∧
      u.dev.num (0x2802 + l.num) 1 = o.drv1 ∧ u.dev.num (0x2802 + l.num) 5 = th ∧
      (g < old → u.dev.num 0x2820 (deratingSub l) = g) ∧
      (old ≤ g → u.dev.num 0x2820 (deratingSub l) = min g (old + 1)) ∧
      (l = .a → s.dev.onRoot .a = true → u.dev.num 0x2110 6 = rootDeviation o.rootWin) ∧
      u.dev.ports = s.dev.ports ∧ u.dev.lanes = s.dev.lanes

/-! ### Start-up -/

/-- The first lane out of its power-on reset with a passing BIST starts the boot ROM, with the pins' profile selection and the
variant that the part adopts, TK4822 where its word is weak, in 0x2400.01; clocks
that are decided start the slot counts at 0 together and lose the lanes whose BIST failed, start-up halting without another;
without a catalogue STANDBY is entered and no image is activated, LULL_N held low through start-up freezing there at once, and the
factory minimal profile gets the factory minimal image (R4, R24, R74, R288, R291, R302, R441, R466). -/
def Sys2Proof.Says.StartUpProceedsInOrder : Prop :=
  ∀ (s : State), s.dev.frozen = false →
    let passes := fun l : LaneId => (s.dev.lane l).alive = true ∧ l ∉ s.dev.boot.bistBad
    (∀ psel otp bistB, s.dev.boot.phase = .held → s.dev.laneLost .a = false → (s.dev.lane .a).alive = false →
      Answers (.resetRelease true false psel otp true bistB) s fun u =>
        u.dev.boot.phase = .boot ∧ (u.dev.lane .a).alive = true ∧ u.dev.boot.psel = psel % 8 ∧
        u.dev.num 0x2400 1 = (variantCode (u.dev.variantOf .a) : Nat) ∧
        (u.dev.shadowWeak .a 0 = true → u.dev.num 0x2400 1 = 2)) ∧
    (∀ psel otp ba bb, s.dev.boot.phase = .held → exec (.resetRelease false false psel otp ba bb) s = .next s) ∧
    (∀ na nb, s.dev.boot.phase = .boot → (∃ l, passes l) → Answers (.rootClockQualified ⟨na, nb⟩) s fun u =>
      u.dev.boot.phase = .clocked ∧ u.dev.num 0x2110 1 = 1 ∧
      ((s.dev.lane s.dev.clkLane).alive = true →
        u.dev.num 0x2110 0xA = lfoMilliHz (if s.dev.clkLane = .a then na else nb)) ∧
      ∀ l, (u.dev.lane l).slots = 0 ∧ (u.dev.lane l).hyper = 0) ∧
    (∀ na nb, s.dev.boot.phase = .boot → (∀ l, ¬ passes l) →
      Answers (.rootClockQualified ⟨na, nb⟩) s (fun u => u.dev.boot.phase = .halted) ∧
      Answers (.rootQualificationTimeout ⟨na, nb⟩) s fun u => u.dev.boot.phase = .halted) ∧
    (∀ na nb, s.dev.boot.phase = .boot → (∃ l, passes l) → Answers (.rootQualificationTimeout ⟨na, nb⟩) s fun u =>
      u.dev.boot.phase = .clocked ∧ u.dev.devFaulted .rootClock = true ∧ u.dev.num 0x2110 4 = 4 ∧
      ∀ l, (u.dev.lane l).slots = 0 ∧ (u.dev.lane l).hyper = 0) ∧
    (s.dev.boot.phase = .clocked → s.dev.bit 0x2000 2 6 = true → Answers .startupImageCheckComplete s fun u =>
      u.dev.mode = 2 ∧ u.dev.boot.phase = .up ∧ u.dev.image = s.dev.image ∧ u.dev.frozen = s.dev.boot.lullLow) ∧
    (s.dev.boot.phase = .clocked → s.dev.bit 0x2000 2 6 = false → s.dev.boot.profile = 0xFF →
      Answers .startupImageCheckComplete s fun u =>
        u.dev.boot.phase = .imageDue ∧ u.dev.image = some factoryMinimal)

/-- The auto-run request is judged and journaled as a host's would be, or refused with AUTORUN_REFUSED and counted, by its result
or by a full writer's queue; before its time nothing happens (R279, R366, R373). -/
def Sys2Proof.Says.AutoRunIsJudged : Prop :=
  ∀ (s : State) (t : Nat), s.dev.frozen = false → s.dev.boot.autoAt = some t → s.dev.powered = true →
    (t ≤ s.dev.slotNow → Answers .autoRun s fun u =>
      let res := s.dev.judge Ctx.internal 0 0x200100 [4]
      let count := fun (sub : Nat) => u.dev.num 0x1300 sub = min (s.dev.num 0x1300 sub + 1) 4294967295
      u.dev.boot.autoAt = none ∧ u.dev.mode = s.dev.mode ∧
      (res = .ok → s.dev.queueRoom = true → u.dev.wr.queue.length = s.dev.wr.queue.length + 1 ∧ u.dev.objs = s.dev.objs) ∧
      (res = .ok → s.dev.queueRoom = false → u.dev.wr = s.dev.wr ∧ u.dev.bit 0x2000 2 11 = true ∧ count 0xB) ∧
      (res ≠ .ok → u.dev.wr = s.dev.wr ∧ u.dev.bit 0x2000 2 11 = true ∧ count 0xA)) ∧
    (s.dev.slotNow < t → exec .autoRun s = .next s)

/-! ### Clocks -/

/-- The loss of the root, found by missing edges, by two deviating windows or by the PLL, takes a lane to its backup
oscillator, with FLT_ROOT_CLOCK for the first lane, and the slot count runs on; on the root the backup's trim follows its
deviation by one step, and on backup, while the source base of AT is valid, at most one step in 10 ms (R301, R303, R304,
R307 to R309). -/
def Sys2Proof.Says.RootLossTakesTheLaneToBackup : Prop :=
  ∀ (s : State) (l : LaneId), s.dev.frozen = false → (s.dev.lane l).alive = true →
    let trim := s.dev.num 0x2110 (trimSub l)
    (∀ o, let code := if 200 ≤ o.noEdgeNs then 1 else if windowOff o.win1 && windowOff o.win2 then 2 else 3
      (200 ≤ o.noEdgeNs ∨ (windowOff o.win1 = true ∧ windowOff o.win2 = true) ∨ o.unlocked = true) →
      s.dev.onRoot l = true → s.dev.nat 0x2110 1 = 1 → Answers (.rootClockLoss l o) s fun u =>
        u.dev.onRoot l = false ∧ u.dev.num 0x2110 4 = code ∧ u.dev.num 0x2110 1 = 2 ∧
        (l = .a → u.dev.num 0x2110 6 = rootDeviation o.win2) ∧
        u.dev.devFaulted .rootClock = true ∧ (u.dev.lane l).slots = (s.dev.lane l).slots ∧
        u.dev.num 0x2110 (trimSub l) = trim) ∧
    (∀ o, o.noEdgeNs < 200 → (windowOff o.win1 = false ∨ windowOff o.win2 = false) → o.unlocked = false →
      exec (.rootClockLoss l o) s = .next s) ∧
    (∀ dev, s.dev.onRoot l = true → Answers (.backupTrimAdjust l dev) s fun u =>
      u.dev.num 0x2110 (trimSub l) = clampAbs 500 (trim - sgn dev) ∧ u.dev.ports = s.dev.ports) ∧
    (∀ ppm, s.dev.steers l = true →
      (∀ s0, (s.dev.lane l).mon.steerSlot = some s0 → s0 + 20000 ≤ (s.dev.lane l).slots) →
      Answers (.backupSteeringStep l ppm) s fun u =>
        u.dev.bit 0x2110 9 2 = true ∧ u.dev.num 0x2110 (trimSub l) =
          clampAbs 500 (trim - if 50 < absI ppm then sgn ppm else 0)) ∧
    (∀ ppm s0, (s.dev.lane l).mon.steerSlot = some s0 → (s.dev.lane l).slots < s0 + 20000 →
      exec (.backupSteeringStep l ppm) s = .next s) ∧
    (∀ ppm, s.dev.bit 0x2100 0xA 0 = false → exec (.backupSteeringStep l ppm) s = .next s)

/-- A lane's clock against the other lane's: two consecutive windows that deviate by more than 3.5 % and in which that lane runs
on the root throughout are a lane clock fault, and without the other lane one against the LFO as measured; it makes the lane lost;
a fault of the common time base is a device fault and an event of R251 (R27, R49, R250, R251, R302, R306). -/
def Sys2Proof.Says.ClockComparisonsLoseTheLane : Prop :=
  ∀ (s : State) (l : LaneId), s.dev.frozen = false → (s.dev.lane l).alive = true → s.dev.laneLost l = false →
    let m := (s.dev.lane l).mon
    (∀ n, (s.dev.lane l.other).alive = true → s.dev.laneLost l.other = false → s.dev.onRoot l.other = true →
      Answers (.laneClockComparison l .otherLane n) s fun u =>
        (u.dev.lane l).mon.winRun = (if 28 < absI ((n : Int) - 800) ∧ m.winRoot = true then m.winRun + 1 else 0) ∧
        (u.dev.lane l).mon.winRoot = true ∧
        (28 < absI ((n : Int) - 800) → m.winRoot = true → 1 ≤ m.winRun → (u.dev.lane l).mon.faultDue = true) ∧ u.dev.objs = s.dev.objs) ∧
    (∀ n, (s.dev.lane l.other).alive = false → m.lfoCount ≠ 0 → Answers (.laneClockComparison l .lfoCycle n) s fun u =>
      (35 * (m.lfoCount : Int) < 1000 * absI ((n : Int) * 4096 - m.lfoCount) → (u.dev.lane l).mon.faultDue = true) ∧
      (1000 * absI ((n : Int) * 4096 - m.lfoCount) ≤ 35 * (m.lfoCount : Int) →
        (u.dev.lane l).mon.faultDue = m.faultDue)) ∧
    (m.faultDue = true → Answers (.laneClockFault l) s fun u =>
      u.dev.laneLost l = true ∧ u.dev.num 0x2500 (laneStateSub l + 2) = 0x0602 ∧
      ∀ p, p.lane = l → u.dev.faulted p .laneClock = true) ∧
    (m.faultDue = false → exec (.laneClockFault l) s = .next s) ∧
    (s.dev.devFaulted .commonTime = false → Answers .commonTimeFault s fun u =>
      u.dev.devFaulted .commonTime = true ∧ u.dev.degradeDue = true)

/-! ### Slots, publication, budget and the carrier grid -/

/-- A boundary opens one slot in the lane, and in the other while both run on the root: count and hyperframe index advance, the
writes due become visible in every cell, the feedback inputs are latched; the lane that clocks the common domain also advances
the time bases and samples the pins, of which those of lane B read 0 without it, and a lane that does not finds the bases of its
own boundary. The other lanes and their ports stay as they are; a network
port shows what it senses, and a port without a command that waits keeps its state and its faults (R18, R24, R41, R44, R50,
R186, R325, R356, R468).
Model's choices: one boundary for all lanes on the root, when the hyperframe index runs, and the bases of a lane
whose boundaries differ, the instant at which arrivals are sampled (log entries 118, 137, 182). -/
def Obligations.SlotBoundaryOpensTheSlot : Prop :=
  ∀ (s : State) (l : LaneId) (ticks gpio : Nat) (net : NetSense), s.dev.frozen = false →
    ((s.dev.clocked l = false ∨ s.dev.slotsRun = false) → exec (.slotBoundary l ticks ⟨gpio, net⟩) s = .next s) ∧
    (s.dev.clocked l = true → s.dev.slotsRun = true → Answers (.slotBoundary l ticks ⟨gpio, net⟩) s fun u =>
      let v := (s.dev.lanesWith l).foldl (fun d m => d.laneOpens m) s.dev
      l ∈ s.dev.lanesWith l ∧
      (∀ m, m ∈ s.dev.lanesWith l → (u.dev.lane m).slots = (s.dev.lane m).slots + 1 ∧
        (∀ im, s.dev.image = some im → s.dev.monArmed = true →
          (u.dev.lane m).hyper = ((s.dev.lane m).hyper + 1) % im.h) ∧
        (s.dev.monArmed = false → (u.dev.lane m).hyper = (s.dev.lane m).hyper) ∧
        ∀ p : PortId, p.lane = m →
          (u.dev.port p).cells = (v.port p).cells.atBoundary ((s.dev.lane m).slots + 1) ∧
          (u.dev.port p).fb = (v.port p).fb.latched (((s.dev.lane m).slots + 1) * 50) ∧
          ((v.port p).unit.later = [] →
            (u.dev.port p).reg = (v.port p).reg ∧ (u.dev.port p).faults = (v.port p).faults)) ∧
      (∀ m, m ∉ s.dev.lanesWith l → u.dev.lane m = s.dev.lane m ∧ ∀ p : PortId, p.lane = m → u.dev.port p = s.dev.port p) ∧
      (s.dev.clkLane ∈ s.dev.lanesWith l → u.dev.gpioIn = (if s.dev.boot.laneB then gpio % 256 else gpio % 16) ∧
        u.dev.time.dt.val = s.dev.time.dt.val + ticks * s.dev.time.dt.incr ∧
        u.dev.num 0x1110 0x10 % 2 = b2n (s.dev.portUp .n1 && net.beacon1)) ∧
      (s.dev.clkLane ∉ s.dev.lanesWith l →
        let t := (s.dev.advanceTime ticks).time
        u.dev.time = { s.dev.time with cross := (t.dt.ns, t.at'.ns) } ∧ u.dev.gpioIn = s.dev.gpioIn))

/-- What a committed change or a Process write publishes at the boundary: once a slot, a value becomes that of its object, and a
command waits for its own row; changes whose commit ended after the boundary wait for the next. A boundary that has published and
has no Process write due publishes nothing again. The staging buffer is LOADED; the
inactive bank is erased, or takes the segment that follows (R30, R50, R81, R373, R395). -/
def Sys2Proof.Says.ChangePublicationMakesValuesVisible : Prop :=
  ∀ (s : State), s.dev.frozen = false → s.dev.powered = true →
    (s.dev.wr.pubSlot = some s.dev.slotNow → (∀ q, q ∈ s.dev.wr.procs → (s.dev.lane q.lane).slots < q.due) →
      exec .changePublication s = .next s) ∧
    (s.dev.wr.pubSlot ≠ some s.dev.slotNow →
      (∀ j c n r, s.dev.wr.done = [(j, n)] → n < s.dev.slotNow → s.dev.wr.procs = [] → j.change = some c →
        objRow (c.key / 256) (c.key % 256) = some r → Answers .changePublication s fun u =>
          u.dev.wr.done = [] ∧ u.dev.wr.pubSlot = some s.dev.slotNow ∧
          (r.cls = .command → u.dev.published = s.dev.published ++ [⟨c.key, decodeVal r.type c.raw, c.session, c.origin⟩]) ∧
          (r.cls = .config → u.dev.objs.get c.key = decodeVal r.type c.raw)) ∧
      (∀ j n, s.dev.wr.done = [(j, n)] → s.dev.slotNow ≤ n → s.dev.wr.procs = [] → j.change ≠ none →
        (∀ o, (s.dev.reqPort o).arrived = []) → Answers .changePublication s fun u =>
          u.dev.wr.done = s.dev.wr.done ∧ u.dev.objs = s.dev.objs ∧
          u.dev.published = s.dev.published) ∧
      (∀ q r, s.dev.wr.done = [] → s.dev.wr.procs = [q] → q.due ≤ (s.dev.lane q.lane).slots →
        objRow (q.key / 256) (q.key % 256) = some r → r.cls = .process → r.access = .rwa → q.key ≠ 0x131001 →
        Answers .changePublication s fun u =>
          u.dev.wr.procs = [] ∧ u.dev.objs.get q.key = decodeVal r.type q.raw) ∧
      (∀ q r, s.dev.wr.done = [] → s.dev.wr.procs = [q] → q.due ≤ (s.dev.lane q.lane).slots →
        objRow (q.key / 256) (q.key % 256) = some r → r.cls = .process → r.access = .wo →
        (∀ o, (s.dev.reqPort o).arrived = []) → Answers .changePublication s fun u => u.dev.objs = s.dev.objs ∧
          u.dev.published = s.dev.published ++ [⟨q.key, decodeVal r.type q.raw, q.session, q.origin⟩]) ∧
      (∀ q, s.dev.wr.done = [] → s.dev.wr.procs = [q] → q.due ≤ (s.dev.lane q.lane).slots →
        let bank := fun (u : State) => u.dev.flash.bank (1 - s.dev.nat 0x2640 4)
        (q.key = 0x261100 → Answers .changePublication s fun u => u.dev.bytes 0x2611 0 = q.raw ∧
          u.dev.num 0x2620 1 = 1 ∧ u.dev.wr.staged = none) ∧
        (q.key = 0x141000 → Answers .changePublication s fun u => u.dev.bytes 0x1410 0 = q.raw ∧
          (q.more = false → u.dev.wr.op = some .bankErase ∧ u.dev.num 0x1413 2 = 1 ∧ bank u = []) ∧
          (q.more = true → bank u = q.raw ∧ u.dev.num 0x1413 2 = 2))))

/-- The budget of a lane is allocated once a slot in the order of 0x2810.03: each port that takes part gets what is left up to
its request, and the lane status word is written (R38, R159, R160). -/
def Sys2Proof.Says.BudgetIsAllocatedInOrder : Prop :=
  ∀ (s : State) (l : LaneId) (p q : PortId), s.dev.frozen = false → s.dev.clocked l = true → s.dev.slotsRun = true →
    let n := (s.dev.lane l).slots
    let req := fun (x : PortId) => ((((s.dev.port x).e2.out.stored (n + 1)).reqWord % 2 ^ 24 : Nat) : Int)
    let part := fun (x : PortId) => s.dev.pnum x 0x90 3 ≠ 0 ∧ s.dev.num 0x2810 1 ≠ 0
    ((s.dev.lane l).budgetSlot = some n → exec (.budgetAllocation l) s = .next s) ∧
    ((s.dev.lane l).budgetSlot ≠ some n → s.dev.budgetOrder l = [p, q] → p ≠ q → part p → part q →
      Answers (.budgetAllocation l) s fun u =>
        let g := min (req p) (s.dev.laneBudget l)
        let h := min (req q) (s.dev.laneBudget l - g)
        (u.dev.port p).e2.out.grant = g.toNat ∧ (u.dev.port q).e2.out.grant = h.toNat ∧
        (u.dev.port p).e2.out.limByBudget = decide (g < req p) ∧
        (u.dev.port q).e2.out.limByBudget = decide (h < req q) ∧
        (u.dev.lane l).status = s.dev.laneStatusWord l ∧ (u.dev.lane l).budgetSlot = some n ∧
        ∀ x : PortId, x.lane ≠ l → u.dev.port x = s.dev.port x) ∧
    ((s.dev.lane l).budgetSlot ≠ some n → s.dev.num 0x2810 1 = 0 → s.dev.budgetOrder l = [p, q] →
      Answers (.budgetAllocation l) s fun u => (u.dev.port p).e2.out.grant = 0 ∧
        (u.dev.port p).e2.out.limByBudget = false ∧ (u.dev.port q).e2.out.grant = 0)

/-- A published request starts a calibration pass of the port's current sensing; one that comes while a pass runs starts no
second one (R100, R102). -/
def Sys2Proof.Says.CalibrationRequestStartsAPass : Prop :=
  ∀ (s : State) (p : PortId) (v : ObjVal) (session origin : Nat) (rest : List Published), s.dev.frozen = false →
    s.dev.clocked p.lane = true → s.dev.published = ⟨objKey (pidx p 0x31) 0, v, session, origin⟩ :: rest →
    ((s.dev.port p).fe.pass = none → Answers (.csStartCalibration p) s fun u =>
      (u.dev.port p).fe.pass = some ⟨s.dev.slotOf p, s.dev.pnat p 0x32 1⟩ ∧ u.dev.pnum p 0x32 1 = 1 ∧ u.dev.published = rest ∧
      ∀ q, q ≠ p → u.dev.port q = s.dev.port q) ∧
    ((s.dev.port p).fe.pass ≠ none → Answers (.csStartCalibration p) s fun u =>
      (u.dev.port p).fe.pass = (s.dev.port p).fe.pass ∧ u.dev.published = rest)

/-- The carrier grid: measured every 200 slots, the phase error and the trim are reported; 100 measurements within 20 ns
lock it, 10 beyond 40 ns unlock it and are counted; an invalid source freezes the trim in HOLDOVER; a grid that is no longer
disciplined is FREE (R117, R118).
Model's choices: the rounding, a re-anchored grid that goes back to ACQUIRING, the grid under FLT_COMMON_TIME
and on a part without lane B, and the phase before the first measurement (log entries 12, 118, 139, 156, 169). -/
def Obligations.GridMeasurementSteersTheCarriers : Prop :=
  ∀ (s : State), s.dev.frozen = false → s.dev.clocked s.dev.clkLane = true → s.dev.grid.slot + 200 ≤ s.dev.slotNow →
    let st := s.dev.nat 0x2150 0x10
    (s.dev.disciplined = false → Answers .gridPhaseMeasurement s fun u =>
      u.dev.nat 0x2150 0x10 = 0 ∧ u.dev.grid.slot = s.dev.slotNow) ∧
    (s.dev.disciplined = true → (st = 1 ∨ st = 2) → s.dev.lockValid = false → Answers .gridPhaseMeasurement s fun u =>
      u.dev.num 0x2150 0x10 = 3 ∧ u.dev.num 0x2150 0x12 = s.dev.holdTrim) ∧
    (∀ im, s.dev.disciplined = true → (st = 1 ∨ st = 2) → s.dev.lockValid = true → s.dev.image = some im →
      let b := s.dev.lockBase
      let e := phaseError b.val (s.dev.num 0x2150 2) im.h (s.dev.gridIndex im.h)
      Answers .gridPhaseMeasurement s fun u =>
        u.dev.num 0x2150 0x11 = satS 32 (roundHA e nsUnit) ∧
        u.dev.num 0x2150 0x12 = gridTrim b.incr e (s.dev.num 0x2150 3) ∧
        (st = 1 → absI e ≤ 20 * nsUnit → 99 ≤ s.dev.grid.goodRun → u.dev.num 0x2150 0x10 = 2) ∧
        (st = 1 → (20 * nsUnit < absI e ∨ s.dev.grid.goodRun < 99) → u.dev.nat 0x2150 0x10 = 1) ∧
        (st = 2 → s.dev.grid.moved = false → 40 * nsUnit < absI e → 9 ≤ s.dev.grid.badRun →
          u.dev.num 0x2150 0x10 = 1 ∧ u.dev.num 0x2150 0x13 = min (s.dev.num 0x2150 0x13 + 1) 4294967295) ∧
        u.dev.ports = s.dev.ports)

/-! ### Network time -/

/-- A Sync of the port's master: a two-step Sync waits for its Follow_Up; one step, or the Follow_Up with both corrections,
reports the offset on the slave port, and takes an UNSET base by a step to ACQUIRING. A message of no enabled domain changes
nothing (R313, R316, R317). -/
def Sys2Proof.Says.SyncDisciplinesTheBase : Prop :=
  ∀ (s : State) (n : NetPort) (m : SyncMsg) (rx : Int), s.dev.frozen = false →
    (s.dev.domOfNumber n m.domain = none → exec (.syncReceived n m rx) s = .next s ∧
      exec (.followUpReceived n m) s = .next s) ∧
    (∀ x, s.dev.domOfNumber n m.domain = some x → s.dev.netUp n = true →
      let p := (s.dev.time.dom x).on n
      let y := domIdx x
      (p.known = true → p.src = m.src → -8 ≤ m.logInterval → m.logInterval ≤ 3 → m.twoStep = true →
        Answers (.syncReceived n m rx) s fun u =>
          ((u.dev.time.dom x).on n).await = some (m, rx) ∧ (u.dev.time.dom x).base = (s.dev.time.dom x).base ∧
          ((u.dev.time.dom x).on n).syncSlot = (s.dev.lane n.lane).slots + 1 ∧ u.dev.bit y 0x11 1 = false) ∧
      (p.known = true → p.src = m.src → -8 ≤ m.logInterval → m.logInterval ≤ 3 → m.twoStep = false →
        s.dev.isSlave x n = true → ((s.dev.time.dom x).on (otherNet n)).known = false →
        let o := s.dev.syncOffset x n m.origin m.correction rx
        Answers (.syncReceived n m rx) s fun u =>
          u.dev.num y 0x14 = satS 32 (roundHA o nsUnit) ∧
          (s.dev.domState x = 1 → s.dev.bit y 0x11 4 = false →
            absI (s.dev.syncRate n m.rateOfs) * 1000000 ≤ 250 * 2 ^ 41 →
            u.dev.domState x = 2 ∧ (u.dev.time.dom x).base.val = (s.dev.time.dom x).base.val + o ∧
            (u.dev.time.dom x).r = s.dev.syncRate n m.rateOfs)) ∧
      (∀ sy t, p.await = some (sy, t) → sy.src = m.src → sy.seq = m.seq →
        (s.dev.isSlave x n = true → Answers (.followUpReceived n m) s fun u =>
          ((u.dev.time.dom x).on n).await = none ∧
          u.dev.num y 0x14 = satS 32 (roundHA (s.dev.syncOffset x n m.origin (sy.correction + m.correction) t) nsUnit)) ∧
        (s.dev.isSlave x n = false → Answers (.followUpReceived n m) s fun u =>
          ((u.dev.time.dom x).on n).await = none ∧ u.dev.objs = s.dev.objs)))

/-- An Announce of a first or better master is taken over with its grandmaster; another grandmaster than a TRACKING base's
takes that base back to ACQUIRING and is counted; a worse one of another source changes nothing (R313, R317). -/
def Sys2Proof.Says.AnnounceSelectsTheMaster : Prop :=
  ∀ (s : State) (n : NetPort) (m : AnnounceMsg) (x : DomId), s.dev.frozen = false →
    s.dev.domOfNumber n m.domain = some x → s.dev.netUp n = true →
    let p := (s.dev.time.dom x).on n
    ((p.known = false ∨ better m.vec p.vec = true) → Answers (.announceReceived n m) s fun u =>
      ((u.dev.time.dom x).on n).known = true ∧ ((u.dev.time.dom x).on n).vec = m.vec ∧
      ((u.dev.time.dom x).on n).src = m.src ∧ ((u.dev.time.dom x).on n).annSlot = (s.dev.lane n.lane).slots + 1 ∧
      (((s.dev.time.dom x).on (otherNet n)).known = false → u.dev.num (domIdx x) 0x12 = m.gm ∧
        (s.dev.num (domIdx x) 0x12 ≠ m.gm → s.dev.domState x = 3 → u.dev.domState x = 2 ∧
          u.dev.num (domIdx x) 0x17 = min (s.dev.num (domIdx x) 0x17 + 1) 4294967295))) ∧
    (p.known = true → p.annOut = false → p.src ≠ m.src → better m.vec p.vec = false →
      exec (.announceReceived n m) s = .next s)

/-- A port that receives no Sync, or no Announce, for more than three intervals has lost it: the flag is set, and a TRACKING
base whose other port receives none either goes to HOLDOVER (R313, R317). -/
def Sys2Proof.Says.ReceiptTimeoutsHoldTheBase : Prop :=
  ∀ (s : State) (x : DomId) (n : NetPort), s.dev.frozen = false → s.dev.domOn x n = true →
    let p := (s.dev.time.dom x).on n
    let now := (s.dev.lane n.lane).slots
    p.known = true →
    (p.syncOut = false → 3 * logSlots p.syncLog < (now - p.syncSlot) * 256 → Answers (.syncReceiptTimeout x n) s fun u =>
      ((u.dev.time.dom x).on n).syncOut = true ∧
      (s.dev.isSlave x n = true → u.dev.bit (domIdx x) 0x11 1 = true) ∧
      (s.dev.isSlave x n = true → s.dev.domState x = 3 → ((s.dev.time.dom x).on (otherNet n)).known = false →
        u.dev.domState x = 4 ∧ (u.dev.time.dom x).base = (s.dev.time.dom x).base)) ∧
    (p.annOut = false → 3 * logSlots p.annLog < (now - p.annSlot) * 256 → Answers (.announceReceiptTimeout x n) s fun u =>
      ((u.dev.time.dom x).on n).annOut = true ∧ u.dev.bit (domIdx x) 0x11 2 = true ∧
      (s.dev.isSlave x n = true → s.dev.domState x = 3 → ((s.dev.time.dom x).on (otherNet n)).known = false →
        u.dev.domState x = 4)) ∧
    ((now - p.syncSlot) * 256 ≤ 3 * logSlots p.syncLog → exec (.syncReceiptTimeout x n) s = .next s)

/-- Peer delay: a request goes to the designated peer each interval, an unanswered one being a failure; its response gives the
mean link delay and the neighbour's rate against the device's own ticks, from two exchanges with the same station; any requester is
answered with the instants (R313, R315; log entry 180). -/
def Sys2Proof.Says.PeerDelayIsMeasured : Prop :=
  ∀ (s : State) (n : NetPort), s.dev.frozen = false → s.dev.netUp n = true →
    let p := s.dev.time.peer n
    let z := portTimeIdx n
    (∀ tx, (s.dev.peerMac n).isSome = true → p.sendSlot = none → Answers (.pdelayReqSend n tx) s fun u =>
      (u.dev.time.peer n).seq = (p.seq + 1) % 65536 ∧ (u.dev.time.peer n).sentAt = some (s.dev.time.onTicks (tx + s.dev.num z 2)) ∧
      (u.dev.time.peer n).sendSlot = some (s.dev.lane n.lane).slots ∧
      (p.sentAt.isSome = true → u.dev.num z 0x12 = min (s.dev.num z 0x12 + 1) 4294967295 ∧
        (u.dev.time.peer n).wins = (false :: p.wins).take 3)) ∧
    (∀ tx, s.dev.peerMac n = none → exec (.pdelayReqSend n tx) s = .next s) ∧
    (∀ (m : PdelayResp) rx t1, p.sentAt = some t1 → s.dev.peerMac n = some m.mac → m.seq = p.seq → p.prev = none →
      let t4 := s.dev.time.onTicks (rx - s.dev.num z 1)
      Answers (.pdelayRespReceived n m rx) s fun u =>
        u.dev.num z 0x10 = satU 32
          (narrow ((t4 - t1) * (2 ^ 41 + p.nrr) - (m.t3 - m.t2) * nsUnit * 2 ^ 41) (2 ^ 42 * 2 ^ 32)) ∧
        (u.dev.time.peer n).sentAt = none ∧ (u.dev.time.peer n).prev = some (m.mac, m.t3, t4) ∧
        (u.dev.time.peer n).wins = (true :: p.wins).take 3) ∧
    (∀ (m : PdelayResp) rx t1 mac t3p t4p, p.sentAt = some t1 → s.dev.peerMac n = some m.mac → m.seq = p.seq →
      p.prev = some (mac, t3p, t4p) → s.dev.time.onTicks (rx - s.dev.num z 1) ≠ t4p →
      let d4 := s.dev.time.onTicks (rx - s.dev.num z 1) - t4p
      Answers (.pdelayRespReceived n m rx) s fun u => (u.dev.time.peer n).nrr =
        if mac = m.mac then narrow (((m.t3 - t3p) * nsUnit - d4) * 2 ^ 41) d4 else 0) ∧
    (∀ (m : PdelayResp) rx, (s.dev.peerMac n ≠ some m.mac ∨ m.seq ≠ p.seq) →
      exec (.pdelayRespReceived n m rx) s = .next s) ∧
    (∀ requester seq rx tx, exec (.pdelayReqReceived n requester seq rx tx) s = .next (s.upd fun d =>
      d.onPeer n fun q => { q with answered := some (requester, seq, rx - d.num z 1, tx + d.num z 2) }))

/-- Application time: a switch is complete within 20 ns of its base; after the revert delay AT goes back to a preferred base
within its slew limit; a domain is taken to UNSET or disabled with its value held; DT is set once, before the first RUN, pulses
that run keeping what is left of their width, and ingress times moving with it (R312, R316 to R318, R320, R328).
Model's choices: AT after a hold, and no further step of AT (log entries 82, 83). -/
def Obligations.ApplicationTimeFollowsItsBase : Prop :=
  ∀ (s : State), s.dev.frozen = false →
    let pref := domOf (s.dev.nat 0x2100 7)
    (s.dev.nat 0x2100 5 = 2 → absI s.dev.atDiff ≤ 20 * nsUnit → Answers .atSwitchComplete s fun u =>
      u.dev.num 0x2100 5 = 1 ∧ u.dev.nat 0x2100 6 = s.dev.nat 0x2100 6 ∧ u.dev.time.at'.val = s.dev.time.at'.val) ∧
    (20 * nsUnit < absI s.dev.atDiff → exec .atSwitchComplete s = .next s) ∧
    (∀ t, (s.dev.time.dom pref).trackSlot = some t → s.dev.num 0x2100 8 = 1 → s.dev.nat 0x2100 5 = 1 →
      domOf (s.dev.nat 0x2100 6) ≠ pref → t + s.dev.nat 0x2100 9 * 2000000 ≤ s.dev.slotNow →
      s.dev.mayFollow pref = true → Answers .atRevert s fun u =>
        u.dev.num 0x2100 5 = 2 ∧ u.dev.num 0x2100 6 = domCode pref ∧ u.dev.time.at'.val = s.dev.time.at'.val) ∧
    ((s.dev.time.dom pref).trackSlot = none → exec .atRevert s = .next s) ∧
    (∀ x v session origin rest, s.dev.published = ⟨objKey (domIdx x) 1, v, session, origin⟩ :: rest →
      Answers (.domainEnable x) s fun u => u.dev.published = rest ∧
        (s.dev.num (domIdx x) 1 = 0 → u.dev.domState x = 0) ∧
        (s.dev.num (domIdx x) 1 ≠ 0 → s.dev.domState x = 0 → u.dev.domState x = 1) ∧
        (s.dev.num (domIdx x) 1 ≠ 0 → s.dev.domState x ≠ 0 → u.dev.domState x = s.dev.domState x) ∧
        (u.dev.time.dom x).base = (s.dev.time.dom x).base) ∧
    (∀ v session origin rest, s.dev.published = ⟨objKey 0x2100 0xD, v, session, origin⟩ :: rest →
      (s.dev.setDtRes = .ok → Answers .setDt s fun u =>
        u.dev.time.dt.val = v.toInt * nsUnit ∧ u.dev.bit 0x2100 0xA 3 = true ∧ u.dev.published = rest ∧
        (∀ x n, (u.dev.time.dom x).base = (s.dev.time.dom x).base ∧
          (u.dev.time.dom x).last = (s.dev.time.dom x).last.map (fun q => (q.1 + (v.toInt - s.dev.time.dt.ns), q.2)) ∧
          ((u.dev.time.dom x).on n).await =
            ((s.dev.time.dom x).on n).await.map fun q => (q.1, q.2 + (v.toInt - s.dev.time.dt.ns))) ∧
        u.dev.time.nominal = s.dev.time.nominal ∧
        u.dev.time.pulses = s.dev.time.pulses.map fun q => { q with till := q.till + (v.toInt - s.dev.time.dt.ns) }) ∧
      (s.dev.setDtRes ≠ .ok → Answers .setDt s fun u => u.dev.time = s.dev.time ∧ u.dev.published = rest))

/-! ### Timed actions -/

/-- An entry is armed by its record at the publication boundary, and a cancelling record cancels an armed one; a record of the
other kind is not the row's own (R322 to R324, R326). -/
def Sys2Proof.Says.TimedActionsAreArmedAndCancelled : Prop :=
  ∀ (s : State) (e : Nat) (v : ObjVal) (session origin : Nat) (rest : List Published), s.dev.frozen = false →
    1 ≤ e → e ≤ 32 → e ≤ s.dev.time.entries.length → s.dev.published = ⟨objKey 0x2130 e, v, session, origin⟩ :: rest →
    let a := actionOf v.toBytes
    let others := fun (u : State) => ∀ i, i ≠ e → 1 ≤ i → u.dev.timedEntry i = s.dev.timedEntry i
    (a.kind ≠ 0 → Answers (.timedActionArm e) s fun u =>
      u.dev.timedEntry e = (a.armed (s.dev.baseNow a.base)).settle a ∧ u.dev.published = rest ∧ others u) ∧
    (a.kind ≠ 0 → exec (.timedActionCancel e) s = .next s) ∧
    (a.kind = 0 → exec (.timedActionArm e) s = .next s) ∧
    (a.kind = 0 → (s.dev.timedEntry e).state = 1 → Answers (.timedActionCancel e) s fun u =>
      u.dev.timedEntry e = { s.dev.timedEntry e with state := 3, arming := false } ∧ u.dev.published = rest ∧ others u) ∧
    (a.kind = 0 → (s.dev.timedEntry e).state ≠ 1 → Answers (.timedActionCancel e) s fun u =>
      u.dev.timedEntry e = s.dev.timedEntry e ∧ u.dev.published = rest)

/-- An occurrence runs once its base has reached its time: a pulse on its output, a value or the grid anchor written and
visible, a mode request published; it is counted as executed, or, refused, keeps its result; a pulse ends after its width
(R325, R326, R328). -/
def Sys2Proof.Says.OccurrencesRun : Prop :=
  ∀ (s : State) (e : Nat), s.dev.frozen = false → 1 ≤ e → e ≤ 32 → e ≤ s.dev.time.entries.length →
    let a := s.dev.action e
    let x := s.dev.timedEntry e
    let ran := fun (u : State) => (u.dev.timedEntry e).done = x.done + 1 ∧ (u.dev.timedEntry e).result = 0 ∧
      (u.dev.timedEntry e).executed = sat32 (x.executed + 1)
    let refused := fun (res : Res) (u : State) => (u.dev.timedEntry e).done = x.done + 1 ∧
      (u.dev.timedEntry e).result = res.code ∧ (u.dev.timedEntry e).executed = x.executed
    (s.dev.dueBefore e 1 (s.dev.baseNow a.base + 500) = true → s.dev.laneLost (outLane a.out) = false →
      Answers (.syncPulse e) s fun u => ran u ∧ (u.dev.time.pulses.any fun q => q.out == a.out) = true) ∧
    (s.dev.dueBefore e 1 (s.dev.baseNow a.base + 500) = true → s.dev.laneLost (outLane a.out) = true →
      Answers (.syncPulse e) s fun u => refused .wrongMode u ∧ u.dev.time.pulses = s.dev.time.pulses) ∧
    (∀ out, (∃ q, q ∈ s.dev.time.pulses ∧ q.out = out ∧ q.till < s.dev.time.dt.ns + 500) →
      Answers (.syncPulseEnd out) s fun u => (u.dev.time.pulses.any fun q => q.out == out) = false ∧
        u.dev.objs = s.dev.objs) ∧
    (s.dev.wr.pubSlot = some s.dev.slotNow →
      let res := fun (raw : List Byte) => s.dev.judgeOn (s.dev.committed 6) s.dev.clkLane 0xFF 7000 false (s.dev.entryKey e) raw
      (∀ r, s.dev.dueNow e 2 = true → s.dev.firstInLine e = true → res (a.value.take a.len) = .ok →
        objRow (a.target / 256) (a.target % 256) = some r → r.cls = .process → r.access = .rwa → a.target ≠ 0x131001 →
        Answers (.applyValue e) s fun u =>
          ran u ∧ u.dev.objs.get a.target = decodeVal r.type (a.value.take a.len)) ∧
      (s.dev.dueNow e 2 = true → s.dev.firstInLine e = true → res (a.value.take a.len) ≠ .ok →
        Answers (.applyValue e) s fun u => refused (res (a.value.take a.len)) u ∧ u.dev.published = s.dev.published) ∧
      (s.dev.dueNow e 3 = true → s.dev.firstInLine e = true → res a.value = .ok →
        Answers (.reanchorCarrierGrid e) s fun u =>
          ran u ∧ u.dev.objs.get 0x215002 = decodeVal .time80 a.value ∧ u.dev.grid.moved = true) ∧
      (s.dev.dueNow e 4 = true → s.dev.firstInLine e = true →
        let k := s.dev.entryKey e
        let w := leNat (a.value.take 1)
        ((s.dev.committed 6).modeRequestRes (k / 256) w = .ok → Answers (.timedModeRequest e) s fun u =>
          ran u ∧ u.dev.published = s.dev.published ++ [⟨k, .num w, 0, 6⟩] ∧ u.dev.mode = s.dev.mode) ∧
        ((s.dev.committed 6).modeRequestRes (k / 256) w ≠ .ok → Answers (.timedModeRequest e) s fun u =>
          refused ((s.dev.committed 6).modeRequestRes (k / 256) w) u ∧ u.dev.published = s.dev.published)))

/-! ### The change journal -/

/-- The writer takes the first job that has reached its queue; with the journal unavailable it commits none, and full it says so;
one that has not reached the queue waits (R365, R373, R374, R376). -/
def Sys2Proof.Says.CommitsStartInOrder : Prop :=
  ∀ (s : State) (j : JournalJob) (rest : List JournalJob), s.dev.frozen = false → s.dev.powered = true →
    s.dev.wr.running = none → s.dev.wr.queue = j :: rest →
    (j.reach = none → s.dev.boot.phase ≠ .goingDown → exec .journalCommitStart s = .next s) ∧
    (j.reach.isSome = true →
      (s.dev.journalDown = false → s.dev.flash.full = false → ((j.change = none ∧ j.write = none) ∨ j.rejudge = false) →
        Answers .journalCommitStart s fun u =>
          u.dev.wr.running = some j ∧ u.dev.wr.queue = rest ∧ u.dev.flash = s.dev.flash ∧ u.dev.objs = s.dev.objs) ∧
      (s.dev.journalDown = true → Answers .journalCommitStart s fun u =>
        u.dev.wr.running = none ∧ u.dev.wr.queue.length = rest.length ∧ u.dev.wr.done = s.dev.wr.done ∧
        u.dev.flash = s.dev.flash) ∧
      (s.dev.journalDown = false → s.dev.flash.full = true → j.reserve = false → j.change ≠ none → j.rejudge = false →
        Answers .journalCommitStart s fun u => u.dev.wr.running = none ∧ u.dev.bit 0x1300 8 0 = true ∧
          u.dev.flash = s.dev.flash))

/-- A commit programs the next unit with the entry's number, its body and the tag over the entry before, and its change waits
for its publication; a unit that reads back differently is voided; a second failure raises FLT_COMMON_FLASH (R370, R373, R374). -/
def Sys2Proof.Says.CommitsProgramTheChain : Prop :=
  ∀ (s : State) (j : JournalJob), s.dev.frozen = false → s.dev.powered = true → s.dev.wr.running = some j →
    let f := s.dev.flash
    let pre := toLE 4 f.number ++ j.body
    let tag := cmac8 s.dev.chainKey (f.tag ++ pre)
    let next := fun (n : Nat) => (n + 1) % journalUnits
    let chained := fun (u : State) => u.dev.flash.tag = tag ∧ u.dev.flash.number = nextNumber f.number ∧
      u.dev.wr.running = none ∧
      (∀ c, j.change = some c → recordKey c.key = false → u.dev.wr.done = s.dev.wr.done ++ [(j, s.dev.slotNow)]) ∧
      (∀ c, j.change = some c → recordKey c.key = true → u.dev.wr.recDue = s.dev.wr.recDue ++ [j])
    (∀ second, Answers (.journalCommitComplete true second) s fun u =>
      mapFind f.head u.dev.flash.units = some (pre ++ tag) ∧ u.dev.flash.head = next f.head ∧ chained u) ∧
    (1 < f.free → Answers (.journalCommitComplete false true) s fun u =>
      mapFind (next f.head) u.dev.flash.units = some (pre ++ tag) ∧ u.dev.flash.head = next (next f.head) ∧
      u.dev.flash.voided = min (f.voided + 1) 4294967295 ∧ chained u) ∧
    (∀ second, (second = false ∨ f.free ≤ 1) → Answers (.journalCommitComplete false second) s fun u =>
      u.dev.devFaulted .commonFlash = true ∧ u.dev.flash.tag = f.tag ∧ u.dev.flash.number = f.number ∧
      u.dev.wr.running = none ∧ u.dev.wr.done = s.dev.wr.done ∧
      (s.dev.devFaulted .commonFlash = false → u.dev.bit 0x1300 8 3 = true))

/-- A block's erase takes its units and counts the unacknowledged entries as lost, the anchor taking the last entry's tag; an
acknowledgement queues the blocks it covers (R377, R379). -/
def Sys2Proof.Says.JournalBlocksAreErasedAndAcknowledged : Prop :=
  ∀ (s : State), s.dev.frozen = false →
    let f := s.dev.flash
    (∀ b rest, s.dev.wr.erases = b :: rest → Answers .journalBlockEraseComplete s fun u =>
      u.dev.flash.units = (f.units.filter fun x => blockOf x.1 ≠ b) ∧
      u.dev.flash.lost = min (f.lost + (((f.inBlock b).map entryNumber).filter fun n => !f.covered n).length) 4294967295 ∧
      (∀ e, (f.inBlock b).getLast? = some e → u.dev.flash.anchor = entryTag e ∧
        u.dev.flash.oldest = nextNumber (entryNumber e)) ∧ u.dev.flash.tag = f.tag) ∧
    (s.dev.wr.erases = [] → exec .journalBlockEraseComplete s = .next s) ∧
    (∀ v session origin rest, s.dev.published = ⟨objKey 0x1310 2, v, session, origin⟩ :: rest →
      Answers .acknowledge s fun u =>
        u.dev.flash.acked = leNat (v.toBytes.take 4) ∧ u.dev.published = rest ∧ u.dev.flash.units = f.units ∧
        u.dev.wr.erases = s.dev.wr.erases ++ u.dev.flash.coveredBlocks s.dev.wr.erases)

/-- A snapshot copies the listed objects as they are at one boundary behind the new generation and the slot count, for the
session that asked; an object whose lane has not yet reached that count waits for it (R363). -/
def Sys2Proof.Says.SnapshotCopiesTheListedObjects : Prop :=
  ∀ (s : State) (v : ObjVal) (session origin : Nat) (rest : List Published), s.dev.frozen = false →
    s.dev.published = ⟨objKey 0x2005 2, v, session, origin⟩ :: rest →
    let g : Nat := (s.dev.nat 0x2005 3 + 1) % 2 ^ 32
    let keys := snapKeys (s.dev.arr 0x2005 1)
    let base := match s.dev.session session with
      | some x => x.base
      | none => 0
    ((∀ k l, k ∈ keys → homeOf (k / 256) = .lane l →
        (s.dev.lane l).alive = false ∨ s.dev.laneLost l = true ∨ s.dev.slotNow ≤ (s.dev.lane l).slots) →
      Answers .takeSnapshot s fun u =>
        u.dev.num 0x2005 3 = g ∧ u.dev.num 0x2005 5 = session ∧ u.dev.published = rest ∧
        u.dev.bytes 0x2005 4 = toLE 4 g ++ toLE 4 (s.dev.lane s.dev.clkLane).count ++
          keys.flatMap fun k => s.dev.showing.value base k) ∧
    (∀ k l, keys = [k] → homeOf (k / 256) = .lane l → (s.dev.lane l).alive = true → s.dev.laneLost l = false →
      (s.dev.lane l).slots < s.dev.slotNow → Answers .takeSnapshot s fun u =>
        u.dev.snap = some ⟨l, s.dev.slotNow, session, [(k, none)]⟩ ∧ u.dev.published = rest ∧ u.dev.objs = s.dev.objs)

/-! ### Requests -/

/-- A frame that a network port takes in waits for the boundary that stamps it; a datagram longer or shorter than its PDU is
counted, and a port that is not up, off the bus or not addressed takes nothing. At that boundary a request without a session or
with a new sequence number of its session is queued with its stamp, and the session keeps the number; a full queue answers BUSY,
another type TYPE_LENGTH, a tag that does not verify and a number that is refused SESSION_INVALID (R50, R339, R345,
R346, R349, R407). -/
def Sys2Proof.Says.RequestsAreQueuedOnArrival : Prop :=
  ∀ (s : State) (o : Origin) (h : FrameHead) (can : Nat) (pdu : List Byte), s.dev.frozen = false →
    let es := (s.dev.reqPort o).entries
    let tx := (s.dev.reqPort o).tx
    (s.dev.busUp o = false ∨ s.dev.takesFrame o h can 47120 0 = false → exec (.requestArrival o h can pdu) s = .next s) ∧
    (s.dev.busUp o = true → s.dev.takesFrame o h can 47120 0 = true →
      (o ≠ .n3 → 16 ≤ pdu.length → pdu.length ≠ pduLen pdu → Answers (.requestArrival o h can pdu) s fun u =>
        u.dev.net = s.dev.net ∧ u.dev.num (netIdx o) 0x16 = min (s.dev.num (netIdx o) 0x16 + 1) 4294967295) ∧
      (o = .n3 ∨ pdu.length < 16 ∨ pdu.length = pduLen pdu →
        exec (.requestArrival o h can pdu) s = .next (s.upd fun d => d.onReqPort o fun x => { x with
          arrived := x.arrived ++ [⟨partnerOf o h can, returnOf o h, pdu, d.serveSlot o + 1⟩] }))) ∧
    (∀ a : Arrival, s.dev.powered = true → s.dev.wr.pubSlot ≠ some s.dev.slotNow → s.dev.wr.done = [] → s.dev.wr.procs = [] →
      (s.dev.reqPort o).arrived = [a] → (∀ o', o' ≠ o → (s.dev.reqPort o').arrived = []) → a.slot ≤ s.dev.serveSlot o →
      16 ≤ a.pdu.length →
      let id := leNat (slice a.pdu 2 2)
      let q : Request := ⟨leNat (slice a.pdu 1 1), id, leNat (slice a.pdu 4 4), slice a.pdu 16 (leNat (slice a.pdu 8 2)), a.who,
        a.back, a.slot⟩
      let refused := fun (sid code : Nat) (key : List Byte) (u : State) =>
        (u.dev.reqPort o).entries = es ∧ (u.dev.reqPort o).arrived = [] ∧ (u.dev.reqPort o).tx = tx ++
          [s.dev.framed o 1 a.who a.back (taggedPdu sid key (pduBytes 1 q.opcode sid q.seq code 0 []))]
      (leNat (a.pdu.take 1) ≠ 0x10 → tx.length < txRoom o → Answers .changePublication s (refused 0 Res.typeLength.code [])) ∧
      (leNat (a.pdu.take 1) = 0x10 → lengthAgrees o a.pdu = true →
        (id = 0 →
          (∀ es', queueRequest es q = some es' → Answers .changePublication s fun u =>
            (u.dev.reqPort o).entries = es' ∧ (u.dev.reqPort o).arrived = [] ∧ (u.dev.reqPort o).tx = tx) ∧
          (queueRequest es q = none → (s.dev.reqPort o).window = s.dev.serveSlot o / 2000 →
            (s.dev.reqPort o).refusals < 16 → tx.length < txRoom o → Answers .changePublication s fun u =>
              refused 0 Res.refusedBusy.code [] u ∧ (u.dev.reqPort o).refusals = (s.dev.reqPort o).refusals + 1)) ∧
        (id ≠ 0 →
          (s.dev.sessionFor o a.who a.pdu = none → tx.length < txRoom o →
            Answers .changePublication s (refused 0 Res.sessionInvalid.code [])) ∧
          (∀ x, s.dev.sessionFor o a.who a.pdu = some x →
            (x.seqCheck q.seq = 2 → tx.length < txRoom o → Answers .changePublication s (refused id Res.sessionInvalid.code x.key)) ∧
            (∀ es', x.seqCheck q.seq = 0 → queueRequest es q = some es' → Answers .changePublication s fun u =>
              (u.dev.reqPort o).entries = es' ∧ (u.dev.reqPort o).arrived = [] ∧ (u.dev.reqPort o).tx = tx ∧
              ∃ z, u.dev.session id = some z ∧ z.high = max x.high q.seq ∧ q.seq ∈ z.seen ∧ z.since = a.slot)))))

/-- Reading in a service slot: the value as visible, or a segment of it behind its total length, is answered; a refused read is
answered with its result; an object of the other lane goes over the bridge and is answered from there 2 slots later, with the
result of its checks where it is refused there, or where its home lane has been lost on the way (R28, R340, R347, R350, R361,
R362). -/
def Sys2Proof.Says.ReadsAreAnswered : Prop :=
  ∀ (s : State) (o : Origin), s.dev.frozen = false →
    (s.dev.chosen o = none → exec (.read o) s = .next s ∧ exec (.readSegment o) s = .next s) ∧
    (∀ i r c, s.dev.chosen o = some (i, r) → r.wellFormed = true →
      let d := s.dev.taken o i r
      let y := s.dev.replyNow o r
      let l := d.serveLane o
      let answered := fun (res : Res) (b : List Byte) (u : State) =>
        (u.dev.reqPort o).tx = (s.dev.reqPort o).tx ++ [d.response y res b] ∧ u.dev.objs = d.objs
      d.reqCtx o r = some c →
      (r.row = 1 → d.atHome l r.key →
        (d.readRes c r.key = .ok → r.key ≠ 0x132000 → r.key ≠ 0x240600 →
          (d.visible l c r.key).length ≤ payloadMax o → Answers (.read o) s (answered .ok (d.visible l c r.key))) ∧
        (d.readRes c r.key ≠ .ok → Answers (.read o) s (answered (d.readRes c r.key) []))) ∧
      (r.row ≠ 1 → exec (.read o) s = .next s) ∧
      (r.row = 3 → d.atHome l r.key → d.readRes c r.key = .ok → r.key ≠ 0x132000 → r.key ≠ 0x240600 →
        leNat (slice r.payload 4 4) ≤ (d.visible l c r.key).length →
        let v := d.visible l c r.key
        let n := min (leNat (slice r.payload 8 2)) (payloadMax o - 4)
        Answers (.readSegment o) s (answered .ok (toLE 4 v.length ++ slice v (leNat (slice r.payload 4 4)) n))) ∧
      (∀ h, r.row = 1 → homeOf (r.key / 256) = .lane h → h ≠ l → d.laneLost h = false → d.boot.laneB = true →
        Answers (.read o) s fun u => u.dev.net.bridge =
          s.dev.net.bridge ++ [⟨originCode o, (s.dev.lane h).slots + 2, h, y.delay, r⟩])) ∧
    (∀ (j : BridgeJob) rest c, s.dev.net.bridge = j :: rest → j.origin = originCode o →
      j.due ≤ (s.dev.lane j.home).slots → s.dev.laneLost j.home = false → j.req.row = 1 →
      (s.dev.reqPort o).tx.length < txRoom o →
      s.dev.reqCtx o j.req = some c → s.dev.readRes c j.req.key = .ok → j.req.key ≠ 0x132000 → j.req.key ≠ 0x240600 →
      (s.dev.visible j.home c j.req.key).length ≤ payloadMax o → Answers (.bridgeExecution o) s fun u =>
        u.dev.net.bridge = rest ∧ (u.dev.reqPort o).tx = (s.dev.reqPort o).tx ++
          [s.dev.response (s.dev.replyTo o j.req j.delay) .ok (s.dev.visible j.home c j.req.key)]) ∧
    (∀ (j : BridgeJob) rest c, s.dev.net.bridge = j :: rest → j.origin = originCode o →
      j.due ≤ (s.dev.lane j.home).slots → j.req.row = 1 → (s.dev.reqPort o).tx.length < txRoom o →
      s.dev.reqCtx o j.req = some c → s.dev.readRes c j.req.key ≠ .ok → Answers (.bridgeExecution o) s fun u =>
        u.dev.net.bridge = rest ∧ u.dev.objs = s.dev.objs ∧ (u.dev.reqPort o).tx = (s.dev.reqPort o).tx ++
          [s.dev.response (s.dev.replyTo o j.req j.delay) (s.dev.readRes c j.req.key) []])

/-- Writing in a service slot: a permitted change goes to the writer and is not visible yet, a permitted Process write to the
next boundary; a refused write is answered with its result; a first segment opens an assembly; segments of the staging buffer
and of the inactive bank go to the next boundary too. A write that came over the bridge is judged and carried out in the same way
in the home lane (R28, R81, R341, R350, R361, R364, R373, R395).
Model's choices: Process writes answered in their slot, segments that start a buffer (log entries 89, 91, 96). -/
def Obligations.WritesAreJudgedAndQueued : Prop :=
  ∀ (s : State) (o : Origin) (vpp : Nat), s.dev.frozen = false →
    (s.dev.chosen o = none → exec (.write o vpp) s = .next s ∧ exec (.writeSegment o vpp) s = .next s ∧
      exec (.stagingBufferWrite o) s = .next s ∧ exec (.bankStaging o) s = .next s) ∧
    (∀ i r c, s.dev.chosen o = some (i, r) → r.wellFormed = true →
      let d := s.dev.taken o i r
      let y := s.dev.replyNow o r
      let l := d.serveLane o
      d.reqCtx o r = some c → d.atHome l r.key →
      (∀ row, r.row = 2 → objRow (r.key / 256) (r.key % 256) = some row →
        let res := d.judge c vpp r.key (r.payload.drop 4)
        (res = .ok → isChange row = true → d.queueRoom = true → Answers (.write o vpp) s fun u =>
          u.dev.wr.queue.length = s.dev.wr.queue.length + 1 ∧ u.dev.objs = d.objs ∧
          u.dev.published = s.dev.published ∧ (u.dev.reqPort o).tx = (s.dev.reqPort o).tx) ∧
        (res = .ok → isChange row = false → Answers (.write o vpp) s fun u =>
          u.dev.wr.procs = s.dev.wr.procs ++
            [⟨r.key, r.payload.drop 4, c.session, c.origin, l, (s.dev.lane l).slots + 1, false⟩] ∧ u.dev.objs = d.objs ∧
          (u.dev.reqPort o).tx = (s.dev.reqPort o).tx ++ [d.response y .ok []]) ∧
        (res ≠ .ok → Answers (.write o vpp) s fun u =>
          (u.dev.reqPort o).tx = (s.dev.reqPort o).tx ++ [d.response y res []] ∧
          u.dev.wr.procs = s.dev.wr.procs)) ∧
      (r.row = 4 → slice r.payload 3 1 = [1] → leNat (slice r.payload 4 4) = 0 →
        ∀ row x, d.headRes c.role (r.key / 256) (r.key % 256) = .ok → objRow (r.key / 256) (r.key % 256) = some row →
          accessOk row.access (d.committed c.origin).mode = true → d.homeLost (r.key / 256) = false →
          row.type = .octets → (r.payload.drop 8).length ≤ row.len.max → (r.payload.drop 8).length ≤ 1024 →
          d.session c.session = some x → Answers (.writeSegment o vpp) s fun u =>
            ∃ z, u.dev.session c.session = some z ∧ z.asm = some (r.key, r.payload.drop 8) ∧ u.dev.objs = d.objs) ∧
      (let first := leNat (slice r.payload 3 1) % 2 == 1
       let off := leNat (slice r.payload 4 4)
       let data := r.payload.drop 8
       let queued := fun (key : Nat) (u : State) =>
         u.dev.wr.procs = s.dev.wr.procs ++ [⟨key, (if first then [] else s.dev.pendingBytes key) ++ data, c.session,
           c.origin, l, (s.dev.lane l).slots + 1, !first⟩] ∧ u.dev.objs = d.objs ∧ u.dev.flash = s.dev.flash ∧
         (u.dev.reqPort o).tx = (s.dev.reqPort o).tx ++ [d.response y .ok []]
       (r.row = 0x81 → d.directRes c 0x261100 first off data.length = .ok →
          Answers (.stagingBufferWrite o) s (queued 0x261100)) ∧
        (r.row = 0x82 → d.directRes c 0x141000 first off data.length = .ok →
          Answers (.bankStaging o) s (queued 0x141000)))) ∧
    (∀ (j : BridgeJob) rest c row, s.dev.net.bridge = j :: rest → j.origin = originCode o →
      j.due ≤ (s.dev.lane j.home).slots → j.req.row = 2 → s.dev.reqCtx o j.req = some c →
      objRow (j.req.key / 256) (j.req.key % 256) = some row →
      let raw := j.req.payload.drop 4
      let res := s.dev.judge c 0 j.req.key raw
      let y := s.dev.replyTo o j.req j.delay
      let tx := (s.dev.reqPort o).tx
      (s.dev.laneLost j.home = false → res = .ok → isChange row = true → s.dev.queueRoom = true →
        Answers (.bridgeExecution o) s fun u => u.dev.net.bridge = rest ∧ u.dev.objs = s.dev.objs ∧
          u.dev.wr.queue.length = s.dev.wr.queue.length + 1 ∧ u.dev.wr.procs = s.dev.wr.procs ∧
          (∃ q, q ∈ u.dev.wr.queue ∧ q.lane = j.home ∧ q.write = some (j.req.key, raw)) ∧ (u.dev.reqPort o).tx = tx) ∧
      (s.dev.laneLost j.home = false → res = .ok → isChange row = false → tx.length < txRoom o →
        Answers (.bridgeExecution o) s fun u => u.dev.net.bridge = rest ∧ u.dev.objs = s.dev.objs ∧
          u.dev.wr.procs = s.dev.wr.procs ++
            [⟨j.req.key, raw, c.session, c.origin, j.home, (s.dev.lane j.home).slots + 1, false⟩] ∧
          (u.dev.reqPort o).tx = tx ++ [s.dev.response y .ok []]) ∧
      (res ≠ .ok → tx.length < txRoom o → Answers (.bridgeExecution o) s fun u => u.dev.net.bridge = rest ∧
        u.dev.wr.procs = s.dev.wr.procs ∧ (u.dev.reqPort o).tx = tx ++ [s.dev.response y res []]))

/-! ### Sessions -/

/-- A session: OPEN reserves an ID for a role with the host's nonce; AUTH with the right proof opens it, and another one frees
the ID and is counted, four times in a row locking the port; CLOSE and the time-outs take it from the table (R342, R344).
Model's choices: the random source and result codes the manual leaves open (log entry 90). -/
def Obligations.SessionsOpenAndClose : Prop :=
  ∀ (s : State) (o : Origin), s.dev.frozen = false →
    (∀ i r c, s.dev.chosen o = some (i, r) → r.wellFormed = true →
      let d := s.dev.taken o i r
      d.reqCtx o r = some c →
      (let role := leNat (r.payload.take 1)
       r.row = 0x10 → d.lockout o = 0 → 1 ≤ role → role ≤ 3 → none ∈ s.dev.net.sessions →
        Answers (.openSession o) s fun u => ∃ x, some x ∈ u.dev.net.sessions ∧ x.isOpen = false ∧ x.role = role ∧
          x.origin = originCode o ∧ x.partner = r.partner ∧ x.nh = r.payload.drop 4 ∧ u.dev.wr = s.dev.wr) ∧
      (∀ x k, r.row = 0x11 → d.session (leNat (slice r.payload 0 2)) = some x → x.isOpen = false →
        x.origin = originCode o → x.partner = r.partner → d.roleKey (d.serveLane o) x.role = some k →
        (x.since + 2000000 < r.stamp → Answers (.auth o) s fun u => u.dev.net.sessions = s.dev.net.sessions ∧
          (u.dev.reqPort o).tx = (s.dev.reqPort o).tx ++ [d.response (s.dev.replyNow o r) .sessionInvalid []]) ∧
        (r.stamp ≤ x.since + 2000000 → cmac k (0x01 :: x.proofBytes) = r.payload.drop 4 → Answers (.auth o) s fun u =>
          (∃ z, u.dev.session x.id = some z ∧ z.isOpen = true ∧ z.role = x.role ∧
            z.key = cmac k (0x03 :: x.proofBytes)) ∧ (u.dev.reqPort o).fails = 0) ∧
        (r.stamp ≤ x.since + 2000000 → cmac k (0x01 :: x.proofBytes) ≠ r.payload.drop 4 → Answers (.auth o) s fun u =>
          u.dev.session x.id = none ∧ u.dev.num 0x1200 3 = min (s.dev.num 0x1200 3 + 1) 4294967295 ∧
          (u.dev.reqPort o).fails = (s.dev.reqPort o).fails + 1 ∧
          (3 ≤ (s.dev.reqPort o).fails → (u.dev.reqPort o).lockAt ≠ none))) ∧
      (r.row = 0x12 → c.session ≠ 0 → Answers (.close o) s fun u =>
        u.dev.session c.session = none ∧
        ∀ k, k < 16 → s.dev.nat (streamIdx k) 0x11 = c.session → u.dev.num (streamIdx k) 0x11 = 0)) ∧
    (∀ id x, s.dev.session id = some x →
      (x.isOpen = false → 2000000 < s.dev.sessionAge x → s.dev.authWaits x = false → Answers (.openExpiry id) s fun u =>
        u.dev.session id = none ∧ u.dev.flash = s.dev.flash) ∧
      (x.isOpen = true ∨ s.dev.authWaits x = true → exec (.openExpiry id) s = .next s) ∧
      (x.isOpen = true → s.dev.nat 0x1200 1 * 2000 < s.dev.sessionAge x → Answers (.sessionTimeout id) s fun u =>
        u.dev.session id = none) ∧
      (s.dev.sessionAge x ≤ s.dev.nat 0x1200 1 * 2000 → exec (.sessionTimeout id) s = .next s)) ∧
    (∀ t, (s.dev.reqPort o).lockAt = some t → t + 2000000 ≤ s.dev.serveSlot o → Answers (.authLockoutExpiry o) s fun u =>
      (u.dev.reqPort o).lockAt = none ∧ (u.dev.reqPort o).fails = 0 ∧ u.dev.objs = s.dev.objs) ∧
    ((s.dev.reqPort o).lockAt = none → exec (.authLockoutExpiry o) s = .next s)

/-! ### Streams -/

/-- A stream is attached to a session and detached; an accepted frame makes it LIVE, is counted and carries its sequence
number, and its values are on their way to the boundaries of their home lanes; a refused one is counted; without a frame for its
timeout it is TIMED_OUT; a transmit stream sends in the slots of its period, under its next sequence number, the values of its
mapping as visible in the slot (R351 to R355).
Model's choices: states at attach and detach, two frames of one slot, the address of a transmit stream, and what
it sends of an object that nobody reads (log entries 93, 127, 181). -/
def Obligations.StreamsCarryValues : Prop :=
  ∀ (s : State) (o : Origin), s.dev.frozen = false →
    (∀ i r c, s.dev.chosen o = some (i, r) → r.wellFormed = true →
      let d := s.dev.taken o i r
      let k := leNat (r.payload.take 1)
      d.reqCtx o r = some c →
      (r.row = 0x20 → d.attachRes c k = .ok → Answers (.attach o) s fun u =>
        u.dev.num (streamIdx k) 0x11 = c.session ∧ (s.dev.streamRx k = false → u.dev.num (streamIdx k) 0x10 = 4) ∧
        (u.dev.reqPort o).tx = (s.dev.reqPort o).tx ++ [d.response (s.dev.replyNow o r) .ok []]) ∧
      (r.row = 0x20 → d.attachRes c k ≠ .ok → Answers (.attach o) s fun u => u.dev.objs = d.objs) ∧
      (r.row = 0x21 → k < 16 → c.session ≠ 0 → s.dev.nat (streamIdx k) 0x11 = c.session → Answers (.detach o) s fun u =>
        u.dev.num (streamIdx k) 0x11 = 0)) ∧
    (∀ (h : FrameHead) can pdu,
      let k := leNat (slice pdu 1 1)
      let x := s.dev.net.streams.getD k Stream.atReset
      let l := s.dev.serveLane o
      (s.dev.busUp o = false ∨ s.dev.takesFrame o h can 47121 2 = false →
        exec (.streamFrameArrival o h can pdu) s = .next s) ∧
      (s.dev.busUp o = true → s.dev.takesFrame o h can 47121 2 = true →
        (s.dev.frameOk o (partnerOf o h can) pdu = true → s.dev.net.streams.length = 16 → x.got = false →
          Answers (.streamFrameArrival o h can pdu) s fun u =>
            (u.dev.net.streams.getD k Stream.atReset).seq = leNat (slice pdu 4 4) ∧
            (u.dev.net.streams.getD k Stream.atReset).got = true ∧ u.dev.num (streamIdx k) 0x10 = 2 ∧
            u.dev.num (streamIdx k) 0x12 = min (s.dev.num (streamIdx k) 0x12 + 1) 4294967295 ∧
            (∀ q, q ∈ u.dev.net.pubs → q ∈ s.dev.net.pubs ∨ (q.stream = k ∧
              q.due = (s.dev.lane q.lane).slots + (if q.lane = l then 2 else 3))) ∧
            ∀ v, v ∈ cutValues (s.dev.streamMap k) (slice pdu 16 (leNat (slice pdu 8 2))) →
              (objRow (v.1 / 256) (v.1 % 256)).isSome = true → s.dev.laneLost (s.dev.pubSlotOf l v.1).1 = false →
              (⟨k, (s.dev.pubSlotOf l v.1).1, (s.dev.pubSlotOf l v.1).2, (s.dev.lane l).slots + 1, v.1, v.2⟩ : StreamPub) ∈
                u.dev.net.pubs) ∧
        (s.dev.frameOk o (partnerOf o h can) pdu = false → 16 ≤ pdu.length → k < 16 →
          Answers (.streamFrameArrival o h can pdu) s fun u =>
            u.dev.num (streamIdx k) 0x13 = min (s.dev.num (streamIdx k) 0x13 + 1) 4294967295 ∧
            u.dev.net = s.dev.net))) ∧
    (∀ k, k < 16 →
      let x := s.dev.net.streams.getD k Stream.atReset
      let l := s.dev.streamLane k
      let q := s.dev.streamPort k
      let id := s.dev.nat (streamIdx k) 0x11
      let data := (s.dev.streamMap k).flatMap fun e => s.dev.mapped (s.dev.serveLane q) (s.dev.sessionCtx id) e
      let pdu := taggedPdu id (((s.dev.openSession id).map fun x => x.key).getD []) (toLE 1 0x12 ++ toLE 1 k ++ toLE 2 id ++
        toLE 4 ((x.seq + 1) % 2 ^ 32) ++ toLE 2 data.length ++ List.replicate 6 0 ++ data)
      (∀ e, e ∈ s.dev.streamMap k → writeOnly (mapKey e) = false →
        (s.dev.visible (s.dev.serveLane q) (s.dev.sessionCtx id) (mapKey e)).length = mapLen e →
        s.dev.mapped (s.dev.serveLane q) (s.dev.sessionCtx id) e =
          s.dev.visible (s.dev.serveLane q) (s.dev.sessionCtx id) (mapKey e)) ∧
      (s.dev.num (streamIdx k) 0x10 ≠ 2 → exec (.streamTimeout k) s = .next s) ∧
      (s.dev.streamOn k = true → s.dev.streamRx k = true → s.dev.num (streamIdx k) 0x10 = 2 →
        (if l = .a then x.stampA else x.stampB) + s.dev.streamSlots k < (s.dev.lane l).slots →
        Answers (.streamTimeout k) s fun u => u.dev.num (streamIdx k) 0x10 = 3 ∧
          u.dev.num (streamIdx k) 0x15 = min (s.dev.num (streamIdx k) 0x15 + 1) 4294967295) ∧
      (s.dev.portUp q = true → s.dev.num (streamIdx k) 0x10 = 4 → id ≠ 0 → x.sentSlot ≠ some (s.dev.serveSlot q) →
        s.dev.serveSlot q % (s.dev.nat (streamIdx k) 4 * 2) = 0 → (s.dev.reqPort q).tx.length < txRoom q →
        s.dev.net.streams.length = 16 → Answers (.streamTransmit k) s fun u =>
          (∃ f, f ∈ (u.dev.reqPort q).tx ∧ f.stream = true ∧ f.slot = s.dev.serveSlot q ∧
            f.dest = (s.dev.sessionCtx id).partner ∧ f.pdu = (if q = .n3 then canData pdu else pdu) ∧
            ((q = .n1 ∨ q = .n2) → ∀ x, s.dev.openSession id = some x → f.head = .udp x.ip 47121 47121) ∧
            (q = .n3 → f.head = .can (s.dev.canIdOf 2 f.dest))) ∧
          (u.dev.net.streams.getD k Stream.atReset).seq = (x.seq + 1) % 2 ^ 32 ∧
          (u.dev.net.streams.getD k Stream.atReset).sentSlot = some (s.dev.serveSlot q) ∧
          u.dev.num (streamIdx k) 0x12 = min (s.dev.num (streamIdx k) 0x12 + 1) 4294967295))

/-! ### Below Pelnak -/

/-- A T1S port answers ARP for the address in use, solicitations of its IPv6 address and echo requests to its own addresses,
claims a link-local address or finds a conflict; N3 goes to bus-off, counted, and back; lane B takes N3 over from a lost lane A
(R334, R336, R338).
Model's choices: the link-local block, replies in the transmit queue, and the service of a port off the bus (log
entries 94, 128). -/
def Obligations.PortsAnswerBelowPelnak : Prop :=
  ∀ (s : State) (n : NetPort), s.dev.frozen = false →
    let o := originOfNet n
    let y := netIdx o
    let sent := fun (mac pl : List Byte) (u : State) =>
      (u.dev.reqPort o).tx = (s.dev.reqPort o).tx ++ [⟨false, .low, pad8 mac, pl, s.dev.serveSlot o⟩] ∧ u.dev.objs = s.dev.objs
    (s.dev.portUp o = true → (s.dev.reqPort o).tx.length < 32 →
      (∀ mac ip, s.dev.bit y 0x10 1 = true → s.dev.nat y 0x11 = ip →
        Answers (.arpRequest n mac ip) s (sent mac (s.dev.bytes y 2))) ∧
      (∀ mac ip, s.dev.nat y 0x11 ≠ ip → exec (.arpRequest n mac ip) s = .next s) ∧
      (∀ mac, Answers (.neighbourSolicitation n mac (s.dev.ipv6 o)) s (sent mac (s.dev.bytes y 2))) ∧
      (∀ mac target, target ≠ s.dev.ipv6 o → exec (.neighbourSolicitation n mac target) s = .next s) ∧
      (∀ (h : FrameHead) data, s.dev.addressed o h = true → (s.dev.reqPort o).echoSlot = none →
        Answers (.echoRequest n h data) s (sent h.mac data)) ∧
      (∀ (h : FrameHead) data, s.dev.addressed o h = false → exec (.echoRequest n h data) s = .next s) ∧
      (∀ (h : FrameHead) data t, (s.dev.reqPort o).echoSlot = some t → s.dev.serveSlot o < t + 2000 →
        exec (.echoRequest n h data) s = .next s)) ∧
    (∀ addr, s.dev.portUp o = true → s.dev.num y 3 = 0 → addr / 65536 = 0xA9FE →
      Answers (.ipv4LinkLocalClaim n addr false) s (fun u =>
        u.dev.num y 0x11 = addr ∧ u.dev.bit y 0x10 1 = true ∧ u.dev.bit y 0x10 2 = false) ∧
      Answers (.ipv4LinkLocalClaim n addr true) s (fun u =>
        u.dev.num y 0x11 = 0 ∧ u.dev.bit y 0x10 1 = false ∧ u.dev.bit y 0x10 2 = true)) ∧
    (s.dev.portUp .n3 = true → s.dev.num 0x1130 0x11 ≠ 2 → Answers .busOff s fun u =>
      u.dev.num 0x1130 0x11 = 2 ∧ u.dev.num 0x1130 0x18 = min (s.dev.num 0x1130 0x18 + 1) 4294967295 ∧
      u.dev.net = s.dev.net) ∧
    (s.dev.num 0x1130 0x11 = 2 → Answers .busOffRecovery s fun u => u.dev.num 0x1130 0x11 = 0 ∧ u.dev.net = s.dev.net) ∧
    (s.dev.laneLost .a = true → (s.dev.lane .b).alive = true → s.dev.laneLost .b = false → s.dev.bit 0x2400 3 3 = true →
      s.dev.num 0x1130 0x10 = 0 → s.dev.net.latchB = false → Answers .n3Takeover s fun u =>
        u.dev.net.latchB = true ∧ (u.dev.reqPort .n3).tx = [] ∧
        (∀ e, e ∈ (u.dev.reqPort .n3).entries → e.queue = []) ∧ u.dev.num 0x1130 0x10 = 0) ∧
    (s.dev.net.latchB = true → s.dev.num 0x1130 0x10 = 0 → s.dev.laneLost .b = false → Answers .n3TakeoverComplete s fun u =>
      u.dev.num 0x1130 0x10 = 1 ∧ u.dev.net = s.dev.net)

/-! ### Schedule images -/

/-- A staged image is verified, accepted or refused with result, reason, lane and offset, and activated: it is the active image
at once with the monitors disarmed, and 2000 slots later hyperframe index 0 opens with the monitors armed and every cell
initialised; at the end of start-up that is STANDBY, frozen at once where LULL_N was held low (R74, R79, R81, R82, R83, R441).
Model's choices: readings of the loader and the instants of an activation, and what the old image still writes
(log entries 17 to 20, 25 to 28, 171). -/
def Obligations.StagedImagesAreVerifiedAndActivated : Prop :=
  ∀ (s : State) (v : ObjVal) (session origin : Nat) (rest : List Published), s.dev.frozen = false →
    (s.dev.published = ⟨objKey 0x2610 0, v, session, origin⟩ :: rest → Answers .verifyStagedImage s fun u =>
      u.dev.num 0x2620 1 = 2 ∧ u.dev.wr.verify = true ∧ u.dev.wr.staged = none ∧ u.dev.published = rest ∧
      u.dev.image = s.dev.image) ∧
    (s.dev.wr.verify = true →
      (∀ im, s.dev.checkImage (s.dev.bytes 0x2611 0) = .accepted im → Answers .imageVerificationComplete s fun u =>
        u.dev.num 0x2620 1 = 3 ∧ u.dev.wr.staged = some im ∧ u.dev.wr.verify = false ∧ u.dev.image = s.dev.image) ∧
      (∀ res reason lane off, s.dev.checkImage (s.dev.bytes 0x2611 0) = .refused res reason lane off →
        Answers .imageVerificationComplete s fun u =>
          u.dev.num 0x2620 1 = 4 ∧ u.dev.num 0x2620 2 = res.code ∧ u.dev.num 0x2620 3 = reason ∧
          u.dev.num 0x2620 4 = lane ∧ u.dev.num 0x2620 5 = off ∧ u.dev.wr.staged = none ∧
          u.dev.image = s.dev.image)) ∧
    (∀ im, s.dev.published = ⟨objKey 0x2612 0, v, session, origin⟩ :: rest → s.dev.wr.staged = some im →
      Answers .activateStagedImage s fun u =>
        u.dev.image = some im ∧ u.dev.monArmed = false ∧ u.dev.activeAt = some (s.dev.slotNow + 2000) ∧
        u.dev.num 0x2600 1 = im.id ∧ u.dev.num 0x2600 3 = 0x10 ∧ u.dev.published = rest) ∧
    (s.dev.published = ⟨objKey 0x2612 0, v, session, origin⟩ :: rest → s.dev.wr.staged = none →
      Answers .activateStagedImage s fun u => u.dev.image = s.dev.image ∧ u.dev.published = rest) ∧
    (∀ t im, s.dev.activeAt = some t → s.dev.image = some im →
      (s.dev.slotNow < t → exec .imageHyperframeStart s = .next s) ∧
      (t ≤ s.dev.slotNow → Answers .imageHyperframeStart s fun u =>
        u.dev.monArmed = true ∧ u.dev.activeAt = none ∧ (∀ l, (u.dev.lane l).hyper = 0) ∧
        (∀ p, (u.dev.port p).cells = (s.dev.port p).cells.activated (s.dev.slotOf p)) ∧
        (s.dev.boot.phase = .imageDue → u.dev.boot.phase = .up ∧ u.dev.mode = 2 ∧ u.dev.frozen = s.dev.boot.lullLow) ∧
        (s.dev.boot.phase ≠ .imageDue → u.dev.boot = s.dev.boot ∧ u.dev.mode = s.dev.mode)))

/-! ### Profiles, device records and banks -/

/-- A profile named by its command is loaded as a whole or not at all: on success every object that profiles hold takes its
value and the profile's image is activated; on failure the cause is reported and the image stays (R389, R390, R391, R396). -/
def Sys2Proof.Says.ProfilesAreLoadedWhole : Prop :=
  ∀ (s : State), s.dev.frozen = false →
    (∀ v session origin rest, s.dev.published = ⟨objKey 0x1401 0, v, session, origin⟩ :: rest →
      Answers .selectProfile s fun u => u.dev.wr.op = some (.load v.toInt.toNat) ∧ u.dev.num 0x1400 4 = 1 ∧
        u.dev.num 0x1400 5 = 0 ∧ u.dev.published = rest ∧ u.dev.image = s.dev.image) ∧
    (∀ n, s.dev.wr.op = some (.load n) → s.dev.powered = true →
      (∀ cause v, s.dev.readProfile n = .bad cause v → Answers .profileLoadComplete s fun u =>
        u.dev.num 0x1400 4 = 5 ∧ u.dev.num 0x1400 5 = cause ∧ u.dev.wr.op = none ∧ u.dev.image = s.dev.image ∧
        u.dev.ports = s.dev.ports) ∧
      (∀ recs im, s.dev.readProfile n = .good recs im → Answers .profileLoadComplete s fun u =>
        u.dev.num 0x1400 4 = 4 ∧ u.dev.num 0x1400 1 = n ∧ u.dev.num 0x1400 2 = 1 ∧ u.dev.wr.op = none ∧
        u.dev.image = some im ∧ u.dev.activeAt = some (s.dev.slotNow + 2000) ∧
        ∀ k, k ∈ profileKeys → u.dev.objs.get k = s.dev.loadedVal recs k)) ∧
    (s.dev.wr.op = none → exec .profileLoadComplete s = .next s)

/-- A save captures the setup at its publication and erases the half that does not hold the newest copy, which is then programmed,
or, read back differently, is as it was read and no valid half; an erase leaves both halves erased (R391 to R393, R396). -/
def Sys2Proof.Says.ProfilesAreSavedAndErased : Prop :=
  ∀ (s : State), s.dev.frozen = false →
    (∀ v session origin rest,
      let n := v.toInt.toNat
      let h := s.dev.flash.spareHalf n
      s.dev.published = ⟨objKey 0x1402 0, v, session, origin⟩ :: rest → Answers .saveProfile s fun u =>
        u.dev.wr.op = some (.save n h (s.dev.savedHalf n)) ∧ u.dev.flash.half n h = Half.atReset ∧
        u.dev.num 0x1400 4 = 2 ∧ u.dev.published = rest) ∧
    (∀ v session origin rest, s.dev.published = ⟨objKey 0x1403 0, v, session, origin⟩ :: rest →
      Answers .eraseProfile s fun u => u.dev.wr.op = some (.erase v.toInt.toNat) ∧ u.dev.num 0x1400 4 = 3 ∧
        u.dev.published = rest ∧ u.dev.flash = s.dev.flash) ∧
    (s.dev.powered = true →
      (∀ n h x, s.dev.wr.op = some (.save n h x) → 2 * n + h < s.dev.flash.halves.length →
        Answers (.profileSaveComplete none) s (fun u =>
          u.dev.flash.half n h = x ∧ u.dev.num 0x1400 4 = 4 ∧ u.dev.wr.op = none) ∧
        ∀ b, Answers (.profileSaveComplete (some b)) s fun u =>
          let y : Half := ⟨b.header, b.records, b.image⟩
          (y.valid n = false → u.dev.flash.half n h = y) ∧ (u.dev.flash.half n h).valid n = false ∧
          (∀ m k, (m, k) ≠ (n, h) → h < 2 → k < 2 → u.dev.flash.half m k = s.dev.flash.half m k) ∧
          u.dev.num 0x1400 4 = 5 ∧ u.dev.num 0x1400 5 = 5 ∧ u.dev.wr.op = none) ∧
      (∀ n, s.dev.wr.op = some (.erase n) → Answers .profileEraseComplete s fun u =>
        u.dev.flash.empty n = true ∧ u.dev.num 0x1400 4 = 4 ∧ u.dev.wr.op = none ∧
        ∀ m h, m ≠ n → h < 2 → u.dev.flash.half m h = s.dev.flash.half m h))

/-- A change that a device record holds is written into the older copy before it is published; a staged bank is checked as at
start-up, and a switch names it for the next reset (R394, R395). -/
def Sys2Proof.Says.RecordsAndBanksAreWritten : Prop :=
  ∀ (s : State), s.dev.frozen = false →
    let active := s.dev.nat 0x2640 4
    (s.dev.powered = true →
      (∀ j c rest, s.dev.wr.recDue = j :: rest → j.change = some c → Answers .deviceRecordWrite s fun u =>
        u.dev.flash = s.dev.flash.putRecord (s.dev.recordWith c) ∧ u.dev.wr.recDue = rest ∧
        u.dev.wr.done = s.dev.wr.done ++ [(j, s.dev.slotNow)] ∧ u.dev.objs = s.dev.objs) ∧
      (s.dev.wr.op = some .bankErase → Answers .bankEraseComplete s fun u =>
        u.dev.wr.op = none ∧ u.dev.num 0x1413 2 = 2 ∧ u.dev.flash.bank (1 - active) = s.dev.bytes 0x1410 0) ∧
      (s.dev.wr.op = some .bankCheck → Answers .bankVerificationComplete s fun u =>
        u.dev.wr.op = none ∧ u.dev.flash = s.dev.flash ∧
        u.dev.num 0x1413 2 = (if bankOk (s.dev.flash.bank (1 - active)) then 4 else 5))) ∧
    (s.dev.wr.op = none → exec .bankEraseComplete s = .next s ∧ exec .bankVerificationComplete s = .next s) ∧
    (∀ v session origin rest,
      (s.dev.published = ⟨objKey 0x1411 0, v, session, origin⟩ :: rest → Answers .verifyInactiveBank s fun u =>
        u.dev.wr.op = some .bankCheck ∧ u.dev.num 0x1413 2 = 3 ∧ u.dev.published = rest) ∧
      (s.dev.published = ⟨objKey 0x1412 0, v, session, origin⟩ :: rest → Answers .switchBanks s fun u =>
        u.dev.num 0x1413 1 = (1 - active : Nat) ∧ u.dev.published = rest ∧ u.dev.flash = s.dev.flash))

/-! ### Fuses -/

/-- A fuse word is programmed from its publication on: its bits are set and both shadows take it at the next boundary, a
privileged word being closed; outside a supply window, and without verification, a privileged word fails with the bits
pulsed so far, and an ordinary one that does not verify reads from a spare row from then on (R414, R419 to R421). -/
def Sys2Proof.Says.FuseWordsAreProgrammed : Prop :=
  ∀ (s : State), s.dev.frozen = false →
    (∀ v session origin rest,
      let w := rdLE v.toBytes 0 2
      s.dev.published = ⟨objKey 0x2402 0, v, session, origin⟩ :: rest → Answers .programWord s fun u =>
        u.dev.otp.op = some (.program w (BitVec.ofNat 32 (rdLE v.toBytes 4 4))) ∧ u.dev.num 0x2405 1 = 1 ∧
        u.dev.num 0x2405 3 = w ∧ u.dev.published = rest ∧ u.dev.fuses = s.dev.fuses) ∧
    (∀ w v r, s.dev.otp.op = some (.program w v) → s.dev.powered = true → s.dev.devFaulted .commonOtp = false →
      let old := fun (x : Nat) => s.dev.fuses.word x
      ((r.windowLeft = true ∨ s.dev.otp.left = true) → Answers (.otpProgramComplete r) s fun u =>
        (∀ x, u.dev.fuses.word x = if x = w then old w ||| (v &&& BitVec.ofNat 32 r.pulsed) else old x) ∧
        u.dev.num 0x2405 1 = 4 ∧ u.dev.num 0x2405 2 = Res.otpSupplyWindow.code ∧ u.dev.otp.op = none) ∧
      (r.windowLeft = false → s.dev.otp.left = false →
      (r.verified = true → Answers (.otpProgramComplete r) s fun u =>
        (∀ x, u.dev.fuses.word x = if x = w then old w ||| v else old x) ∧
        u.dev.num 0x2405 1 = 3 ∧ u.dev.num 0x2405 2 = 0 ∧ u.dev.otp.op = none ∧
        u.dev.otp.due = s.dev.otp.due ++ [(w, s.dev.slotNow + 1)] ∧ (w < 16 → w ∈ u.dev.fuses.closed)) ∧
      (r.verified = false → w < 16 → Answers (.otpProgramComplete r) s fun u =>
        (∀ x, u.dev.fuses.word x = if x = w then old w ||| (v &&& BitVec.ofNat 32 r.pulsed) else old x) ∧
        u.dev.num 0x2405 1 = 4 ∧ u.dev.num 0x2405 2 = 0x0804 ∧ u.dev.otp.due = s.dev.otp.due ∧
        u.dev.fuses.closed = s.dev.fuses.closed) ∧
      (r.verified = false → 16 ≤ w → s.dev.fuses.spares < 32 → r.spareOk = true →
        Answers (.otpProgramComplete r) s fun u => u.dev.fuses.spares = s.dev.fuses.spares + 1 ∧
          u.dev.num 0x2400 8 = u.dev.fuses.spares ∧ ∀ x, u.dev.fuses.word x = if x = w then old w ||| v else old x)))

/-- A region is locked if it passes its test on a fresh reading, and otherwise refused with its words unchanged; the periodic
re-read reports drifted words, and one that cannot be completed raises FLT_COMMON_OTP; a read of ordinary words is answered
once they are read (R422, R423, R426, R427). -/
def Sys2Proof.Says.RegionsAreLockedAndReread : Prop :=
  ∀ (s : State), s.dev.frozen = false →
    let old := fun (x : Nat) => s.dev.fuses.word x
    (∀ v session origin rest, s.dev.published = ⟨objKey 0x2403 0, v, session, origin⟩ :: rest →
      Answers .lockRegion s fun u => u.dev.otp.op = some (.lock v.toInt.toNat) ∧ u.dev.num 0x2405 1 = 2 ∧
        u.dev.num 0x2405 3 = (lockRegion v.toInt.toNat).2.2.2 ∧ u.dev.published = rest) ∧
    (∀ n (w : WordsRead) r, s.dev.otp.op = some (.lock n) → s.dev.powered = true → s.dev.devFaulted .commonOtp = false →
      let pass := (s.dev.fuses.readWords (regionWords n) w.weak w.broken).lockTest n w.weak
      (pass = true → r.verified = true → r.windowLeft = false → s.dev.otp.left = false →
        Answers (.otpLockComplete w r) s fun u =>
        (∀ x, u.dev.fuses.word x =
          if x = (lockRegion n).2.2.2 then old (lockRegion n).2.2.2 ||| 0x4C4F434B#32 else old x) ∧
        u.dev.num 0x2405 1 = 3 ∧ ((lockRegion n).2.2.2, s.dev.slotNow + 1) ∈ u.dev.otp.due) ∧
      (pass = false → Answers (.otpLockComplete w r) s fun u =>
        (∀ x, u.dev.fuses.word x = old x) ∧ u.dev.num 0x2400 9 = min (s.dev.num 0x2400 9 + w.corrected) 4294967295 ∧
        u.dev.num 0x2405 1 = 4 ∧ u.dev.num 0x2405 2 = 0x0802 ∧
        u.dev.otp.due = s.dev.otp.due)) ∧
    (∀ x, (s.dev.mode = 4 ∨ s.dev.mode = 5) → s.dev.powered = true → s.dev.otp.reread + 20000000 ≤ s.dev.slotNow →
      Answers (.otpPeriodicReread x true) s (fun u =>
        u.dev.otp.reread = s.dev.slotNow ∧ u.dev.fuses = s.dev.fuses.readAll x ∧
        u.dev.num 0x2400 9 = min (s.dev.num 0x2400 9 + x.corrected) 4294967295 ∧
        ((∃ w, w < 512 ∧ ({ s.dev with fuses := s.dev.fuses.readAll x } : Dev).drifts s.dev.fuses.weak w = true) →
          u.dev.bit 0x2400 5 0 = true)) ∧
      Answers (.otpPeriodicReread x false) s fun u => u.dev.devFaulted .commonOtp = true ∧ u.dev.fuses = s.dev.fuses) ∧
    (∀ y off n rest weak, s.dev.otp.waits = (y, off, n) :: rest → s.dev.powered = true →
      (s.dev.reqPort (originOf y.origin)).tx.length < txRoom (originOf y.origin) →
      Answers (.ordinaryWordsRead weak) s fun u =>
        u.dev.otp.waits = rest ∧ (∀ x, u.dev.fuses.word x = old x) ∧
        (u.dev.reqPort (originOf y.origin)).tx = (s.dev.reqPort (originOf y.origin)).tx ++ [s.dev.response y .ok
          (toLE 4 1984 ++ slice (((List.range ((off + n + 3) / 4 - off / 4)).map fun i => 16 + off / 4 + i).flatMap
            fun w => toLE 4 (old w).toNat) (off % 4) n)])

/-! ### The chain port -/

/-- A frame of the chain begins with the settings of its falling edge and the outbound unit in the section, whose first bit
stands on SDO. Each edge of SCK passes one bit on, or in rising-edge mode each rising edge, so that the section holds the last U
bits sampled and SDO shows the bits that have left its input side. A frame of exactly 2F edges with SCK low at both edges of CSN
is good, latches the section and is counted, any other is a framing error with its cause that drops the assembly; a frame
without edges is none. RSTB copies each level of SCK where its setting of the frame says so and is high-impedance otherwise
(R397 to R404, R406). -/
def Sys2Proof.Says.ChainFramesAreJudged : Prop :=
  ∀ (s : State), s.dev.frozen = false → s.dev.powered = true →
    let c := s.dev.chain
    (∀ hi, Answers (.chainCsnFall hi) s fun u =>
      u.dev.chain.low = true ∧ u.dev.chain.sckHigh = hi ∧ u.dev.chain.frameLen = s.dev.nat 0x2300 3 ∧
      u.dev.chain.unitLen = s.dev.nat 0x2300 4 ∧ u.dev.objs = s.dev.objs ∧
      u.dev.chain.rising = (s.dev.num 0x2300 5 == 1) ∧
      (s.dev.tap.bscan = false → u.dev.rstbDrive = if s.dev.num 0x2300 7 = 1 then some hi else none) ∧
      (s.dev.num 0x2300 1 = 1 → u.dev.chain.window = bitsBE (s.dev.nat 0x2300 4) u.dev.chain.link.out ∧
        u.dev.chain.sdo = u.dev.chain.window.headD false) ∧
      (s.dev.num 0x2300 1 = 1 → s.dev.num 0x2300 2 ≠ 1 →
        u.dev.chain.link.out = s.dev.registerUnit (s.dev.nat 0x2300 4)) ∧
      (s.dev.num 0x2300 1 ≠ 1 → u.dev.chain.link.out = 0 ∧ u.dev.chain.sdo = false)) ∧
    (∀ hi edges bits, c.low = false → exec (.chainCsnRise hi edges bits) s = .next s) ∧
    (∀ hi edges bits, c.low = true → (c.enable = false ∨ edges = 0) →
      exec (.chainCsnRise hi edges bits) s = .next (s.upd fun d =>
        { d with chain := { c.shifted bits with low := false, sck := hi } })) ∧
    (∀ hi edges (bits : List Bool), c.low = true → Answers (.chainCsnRise hi edges bits) s fun u =>
      let y := u.dev.chain
      y.sck = hi ∧ y.rstbOut = (if c.rstb then sckLevels c.sck bits.length else []) ∧
      (c.enable = true → c.window ≠ [] → c.rising = false →
        y.window = (c.window ++ bits).drop bits.length ∧ y.sdoOut = ((c.window ++ bits).drop 1).take bits.length) ∧
      (c.enable = true → c.window ≠ [] → c.rising = true → c.sck = false →
        let ups := (List.range bits.length).filterMap fun i => if i % 2 = 0 then bits[i]? else none
        y.window = (c.window ++ ups).drop ups.length)) ∧
    (∀ hi edges bits, c.low = true → c.enable = true → edges ≠ 0 →
      (∀ cause, frameCause (c.sckHigh || hi) c.frameLen edges = some cause → Answers (.chainCsnRise hi edges bits) s fun u =>
        u.dev.num 0x2301 4 = cause ∧ u.dev.num 0x2301 3 = min (s.dev.num 0x2301 3 + 1) 4294967295 ∧
        u.dev.chain.link.mark = true ∧ u.dev.chain.link.asm = none ∧ u.dev.chain.shadow = c.shadow) ∧
      (frameCause (c.sckHigh || hi) c.frameLen edges = none → Answers (.chainCsnRise hi edges bits) s fun u =>
        u.dev.num 0x2301 2 = min (s.dev.num 0x2301 2 + 1) 4294967295 ∧ u.dev.chain.link.mark = false ∧
        (c.pelnak = false → u.dev.chain.shadow = ofBitsBE u.dev.chain.window ∧ u.dev.chain.shadowNew = true) ∧
        (c.pelnak = true →
          let x := (toLE (c.unitLen / 8) (ofBitsBE u.dev.chain.window)).reverse
          (unitBad x = true → u.dev.chain.link.asm = none) ∧
          (unitBad x = false → leNat (x.take 1) / 64 ≠ 0 → u.dev.chain.link.inbound = some x))))

/-- A start unit opens an assembly with its bytes, a data unit extends the open one up to its PDU's length, and an abort unit drops
it; a payload above 1024 bytes drops it too and is counted; a complete PDU waits for the boundary that stamps it. A unit waits for
its own row (R405 to R407). -/
def Sys2Proof.Says.ChainUnitsAssembleARequest : Prop :=
  ∀ (s : State) (x : List Byte), s.dev.frozen = false → s.dev.powered = true → s.dev.chain.link.inbound = some x →
    unitBad x = false →
    let kind := leNat (x.take 1) / 64
    let bytes := (x.drop 1).take (leNat (x.take 1) / 16 % 4)
    (kind = 2 → Answers .chainStartUnit s fun u =>
      u.dev.chain.link.asm = some bytes ∧ u.dev.chain.link.inbound = none ∧
      (s.dev.chain.link.asm ≠ none → u.dev.num 0x2301 7 = min (s.dev.num 0x2301 7 + 1) 4294967295)) ∧
    (∀ a, kind = 1 → s.dev.chain.link.asm = some a →
      let b := a ++ bytes
      (b.length < 10 ∨ (leNat (slice b 8 2) ≤ 1024 ∧ (b.length < 16 ∨ b.length < pduLen b)) →
        Answers .chainDataUnit s fun u =>
          u.dev.chain.link.asm = some b ∧ u.dev.chain.link.inbound = none ∧ u.dev.net = s.dev.net) ∧
      (10 ≤ b.length → 1024 < leNat (slice b 8 2) → Answers .chainDataUnit s fun u =>
        u.dev.chain.link.asm = none ∧ u.dev.num 0x2301 7 = min (s.dev.num 0x2301 7 + 1) 4294967295 ∧
        u.dev.net = s.dev.net) ∧
      (16 ≤ b.length → leNat (slice b 8 2) ≤ 1024 → pduLen b ≤ b.length → Answers .chainDataUnit s fun u =>
        u.dev.chain.link.asm = none ∧ u.dev.num 0x2301 7 = s.dev.num 0x2301 7 ∧
        (s.dev.portUp .chain = true → (u.dev.reqPort .chain).arrived = (s.dev.reqPort .chain).arrived ++
          [⟨unitPartner, ⟨[], 0⟩, b.take (pduLen b), s.dev.serveSlot .chain + 1⟩]))) ∧
    (kind = 3 → Answers .chainAbortUnit s fun u => u.dev.chain.link.asm = none ∧ u.dev.net = s.dev.net) ∧
    (kind ≠ 2 → exec .chainStartUnit s = .next s) ∧ (kind ≠ 1 → exec .chainDataUnit s = .next s) ∧
    (kind ≠ 3 → exec .chainAbortUnit s = .next s)

/-! ### Freeze, captures, traces and return consent -/

/-- A permitted trigger freezes the device and commands every present port's unit with source 12; in RUN and DEGRADED without
permission it is counted and ignored; LULL_N triggers once while it is low, and a pulse of it below 1 µs does not (R429 to R431,
R441). -/
def Sys2Proof.Says.TriggersFreezeTheDevice : Prop :=
  ∀ (s : State), s.dev.frozen = false → s.dev.powered = true →
    let froze := fun (u : State) => u.dev.frozen = true ∧ u.dev.num 0x2700 2 = s.dev.num 0x2700 2 ∧
      (∀ p, p ∈ s.dev.portsPresent → (u.dev.port p).unit.arriving =
        (s.dev.port p).unit.arriving ++ [⟨12, none, false, false⟩]) ∧
      u.dev.frz.resumable = s.dev.resumableNow ∧ u.dev.flash = s.dev.flash ∧ u.dev.lanes = s.dev.lanes
    let may := (s.dev.mode ≠ 4 ∧ s.dev.mode ≠ 5) ∨ s.dev.num 0x2700 1 = 1
    let pin := fun (stays : Bool) (d : Dev) => { d with boot := { d.boot with lullLow := stays } }
    (∀ x : LullLow, s.dev.boot.lullLow = false → (x.stays = true ∨ 1000 ≤ x.ns) →
      (may → Answers (.lullNTrigger x) s fun u => froze u ∧ u.dev.boot.lullLow = x.stays) ∧
      (¬ may → exec (.lullNTrigger x) s = .next (s.upd fun d => (pin x.stays d).inc 0x2700 2))) ∧
    (∀ x : LullLow, (s.dev.boot.lullLow = true ∨ (x.stays = false ∧ x.ns < 1000)) →
      exec (.lullNTrigger x) s = .next (s.upd (pin x.stays))) ∧
    (∀ v session origin rest, s.dev.published = ⟨objKey 0x2701 0, v, session, origin⟩ :: rest → may →
      Answers .freezeCommand s fun u => froze u ∧ u.dev.published = rest) ∧
    (s.dev.boot.phase ≠ .low → may → Answers .freeze s fun u => froze u ∧ u.dev.tap.ir = 0x40)

/-- A freeze that nobody reads for 1 s dumps itself into a free capture slot, or finds none; captures are released and erased
(R439, R444). -/
def Sys2Proof.Says.CapturesAreWrittenAndErased : Prop :=
  ∀ (s : State),
    let z := s.dev.frz
    (∀ us, s.dev.frozen = true → 1000000 ≤ us → z.readDone = false → z.running = false → z.done = false →
      z.full = false → s.dev.devFaulted .commonFlash = false →
      (∀ n, s.dev.flash.captureFor = some n → Answers (.selfDumpStart us) s fun u =>
        u.dev.frz.running = true ∧ u.dev.frz.slot = n ∧
        ∃ c, u.dev.flash.captures[n - 1]? = some c ∧ c.state = 1) ∧
      (s.dev.flash.captureFor = none → Answers (.selfDumpStart us) s fun u =>
        u.dev.frz.full = true ∧ u.dev.flash = s.dev.flash)) ∧
    (∀ us, us < 1000000 → exec (.selfDumpStart us) s = .next s) ∧
    (s.dev.frozen = true → z.running = true → z.slot - 1 < s.dev.flash.captures.length →
      Answers .selfDumpComplete s fun u => u.dev.frz.running = false ∧ u.dev.frz.done = true ∧
        ∃ c, u.dev.flash.captures[z.slot - 1]? = some c ∧ c.state = 2 ∧ c.dump = s.dev.dumpAll true) ∧
    (∀ v session origin rest c, s.dev.frozen = false →
      s.dev.published = ⟨objKey 0x2712 0, v, session, origin⟩ :: rest →
      s.dev.flash.captures[v.toInt.toNat - 1]? = some c → Answers .releaseCapture s fun u =>
        u.dev.flash.captures[v.toInt.toNat - 1]? = some { c with state := 4 } ∧
        u.dev.wr.erasing = s.dev.wr.erasing ++ [v.toInt.toNat] ∧ u.dev.published = rest) ∧
    (∀ n rest, s.dev.frozen = false → s.dev.powered = true → s.dev.wr.erasing = n :: rest →
      n - 1 < s.dev.flash.captures.length → Answers .captureEraseComplete s fun u =>
        u.dev.flash.captures[n - 1]? = some Capture.atReset ∧ u.dev.wr.erasing = rest)

/-- The oldest queued trace record is appended with the next number; return consent is recorded in flash with a new identifier
when set, and with none when cleared (R442, R443, R444). -/
def Sys2Proof.Says.TracesAndConsentAreRecorded : Prop :=
  ∀ (s : State), s.dev.frozen = false →
    let f := s.dev.flash
    (∀ t rest, s.dev.wr.traceQ = t :: rest → s.dev.powered = true → s.dev.devFaulted .commonFlash = false →
      Answers .traceRecordWrite s fun u =>
        u.dev.flash.traces = (if 3840 ≤ f.traces.length then f.traces.drop 256 else f.traces) ++
          [{ t with number := f.traceNo }] ∧
        u.dev.flash.traceNo = (f.traceNo + 1) % 2 ^ 32 ∧ u.dev.wr.traceQ = rest ∧
        u.dev.num 0x2721 1 = u.dev.flash.traceNo) ∧
    (s.dev.wr.traceQ = [] → exec .traceRecordWrite s = .next s) ∧
    (∀ v session origin rest, s.dev.published = ⟨objKey 0x2730 1, v, session, origin⟩ :: rest →
      (v.toInt = 1 → (Answers .returnConsentSet s fun u =>
        (∃ c, u.dev.flash.consent = some c ∧ c.on = true ∧ u.dev.num 0x2730 2 = c.ident) ∧ u.dev.published = rest) ∧
        exec .returnConsentClear s = .next s) ∧
      (v.toInt = 0 → (Answers .returnConsentClear s fun u =>
        (∃ c, u.dev.flash.consent = some c ∧ c.on = false ∧ c.ident = 0) ∧ u.dev.num 0x2730 2 = 0 ∧
        u.dev.published = rest) ∧ exec .returnConsentSet s = .next s))

/-! ### The test access port -/

/-- The debug instructions: FZ_STATUS shifts the freeze's status out; DUMP_ADDR takes multiples of 4; DUMP_DATA shifts out the
dump's words and advances, zeros outside a freeze; RESUME restarts the clocks of a resumable freeze and is refused otherwise;
SYSRESET resets with cause 6; without power the TAP does nothing (R292, R434, R435, R440). -/
def Sys2Proof.Says.DebugInstructionsActOnTheFreeze : Prop :=
  (∀ (s : State) (v words : Nat), s.dev.boot.phase = .low → exec .freeze s = .next s ∧ exec .fzStatus s = .next s ∧
    exec (.dumpAddr v) s = .next s ∧ exec (.dumpData words) s = .next s ∧ exec .resume s = .next s ∧
    exec .sysreset s = .next s) ∧
  ∀ (s : State), s.dev.boot.phase ≠ .low →
    (exec .fzStatus s = .next (s.upd fun d => d.tapInstr 0x41 false (bitsLE 16 s.dev.fzStatus))) ∧
    (∀ v, v % 4 = 0 → Answers (.dumpAddr v) s fun u => u.dev.tap.dumpAddr = v % 2 ^ 32 ∧ u.dev.frz = s.dev.frz) ∧
    (∀ v, v % 4 ≠ 0 → Answers (.dumpAddr v) s fun u => u.dev.tap.dumpAddr = s.dev.tap.dumpAddr ∧ u.dev.frz = s.dev.frz) ∧
    (∀ words, s.dev.frozen = false → Answers (.dumpData words) s fun u =>
      u.dev.tap.tdo = List.replicate (32 * words) false) ∧
    (s.dev.frozen = true → s.dev.tap.dumpAddr + 4 < 2 ^ 32 → Answers (.dumpData 1) s fun u =>
      u.dev.tap.tdo = bitsOfBytes (s.dev.dumpWord s.dev.tap.dumpAddr) ∧
      u.dev.tap.dumpAddr = s.dev.tap.dumpAddr + 4 ∧ u.dev.objs = s.dev.objs) ∧
    (s.dev.frozen = true → s.dev.frz.resumable = true → s.dev.frz.running = false → s.dev.frz.torn = false →
      Answers .resume s fun u => u.dev.frozen = false ∧ u.dev.frz = Freeze.atReset ∧
        u.dev.num 0x2700 3 = min (s.dev.num 0x2700 3 + 1) 4294967295 ∧ u.dev.lanes = s.dev.lanes ∧
        u.dev.flash = s.dev.flash) ∧
    (s.dev.frozen = true → (s.dev.frz.resumable = false ∨ s.dev.frz.running = true) → Answers .resume s fun u =>
      u.dev.frozen = true ∧ u.dev.frz = { s.dev.frz with refused := true } ∧ u.dev.objs = s.dev.objs) ∧
    (s.dev.boot.phase ≠ .held → Answers .sysreset s fun u =>
      u.dev.boot = { Dev.atReset.boot with lullLow := s.dev.boot.lullLow, laneB := s.dev.boot.laneB } ∧
      u.dev.num 0x2000 3 = 6 ∧ u.dev.frozen = false ∧ u.dev.tap.ir = 0x45 ∧
      u.dev.ports = Dev.atReset.ports ∧ u.dev.flash.recA = s.dev.flash.recA)

/-- Identification and boundary scan: IDCODE shifts its 32 bits out; EXTEST, HIGHZ and CLAMP make every present port coast and
hold its gates and the brake outputs off; SAMPLE/PRELOAD holds nothing; every unlisted code is BYPASS; OBJ takes a unit of exactly
32 cycles, shifts zeros in a freeze and outside the powered modes, and shows the BIST result of a start-up that it halted (the
model's choice, log entry 142); a test logic reset drops assembly and responses and keeps a mark that waits; in SLEEP and STORAGE
the others do nothing (R462, R463). -/
def Sys2Proof.Says.ScanInstructionsActOnTheRegisters : Prop :=
  (∀ (s : State) (b x : List Bool) (code : Nat) (tdi : Bool), s.dev.boot.phase = .low → exec .idcode s = .next s ∧
    exec (.extest b x) s = .next s ∧ exec (.samplePreload b x) s = .next s ∧ exec .highz s = .next s ∧
    exec .clamp s = .next s ∧ exec (.bypass code tdi) s = .next s) ∧
  (∀ (s : State) (cycles word : Nat), (s.dev.powered = false ∨ s.dev.frozen = true) →
    exec (.obj cycles word) s = .next (s.upd fun d => d.tapInstr 0x46 false
      (bitsLE 32 (if s.dev.boot.phase = .halted then s.dev.nat 0x2000 7 else 0)))) ∧
  ∀ (s : State), s.dev.boot.phase ≠ .low →
    let coasts := fun (ir : Nat) (u : State) => u.dev.tap.ir = ir ∧ u.dev.tap.bscan = true ∧
      (∀ l, l ∈ s.dev.lanesPresent → u.dev.num (chopIdx l) 0x10 ≠ 1) ∧
      ∀ p, p ∈ s.dev.portsPresent → u.dev.safeOut p = 1 ∧ (u.dev.port p).mod.offSeen = true ∧
        (u.dev.port p).reg = (s.dev.port p).reg
    (exec .idcode s = .next (s.upd fun d => d.tapInstr 0x01 false (bitsLE 32 s.dev.idcode))) ∧
    (∀ pins drive, Answers (.extest pins drive) s fun u =>
      coasts 0x02 u ∧ u.dev.tap.cells = cells74 drive ∧ u.dev.tap.tdo = cells74 pins) ∧
    (∀ pins pre, Answers (.samplePreload pins pre) s fun u =>
      u.dev.tap.cells = cells74 pre ∧ u.dev.tap.tdo = cells74 pins ∧ u.dev.tap.bscan = false ∧ u.dev.ports = s.dev.ports) ∧
    Answers .highz s (coasts 0x04) ∧ Answers .clamp s (coasts 0x05) ∧
    (∀ code tdi, tapCodes.contains (code % 256) = false →
      exec (.bypass code tdi) s = .next (s.upd fun d => d.tapInstr (code % 256) false [false, tdi])) ∧
    (∀ code tdi, tapCodes.contains (code % 256) = true → exec (.bypass code tdi) s = .next s) ∧
    (∀ cycles word, s.dev.powered = true → s.dev.frozen = false → cycles ≠ 32 → Answers (.obj cycles word) s fun u =>
      u.dev.tap.link.mark = true ∧ u.dev.tap.link.asm = none ∧ u.dev.net = s.dev.net) ∧
    (∀ word, s.dev.powered = true → s.dev.frozen = false →
      let x := (toLE 4 word).reverse
      unitBad x = false → leNat (x.take 1) / 64 = 2 → Answers (.obj 32 word) s fun u =>
        u.dev.tap.ir = 0x46 ∧ u.dev.tap.link.mark = false ∧
        u.dev.tap.link.asm = some ((x.drop 1).take (leNat (x.take 1) / 16 % 4))) ∧
    (Answers .tapReset s fun u => u.dev.tap.ir = 0x01 ∧ u.dev.tap.link = { UnitLink.atReset with mark := s.dev.tap.link.mark } ∧
      (u.dev.reqPort .tap).tx = [] ∧ u.dev.objs = s.dev.objs ∧ u.dev.tap.dumpAddr = s.dev.tap.dumpAddr)

/-! ### The whole machine -/

/-- A step runs the command that has waited longest, with the rest of the queue behind it, and with none waiting the block idles.
The queue is the model's choice: the manual has none (DESIGN CHOICE, log entry 2). -/
def Obligations.StepRunsTheFrontCommand : Prop :=
  ∀ (s : State),
    (∀ c rest, s.pending = c :: rest → step s = exec c { s with pending := rest }) ∧ (s.pending = [] → step s = .next s)

/-- A command whose operands are in range always completes, every command leaves the queue to the step, none is refused, and
the one fault is an engine's access to a word that its memory does not have (R36, R37; the queue is the model's own).
Model's choices: the queue, and the fault for a word that does not exist (log entries 2, 6). -/
def Obligations.CommandsCompleteAndKeepTheQueue : Prop :=
  ∀ (c : Instr) (s : State),
    (c.wf = true → ∃ u, exec c s = .next u) ∧ (∀ u, exec c s = .next u → u.pending = s.pending) ∧
    (∀ r, exec c s ≠ .refused r) ∧
    ∀ f, exec c s = .fault f → f = .noSuchWord ∧
      ((∃ e t op wide addr ecc, c = .scratchpadAccess e t op wide addr ecc ∧ 8192 ≤ addr + b2n wide) ∨
       ∃ e t op addr ecc, c = .sharedSramAccess e t op addr ecc ∧ 524288 ≤ addr)

/-- The frame of every command: what is not among the parts that it may change stays as it is; a command of one port leaves the
other ports alone, and changes no object but those of its port's states and counts, its pair and the shared counters.
Model's choice: a command whose condition is not met changes nothing (log entry 1). -/
def Obligations.CommandsChangeOnlyTheirParts : Prop :=
  ∀ (c : Instr) (s u : State), exec c s = .next u →
    (∀ x : Part, x.changedBy c = false → x.same s.dev u.dev) ∧
    ∀ p, ownPort c = some p → (∀ q, q ≠ p → u.dev.port q = s.dev.port q) ∧
      ∀ idx sub, idx ∉ ownIndices p → sub < 256 → u.dev.objs.get (objKey idx sub) = s.dev.objs.get (objKey idx sub)

/-- In a freeze the slot counters and engines stand still: a command that a freeze holds changes nothing (R431, R432).
Model's choice: which commands a freeze leaves acting (log entry 16). -/
def Obligations.FreezeHoldsTheMachine : Prop :=
  ∀ (c : Instr) (s : State), s.dev.frozen = true → unheld c = false → c.wf = true → exec c s = .next s

/-- Fuse bits only ever get set, those of the check row among them: a command other than a reading of the whole array clears none
(R413, R419 to R421).
Model's choice: what a cut-off programming leaves (log entry 110). -/
def Obligations.FuseBitsAreNeverCleared : Prop :=
  ∀ (c : Instr) (s u : State), exec c s = .next u →
    (∀ x done, c ≠ .otpPeriodicReread x done) → (∀ a b psel x p q, c ≠ .resetRelease a b psel x p q) →
    ∀ w, s.dev.fuses.word w &&& u.dev.fuses.word w = s.dev.fuses.word w ∧
      s.dev.fuses.check w &&& u.dev.fuses.check w = s.dev.fuses.check w

/-- Every step keeps the canonical form of the object store, the word memories, the fuse array and its shadows.
Model's choice: the sparse form itself (log entry 7). -/
def Obligations.StepsKeepTheCanonicalForm : Prop :=
  ∀ (s t : State), s.dev.canonical → step s = .next t → t.dev.canonical

/-- The machine right after reset has the canonical form.
Model's choices: the sparse form and the contents at reset (log entries 7, 8, 10). -/
def Obligations.ResetIsCanonical : Prop := State.reset.dev.canonical

/-! ### Rules stated whole -/

/-- R34: arithmetic raises no exception; a division by zero gives the saturated quotient of the dividend's sign, the square
root of a negative operand zero; an operation that adds, subtracts or multiplies wraps or saturates as its opcode says. -/
def Obligations.ArithmeticRaisesNoException : Prop :=
  ∀ (s : State) (e : EngineId) (t : Nat),
    let g := s.dev.engine e
    let T := s.dev.engTick e t
    let quiet := fun (u : State) => u.dev.objs = s.dev.objs ∧ u.dev.wr = s.dev.wr ∧
      ∀ p, (u.dev.port p).faults = (s.dev.port p).faults ∧ (u.dev.port p).unit = (s.dev.port p).unit
    let ends := fun (n dst : Nat) (v : Word) (u : State) => quiet u ∧ (⟨T + n, dst, v⟩ : WriteBack) ∈ (u.dev.engine e).backs
    let fits := fun (sat : Bool) (v : Int) =>
      if sat then BitVec.ofInt 32 (max (-(2 ^ 31)) (min (2 ^ 31 - 1) v)) else BitVec.ofInt 32 v
    (∀ op dst a b c, Answers (.alu e t op dst a b c) s quiet) ∧ (∀ op dst a b c, Answers (.multiply e t op dst a b c) s quiet) ∧
    (∀ d1 d2 a, Answers (.sineCosine e t d1 d2 a) s quiet) ∧
    (∀ sqrt sat dst a b, Answers (.divideSquareRoot e t sqrt sat dst a b) s quiet) ∧
    (∀ sat dst a b c,
      let x := (g.src T a).toInt
      let y := (g.src T b).toInt
      (s.dev.issues e t .any = true → Answers (.alu e t (.add sat) dst a b c) s (ends 1 dst (fits sat (x + y))) ∧
        Answers (.alu e t (.sub sat) dst a b c) s (ends 1 dst (fits sat (x - y)))) ∧
      (s.dev.issues e t .low = true → Answers (.multiply e t (.mul sat) dst a b c) s (ends 3 dst (fits sat (x * y))) ∧
        Answers (.multiply e t (.mac sat) dst a b c) s (ends 3 dst (fits sat ((g.src T c).toInt + x * y))))) ∧
    (s.dev.issues e t .high = true → g.divFree ≤ T → ∀ sat dst a b,
      let x := (g.src T a).toInt
      let y := (g.src T b).toInt
      (y = 0 → 0 < x → Answers (.divideSquareRoot e t false sat dst a b) s (ends 14 dst (BitVec.ofInt 32 (2 ^ 31 - 1)))) ∧
      (y = 0 → x < 0 → Answers (.divideSquareRoot e t false sat dst a b) s (ends 14 dst (BitVec.ofInt 32 (-(2 ^ 31))))) ∧
      (x < 0 → Answers (.divideSquareRoot e t true sat dst a b) s (ends 14 dst 0)))

/-- R99: a write that would leave the hard level 0x3x30.0A non-zero and below the over-current level 0x3x30.08 is refused, with
INCONSISTENT unless an earlier check refuses it; this goes for a write to either object. -/
def Obligations.HardLevelBelowTheTripLevelIsRefused : Prop :=
  ∀ (s : State) (o : Origin) (vpp i : Nat) (r : Request) (c : Ctx) (p : PortId) (sub : Nat), s.dev.frozen = false →
    s.dev.chosen o = some (i, r) → r.wellFormed = true → r.row = 2 → (sub = 8 ∨ sub = 0xA) →
    r.key = objKey (pidx p 0x30) sub →
    let d := s.dev.taken o i r
    let e := d.committed c.origin
    let raw := r.payload.drop 4
    let v := (decodeVal .u16 raw).toInt
    let level := if sub = 8 then v else e.pnum p 0x30 8
    let hard := if sub = 0xA then v else e.pnum p 0x30 0xA
    d.reqCtx o r = some c → d.atHome (d.serveLane o) r.key → hard ≠ 0 → hard < level →
    ∃ res, res ≠ .ok ∧
      (d.headRes c.role (pidx p 0x30) sub = .ok → (e.mode = 2 ∨ e.mode = 3) → d.homeLost (pidx p 0x30) = false →
        raw.length = 2 → (sub = 8 → 1000 ≤ v ∧ v ≤ 8191) → (sub = 0xA → 1000 ≤ v ∧ v ≤ 8192) →
        d.mappedBy none r.key = false → e.flashBusy = false → res = .inconsistent) ∧
      Answers (.write o vpp) s fun u =>
        (u.dev.reqPort o).tx = (s.dev.reqPort o).tx ++ [d.response (s.dev.replyNow o r) res []] ∧
        (∀ k, k ≠ objKey 0x1300 0xA → u.dev.objs.get k = d.objs.get k) ∧
        (u.dev.wr.queue.filterMap fun j => j.change) = (s.dev.wr.queue.filterMap fun j => j.change) ∧
        u.dev.wr.procs = s.dev.wr.procs

/-- R189: an illegal edge changes neither count, is no edge for time stamps, speed and the zero-speed timeout, and the pair
read becomes the previous one. -/
def Obligations.IllegalEdgesCountNothing : Prop :=
  ∀ (s : State) (p : PortId) (ra rb : LineSample) (cycle : Nat), s.dev.frozen = false → (s.dev.lane p.lane).alive = true →
    (s.dev.fbMode p = 1 ∨ s.dev.fbMode p = 2) →
    let f := (s.dev.port p).fb
    let a := filtered (s.dev.pnat p 0x70 2) f.quad.prevA ra
    let b := filtered (s.dev.pnat p 0x70 2) f.quad.prevB rb
    a ≠ f.quad.prevA → b ≠ f.quad.prevB → Answers (.quadratureEdge p ra rb cycle) s fun u =>
      let g := (u.dev.port p).fb
      g.quad.q = f.quad.q ∧ g.quad.p = f.quad.p ∧ g.quad.edge = f.quad.edge ∧
      g.flags.motion = f.flags.motion ∧ g.flags.direction = f.flags.direction ∧
      (∀ m, g.lastEvent m = f.lastEvent m) ∧ (u.dev.port p).e1 = (s.dev.port p).e1 ∧
      g.quad.prevA = a ∧ g.quad.prevB = b

/-- R430: 0x2700.01 is RWS, so that RUN refuses its writing; a trigger in a freeze has no effect; in RUN a trigger takes effect
if 0x2700.01 as published is 1, and otherwise not. -/
def Obligations.FreezeInRunNeedsItsPermission : Prop :=
  ((objRow 0x2700 1).map fun r => r.access) = some Access.rws ∧
  (∀ (d : Dev) (c : Ctx) (vpp : Nat) (raw : List Byte), (d.committed c.origin).mode = 4 → d.headRes c.role 0x2700 1 = .ok →
    d.judge c vpp (objKey 0x2700 1) raw = .wrongMode) ∧
  (∀ (s : State), s.dev.frozen = true →
    (∀ x, exec (.lullNTrigger x) s = .next (s.upd fun d => { d with boot := { d.boot with lullLow := x.stays } })) ∧
    exec .freezeCommand s = .next s ∧
    (s.dev.boot.phase ≠ .low → Answers .freeze s fun u =>
      u.dev.frozen = true ∧ u.dev.frz = s.dev.frz ∧ u.dev.objs = s.dev.objs ∧ u.dev.ports = s.dev.ports ∧
      u.dev.wr = s.dev.wr)) ∧
  ∀ (s : State) (x : LullLow) (v : ObjVal) (session origin : Nat) (rest : List Published), s.dev.frozen = false →
    s.dev.powered = true → s.dev.mode = 4 → s.dev.boot.lullLow = false → (x.stays = true ∨ 1000 ≤ x.ns) →
    (s.dev.num 0x2700 1 = 1 → Answers (.lullNTrigger x) s fun u => u.dev.frozen = true) ∧
    (s.dev.num 0x2700 1 ≠ 1 → Answers (.lullNTrigger x) s fun u => u.dev.frozen = false ∧ u.dev.ports = s.dev.ports) ∧
    (s.dev.num 0x2700 1 ≠ 1 → Answers .freeze s fun u => u.dev.frozen = false ∧ u.dev.ports = s.dev.ports) ∧
    (s.dev.published = ⟨objKey 0x2701 0, v, session, origin⟩ :: rest → s.dev.num 0x2700 1 ≠ 1 →
      Answers .freezeCommand s fun u => u.dev.frozen = false ∧ u.dev.ports = s.dev.ports)

/-! ### The statements of several parts -/

/-- Engine operations write their results after their latencies. An ALU operation of an engine that can issue: its
result, by the operation's rule, can be used from the next tick on, and nothing else of the block changes (R31,
R32, R34). A bundle has three positions: an operation that would be the fourth, or would need one of two
positions already taken by memory and multiply operations, or the one position of the other units once taken,
does not issue; nor does any operation while no image runs or outside every placed instance (R11, R31, R36, R56,
R82). The other operations that write registers: a product after three ticks, sine and cosine after eight, a
quotient or a square root after fourteen, in which the unit takes no other; each changes the engine alone (R31,
R32, R34). A branch takes two ticks and sets the next bundle; a loop counter takes 1 to 65 536; neither changes
anything but the engine (R33). Model's choices: the rounding of quotient, root and Q-format product, a zero
dividend by zero, wide shifts, and a divide before its interval (log entries 11, 12, 15). -/
def Obligations.EngineOperationsHaveTheirResultsAndLatencies : Prop :=
  Says.AluWritesItsResultAfterOneTick ∧
  Says.BundlesHaveThreePositions ∧
  Says.LongOperationsWriteTheirResultAfterTheirLatency ∧
  Says.BranchAndLoopSetUpChangeTheEngineAlone

/-- Memory errors and slot-monitor mismatches of an engine. A corrected memory error adds to the engine's counter
and changes no timing; a double-bit error gives the load the word as read, raises FLT_ENGINE_ECC on the port and
commands its safe-state unit with source 14 (R35, R131, R252). An armed slot monitor that finds a bundle outside
every placed instance, or a certified marker displaced or absent, counts the mismatch, raises FLT_ENGINE_TIMING
and commands the unit with source 8 (R56, R59, R131). -/
def Obligations.EngineErrorsCommandTheSafeStateUnit : Prop :=
  Says.DoubleBitErrorRaisesEngineEcc ∧
  Says.SlotMonitorMismatchRaisesEngineTiming

/-- Stage-port accesses and crosswind records. A cell read puts its eight words into registers four ticks later, and
so does a read of a converter's result record that the image claims for the engine with its two; a write of the
cell that the engine produces is visible from the slot after the one in which it completes (R17, R18, R39, R75,
R267). A crosswind record of a paired port that has sent none for a frame goes on the link, to arrive as the
newest write of the partner's receive cell 400 ticks later, exactly so on the root clock; the link of a lost
lane is idle (R12, R23, R31, R40). Model's choices: a second record within a frame is not sent, and when a
record arrives (log entries 11, 131). -/
def Obligations.CellsAndCrosswindRecordsAreCarried : Prop :=
  Says.StagePortReadsAndWritesCells ∧
  Says.CrosswindRecordsTravelTheLink

/-- Engine 0 reads its cells, and trips on a stale current cell under the trip rule. The current, angle and bus-
voltage cells are read by engine 0: a fresh cell's value becomes the frame's, the third phase current is minus
the sum of the two measured ones, and the angles of the frame are carried from the cell's write slot. The first
kernel of a frame starts the frame's flags anew and ages the recorded angles; the others find them as they
stand, in whatever order the image places them (R19, R95, R137, R148, R153). A stale current cell of engine 0
under the trip rule raises FLT_HANDOFF_STALE on the port, commands its unit with source 9, and the value used
stays the one held (R19, R78, R153). Model's choices: the instant of the angles for K_IIN and its count in a
stale frame, and which frames' setpoint certificate K_IIN judges (log entries 45, 168). -/
def Obligations.EngineZeroReadsItsCellsOrActsOnStaleness : Prop :=
  Says.EngineZeroReadsItsCells ∧
  Says.StaleCurrentCellUnderTripRaisesHandoffStale

/-- Transformations, current controllers and the voltage command of engine 0. The transformations of engine 0:
K_CLARKE forms the stator pair, the α component of currents without sum being the U current; K_PARK rotates by
the measured angle into the controller's record; K_IPARK rotates back by the applied angle; each changes nothing
but the frame of engine 0 beside what an earlier kernel left for this slot (R147, R149). The current controllers
of a port that drives take the scaled references and keep their integrators within the code range; in a port
that does not drive every state of theirs is zero (R150, R151, R234). The voltage command: K_DECOUPLE with mode
0 passes the controllers' outputs; K_MTPA looks the current reference up in its table, and with a table of
another length than bound returns 0 and says so; K_HFI_INJ adds the injected voltage on the d axis with
alternating sign under source 2 or 3, and otherwise adds nothing; K_FW_VLIM lets a vector within V_max pass, in
a port that does not drive forms zero references, starts the current integrators from zero where the flags enter
CLOSED, and stores its words at the offsets of the catalogue; one that starts too late in a slot for its load at
offset 12 leaves the rest to that load's slot (R144, R152, R153, R154, R157, R158, R212). Model's choices: the
rounding inside the formulas, the states outside driving frames, held frames, the voltage ratio and the step of
the integrators at a change of the share (log entries 12, 43, 44, 46, 47, 166). -/
def Obligations.CurrentControlFormsTheVoltage : Prop :=
  Says.ClarkeAndParkTransformTheFrame ∧
  Says.CurrentControllersFollowTheReferences ∧
  Says.VoltageCommandIsFormedAndLimited

/-- The modulation kernels form the duties that K_DUTY_OUT writes. The modulation kernels: K_OVM counts a vector
beyond the hexagon and lets one within pass; K_DTCOMP turned off passes; K_SVM7 and K_SVM5 without bus voltage,
and K_ZVV always, form the zero-voltage vector; K_SVM7 gives a zero vector the middle duty in all phases; K_SVM5
clamps the largest phase to 65535 or the smallest to 0 (R111, R112, R113, R115, R116). K_DUTY_OUT writes the
duty cell, visible from the slot after the one in which the write completes: mode 3 under a coast fallback, the
zero-voltage vector under its fallback, and otherwise the frame's duties; bit 5 of the pattern shows whether
K_OVM limited the frame's vector (R18, R39, R75, R112, R153). Model's choices: the rounding inside the formulas,
the sector of the zero vector, and OVM beside a cell of replaced duties (log entries 12, 160, 167). -/
def Obligations.DutiesAreFormedAndWritten : Prop :=
  Says.ModulationKernelsFormDuties ∧
  Says.DutyOutWritesTheDutyCell

/-- The feedback kernels of engine 1 take the latch and form angle and speed. The feedback kernels take the latched
flags, and the latched position where the port's mode is theirs; a SENT nibble count other than the bound one
takes no frame and sets SENT_FORMAT_MISMATCH; nothing else of the block changes (R184, R186, R194, R198, R199).
K_HALL_INTERP forms the Hall speed and angle at the latch instant: zero at the centre of the state once the
zero-speed timeout has run, else the arc over the last interval or the longer elapsed time, and the angle of the
edge carried at that speed as far as the next edge; direction invert turns the sign of the speed; the speed is
filtered here without K_SPD_EST. On a port of another mode it does nothing (R194, R200). Angle and speed from a
feedback interface: the angle is carried at the filtered speed to the boundary of the angle cell's write slot;
beyond the zero-speed timeout a quadrature speed is zero, and between edges it is the change of position over
the interval or the longer elapsed time; a SENT speed is the change of position between its last two frames; the
filtered speed takes its share of the difference; without feedback nothing changes (R194, R199, R200). Model's
choices: the rounding, and the filter of the Hall speed without K_SPD_EST (log entries 12, 21). -/
def Obligations.FeedbackKernelsFormAngleAndSpeed : Prop :=
  Says.FeedbackKernelsTakeTheLatch ∧
  Says.HallSpeedAndAngleFollowTheEdge ∧
  Says.FeedbackAngleAndSpeedFollowTheEdges

/-- Observers in hold frames, the blend, the catch loop and the rotor-loss counts. A frame in which every gate was
off is a hold frame of the observers: the EMF estimate, the confidences and the speeds stay, the angles run on;
without a resolved polarity the injection's confidence stays at most 127 (R206, R208 to R210, R213). Otherwise
K_PLL_ANG steps its speed and angle by the EMF's error, and forms the confidence from its magnitude and the
filtered error (R210, R211). In a frame with a fresh current cell, good samples and gates that switched,
K_OBS_BEMF forms the EMF estimate: the commanded voltage less the dead-time term, the resistive drop and the
inductive term of the change of the currents; the cell is read once (R19, R206, R209). In such a frame K_OBS_HFI
divides the sums of its window of responses: the error, its PLL step, and its confidence (R213, R214), and its
PLL follows the back-EMF estimate while that has full weight (R215). Without the injection observer the blend is
the back-EMF estimate with full weight, its confidence and source 1; with it the weight rises from 0 to 1
between the two speeds of the blend, and angle, speed and confidence lie between the two estimates by that
weight (R215). The catch loop runs in ARMED and COAST alone; records taken more than 200 cycles apart, or one
older than a carrier period, mark the frame as skewed: no confidence, no catch, the speed kept (R226, R227).
With records that belong together and lie below the diode clamp it finds a standing rotor below a voltage, with
confidence 1, and above it steps its PLL to the angle of the terminal voltage, counting the confident frames
(R226, R227). In CLOSED above its speed and outside hold frames, each of the three rotor-loss conditions
advances its own count while it holds and clears it otherwise; elsewhere the counts stay (R224). Model's
choices: the code form of the gains, the blend without injection, the catch loop's instants, holds and memory, a
stale current cell, the frames of rotor loss (log entries 12, 22, 23, 61, 62, 64, 133, 134, 173). -/
def Obligations.ObserversHoldBlendAndCount : Prop :=
  Says.HoldFramesKeepTheObservers ∧
  Says.ObserversEstimateFromTheFrame ∧
  Says.BlendLiesBetweenTheEstimates ∧
  Says.CatchLoopRefusesSkewedRecords ∧
  Says.CatchLoopFollowsTheTerminalVoltage ∧
  Says.RotorLossConditionsAreCountedApart

/-- Start-up kernels, and the angle cell that K_ANG_OUT writes. The start-up kernels: the align angle is imposed in
the align phase; the ramp begins at the align angle with its start frequency, and its first frame of attempt 0
requests RAMP in the slot of the kernel's last tick; the handover count advances at or above the handover speed
and confidence and is cleared below (R171, R218 to R220, R472). K_ANG_OUT of a port with a feedback interface
writes the angle cell: angle and filtered speed of the interface, source 0, confidence 255 with a good reference
and 0 under a feedback fault; in OFF a sensorless port holds its angle at speed 0 (R39, R75, R200, R216).
Model's choices: the rounding and the count of the handover (log entries 12, 63). -/
def Obligations.StartKernelsRunAndTheAngleIsWritten : Prop :=
  Says.StartUpKernelsFollowThePhases ∧
  Says.AngOutWritesTheAngleCell

/-- K_PROC_IN, K_SET_OUT, K_STATUS_OUT and K_STOP_SEQ of engine 2. K_PROC_IN takes the bound objects together while
none of them is stale; a stale one leaves the last fresh control word in force and says so; what a start late in
the slot cannot read is read in the next one. Nothing left over, a kernel of engine 2 begins with the state as
it stands (R37, R168, R180, R473). K_SET_OUT outside a start writes the setpoints as they stand into the
setpoint cell, and K_STATUS_OUT stores one value for every bound object; neither changes anything else (R75,
R169, R473). K_STOP_SEQ requests the port state that its rules give: ARMED from OFF on ENABLE after a valid
calibration, OFF from ARMED without ENABLE, START_REFUSED in ARMED with RUN while a kernel of the start is
missing, COAST from a driving state without RUN, with a command of source 11 to the unit, and OFF from TRIPPED
once no fault is active and a fresh control word has ENABLE 0; the port of a failed lane stays OFF while its
pair's survivor is not OFF (R104, R170, R171, R175, R246, R472). Model's choices: when objects are read, the
precedence within a speed frame, and the references that status values report, and a start kernel placed
anywhere (log entries 49, 50, 53, 130, 174). -/
def Obligations.ControlWordsSetpointsAndStopRequests : Prop :=
  Says.ProcInTakesTheBoundObjects ∧
  Says.SetpointsAndStatusAreWritten ∧
  Says.StopSequenceRequestsPortStates

/-- Ramps, speed controller and torque setpoint of engine 2. The ramps act once in a speed frame: outside CLOSED the
ramp value follows the filtered speed; in CLOSED it takes its step towards the limited target unless it is held
(R174, R178). The speed controller: in OFF the filtered speed and the integrator are zero; in CLOSED in speed
mode the Iq setpoint of a port without a pair stays within the current limit and the Id setpoint is zero (R173,
R174). K_TRQ_SET in CLOSED in torque mode forms the Iq of the torque setpoint, and none that would drive further
a speed beyond the speed limit; in speed mode it does nothing (R177, R179). Model's choices: the step of the
ramp, the return of the acceleration to zero and the occurrence that acts in a speed frame (log entries 12, 50,
51, 155). -/
def Obligations.SpeedLoopFormsTheSetpoints : Prop :=
  Says.RampsStepOncePerSpeedFrame ∧
  Says.SpeedControllerStaysWithinTheLimit ∧
  Says.TorqueSetpointIsCutBeyondTheSpeedLimit

/-- K_LIM_BUDGET derates the current limit, and the lane allocates its budget in order. K_LIM_BUDGET of a port
outside the budget and without a pair: the current limit is the port's own, derated by the lane status word's
share, never above it; the regenerative block follows the chopper bits; the request waits for the allocation
that sees its store; a start whose load of the grant is performed in the next slot leaves the limit as it is
until then (R37, R140, R159, R160, R472). The budget of a lane is allocated once a slot in the order of
0x2810.03: each port that takes part gets what is left up to its request, and the lane status word is written
(R38, R159, R160). Model's choices: whole mA in the budget, ports without a request, and PAIR_LIMITED of a word
stored a slot earlier (log entries 12, 48, 123). -/
def Obligations.CurrentLimitsAndBudget : Prop :=
  Says.CurrentLimitIsDerated ∧
  Says.BudgetIsAllocatedInOrder

/-- K_CHECK_DQ, K_XW_EXCH, K_XW_PLAUS and K_SUPERVISE of engine 2. K_CHECK_DQ does not judge a frame whose duties
come from a fallback: it counts it as skipped and CHECK_OK stays set. In a frame with fresh cells it clears
CHECK_OK and commands the unit, with source 15, exactly where a comparison fails, in the slot of the last tick
of its instance: a current that differs from the stored word by more than its tolerance fails it, and a
saturated duty spares the voltage (R78, R472, R475). K_XW_EXCH sends one record over a linked port, with the
count of current frames as its tag, and takes the pair state and the share factor; K_XW_PLAUS reads the receive
cell, judges only records of one tag with both ports in CLOSED, and keeps which checks failed, the health check
where the four bits of a record's word are zero; the frames since a verdict against the partner run from the
first one (R12, R40, R80, R234, R237, R241 to R244, R472). That all four bits are to be zero is the model's
reading (log entry 66). K_SUPERVISE with a fresh angle cell has the speed flag set at or above its upper speed
and cleared below its lower one, from the slot after the instance's last tick (R132, R472). Model's choices: the
source of the record's values, the health bits, and which lane counts (log entries 65, 66, 67, 71). -/
def Obligations.EngineTwoChecksItsFrames : Prop :=
  Says.RecomputationJudgesFreshFrames ∧
  Says.PairKernelsExchangeAndJudgeRecords ∧
  Says.SuperviseWritesTheSpeedFlag

/-- Port state requests, and carrier periods on their grid. A request of engine 2 that no request of the safe-state
unit precedes takes effect at the start of the next slot if the table permits the transition, and is otherwise
counted and ignored, a request for the state that stands among them; but in STANDBY and CONFIGURE the port state
register refuses every transition out of OFF, and these refusals are not counted. The unit's own request
prevails over both engines' (R170, R171, R183, R275). A carrier period that starts writes the current and bus-
voltage cells of the period that ends, visible from the next slot, and begins the new one in this slot; off the
port's period grid nothing happens (R45, R93, R136). Model's choices: a carrier period is judged and placed
whole at its start, withheld pulses and periods with all gates off, requests for the present state (log entries
36, 124, 125, 147). -/
def Obligations.PortStatesAndCarrierPeriods : Prop :=
  Says.PortStateRequestsTakeEffectInTheNextSlot ∧
  Says.CarrierPeriodsStartOnTheirGrid

/-- Over-current, poor samples and the calibration of current sensing. A count of the comparator that reaches its
limit raises FLT_OVERCURRENT, commands the unit with source 1, counts the trip and starts the counts again;
while the unit holds a safe state the trip is counted and changes nothing else; during a calibration pass the
comparator sees nothing (R98, R100, R131, R134). The both-poor count at its limit raises FLT_CS_QUALITY with
source 7, in the slot of the last tick of the K_IIN instance that counted last (R96, R131, R472). A published
request starts a calibration pass of the port's current sensing; one that comes while a pass runs starts no
second one (R100, R102). Current-sensing calibration: in ARMED a new pass starts the interval after the last; a
waiting start event starts a pass; a pass within its limits publishes its factors, one outside raises
FLT_CS_CAL, is counted and leaves the former factors (R100 to R104). Model's choices: the counts after a trip
and over a pass, OVR in the hard test, the unrounded comparison, an abandoned pass, passes due together, samples
of the period in which a pass ends and the rounding of the factors (log entries 30, 31, 33 to 35, 132, 158,
159). -/
def Obligations.CurrentSensingIsCalibratedAndGuarded : Prop :=
  Says.OvercurrentTripsThePort ∧
  Says.BothPoorFramesRaiseCsQuality ∧
  Says.CalibrationRequestStartsAPass ∧
  Says.CurrentSensingCalibrationPublishesOrFails

/-- Events of a sensorless start and the decisions of the observers. The events of a sensorless start: a phase that
is over gives way to the next; an attempt not handed over by the end of its ramp is followed by the pause, or
after the last one by a request for COAST with START_FAILED, in the slot of the last tick of K_STOP_SEQ; the
handover count at its limit requests CLOSED in the slot of the counting instance's last tick (R218, R220, R221,
R223, R472). The decisions of the observers: with sixteen frames in each sum the polarity is resolved by the
margin, turned by half a turn where the negative sum is larger and as it stands where the positive one is, or
ambiguous; a rotor-loss count at its limit sets ROTOR_LOST and sends an engine request to the unit, in the slot
of the counting instance's last tick; the catch count at its limit sets CAUGHT (R214, R224 to R226, R472).
Model's choices: the end of a ramp, the loss that is judged again, an ambiguous polarity (log entries 63, 135). -/
def Obligations.StartsAndObserversDecide : Prop :=
  Says.StartSequenceAdvancesOrFails ∧
  Says.ObserverDecisionsSetTheirFlags

/-- The safe-state unit, release from a safe state, standstill and fault clearing. Commands that have arrived at a
safe-state unit are evaluated together, at any instant of a slot: the unit's output is the one that the orders
choose, coast whenever order 1 applies, none is left waiting, and a fault command asks for TRIPPED unless the
port is OFF; this holds in a freeze too (R131, R133, R135). ASC ends in coast once the U current has kept its
sign for longer than half a period of the release speed, and SHORTED then goes to COAST, unless TRIPPED has been
asked for in the slot; an OFF port without fault or waiting command is released, but under EXTEST, HIGHZ and
CLAMP the unit coasts on (R131, R134, R170, R171, R462). In COAST the coast timeout, or the filtered speed below
the stop speed for its frames, counts as standstill (R171, R172). A change of FAULT_CLEAR from 0 to 1 removes
from the port exactly the active faults of class C whose condition has ended; the others stay (R252, R253).
Model's choices: which cause is reported, an order-4 command to an ARMED port, and the frames that a standstill
counts, the first sign of a current in ASC (log entries 39, 42, 161, 170). -/
def Obligations.SafeStatesAreAppliedAndLeft : Prop :=
  Says.SafeStateUnitAppliesTheChosenState ∧
  Says.SafeStatesAreReleased ∧
  Says.StandstillIsFoundInCoast ∧
  Says.FaultClearRemovesEndedFaults

/-- The brake chopper, its faults, and over-voltage without it. The brake chopper engages at a member port's OV2, at
least 10 µs after its last release, counts the engagement, and is released once every member lies below its
release level (R138, R143). The chopper's checks: above 2.0 V while on it is OPEN, and 50 µs after the
engagement a bus above its value then by more than the margin is INEFFECTIVE; either sets its cause bit and
makes FLT_BRK_FAULT active on the lane's ports (R139, R143). Over-voltage without a chopper: a non-member's
sample at its OV2 sets its bit and starts the escalation, whose delay with the sample still there commands ASC
under order 4 with source 10; samples below the release level for the delay withdraw the bit; OV3 raises
FLT_BUS_OV3 with source 6, with order 4 while the chopper fault is active (R139 to R141). Model's choices: no
engagement while the chopper's fault is active, and one start of the escalation (log entry 40). -/
def Obligations.ChopperAndOverVoltage : Prop :=
  Says.ChopperEngagesAndReleases ∧
  Says.ChopperFaultsAreFound ∧
  Says.OverVoltageEscalates

/-- Quadrature edges, the illegal bucket, index and preset. A line takes a level once it has held it for one sample
more than its filter asks. A quadrature edge of one filtered channel counts one step in its direction, stamped
with the first sample of its new level; a change of both channels at once counts nothing, fills the illegal
bucket and is counted as illegal; no edge changes nothing (R185, R188, R190). The illegal bucket leaks one at
every leak period, never below zero; beyond its limit it raises FLT_FB_ILLEGAL and commands the safe-state unit
with source 16, which is not done again while it is active, nor in feedback mode 0 (R131, R190, R201). A rising
edge of the filtered index line is an index event, any other sample none. The first index event shifts both
counts so that the raw count reads the configured value, and references them; a later one is a match, which
clears the run of mismatches, or a mismatch, which is counted; the third in a row raises FLT_FB_INDEX and
commands the safe-state unit with source 16; a preset sets both counts and the reference (R131, R185, R191,
R192, R201). Model's choices: a feedback fault is raised once per episode, and what a preset keeps, the cycle
that the latch shares (log entries 59, 143, 172). -/
def Obligations.QuadratureCountsAndReferences : Prop :=
  Says.QuadratureEdgesCountOrFillTheBucket ∧
  Says.IllegalBucketLeaksAndTrips ∧
  Says.IndexAndPresetReferenceTheCount

/-- Hall states, the zero-speed timeout and SENT frames. Hall states, of the three filtered lines: 0 and 7 are
invalid from the instant they appear, and raise FLT_FB_HALL, with the safe-state command of source 16, when the
latch shows no valid state in time; a neighbouring state is an edge at the midpoint of the two centres; another
is a skip to its own centre, counted and put into the illegal bucket; the return of the last valid state is
neither, and the first valid state of all is taken at its centre. Every change is stamped (R51, R131, R185,
R186, R190, R193, R201). Without an edge for longer than the zero-speed timeout, as the latch holds it, and none
since, MOTION is cleared, and on a quadrature or Hall port the speed of engine 1's feedback path is zero; a SENT
port keeps its speed. An edge after the latch keeps the timeout from acting (R51, R194, R200, R204). A SENT
frame that its filter passes and that has no cause of rejection is accepted: its value is the first three data
nibbles, most significant first; any other is counted as rejected with its cause and changes no value; without
an accepted frame for the timeout FLT_FB_SENT is raised and the safe-state unit commanded with source 16 (R131,
R185, R195 to R198, R201). Model's choices: the return to the last valid state, the arc and interval of the
speed, a pause out of range, once per episode, the stamp of several lines, the measured tick, the wait of the
invalid state (log entries 56 to 60, 143 to 145, 163). -/
def Obligations.HallAndSentInputs : Prop :=
  Says.HallStatesAreEdgesSkipsOrInvalid ∧
  Says.ZeroSpeedTimeoutClearsTheSpeed ∧
  Says.SentFramesAreAcceptedOrRejected

/-- Fault line, pair register and pair supervision. The partner's asserted line is latched once; a SHARED register
then asks for SOLO of the receiving lane, or for LOST where the receiving port is itself TRIPPED or SHORTED; a
register in the partner's SOLO state asks for LOST (R240, R241, R246). A write of the pair register takes effect
in the slot after it: from SHARED into SOLO of the own lane it starts the overload timer and is counted; a state
from which it may not be entered is kept (R241, R246, R247). A partner that drives with its line asserted, a
blamed partner that drives on, and the end of the overload time: the line is ignored under FLT_XW_LINE, the pair
is lost with a command of source 13, both where K_XW_EXCH's and K_XW_PLAUS's latest instance completes them, and
the release ramp starts (R241, R244, R247, R472). Model's choices: counts, the end of the blame flags, the fault
line's lane, the cause of a partner's loss and a second entry into SOLO (log entries 67 to 70, 165). -/
def Obligations.PairsKeepASurvivor : Prop :=
  Says.FaultLineLeavesASurvivor ∧
  Says.PairRegisterFollowsItsWrites ∧
  Says.PairSupervisionActs

/-- General converters: records, requests and calibration. A conversion whose end has passed leaves one record for
the next slot, with the instant of its sample, the code and OVR, and gives way to the next conversion; without
one in progress, and with the converter's lane lost, nothing happens. The code of an input within the span is
its share of the span at the word's gain, and an input outside gives the end of the span with OVR (R257 to R263,
R266, R267). A restart request, behind an injected request or a calibration of the same boundary, waits for the
pass's end and a second one is counted as an overrun; taking effect, the requested configuration becomes the
active one; an injected request waits for the conversion in progress; each is consumed (R264, R268, R270). A
calibration pass of a converter starts once nothing converts; at its end factors within their limits are
published, and others leave the former ones and are counted (R269 to R271). Model's choices: unclaimed entries
after a calibration, later completion, whole codes, the deviation of a conversion, the phase and the PASS field
of a deferred conversion, commands and requests that meet before their start (log entries 24, 72, 73, 138, 175
to 178). -/
def Obligations.GeneralConvertersConvertAndCalibrate : Prop :=
  Says.ConversionsLeaveARecord ∧
  Says.ConverterRequestsAreTaken ∧
  Says.ConverterCalibrationPublishesOrFails

/-- Mode requests that are provided change the mode, others are dropped. The changes of mode that a published
request brings about in the slots it may: SLEEP and STORAGE take the power of both lanes away and discard the
timed actions, CONFIGURE is entered, and STANDBY from RUN, an ARMED port passing to OFF, as from CONFIGURE
unless an image is being verified; RUN is entered, or DEGRADED after an event of R251; the request is consumed
(R276, R278, R281). What is not provided does not change the mode: a request for RUN, STANDBY, SLEEP, CONFIGURE
or STORAGE from another mode than the table gives it, and one for STANDBY while an image is being verified, is
dropped without any other effect; a second one in a slot waits, and so does one before which another mode
request was published (R276 to R278). Model's choice: a request whose mode has gone is dropped (log entry 75). -/
def Obligations.ModeRequestsChangeTheModeOrAreDropped : Prop :=
  Says.ModeRequestsChangeTheMode ∧
  Says.ModeRequestsOfAnotherModeAreDropped

/-- Low-power entry, wake sources and resets. SLEEP or STORAGE, once its entry is complete, has nothing of the state
but the flash, the fuses and the island with its wake settings; a wake source latched on the way leads straight
on into a reset with cause 4 or 5 (R281, R282). The wake sources of a device in SLEEP: the pin held for 50 µs
with the configured edge, the timer, CAN and the return of VBAT; each starts the device with reset cause 4 and
reports itself, or the highest of those that fire within one LFO cycle (R276, R280, R282). Every reset takes all
state to its reset values but flash, fuses, the TAP, the level at LULL_N and whether the part has a lane B,
reports its cause, and leaves the device held: cause 1 at power-on, 2 from a RESET_N pulse of 10 µs or more, 3
from a host, 7 with both lanes lost or without the supply of the common domain; pulses below 1 µs do nothing.
Where boundary scan goes on over it, the units coast on (R285, R292, R293, R462). Model's choices: what acts on
the way into low power, an island without power, the TAP at resets, a halted start-up (log entries 74, 76, 107,
120). -/
def Obligations.LowPowerWakeAndResets : Prop :=
  Says.LowPowerKeepsFlashAndIsland ∧
  Says.WakeSourcesStartTheDevice ∧
  Says.ResetsKeepFlashAndFuses

/-- Loss of a lane by supply, temperature, late release or its partner, and DEGRADED. A rail outside its window for
its filter time and a temperature above 165 °C for 5 µs make the lane lost: FLT_SUPPLY_UV or FLT_OVERTEMP is
active on its ports, which are commanded with source 13 after it, its general converters stop for good, and it
is an event of R251; a lost lane whose supply returns above 5.3 V stays in reset with its gates off (R250, R266,
R283, R284, R295). A sensor supply outside its window or overloaded for 5 µs is a fault of the lane's ports and
commands those with a feedback interface, source 17, its cause being shown unless the lane is lost; a lane
released too late for start-up is lost with the cause FLT_SUPPLY_UV (R283, R289, R297). A lane that finds its
partner's line asserted, and not ignored, and the records stale for two frames treats the other lane as lost,
with that lane's general converters stopped for good, an event of R251, upon which RUN becomes DEGRADED; without
such an event DEGRADED is not entered (R241, R250, R251, R266, R276). Model's choices: the cause of a partner's
loss, and the instant of a lane's loss (log entries 69, 77, 120, 129). -/
def Obligations.LanesAreLostAndTheDeviceDegrades : Prop :=
  Says.SupplyAndTemperatureLossLoseTheLane ∧
  Says.SensorSupplyAndLateLanes ∧
  Says.LostPartnerLaneLeadsToDegraded

/-- Measurements, the loss of the root clock and the clock comparisons of the lanes. The lane supervisor's
measurements are reported, and the derating factor falls at once to the one that the hottest point gives and
rises by no more than one per mille; lane A shows the root's deviation (R294, R297, R298, R309). The loss of the
root, found by missing edges, by two deviating windows or by the PLL, takes a lane to its backup oscillator,
with FLT_ROOT_CLOCK for the first lane, and the slot count runs on; on the root the backup's trim follows its
deviation by one step, and on backup, while the source base of AT is valid, at most one step in 10 ms (R301,
R303, R304, R307 to R309). A lane's clock against the other lane's: two consecutive windows that deviate by more
than 3.5 % and in which that lane runs on the root throughout are a lane clock fault, and without the other lane
one against the LFO as measured; it makes the lane lost; a fault of the common time base is a device fault and
an event of R251 (R27, R49, R250, R251, R302, R306). Model's choices: the trim's step, the clock faults' row,
the rounding of the derating, detectors that coincide, the lane whose LFO measurement shows, an LFO that only
some windows contradict (log entries 80, 81, 120, 140, 141, 179). -/
def Obligations.ClocksAndTemperaturesAreSupervised : Prop :=
  Says.MeasurementsAreReportedAndDerate ∧
  Says.RootLossTakesTheLaneToBackup ∧
  Says.ClockComparisonsLoseTheLane

/-- Start-up from the release of reset to STANDBY, and the auto-run request. The first lane out of its power-on
reset with a passing BIST starts the boot ROM, with the pins' profile selection and the variant that the part
adopts, TK4822 where its word is weak, in 0x2400.01; clocks that are decided start the slot counts at 0 together
and lose the lanes whose BIST failed, start-up halting without another; without a catalogue STANDBY is entered
and no image is activated, LULL_N held low through start-up freezing there at once, and the factory minimal
profile gets the factory minimal image (R4, R24, R74, R288, R291, R302, R441, R466). The auto-run request is
judged and journaled as a host's would be, or refused with AUTORUN_REFUSED and counted, by its result or by a
full writer's queue; before its time nothing happens (R279, R366, R373). Model's choices: the steps' grouping
into rows, alarms of the fallback, AUTORUN_REFUSED after any refusal, one trigger of a pin that stays low (log
entries 75, 77 to 79, 154). -/
def Obligations.StartUpProceedsInOrderToAutoRun : Prop :=
  Says.StartUpProceedsInOrder ∧
  Says.AutoRunIsJudged

/-- Publication at the boundary, and snapshots. What a committed change or a Process write publishes at the
boundary: once a slot, a value becomes that of its object, and a command waits for its own row; changes whose
commit ended after the boundary wait for the next. A boundary that has published and has no Process write due
publishes nothing again. The staging buffer is LOADED; the inactive bank is erased, or takes the segment that
follows (R30, R50, R81, R373, R395). A snapshot copies the listed objects as they are at one boundary behind the
new generation and the slot count, for the session that asked; an object whose lane has not yet reached that
count waits for it (R363). Model's choices: published commands wait in a list for their rows, and a lane that is
ahead of a snapshot, a window that has changed, when it samples arrivals (log entries 101, 126, 151, 182). -/
def Obligations.PublicationAndSnapshot : Prop :=
  Says.ChangePublicationMakesValuesVisible ∧
  Says.SnapshotCopiesTheListedObjects

/-- Sync, Announce, receipt time-outs and peer delay. A Sync of the port's master: a two-step Sync waits for its
Follow_Up; one step, or the Follow_Up with both corrections, reports the offset on the slave port, and takes an
UNSET base by a step to ACQUIRING. A message of no enabled domain changes nothing (R313, R316, R317). An
Announce of a first or better master is taken over with its grandmaster; another grandmaster than a TRACKING
base's takes that base back to ACQUIRING and is counted; a worse one of another source changes nothing (R313,
R317). A port that receives no Sync, or no Announce, for more than three intervals has lost it: the flag is set,
and a TRACKING base whose other port receives none either goes to HOLDOVER (R313, R317). Peer delay: a request
goes to the designated peer each interval, an unanswered one being a failure; its response gives the mean link
delay and the neighbour's rate against the device's own ticks, from two exchanges with the same station; any
requester is answered with the instants (R313, R315; log entry 180). Model's choices: a Sync out of rate, the
flags of the timeouts, unanswered requests, how peer delay is formed (log entries 12, 82, 86, 180). -/
def Obligations.NetworkTimeDisciplinesTheBases : Prop :=
  Says.SyncDisciplinesTheBase ∧
  Says.AnnounceSelectsTheMaster ∧
  Says.ReceiptTimeoutsHoldTheBase ∧
  Says.PeerDelayIsMeasured

/-- Timed actions are armed, cancelled and run. An entry is armed by its record at the publication boundary, and a
cancelling record cancels an armed one; a record of the other kind is not the row's own (R322 to R324, R326). An
occurrence runs once its base has reached its time: a pulse on its output, a value or the grid anchor written
and visible, a mode request published; it is counted as executed, or, refused, keeps its result; a pulse ends
after its width (R325, R326, R328). Model's choices: the order of rows at a boundary, how an occurrence is
judged, and at which lane's boundary it is published (log entries 87, 137). -/
def Obligations.TimedActionsRun : Prop :=
  Says.TimedActionsAreArmedAndCancelled ∧
  Says.OccurrencesRun

/-- The change journal: commits in order, the chain of entries, erasure and acknowledgement. The writer takes the
first job that has reached its queue; with the journal unavailable it commits none, and full it says so; one
that has not reached the queue waits (R365, R373, R374, R376). A commit programs the next unit with the entry's
number, its body and the tag over the entry before, and its change waits for its publication; a unit that reads
back differently is voided; a second failure raises FLT_COMMON_FLASH (R370, R373, R374). A block's erase takes
its units and counts the unacknowledged entries as lost, the anchor taking the last entry's tag; an
acknowledgement queues the blocks it covers (R377, R379). Model's choices: when full and unavailable are found,
failed units, blocks that are still filled, CHAIN_KEY_ZERO at reset, the order of what two lanes form (log
entries 98, 100, 122, 136, 150). -/
def Obligations.TheJournalIsAChain : Prop :=
  Says.CommitsStartInOrder ∧
  Says.CommitsProgramTheChain ∧
  Says.JournalBlocksAreErasedAndAcknowledged

/-- Requests are queued on arrival and reads answered. A frame that a network port takes in waits for the boundary
that stamps it; a datagram longer or shorter than its PDU is counted, and a port that is not up, off the bus or
not addressed takes nothing. At that boundary a request without a session or with a new sequence number of its
session is queued with its stamp, and the session keeps the number; a full queue answers BUSY, another type
TYPE_LENGTH, a tag that does not verify and a number that is refused SESSION_INVALID (R50, R339, R345, R346,
R349, R407). Reading in a service slot: the value as visible, or a segment of it behind its total length, is
answered; a refused read is answered with its result; an object of the other lane goes over the bridge and is
answered from there 2 slots later, with the result of its checks where it is refused there, or where its home
lane has been lost on the way (R28, R340, R347, R350, R361, R362). Model's choices: datagrams of a wrong length,
full transmit queues, and the instant at which arrivals are sampled (log entries 88, 89, 182). -/
def Obligations.RequestsAreQueuedAndReadsAnswered : Prop :=
  Says.RequestsAreQueuedOnArrival ∧
  Says.ReadsAreAnswered

/-- Profiles are loaded whole, saved and erased. A profile named by its command is loaded as a whole or not at all:
on success every object that profiles hold takes its value and the profile's image is activated; on failure the
cause is reported and the image stays (R389, R390, R391, R396). A save captures the setup at its publication and
erases the half that does not hold the newest copy, which is then programmed, or, read back differently, is as
it was read and no valid half; an erase leaves both halves erased (R391 to R393, R396). Model's choices: the
causes of failure, the spare half and what a failed save leaves there, an erase cut short, a load in STANDBY
(log entries 92, 103, 104, 152, 157). -/
def Obligations.ProfilesAreLoadedSavedAndErased : Prop :=
  Says.ProfilesAreLoadedWhole ∧
  Says.ProfilesAreSavedAndErased

/-- Device records, banks, fault traces and return consent. A change that a device record holds is written into the
older copy before it is published; a staged bank is checked as at start-up, and a switch names it for the next
reset (R394, R395). The oldest queued trace record is appended with the next number; return consent is recorded
in flash with a new identifier when set, and with none when cleared (R442, R443, R444). Model's choices: the
check of a bank, the record's own row, the number of a consent's entry (log entries 32, 105). -/
def Obligations.RecordsBanksTracesAndConsent : Prop :=
  Says.RecordsAndBanksAreWritten ∧
  Says.TracesAndConsentAreRecorded

/-- Fuse words are programmed, regions locked, the array re-read. A fuse word is programmed from its publication on:
its bits are set and both shadows take it at the next boundary, a privileged word being closed; outside a supply
window, and without verification, a privileged word fails with the bits pulsed so far, and an ordinary one that
does not verify reads from a spare row from then on (R414, R419 to R421). A region is locked if it passes its
test on a fresh reading, and otherwise refused with its words unchanged; the periodic re-read reports drifted
words, and one that cannot be completed raises FLT_COMMON_OTP; a read of ordinary words is answered once they
are read (R422, R423, R426, R427). Model's choices: the order of spare rows, the shadows' instant, readings as
operands, the code of the check bits, the windows' measurement (log entries 109, 110, 148, 149). -/
def Obligations.FusesAreProgrammedLockedAndReread : Prop :=
  Says.FuseWordsAreProgrammed ∧
  Says.RegionsAreLockedAndReread

/-- Frames of the chain port and the units that assemble a request. A frame of the chain begins with the settings of
its falling edge and the outbound unit in the section, whose first bit stands on SDO. Each edge of SCK passes
one bit on, or in rising-edge mode each rising edge, so that the section holds the last U bits sampled and SDO
shows the bits that have left its input side. A frame of exactly 2F edges with SCK low at both edges of CSN is
good, latches the section and is counted, any other is a framing error with its cause that drops the assembly; a
frame without edges is none. RSTB copies each level of SCK where its setting of the frame says so and is high-
impedance otherwise (R397 to R404, R406). A start unit opens an assembly with its bytes, a data unit extends the
open one up to its PDU's length, and an abort unit drops it; a payload above 1024 bytes drops it too and is
counted; a complete PDU waits for the boundary that stamps it. A unit waits for its own row (R405 to R407).
Model's choices: the first cause, uncounted drops, a unit that waits for its row, edges that come with the rise
of CSN, SDO between frames (log entries 106, 146). -/
def Obligations.TheChainPortCarriesUnits : Prop :=
  Says.ChainFramesAreJudged ∧
  Says.ChainUnitsAssembleARequest

/-- Freeze triggers, self-dumps and captures. A permitted trigger freezes the device and commands every present
port's unit with source 12; in RUN and DEGRADED without permission it is counted and ignored; LULL_N triggers
once while it is low, and a pulse of it below 1 µs does not (R429 to R431, R441). A freeze that nobody reads for
1 s dumps itself into a free capture slot, or finds none; captures are released and erased (R439, R444). Model's
choices: one self-dump in a freeze, open bytes of a dump, the fields of a capture, one trigger of a pin that
stays low (log entries 113, 114, 154). -/
def Obligations.FreezesAndCaptures : Prop :=
  Says.TriggersFreezeTheDevice ∧
  Says.CapturesAreWrittenAndErased

/-- Debug and boundary-scan instructions of the test access port. The debug instructions: FZ_STATUS shifts the
freeze's status out; DUMP_ADDR takes multiples of 4; DUMP_DATA shifts out the dump's words and advances, zeros
outside a freeze; RESUME restarts the clocks of a resumable freeze and is refused otherwise; SYSRESET resets
with cause 6; without power the TAP does nothing (R292, R434, R435, R440). Identification and boundary scan:
IDCODE shifts its 32 bits out; EXTEST, HIGHZ and CLAMP make every present port coast and hold its gates and the
brake outputs off; SAMPLE/PRELOAD holds nothing; every unlisted code is BYPASS; OBJ takes a unit of exactly 32
cycles, shifts zeros in a freeze and outside the powered modes, and shows the BIST result of a start-up that it
halted (the model's choice, log entry 142); a test logic reset drops assembly and responses and keeps a mark
that waits; in SLEEP and STORAGE the others do nothing (R462, R463). Model's choices: the boundary-scan coast,
torn commits, the TAP after a reset and on a halted start-up (log entries 107, 108, 112, 115, 142). -/
def Obligations.TheTapActsOnFreezeAndPins : Prop :=
  Says.DebugInstructionsActOnTheFreeze ∧
  Says.ScanInstructionsActOnTheRegisters
end

