-- ==== Sys2Proof/Laws/Maps.lean ====
section
/-! SUPPORT. Sparse maps: what a word map reads after a write. -/

namespace Sys2Proof.Machine

theorem mapFind_mapErase_same {α : Type} (k : Nat) (m : NatMap α) : mapFind k (mapErase k m) = none := by
  induction m with
  | nil => rfl
  | cons e r ih =>
    obtain ⟨k', v⟩ := e
    by_cases h : k' = k
    · simpa [mapErase, h] using ih
    · simpa [mapErase, h, mapFind] using ih

theorem mapFind_mapErase_ne {α : Type} (k a : Nat) (m : NatMap α) (h : a ≠ k) : mapFind a (mapErase k m) = mapFind a m := by
  induction m with
  | nil => rfl
  | cons e r ih =>
    obtain ⟨k', v⟩ := e
    by_cases h' : k' = k
    · subst h'; simpa [mapErase, mapFind, Ne.symm h] using ih
    · by_cases ha : k' = a
      · subst ha; simp [mapErase, mapFind, h]
      · simpa [mapErase, mapFind, h', ha] using ih

theorem mapFind_mapInsert_same {α : Type} (k : Nat) (v : α) (m : NatMap α) : mapFind k (mapInsert k v m) = some v := by
  induction m with
  | nil => simp [mapInsert, mapFind]
  | cons e r ih =>
    obtain ⟨k', v'⟩ := e
    simp only [mapInsert]
    split
    · simp [mapFind]
    · split
      · simp [mapFind]
      · rename_i h; simp [mapFind, ih, Ne.symm h]

theorem mapFind_mapInsert_ne {α : Type} (k a : Nat) (v : α) (m : NatMap α) (h : a ≠ k) :
    mapFind a (mapInsert k v m) = mapFind a m := by
  induction m with
  | nil => simp [mapInsert, mapFind, Ne.symm h]
  | cons e r ih =>
    obtain ⟨k', v'⟩ := e
    simp only [mapInsert]
    split
    · simp [mapFind, Ne.symm h]
    · split
      · rename_i hk; subst hk; simp [mapFind, Ne.symm h]
      · simp [mapFind, ih]

/-- A word map reads what was written, and every other word as before. -/
theorem wordGet_wordSet (m : NatMap Word) (k a : Nat) (v : Word) :
    wordGet (wordSet m k v) a = if a = k then v else wordGet m a := by
  unfold wordGet wordSet
  by_cases h : a = k
  · subst h
    split
    · rename_i hv; rw [if_pos rfl, mapFind_mapErase_same, hv]; rfl
    · rw [if_pos rfl, mapFind_mapInsert_same]; rfl
  · rw [if_neg h]
    split
    · rw [mapFind_mapErase_ne _ _ _ h]
    · rw [mapFind_mapInsert_ne _ _ _ _ h]

theorem mapErase_mem {α : Type} (k : Nat) (m : NatMap α) (e : Nat × α) (h : e ∈ mapErase k m) : e ∈ m :=
  (List.mem_filter.mp h).1

theorem mapInsert_mem {α : Type} (k : Nat) (v : α) (m : NatMap α) (e : Nat × α) (h : e ∈ mapInsert k v m) :
    e = (k, v) ∨ e ∈ m := by
  induction m with
  | nil => simpa [mapInsert] using h
  | cons x r ih =>
    obtain ⟨k', v'⟩ := x
    simp only [mapInsert] at h
    split at h
    · simpa using h
    · split at h
      · rcases List.mem_cons.mp h with h | h
        · exact .inl h
        · exact .inr (List.mem_cons_of_mem _ h)
      · rcases List.mem_cons.mp h with h | h
        · exact .inr (h ▸ List.mem_cons_self)
        · exact (ih h).imp_right (List.mem_cons_of_mem _)

theorem wordsWf_cons (k : Nat) (v : Word) (r : NatMap Word) :
    wordsWf ((k, v) :: r) = true ↔ v ≠ 0 ∧ (∀ e ∈ r, k < e.1) ∧ wordsWf r = true := by
  simp [wordsWf, and_assoc]

theorem wordsWf_mapErase (k : Nat) (m : NatMap Word) (h : wordsWf m = true) : wordsWf (mapErase k m) = true := by
  induction m with
  | nil => rfl
  | cons x r ih =>
    obtain ⟨k', v'⟩ := x
    obtain ⟨hv, hr, hw⟩ := (wordsWf_cons ..).mp h
    by_cases hk : k' = k
    · simpa [mapErase, hk] using ih hw
    · have : mapErase k ((k', v') :: r) = (k', v') :: mapErase k r := by simp [mapErase, hk]
      rw [this, wordsWf_cons]
      exact ⟨hv, fun e he => hr e (mapErase_mem _ _ _ he), ih hw⟩

theorem wordsWf_mapInsert (k : Nat) (v : Word) (m : NatMap Word) (hv : v ≠ 0) (h : wordsWf m = true) :
    wordsWf (mapInsert k v m) = true := by
  induction m with
  | nil => simp [mapInsert, wordsWf]; exact hv
  | cons x r ih =>
    obtain ⟨k', v'⟩ := x
    obtain ⟨hv', hr, hw⟩ := (wordsWf_cons ..).mp h
    simp only [mapInsert]
    split
    · rename_i hk
      rw [wordsWf_cons]
      refine ⟨hv, fun e he => ?_, h⟩
      rcases List.mem_cons.mp he with he | he
      · exact he ▸ hk
      · exact Nat.lt_trans hk (hr e he)
    · split
      · rename_i hk; rw [wordsWf_cons]; exact ⟨hv, hk ▸ hr, hw⟩
      · rename_i h1 h2
        rw [wordsWf_cons]
        refine ⟨hv', fun e he => ?_, ih hw⟩
        rcases mapInsert_mem _ _ _ _ he with he | he
        · subst he; simp only; omega
        · exact hr e he

/-- A word map keeps its canonical form when a word is written. -/
theorem wordsWf_wordSet (m : NatMap Word) (k : Nat) (v : Word) (h : wordsWf m = true) : wordsWf (wordSet m k v) = true := by
  unfold wordSet
  split
  · exact wordsWf_mapErase _ _ h
  · rename_i hv; exact wordsWf_mapInsert _ _ _ hv h

/-! ### The fuse array -/

/-- A word whose newest spare row is written reads as written. -/
theorem lookup_putRow_self (w : Nat) (v : Word) (r : List (Nat × Word)) (h : (r.lookup w).isSome = true) :
    (putRow w v r).lookup w = some v := by
  induction r with
  | nil => simp at h
  | cons e r ih =>
    obtain ⟨k, x⟩ := e
    by_cases hk : k = w
    · simp [putRow, hk]
    · have hne : (w == k) = false := beq_eq_false_iff_ne.mpr (Ne.symm hk)
      simp only [List.lookup, hne] at h
      simp [putRow, hk, List.lookup, hne, ih h]

/-- Other words keep their spare rows. -/
theorem lookup_putRow_ne (w x : Nat) (v : Word) (r : List (Nat × Word)) (h : x ≠ w) :
    (putRow w v r).lookup x = r.lookup x := by
  induction r with
  | nil => rfl
  | cons e r ih =>
    obtain ⟨k, y⟩ := e
    by_cases hk : k = w
    · subst hk
      have hne : (x == k) = false := beq_eq_false_iff_ne.mpr h
      simp [putRow, List.lookup, hne]
    · simp only [putRow, if_neg hk, List.lookup, ih]

/-- A fuse word set reads as set, and every other as before. -/
theorem Fuses.word_put (f : Fuses) (w x : Nat) (v : Word) : (f.put w v).word x = if x = w then v else f.word x := by
  unfold Fuses.put Fuses.word
  by_cases hr : (f.rows.lookup w).isSome = true <;> by_cases hx : x = w
  · subst hx; simp [hr, lookup_putRow_self _ _ _ hr]
  · simp [hr, hx, lookup_putRow_ne _ _ _ _ hx]
  · subst hx
    have : f.rows.lookup x = none := by
      cases h : f.rows.lookup x with
      | none => rfl
      | some y => exact absurd (by rw [h]; rfl) hr
    simp [this, wordGet_wordSet]
  · simp [hr, hx, wordGet_wordSet]

end Sys2Proof.Machine
end

