-- ==== Sys2Proof/Laws/State.lean ====
section
/-! SUPPORT. What an update of the state leaves alone and what it sets: one lemma per field and update, so that no proof unfolds
a record update. -/

namespace Sys2Proof.Machine

set_option Elab.async false

@[simp] theorem State.upd_dev (s : State) (f : Dev → Dev) : (s.upd f).dev = f s.dev := rfl
@[simp] theorem State.upd_pending (s : State) (f : Dev → Dev) : (s.upd f).pending = s.pending := rfl
@[simp] theorem State.awake_pending (s : State) (f : Dev → Dev) : (s.awake f).pending = s.pending := rfl

/-- A command of an awake block is its step. -/
theorem State.awake_dev (s : State) (f : Dev → Dev) (h : s.dev.frozen = false) : (s.awake f).dev = f s.dev := by
  simp [State.awake, h]

/-- In a freeze the block does not see a clocked command. -/
theorem State.awake_frozen (s : State) (f : Dev → Dev) (h : s.dev.frozen = true) : s.awake f = s := by
  cases s; simp_all [State.awake, State.upd]

@[simp] theorem Dev.putVal_ports (d : Dev) (i j : Nat) (v : ObjVal) : (d.putVal i j v).ports = d.ports := rfl
@[simp] theorem Dev.putVal_lanes (d : Dev) (i j : Nat) (v : ObjVal) : (d.putVal i j v).lanes = d.lanes := rfl
@[simp] theorem Dev.putVal_image (d : Dev) (i j : Nat) (v : ObjVal) : (d.putVal i j v).image = d.image := rfl
@[simp] theorem Dev.putVal_monArmed (d : Dev) (i j : Nat) (v : ObjVal) : (d.putVal i j v).monArmed = d.monArmed := rfl
@[simp] theorem Dev.putVal_activeAt (d : Dev) (i j : Nat) (v : ObjVal) : (d.putVal i j v).activeAt = d.activeAt := rfl
@[simp] theorem Dev.putVal_frozen (d : Dev) (i j : Nat) (v : ObjVal) : (d.putVal i j v).frozen = d.frozen := rfl
@[simp] theorem Dev.putVal_degradeDue (d : Dev) (i j : Nat) (v : ObjVal) : (d.putVal i j v).degradeDue = d.degradeDue := rfl
@[simp] theorem Dev.putVal_published (d : Dev) (i j : Nat) (v : ObjVal) : (d.putVal i j v).published = d.published := rfl
@[simp] theorem Dev.putVal_gcs (d : Dev) (i j : Nat) (v : ObjVal) : (d.putVal i j v).gcs = d.gcs := rfl
@[simp] theorem Dev.putVal_devFaults (d : Dev) (i j : Nat) (v : ObjVal) : (d.putVal i j v).devFaults = d.devFaults := rfl
@[simp] theorem Dev.putVal_boot (d : Dev) (i j : Nat) (v : ObjVal) : (d.putVal i j v).boot = d.boot := rfl
@[simp] theorem Dev.putVal_grid (d : Dev) (i j : Nat) (v : ObjVal) : (d.putVal i j v).grid = d.grid := rfl
@[simp] theorem Dev.putVal_time (d : Dev) (i j : Nat) (v : ObjVal) : (d.putVal i j v).time = d.time := rfl
@[simp] theorem Dev.putVal_net (d : Dev) (i j : Nat) (v : ObjVal) : (d.putVal i j v).net = d.net := rfl
@[simp] theorem Dev.putVal_wr (d : Dev) (i j : Nat) (v : ObjVal) : (d.putVal i j v).wr = d.wr := rfl
@[simp] theorem Dev.putVal_flash (d : Dev) (i j : Nat) (v : ObjVal) : (d.putVal i j v).flash = d.flash := rfl
@[simp] theorem Dev.putVal_fuses (d : Dev) (i j : Nat) (v : ObjVal) : (d.putVal i j v).fuses = d.fuses := rfl
@[simp] theorem Dev.putVal_otp (d : Dev) (i j : Nat) (v : ObjVal) : (d.putVal i j v).otp = d.otp := rfl
@[simp] theorem Dev.putVal_chain (d : Dev) (i j : Nat) (v : ObjVal) : (d.putVal i j v).chain = d.chain := rfl
@[simp] theorem Dev.putVal_tap (d : Dev) (i j : Nat) (v : ObjVal) : (d.putVal i j v).tap = d.tap := rfl
@[simp] theorem Dev.putVal_frz (d : Dev) (i j : Nat) (v : ObjVal) : (d.putVal i j v).frz = d.frz := rfl
@[simp] theorem Dev.putVal_shown (d : Dev) (i j : Nat) (v : ObjVal) : (d.putVal i j v).shown = d.shown := rfl
@[simp] theorem Dev.putVal_snap (d : Dev) (i j : Nat) (v : ObjVal) : (d.putVal i j v).snap = d.snap := rfl
@[simp] theorem Dev.putVal_gpioIn (d : Dev) (i j : Nat) (v : ObjVal) : (d.putVal i j v).gpioIn = d.gpioIn := rfl
@[simp] theorem Dev.putVal_freeIx (d : Dev) (i j : Nat) (v : ObjVal) : (d.putVal i j v).freeIx = d.freeIx := rfl
@[simp] theorem Dev.put_ports (d : Dev) (i j : Nat) (v : Int) : (d.put i j v).ports = d.ports := rfl
@[simp] theorem Dev.put_lanes (d : Dev) (i j : Nat) (v : Int) : (d.put i j v).lanes = d.lanes := rfl
@[simp] theorem Dev.put_image (d : Dev) (i j : Nat) (v : Int) : (d.put i j v).image = d.image := rfl
@[simp] theorem Dev.put_monArmed (d : Dev) (i j : Nat) (v : Int) : (d.put i j v).monArmed = d.monArmed := rfl
@[simp] theorem Dev.put_activeAt (d : Dev) (i j : Nat) (v : Int) : (d.put i j v).activeAt = d.activeAt := rfl
@[simp] theorem Dev.put_frozen (d : Dev) (i j : Nat) (v : Int) : (d.put i j v).frozen = d.frozen := rfl
@[simp] theorem Dev.put_degradeDue (d : Dev) (i j : Nat) (v : Int) : (d.put i j v).degradeDue = d.degradeDue := rfl
@[simp] theorem Dev.put_published (d : Dev) (i j : Nat) (v : Int) : (d.put i j v).published = d.published := rfl
@[simp] theorem Dev.put_gcs (d : Dev) (i j : Nat) (v : Int) : (d.put i j v).gcs = d.gcs := rfl
@[simp] theorem Dev.put_devFaults (d : Dev) (i j : Nat) (v : Int) : (d.put i j v).devFaults = d.devFaults := rfl
@[simp] theorem Dev.put_boot (d : Dev) (i j : Nat) (v : Int) : (d.put i j v).boot = d.boot := rfl
@[simp] theorem Dev.put_grid (d : Dev) (i j : Nat) (v : Int) : (d.put i j v).grid = d.grid := rfl
@[simp] theorem Dev.put_time (d : Dev) (i j : Nat) (v : Int) : (d.put i j v).time = d.time := rfl
@[simp] theorem Dev.put_net (d : Dev) (i j : Nat) (v : Int) : (d.put i j v).net = d.net := rfl
@[simp] theorem Dev.put_wr (d : Dev) (i j : Nat) (v : Int) : (d.put i j v).wr = d.wr := rfl
@[simp] theorem Dev.put_flash (d : Dev) (i j : Nat) (v : Int) : (d.put i j v).flash = d.flash := rfl
@[simp] theorem Dev.put_fuses (d : Dev) (i j : Nat) (v : Int) : (d.put i j v).fuses = d.fuses := rfl
@[simp] theorem Dev.put_otp (d : Dev) (i j : Nat) (v : Int) : (d.put i j v).otp = d.otp := rfl
@[simp] theorem Dev.put_chain (d : Dev) (i j : Nat) (v : Int) : (d.put i j v).chain = d.chain := rfl
@[simp] theorem Dev.put_tap (d : Dev) (i j : Nat) (v : Int) : (d.put i j v).tap = d.tap := rfl
@[simp] theorem Dev.put_frz (d : Dev) (i j : Nat) (v : Int) : (d.put i j v).frz = d.frz := rfl
@[simp] theorem Dev.put_shown (d : Dev) (i j : Nat) (v : Int) : (d.put i j v).shown = d.shown := rfl
@[simp] theorem Dev.put_snap (d : Dev) (i j : Nat) (v : Int) : (d.put i j v).snap = d.snap := rfl
@[simp] theorem Dev.put_gpioIn (d : Dev) (i j : Nat) (v : Int) : (d.put i j v).gpioIn = d.gpioIn := rfl
@[simp] theorem Dev.put_freeIx (d : Dev) (i j : Nat) (v : Int) : (d.put i j v).freeIx = d.freeIx := rfl
@[simp] theorem Dev.incBy_ports (d : Dev) (i j n : Nat) : (d.incBy i j n).ports = d.ports := rfl
@[simp] theorem Dev.incBy_lanes (d : Dev) (i j n : Nat) : (d.incBy i j n).lanes = d.lanes := rfl
@[simp] theorem Dev.incBy_image (d : Dev) (i j n : Nat) : (d.incBy i j n).image = d.image := rfl
@[simp] theorem Dev.incBy_monArmed (d : Dev) (i j n : Nat) : (d.incBy i j n).monArmed = d.monArmed := rfl
@[simp] theorem Dev.incBy_activeAt (d : Dev) (i j n : Nat) : (d.incBy i j n).activeAt = d.activeAt := rfl
@[simp] theorem Dev.incBy_frozen (d : Dev) (i j n : Nat) : (d.incBy i j n).frozen = d.frozen := rfl
@[simp] theorem Dev.incBy_degradeDue (d : Dev) (i j n : Nat) : (d.incBy i j n).degradeDue = d.degradeDue := rfl
@[simp] theorem Dev.incBy_published (d : Dev) (i j n : Nat) : (d.incBy i j n).published = d.published := rfl
@[simp] theorem Dev.incBy_gcs (d : Dev) (i j n : Nat) : (d.incBy i j n).gcs = d.gcs := rfl
@[simp] theorem Dev.incBy_devFaults (d : Dev) (i j n : Nat) : (d.incBy i j n).devFaults = d.devFaults := rfl
@[simp] theorem Dev.incBy_boot (d : Dev) (i j n : Nat) : (d.incBy i j n).boot = d.boot := rfl
@[simp] theorem Dev.incBy_grid (d : Dev) (i j n : Nat) : (d.incBy i j n).grid = d.grid := rfl
@[simp] theorem Dev.incBy_time (d : Dev) (i j n : Nat) : (d.incBy i j n).time = d.time := rfl
@[simp] theorem Dev.incBy_net (d : Dev) (i j n : Nat) : (d.incBy i j n).net = d.net := rfl
@[simp] theorem Dev.incBy_wr (d : Dev) (i j n : Nat) : (d.incBy i j n).wr = d.wr := rfl
@[simp] theorem Dev.incBy_flash (d : Dev) (i j n : Nat) : (d.incBy i j n).flash = d.flash := rfl
@[simp] theorem Dev.incBy_fuses (d : Dev) (i j n : Nat) : (d.incBy i j n).fuses = d.fuses := rfl
@[simp] theorem Dev.incBy_otp (d : Dev) (i j n : Nat) : (d.incBy i j n).otp = d.otp := rfl
@[simp] theorem Dev.incBy_chain (d : Dev) (i j n : Nat) : (d.incBy i j n).chain = d.chain := rfl
@[simp] theorem Dev.incBy_tap (d : Dev) (i j n : Nat) : (d.incBy i j n).tap = d.tap := rfl
@[simp] theorem Dev.incBy_frz (d : Dev) (i j n : Nat) : (d.incBy i j n).frz = d.frz := rfl
@[simp] theorem Dev.incBy_shown (d : Dev) (i j n : Nat) : (d.incBy i j n).shown = d.shown := rfl
@[simp] theorem Dev.incBy_snap (d : Dev) (i j n : Nat) : (d.incBy i j n).snap = d.snap := rfl
@[simp] theorem Dev.incBy_gpioIn (d : Dev) (i j n : Nat) : (d.incBy i j n).gpioIn = d.gpioIn := rfl
@[simp] theorem Dev.incBy_freeIx (d : Dev) (i j n : Nat) : (d.incBy i j n).freeIx = d.freeIx := rfl
@[simp] theorem Dev.inc_ports (d : Dev) (i j : Nat) : (d.inc i j).ports = d.ports := rfl
@[simp] theorem Dev.inc_lanes (d : Dev) (i j : Nat) : (d.inc i j).lanes = d.lanes := rfl
@[simp] theorem Dev.inc_image (d : Dev) (i j : Nat) : (d.inc i j).image = d.image := rfl
@[simp] theorem Dev.inc_monArmed (d : Dev) (i j : Nat) : (d.inc i j).monArmed = d.monArmed := rfl
@[simp] theorem Dev.inc_activeAt (d : Dev) (i j : Nat) : (d.inc i j).activeAt = d.activeAt := rfl
@[simp] theorem Dev.inc_frozen (d : Dev) (i j : Nat) : (d.inc i j).frozen = d.frozen := rfl
@[simp] theorem Dev.inc_degradeDue (d : Dev) (i j : Nat) : (d.inc i j).degradeDue = d.degradeDue := rfl
@[simp] theorem Dev.inc_published (d : Dev) (i j : Nat) : (d.inc i j).published = d.published := rfl
@[simp] theorem Dev.inc_gcs (d : Dev) (i j : Nat) : (d.inc i j).gcs = d.gcs := rfl
@[simp] theorem Dev.inc_devFaults (d : Dev) (i j : Nat) : (d.inc i j).devFaults = d.devFaults := rfl
@[simp] theorem Dev.inc_boot (d : Dev) (i j : Nat) : (d.inc i j).boot = d.boot := rfl
@[simp] theorem Dev.inc_grid (d : Dev) (i j : Nat) : (d.inc i j).grid = d.grid := rfl
@[simp] theorem Dev.inc_time (d : Dev) (i j : Nat) : (d.inc i j).time = d.time := rfl
@[simp] theorem Dev.inc_net (d : Dev) (i j : Nat) : (d.inc i j).net = d.net := rfl
@[simp] theorem Dev.inc_wr (d : Dev) (i j : Nat) : (d.inc i j).wr = d.wr := rfl
@[simp] theorem Dev.inc_flash (d : Dev) (i j : Nat) : (d.inc i j).flash = d.flash := rfl
@[simp] theorem Dev.inc_fuses (d : Dev) (i j : Nat) : (d.inc i j).fuses = d.fuses := rfl
@[simp] theorem Dev.inc_otp (d : Dev) (i j : Nat) : (d.inc i j).otp = d.otp := rfl
@[simp] theorem Dev.inc_chain (d : Dev) (i j : Nat) : (d.inc i j).chain = d.chain := rfl
@[simp] theorem Dev.inc_tap (d : Dev) (i j : Nat) : (d.inc i j).tap = d.tap := rfl
@[simp] theorem Dev.inc_frz (d : Dev) (i j : Nat) : (d.inc i j).frz = d.frz := rfl
@[simp] theorem Dev.inc_shown (d : Dev) (i j : Nat) : (d.inc i j).shown = d.shown := rfl
@[simp] theorem Dev.inc_snap (d : Dev) (i j : Nat) : (d.inc i j).snap = d.snap := rfl
@[simp] theorem Dev.inc_gpioIn (d : Dev) (i j : Nat) : (d.inc i j).gpioIn = d.gpioIn := rfl
@[simp] theorem Dev.inc_freeIx (d : Dev) (i j : Nat) : (d.inc i j).freeIx = d.freeIx := rfl
@[simp] theorem Dev.putBit_ports (d : Dev) (i j k : Nat) (b : Bool) : (d.putBit i j k b).ports = d.ports := rfl
@[simp] theorem Dev.putBit_lanes (d : Dev) (i j k : Nat) (b : Bool) : (d.putBit i j k b).lanes = d.lanes := rfl
@[simp] theorem Dev.putBit_image (d : Dev) (i j k : Nat) (b : Bool) : (d.putBit i j k b).image = d.image := rfl
@[simp] theorem Dev.putBit_monArmed (d : Dev) (i j k : Nat) (b : Bool) : (d.putBit i j k b).monArmed = d.monArmed := rfl
@[simp] theorem Dev.putBit_activeAt (d : Dev) (i j k : Nat) (b : Bool) : (d.putBit i j k b).activeAt = d.activeAt := rfl
@[simp] theorem Dev.putBit_frozen (d : Dev) (i j k : Nat) (b : Bool) : (d.putBit i j k b).frozen = d.frozen := rfl
@[simp] theorem Dev.putBit_degradeDue (d : Dev) (i j k : Nat) (b : Bool) : (d.putBit i j k b).degradeDue = d.degradeDue := rfl
@[simp] theorem Dev.putBit_published (d : Dev) (i j k : Nat) (b : Bool) : (d.putBit i j k b).published = d.published := rfl
@[simp] theorem Dev.putBit_gcs (d : Dev) (i j k : Nat) (b : Bool) : (d.putBit i j k b).gcs = d.gcs := rfl
@[simp] theorem Dev.putBit_devFaults (d : Dev) (i j k : Nat) (b : Bool) : (d.putBit i j k b).devFaults = d.devFaults := rfl
@[simp] theorem Dev.putBit_boot (d : Dev) (i j k : Nat) (b : Bool) : (d.putBit i j k b).boot = d.boot := rfl
@[simp] theorem Dev.putBit_grid (d : Dev) (i j k : Nat) (b : Bool) : (d.putBit i j k b).grid = d.grid := rfl
@[simp] theorem Dev.putBit_time (d : Dev) (i j k : Nat) (b : Bool) : (d.putBit i j k b).time = d.time := rfl
@[simp] theorem Dev.putBit_net (d : Dev) (i j k : Nat) (b : Bool) : (d.putBit i j k b).net = d.net := rfl
@[simp] theorem Dev.putBit_wr (d : Dev) (i j k : Nat) (b : Bool) : (d.putBit i j k b).wr = d.wr := rfl
@[simp] theorem Dev.putBit_flash (d : Dev) (i j k : Nat) (b : Bool) : (d.putBit i j k b).flash = d.flash := rfl
@[simp] theorem Dev.putBit_fuses (d : Dev) (i j k : Nat) (b : Bool) : (d.putBit i j k b).fuses = d.fuses := rfl
@[simp] theorem Dev.putBit_otp (d : Dev) (i j k : Nat) (b : Bool) : (d.putBit i j k b).otp = d.otp := rfl
@[simp] theorem Dev.putBit_chain (d : Dev) (i j k : Nat) (b : Bool) : (d.putBit i j k b).chain = d.chain := rfl
@[simp] theorem Dev.putBit_tap (d : Dev) (i j k : Nat) (b : Bool) : (d.putBit i j k b).tap = d.tap := rfl
@[simp] theorem Dev.putBit_frz (d : Dev) (i j k : Nat) (b : Bool) : (d.putBit i j k b).frz = d.frz := rfl
@[simp] theorem Dev.putBit_shown (d : Dev) (i j k : Nat) (b : Bool) : (d.putBit i j k b).shown = d.shown := rfl
@[simp] theorem Dev.putBit_snap (d : Dev) (i j k : Nat) (b : Bool) : (d.putBit i j k b).snap = d.snap := rfl
@[simp] theorem Dev.putBit_gpioIn (d : Dev) (i j k : Nat) (b : Bool) : (d.putBit i j k b).gpioIn = d.gpioIn := rfl
@[simp] theorem Dev.putBit_freeIx (d : Dev) (i j k : Nat) (b : Bool) : (d.putBit i j k b).freeIx = d.freeIx := rfl
@[simp] theorem Dev.pput_ports (d : Dev) (p : PortId) (i j : Nat) (v : Int) : (d.pput p i j v).ports = d.ports := rfl
@[simp] theorem Dev.pput_lanes (d : Dev) (p : PortId) (i j : Nat) (v : Int) : (d.pput p i j v).lanes = d.lanes := rfl
@[simp] theorem Dev.pput_image (d : Dev) (p : PortId) (i j : Nat) (v : Int) : (d.pput p i j v).image = d.image := rfl
@[simp] theorem Dev.pput_monArmed (d : Dev) (p : PortId) (i j : Nat) (v : Int) : (d.pput p i j v).monArmed = d.monArmed := rfl
@[simp] theorem Dev.pput_activeAt (d : Dev) (p : PortId) (i j : Nat) (v : Int) : (d.pput p i j v).activeAt = d.activeAt := rfl
@[simp] theorem Dev.pput_frozen (d : Dev) (p : PortId) (i j : Nat) (v : Int) : (d.pput p i j v).frozen = d.frozen := rfl
@[simp] theorem Dev.pput_degradeDue (d : Dev) (p : PortId) (i j : Nat) (v : Int) : (d.pput p i j v).degradeDue = d.degradeDue := rfl
@[simp] theorem Dev.pput_published (d : Dev) (p : PortId) (i j : Nat) (v : Int) : (d.pput p i j v).published = d.published := rfl
@[simp] theorem Dev.pput_gcs (d : Dev) (p : PortId) (i j : Nat) (v : Int) : (d.pput p i j v).gcs = d.gcs := rfl
@[simp] theorem Dev.pput_devFaults (d : Dev) (p : PortId) (i j : Nat) (v : Int) : (d.pput p i j v).devFaults = d.devFaults := rfl
@[simp] theorem Dev.pput_boot (d : Dev) (p : PortId) (i j : Nat) (v : Int) : (d.pput p i j v).boot = d.boot := rfl
@[simp] theorem Dev.pput_grid (d : Dev) (p : PortId) (i j : Nat) (v : Int) : (d.pput p i j v).grid = d.grid := rfl
@[simp] theorem Dev.pput_time (d : Dev) (p : PortId) (i j : Nat) (v : Int) : (d.pput p i j v).time = d.time := rfl
@[simp] theorem Dev.pput_net (d : Dev) (p : PortId) (i j : Nat) (v : Int) : (d.pput p i j v).net = d.net := rfl
@[simp] theorem Dev.pput_wr (d : Dev) (p : PortId) (i j : Nat) (v : Int) : (d.pput p i j v).wr = d.wr := rfl
@[simp] theorem Dev.pput_flash (d : Dev) (p : PortId) (i j : Nat) (v : Int) : (d.pput p i j v).flash = d.flash := rfl
@[simp] theorem Dev.pput_fuses (d : Dev) (p : PortId) (i j : Nat) (v : Int) : (d.pput p i j v).fuses = d.fuses := rfl
@[simp] theorem Dev.pput_otp (d : Dev) (p : PortId) (i j : Nat) (v : Int) : (d.pput p i j v).otp = d.otp := rfl
@[simp] theorem Dev.pput_chain (d : Dev) (p : PortId) (i j : Nat) (v : Int) : (d.pput p i j v).chain = d.chain := rfl
@[simp] theorem Dev.pput_tap (d : Dev) (p : PortId) (i j : Nat) (v : Int) : (d.pput p i j v).tap = d.tap := rfl
@[simp] theorem Dev.pput_frz (d : Dev) (p : PortId) (i j : Nat) (v : Int) : (d.pput p i j v).frz = d.frz := rfl
@[simp] theorem Dev.pput_shown (d : Dev) (p : PortId) (i j : Nat) (v : Int) : (d.pput p i j v).shown = d.shown := rfl
@[simp] theorem Dev.pput_snap (d : Dev) (p : PortId) (i j : Nat) (v : Int) : (d.pput p i j v).snap = d.snap := rfl
@[simp] theorem Dev.pput_gpioIn (d : Dev) (p : PortId) (i j : Nat) (v : Int) : (d.pput p i j v).gpioIn = d.gpioIn := rfl
@[simp] theorem Dev.pput_freeIx (d : Dev) (p : PortId) (i j : Nat) (v : Int) : (d.pput p i j v).freeIx = d.freeIx := rfl
@[simp] theorem Dev.pinc_ports (d : Dev) (p : PortId) (i j : Nat) : (d.pinc p i j).ports = d.ports := rfl
@[simp] theorem Dev.pinc_lanes (d : Dev) (p : PortId) (i j : Nat) : (d.pinc p i j).lanes = d.lanes := rfl
@[simp] theorem Dev.pinc_image (d : Dev) (p : PortId) (i j : Nat) : (d.pinc p i j).image = d.image := rfl
@[simp] theorem Dev.pinc_monArmed (d : Dev) (p : PortId) (i j : Nat) : (d.pinc p i j).monArmed = d.monArmed := rfl
@[simp] theorem Dev.pinc_activeAt (d : Dev) (p : PortId) (i j : Nat) : (d.pinc p i j).activeAt = d.activeAt := rfl
@[simp] theorem Dev.pinc_frozen (d : Dev) (p : PortId) (i j : Nat) : (d.pinc p i j).frozen = d.frozen := rfl
@[simp] theorem Dev.pinc_degradeDue (d : Dev) (p : PortId) (i j : Nat) : (d.pinc p i j).degradeDue = d.degradeDue := rfl
@[simp] theorem Dev.pinc_published (d : Dev) (p : PortId) (i j : Nat) : (d.pinc p i j).published = d.published := rfl
@[simp] theorem Dev.pinc_gcs (d : Dev) (p : PortId) (i j : Nat) : (d.pinc p i j).gcs = d.gcs := rfl
@[simp] theorem Dev.pinc_devFaults (d : Dev) (p : PortId) (i j : Nat) : (d.pinc p i j).devFaults = d.devFaults := rfl
@[simp] theorem Dev.pinc_boot (d : Dev) (p : PortId) (i j : Nat) : (d.pinc p i j).boot = d.boot := rfl
@[simp] theorem Dev.pinc_grid (d : Dev) (p : PortId) (i j : Nat) : (d.pinc p i j).grid = d.grid := rfl
@[simp] theorem Dev.pinc_time (d : Dev) (p : PortId) (i j : Nat) : (d.pinc p i j).time = d.time := rfl
@[simp] theorem Dev.pinc_net (d : Dev) (p : PortId) (i j : Nat) : (d.pinc p i j).net = d.net := rfl
@[simp] theorem Dev.pinc_wr (d : Dev) (p : PortId) (i j : Nat) : (d.pinc p i j).wr = d.wr := rfl
@[simp] theorem Dev.pinc_flash (d : Dev) (p : PortId) (i j : Nat) : (d.pinc p i j).flash = d.flash := rfl
@[simp] theorem Dev.pinc_fuses (d : Dev) (p : PortId) (i j : Nat) : (d.pinc p i j).fuses = d.fuses := rfl
@[simp] theorem Dev.pinc_otp (d : Dev) (p : PortId) (i j : Nat) : (d.pinc p i j).otp = d.otp := rfl
@[simp] theorem Dev.pinc_chain (d : Dev) (p : PortId) (i j : Nat) : (d.pinc p i j).chain = d.chain := rfl
@[simp] theorem Dev.pinc_tap (d : Dev) (p : PortId) (i j : Nat) : (d.pinc p i j).tap = d.tap := rfl
@[simp] theorem Dev.pinc_frz (d : Dev) (p : PortId) (i j : Nat) : (d.pinc p i j).frz = d.frz := rfl
@[simp] theorem Dev.pinc_shown (d : Dev) (p : PortId) (i j : Nat) : (d.pinc p i j).shown = d.shown := rfl
@[simp] theorem Dev.pinc_snap (d : Dev) (p : PortId) (i j : Nat) : (d.pinc p i j).snap = d.snap := rfl
@[simp] theorem Dev.pinc_gpioIn (d : Dev) (p : PortId) (i j : Nat) : (d.pinc p i j).gpioIn = d.gpioIn := rfl
@[simp] theorem Dev.pinc_freeIx (d : Dev) (p : PortId) (i j : Nat) : (d.pinc p i j).freeIx = d.freeIx := rfl
@[simp] theorem Dev.setPort_objs (d : Dev) (p : PortId) (x : Port) : (d.setPort p x).objs = d.objs := rfl
@[simp] theorem Dev.setPort_lanes (d : Dev) (p : PortId) (x : Port) : (d.setPort p x).lanes = d.lanes := rfl
@[simp] theorem Dev.setPort_image (d : Dev) (p : PortId) (x : Port) : (d.setPort p x).image = d.image := rfl
@[simp] theorem Dev.setPort_monArmed (d : Dev) (p : PortId) (x : Port) : (d.setPort p x).monArmed = d.monArmed := rfl
@[simp] theorem Dev.setPort_activeAt (d : Dev) (p : PortId) (x : Port) : (d.setPort p x).activeAt = d.activeAt := rfl
@[simp] theorem Dev.setPort_frozen (d : Dev) (p : PortId) (x : Port) : (d.setPort p x).frozen = d.frozen := rfl
@[simp] theorem Dev.setPort_degradeDue (d : Dev) (p : PortId) (x : Port) : (d.setPort p x).degradeDue = d.degradeDue := rfl
@[simp] theorem Dev.setPort_published (d : Dev) (p : PortId) (x : Port) : (d.setPort p x).published = d.published := rfl
@[simp] theorem Dev.setPort_gcs (d : Dev) (p : PortId) (x : Port) : (d.setPort p x).gcs = d.gcs := rfl
@[simp] theorem Dev.setPort_devFaults (d : Dev) (p : PortId) (x : Port) : (d.setPort p x).devFaults = d.devFaults := rfl
@[simp] theorem Dev.setPort_boot (d : Dev) (p : PortId) (x : Port) : (d.setPort p x).boot = d.boot := rfl
@[simp] theorem Dev.setPort_grid (d : Dev) (p : PortId) (x : Port) : (d.setPort p x).grid = d.grid := rfl
@[simp] theorem Dev.setPort_time (d : Dev) (p : PortId) (x : Port) : (d.setPort p x).time = d.time := rfl
@[simp] theorem Dev.setPort_net (d : Dev) (p : PortId) (x : Port) : (d.setPort p x).net = d.net := rfl
@[simp] theorem Dev.setPort_wr (d : Dev) (p : PortId) (x : Port) : (d.setPort p x).wr = d.wr := rfl
@[simp] theorem Dev.setPort_flash (d : Dev) (p : PortId) (x : Port) : (d.setPort p x).flash = d.flash := rfl
@[simp] theorem Dev.setPort_fuses (d : Dev) (p : PortId) (x : Port) : (d.setPort p x).fuses = d.fuses := rfl
@[simp] theorem Dev.setPort_otp (d : Dev) (p : PortId) (x : Port) : (d.setPort p x).otp = d.otp := rfl
@[simp] theorem Dev.setPort_chain (d : Dev) (p : PortId) (x : Port) : (d.setPort p x).chain = d.chain := rfl
@[simp] theorem Dev.setPort_tap (d : Dev) (p : PortId) (x : Port) : (d.setPort p x).tap = d.tap := rfl
@[simp] theorem Dev.setPort_frz (d : Dev) (p : PortId) (x : Port) : (d.setPort p x).frz = d.frz := rfl
@[simp] theorem Dev.setPort_shown (d : Dev) (p : PortId) (x : Port) : (d.setPort p x).shown = d.shown := rfl
@[simp] theorem Dev.setPort_snap (d : Dev) (p : PortId) (x : Port) : (d.setPort p x).snap = d.snap := rfl
@[simp] theorem Dev.setPort_gpioIn (d : Dev) (p : PortId) (x : Port) : (d.setPort p x).gpioIn = d.gpioIn := rfl
@[simp] theorem Dev.setPort_freeIx (d : Dev) (p : PortId) (x : Port) : (d.setPort p x).freeIx = d.freeIx := rfl
@[simp] theorem Dev.onPort_objs (d : Dev) (p : PortId) (f : Port → Port) : (d.onPort p f).objs = d.objs := rfl
@[simp] theorem Dev.onPort_lanes (d : Dev) (p : PortId) (f : Port → Port) : (d.onPort p f).lanes = d.lanes := rfl
@[simp] theorem Dev.onPort_image (d : Dev) (p : PortId) (f : Port → Port) : (d.onPort p f).image = d.image := rfl
@[simp] theorem Dev.onPort_monArmed (d : Dev) (p : PortId) (f : Port → Port) : (d.onPort p f).monArmed = d.monArmed := rfl
@[simp] theorem Dev.onPort_activeAt (d : Dev) (p : PortId) (f : Port → Port) : (d.onPort p f).activeAt = d.activeAt := rfl
@[simp] theorem Dev.onPort_frozen (d : Dev) (p : PortId) (f : Port → Port) : (d.onPort p f).frozen = d.frozen := rfl
@[simp] theorem Dev.onPort_degradeDue (d : Dev) (p : PortId) (f : Port → Port) : (d.onPort p f).degradeDue = d.degradeDue := rfl
@[simp] theorem Dev.onPort_published (d : Dev) (p : PortId) (f : Port → Port) : (d.onPort p f).published = d.published := rfl
@[simp] theorem Dev.onPort_gcs (d : Dev) (p : PortId) (f : Port → Port) : (d.onPort p f).gcs = d.gcs := rfl
@[simp] theorem Dev.onPort_devFaults (d : Dev) (p : PortId) (f : Port → Port) : (d.onPort p f).devFaults = d.devFaults := rfl
@[simp] theorem Dev.onPort_boot (d : Dev) (p : PortId) (f : Port → Port) : (d.onPort p f).boot = d.boot := rfl
@[simp] theorem Dev.onPort_grid (d : Dev) (p : PortId) (f : Port → Port) : (d.onPort p f).grid = d.grid := rfl
@[simp] theorem Dev.onPort_time (d : Dev) (p : PortId) (f : Port → Port) : (d.onPort p f).time = d.time := rfl
@[simp] theorem Dev.onPort_net (d : Dev) (p : PortId) (f : Port → Port) : (d.onPort p f).net = d.net := rfl
@[simp] theorem Dev.onPort_wr (d : Dev) (p : PortId) (f : Port → Port) : (d.onPort p f).wr = d.wr := rfl
@[simp] theorem Dev.onPort_flash (d : Dev) (p : PortId) (f : Port → Port) : (d.onPort p f).flash = d.flash := rfl
@[simp] theorem Dev.onPort_fuses (d : Dev) (p : PortId) (f : Port → Port) : (d.onPort p f).fuses = d.fuses := rfl
@[simp] theorem Dev.onPort_otp (d : Dev) (p : PortId) (f : Port → Port) : (d.onPort p f).otp = d.otp := rfl
@[simp] theorem Dev.onPort_chain (d : Dev) (p : PortId) (f : Port → Port) : (d.onPort p f).chain = d.chain := rfl
@[simp] theorem Dev.onPort_tap (d : Dev) (p : PortId) (f : Port → Port) : (d.onPort p f).tap = d.tap := rfl
@[simp] theorem Dev.onPort_frz (d : Dev) (p : PortId) (f : Port → Port) : (d.onPort p f).frz = d.frz := rfl
@[simp] theorem Dev.onPort_shown (d : Dev) (p : PortId) (f : Port → Port) : (d.onPort p f).shown = d.shown := rfl
@[simp] theorem Dev.onPort_snap (d : Dev) (p : PortId) (f : Port → Port) : (d.onPort p f).snap = d.snap := rfl
@[simp] theorem Dev.onPort_gpioIn (d : Dev) (p : PortId) (f : Port → Port) : (d.onPort p f).gpioIn = d.gpioIn := rfl
@[simp] theorem Dev.onPort_freeIx (d : Dev) (p : PortId) (f : Port → Port) : (d.onPort p f).freeIx = d.freeIx := rfl
@[simp] theorem Dev.setLane_objs (d : Dev) (l : LaneId) (x : Lane) : (d.setLane l x).objs = d.objs := rfl
@[simp] theorem Dev.setLane_ports (d : Dev) (l : LaneId) (x : Lane) : (d.setLane l x).ports = d.ports := rfl
@[simp] theorem Dev.setLane_image (d : Dev) (l : LaneId) (x : Lane) : (d.setLane l x).image = d.image := rfl
@[simp] theorem Dev.setLane_monArmed (d : Dev) (l : LaneId) (x : Lane) : (d.setLane l x).monArmed = d.monArmed := rfl
@[simp] theorem Dev.setLane_activeAt (d : Dev) (l : LaneId) (x : Lane) : (d.setLane l x).activeAt = d.activeAt := rfl
@[simp] theorem Dev.setLane_frozen (d : Dev) (l : LaneId) (x : Lane) : (d.setLane l x).frozen = d.frozen := rfl
@[simp] theorem Dev.setLane_degradeDue (d : Dev) (l : LaneId) (x : Lane) : (d.setLane l x).degradeDue = d.degradeDue := rfl
@[simp] theorem Dev.setLane_published (d : Dev) (l : LaneId) (x : Lane) : (d.setLane l x).published = d.published := rfl
@[simp] theorem Dev.setLane_gcs (d : Dev) (l : LaneId) (x : Lane) : (d.setLane l x).gcs = d.gcs := rfl
@[simp] theorem Dev.setLane_devFaults (d : Dev) (l : LaneId) (x : Lane) : (d.setLane l x).devFaults = d.devFaults := rfl
@[simp] theorem Dev.setLane_boot (d : Dev) (l : LaneId) (x : Lane) : (d.setLane l x).boot = d.boot := rfl
@[simp] theorem Dev.setLane_grid (d : Dev) (l : LaneId) (x : Lane) : (d.setLane l x).grid = d.grid := rfl
@[simp] theorem Dev.setLane_time (d : Dev) (l : LaneId) (x : Lane) : (d.setLane l x).time = d.time := rfl
@[simp] theorem Dev.setLane_net (d : Dev) (l : LaneId) (x : Lane) : (d.setLane l x).net = d.net := rfl
@[simp] theorem Dev.setLane_wr (d : Dev) (l : LaneId) (x : Lane) : (d.setLane l x).wr = d.wr := rfl
@[simp] theorem Dev.setLane_flash (d : Dev) (l : LaneId) (x : Lane) : (d.setLane l x).flash = d.flash := rfl
@[simp] theorem Dev.setLane_fuses (d : Dev) (l : LaneId) (x : Lane) : (d.setLane l x).fuses = d.fuses := rfl
@[simp] theorem Dev.setLane_otp (d : Dev) (l : LaneId) (x : Lane) : (d.setLane l x).otp = d.otp := rfl
@[simp] theorem Dev.setLane_chain (d : Dev) (l : LaneId) (x : Lane) : (d.setLane l x).chain = d.chain := rfl
@[simp] theorem Dev.setLane_tap (d : Dev) (l : LaneId) (x : Lane) : (d.setLane l x).tap = d.tap := rfl
@[simp] theorem Dev.setLane_frz (d : Dev) (l : LaneId) (x : Lane) : (d.setLane l x).frz = d.frz := rfl
@[simp] theorem Dev.setLane_shown (d : Dev) (l : LaneId) (x : Lane) : (d.setLane l x).shown = d.shown := rfl
@[simp] theorem Dev.setLane_snap (d : Dev) (l : LaneId) (x : Lane) : (d.setLane l x).snap = d.snap := rfl
@[simp] theorem Dev.setLane_gpioIn (d : Dev) (l : LaneId) (x : Lane) : (d.setLane l x).gpioIn = d.gpioIn := rfl
@[simp] theorem Dev.setLane_freeIx (d : Dev) (l : LaneId) (x : Lane) : (d.setLane l x).freeIx = d.freeIx := rfl
@[simp] theorem Dev.onLane_objs (d : Dev) (l : LaneId) (f : Lane → Lane) : (d.onLane l f).objs = d.objs := rfl
@[simp] theorem Dev.onLane_ports (d : Dev) (l : LaneId) (f : Lane → Lane) : (d.onLane l f).ports = d.ports := rfl
@[simp] theorem Dev.onLane_image (d : Dev) (l : LaneId) (f : Lane → Lane) : (d.onLane l f).image = d.image := rfl
@[simp] theorem Dev.onLane_monArmed (d : Dev) (l : LaneId) (f : Lane → Lane) : (d.onLane l f).monArmed = d.monArmed := rfl
@[simp] theorem Dev.onLane_activeAt (d : Dev) (l : LaneId) (f : Lane → Lane) : (d.onLane l f).activeAt = d.activeAt := rfl
@[simp] theorem Dev.onLane_frozen (d : Dev) (l : LaneId) (f : Lane → Lane) : (d.onLane l f).frozen = d.frozen := rfl
@[simp] theorem Dev.onLane_degradeDue (d : Dev) (l : LaneId) (f : Lane → Lane) : (d.onLane l f).degradeDue = d.degradeDue := rfl
@[simp] theorem Dev.onLane_published (d : Dev) (l : LaneId) (f : Lane → Lane) : (d.onLane l f).published = d.published := rfl
@[simp] theorem Dev.onLane_gcs (d : Dev) (l : LaneId) (f : Lane → Lane) : (d.onLane l f).gcs = d.gcs := rfl
@[simp] theorem Dev.onLane_devFaults (d : Dev) (l : LaneId) (f : Lane → Lane) : (d.onLane l f).devFaults = d.devFaults := rfl
@[simp] theorem Dev.onLane_boot (d : Dev) (l : LaneId) (f : Lane → Lane) : (d.onLane l f).boot = d.boot := rfl
@[simp] theorem Dev.onLane_grid (d : Dev) (l : LaneId) (f : Lane → Lane) : (d.onLane l f).grid = d.grid := rfl
@[simp] theorem Dev.onLane_time (d : Dev) (l : LaneId) (f : Lane → Lane) : (d.onLane l f).time = d.time := rfl
@[simp] theorem Dev.onLane_net (d : Dev) (l : LaneId) (f : Lane → Lane) : (d.onLane l f).net = d.net := rfl
@[simp] theorem Dev.onLane_wr (d : Dev) (l : LaneId) (f : Lane → Lane) : (d.onLane l f).wr = d.wr := rfl
@[simp] theorem Dev.onLane_flash (d : Dev) (l : LaneId) (f : Lane → Lane) : (d.onLane l f).flash = d.flash := rfl
@[simp] theorem Dev.onLane_fuses (d : Dev) (l : LaneId) (f : Lane → Lane) : (d.onLane l f).fuses = d.fuses := rfl
@[simp] theorem Dev.onLane_otp (d : Dev) (l : LaneId) (f : Lane → Lane) : (d.onLane l f).otp = d.otp := rfl
@[simp] theorem Dev.onLane_chain (d : Dev) (l : LaneId) (f : Lane → Lane) : (d.onLane l f).chain = d.chain := rfl
@[simp] theorem Dev.onLane_tap (d : Dev) (l : LaneId) (f : Lane → Lane) : (d.onLane l f).tap = d.tap := rfl
@[simp] theorem Dev.onLane_frz (d : Dev) (l : LaneId) (f : Lane → Lane) : (d.onLane l f).frz = d.frz := rfl
@[simp] theorem Dev.onLane_shown (d : Dev) (l : LaneId) (f : Lane → Lane) : (d.onLane l f).shown = d.shown := rfl
@[simp] theorem Dev.onLane_snap (d : Dev) (l : LaneId) (f : Lane → Lane) : (d.onLane l f).snap = d.snap := rfl
@[simp] theorem Dev.onLane_gpioIn (d : Dev) (l : LaneId) (f : Lane → Lane) : (d.onLane l f).gpioIn = d.gpioIn := rfl
@[simp] theorem Dev.onLane_freeIx (d : Dev) (l : LaneId) (f : Lane → Lane) : (d.onLane l f).freeIx = d.freeIx := rfl
@[simp] theorem Dev.stamped_objs (d : Dev) : (d.stamped).objs = d.objs := rfl
@[simp] theorem Dev.stamped_ports (d : Dev) : (d.stamped).ports = d.ports := rfl
@[simp] theorem Dev.stamped_lanes (d : Dev) : (d.stamped).lanes = d.lanes := rfl
@[simp] theorem Dev.stamped_image (d : Dev) : (d.stamped).image = d.image := rfl
@[simp] theorem Dev.stamped_monArmed (d : Dev) : (d.stamped).monArmed = d.monArmed := rfl
@[simp] theorem Dev.stamped_activeAt (d : Dev) : (d.stamped).activeAt = d.activeAt := rfl
@[simp] theorem Dev.stamped_frozen (d : Dev) : (d.stamped).frozen = d.frozen := rfl
@[simp] theorem Dev.stamped_degradeDue (d : Dev) : (d.stamped).degradeDue = d.degradeDue := rfl
@[simp] theorem Dev.stamped_published (d : Dev) : (d.stamped).published = d.published := rfl
@[simp] theorem Dev.stamped_gcs (d : Dev) : (d.stamped).gcs = d.gcs := rfl
@[simp] theorem Dev.stamped_devFaults (d : Dev) : (d.stamped).devFaults = d.devFaults := rfl
@[simp] theorem Dev.stamped_boot (d : Dev) : (d.stamped).boot = d.boot := rfl
@[simp] theorem Dev.stamped_grid (d : Dev) : (d.stamped).grid = d.grid := rfl
@[simp] theorem Dev.stamped_time (d : Dev) : (d.stamped).time = d.time := rfl
@[simp] theorem Dev.stamped_net (d : Dev) : (d.stamped).net = d.net := rfl
@[simp] theorem Dev.stamped_wr (d : Dev) : (d.stamped).wr = d.wr := rfl
@[simp] theorem Dev.stamped_flash (d : Dev) : (d.stamped).flash = d.flash := rfl
@[simp] theorem Dev.stamped_fuses (d : Dev) : (d.stamped).fuses = d.fuses := rfl
@[simp] theorem Dev.stamped_otp (d : Dev) : (d.stamped).otp = d.otp := rfl
@[simp] theorem Dev.stamped_chain (d : Dev) : (d.stamped).chain = d.chain := rfl
@[simp] theorem Dev.stamped_tap (d : Dev) : (d.stamped).tap = d.tap := rfl
@[simp] theorem Dev.stamped_frz (d : Dev) : (d.stamped).frz = d.frz := rfl
@[simp] theorem Dev.stamped_shown (d : Dev) : (d.stamped).shown = d.shown := rfl
@[simp] theorem Dev.stamped_snap (d : Dev) : (d.stamped).snap = d.snap := rfl
@[simp] theorem Dev.stamped_gpioIn (d : Dev) : (d.stamped).gpioIn = d.gpioIn := rfl
@[simp] theorem Dev.dropPub_objs (d : Dev) (i j : Nat) : (d.dropPub i j).objs = d.objs := rfl
@[simp] theorem Dev.dropPub_ports (d : Dev) (i j : Nat) : (d.dropPub i j).ports = d.ports := rfl
@[simp] theorem Dev.dropPub_lanes (d : Dev) (i j : Nat) : (d.dropPub i j).lanes = d.lanes := rfl
@[simp] theorem Dev.dropPub_image (d : Dev) (i j : Nat) : (d.dropPub i j).image = d.image := rfl
@[simp] theorem Dev.dropPub_monArmed (d : Dev) (i j : Nat) : (d.dropPub i j).monArmed = d.monArmed := rfl
@[simp] theorem Dev.dropPub_activeAt (d : Dev) (i j : Nat) : (d.dropPub i j).activeAt = d.activeAt := rfl
@[simp] theorem Dev.dropPub_frozen (d : Dev) (i j : Nat) : (d.dropPub i j).frozen = d.frozen := rfl
@[simp] theorem Dev.dropPub_degradeDue (d : Dev) (i j : Nat) : (d.dropPub i j).degradeDue = d.degradeDue := rfl
@[simp] theorem Dev.dropPub_gcs (d : Dev) (i j : Nat) : (d.dropPub i j).gcs = d.gcs := rfl
@[simp] theorem Dev.dropPub_devFaults (d : Dev) (i j : Nat) : (d.dropPub i j).devFaults = d.devFaults := rfl
@[simp] theorem Dev.dropPub_boot (d : Dev) (i j : Nat) : (d.dropPub i j).boot = d.boot := rfl
@[simp] theorem Dev.dropPub_grid (d : Dev) (i j : Nat) : (d.dropPub i j).grid = d.grid := rfl
@[simp] theorem Dev.dropPub_time (d : Dev) (i j : Nat) : (d.dropPub i j).time = d.time := rfl
@[simp] theorem Dev.dropPub_net (d : Dev) (i j : Nat) : (d.dropPub i j).net = d.net := rfl
@[simp] theorem Dev.dropPub_wr (d : Dev) (i j : Nat) : (d.dropPub i j).wr = d.wr := rfl
@[simp] theorem Dev.dropPub_flash (d : Dev) (i j : Nat) : (d.dropPub i j).flash = d.flash := rfl
@[simp] theorem Dev.dropPub_fuses (d : Dev) (i j : Nat) : (d.dropPub i j).fuses = d.fuses := rfl
@[simp] theorem Dev.dropPub_otp (d : Dev) (i j : Nat) : (d.dropPub i j).otp = d.otp := rfl
@[simp] theorem Dev.dropPub_chain (d : Dev) (i j : Nat) : (d.dropPub i j).chain = d.chain := rfl
@[simp] theorem Dev.dropPub_tap (d : Dev) (i j : Nat) : (d.dropPub i j).tap = d.tap := rfl
@[simp] theorem Dev.dropPub_frz (d : Dev) (i j : Nat) : (d.dropPub i j).frz = d.frz := rfl
@[simp] theorem Dev.dropPub_shown (d : Dev) (i j : Nat) : (d.dropPub i j).shown = d.shown := rfl
@[simp] theorem Dev.dropPub_snap (d : Dev) (i j : Nat) : (d.dropPub i j).snap = d.snap := rfl
@[simp] theorem Dev.dropPub_gpioIn (d : Dev) (i j : Nat) : (d.dropPub i j).gpioIn = d.gpioIn := rfl
@[simp] theorem Dev.dropPub_freeIx (d : Dev) (i j : Nat) : (d.dropPub i j).freeIx = d.freeIx := rfl
@[simp] theorem Dev.commandUnit_objs (d : Dev) (p : PortId) (c : SafeCmd) : (d.commandUnit p c).objs = d.objs := rfl
@[simp] theorem Dev.commandUnit_lanes (d : Dev) (p : PortId) (c : SafeCmd) : (d.commandUnit p c).lanes = d.lanes := rfl
@[simp] theorem Dev.commandUnit_image (d : Dev) (p : PortId) (c : SafeCmd) : (d.commandUnit p c).image = d.image := rfl
@[simp] theorem Dev.commandUnit_monArmed (d : Dev) (p : PortId) (c : SafeCmd) : (d.commandUnit p c).monArmed = d.monArmed := rfl
@[simp] theorem Dev.commandUnit_activeAt (d : Dev) (p : PortId) (c : SafeCmd) : (d.commandUnit p c).activeAt = d.activeAt := rfl
@[simp] theorem Dev.commandUnit_frozen (d : Dev) (p : PortId) (c : SafeCmd) : (d.commandUnit p c).frozen = d.frozen := rfl
@[simp] theorem Dev.commandUnit_degradeDue (d : Dev) (p : PortId) (c : SafeCmd) : (d.commandUnit p c).degradeDue = d.degradeDue := rfl
@[simp] theorem Dev.commandUnit_published (d : Dev) (p : PortId) (c : SafeCmd) : (d.commandUnit p c).published = d.published := rfl
@[simp] theorem Dev.commandUnit_gcs (d : Dev) (p : PortId) (c : SafeCmd) : (d.commandUnit p c).gcs = d.gcs := rfl
@[simp] theorem Dev.commandUnit_devFaults (d : Dev) (p : PortId) (c : SafeCmd) : (d.commandUnit p c).devFaults = d.devFaults := rfl
@[simp] theorem Dev.commandUnit_boot (d : Dev) (p : PortId) (c : SafeCmd) : (d.commandUnit p c).boot = d.boot := rfl
@[simp] theorem Dev.commandUnit_grid (d : Dev) (p : PortId) (c : SafeCmd) : (d.commandUnit p c).grid = d.grid := rfl
@[simp] theorem Dev.commandUnit_time (d : Dev) (p : PortId) (c : SafeCmd) : (d.commandUnit p c).time = d.time := rfl
@[simp] theorem Dev.commandUnit_net (d : Dev) (p : PortId) (c : SafeCmd) : (d.commandUnit p c).net = d.net := rfl
@[simp] theorem Dev.commandUnit_wr (d : Dev) (p : PortId) (c : SafeCmd) : (d.commandUnit p c).wr = d.wr := rfl
@[simp] theorem Dev.commandUnit_flash (d : Dev) (p : PortId) (c : SafeCmd) : (d.commandUnit p c).flash = d.flash := rfl
@[simp] theorem Dev.commandUnit_fuses (d : Dev) (p : PortId) (c : SafeCmd) : (d.commandUnit p c).fuses = d.fuses := rfl
@[simp] theorem Dev.commandUnit_otp (d : Dev) (p : PortId) (c : SafeCmd) : (d.commandUnit p c).otp = d.otp := rfl
@[simp] theorem Dev.commandUnit_chain (d : Dev) (p : PortId) (c : SafeCmd) : (d.commandUnit p c).chain = d.chain := rfl
@[simp] theorem Dev.commandUnit_tap (d : Dev) (p : PortId) (c : SafeCmd) : (d.commandUnit p c).tap = d.tap := rfl
@[simp] theorem Dev.commandUnit_frz (d : Dev) (p : PortId) (c : SafeCmd) : (d.commandUnit p c).frz = d.frz := rfl
@[simp] theorem Dev.commandUnit_shown (d : Dev) (p : PortId) (c : SafeCmd) : (d.commandUnit p c).shown = d.shown := rfl
@[simp] theorem Dev.commandUnit_snap (d : Dev) (p : PortId) (c : SafeCmd) : (d.commandUnit p c).snap = d.snap := rfl
@[simp] theorem Dev.commandUnit_gpioIn (d : Dev) (p : PortId) (c : SafeCmd) : (d.commandUnit p c).gpioIn = d.gpioIn := rfl
@[simp] theorem Dev.commandUnit_freeIx (d : Dev) (p : PortId) (c : SafeCmd) : (d.commandUnit p c).freeIx = d.freeIx := rfl
@[simp] theorem Dev.command_objs (d : Dev) (p : PortId) (n : Nat) : (d.command p n).objs = d.objs := rfl
@[simp] theorem Dev.command_lanes (d : Dev) (p : PortId) (n : Nat) : (d.command p n).lanes = d.lanes := rfl
@[simp] theorem Dev.command_image (d : Dev) (p : PortId) (n : Nat) : (d.command p n).image = d.image := rfl
@[simp] theorem Dev.command_monArmed (d : Dev) (p : PortId) (n : Nat) : (d.command p n).monArmed = d.monArmed := rfl
@[simp] theorem Dev.command_activeAt (d : Dev) (p : PortId) (n : Nat) : (d.command p n).activeAt = d.activeAt := rfl
@[simp] theorem Dev.command_frozen (d : Dev) (p : PortId) (n : Nat) : (d.command p n).frozen = d.frozen := rfl
@[simp] theorem Dev.command_degradeDue (d : Dev) (p : PortId) (n : Nat) : (d.command p n).degradeDue = d.degradeDue := rfl
@[simp] theorem Dev.command_published (d : Dev) (p : PortId) (n : Nat) : (d.command p n).published = d.published := rfl
@[simp] theorem Dev.command_gcs (d : Dev) (p : PortId) (n : Nat) : (d.command p n).gcs = d.gcs := rfl
@[simp] theorem Dev.command_devFaults (d : Dev) (p : PortId) (n : Nat) : (d.command p n).devFaults = d.devFaults := rfl
@[simp] theorem Dev.command_boot (d : Dev) (p : PortId) (n : Nat) : (d.command p n).boot = d.boot := rfl
@[simp] theorem Dev.command_grid (d : Dev) (p : PortId) (n : Nat) : (d.command p n).grid = d.grid := rfl
@[simp] theorem Dev.command_time (d : Dev) (p : PortId) (n : Nat) : (d.command p n).time = d.time := rfl
@[simp] theorem Dev.command_net (d : Dev) (p : PortId) (n : Nat) : (d.command p n).net = d.net := rfl
@[simp] theorem Dev.command_wr (d : Dev) (p : PortId) (n : Nat) : (d.command p n).wr = d.wr := rfl
@[simp] theorem Dev.command_flash (d : Dev) (p : PortId) (n : Nat) : (d.command p n).flash = d.flash := rfl
@[simp] theorem Dev.command_fuses (d : Dev) (p : PortId) (n : Nat) : (d.command p n).fuses = d.fuses := rfl
@[simp] theorem Dev.command_otp (d : Dev) (p : PortId) (n : Nat) : (d.command p n).otp = d.otp := rfl
@[simp] theorem Dev.command_chain (d : Dev) (p : PortId) (n : Nat) : (d.command p n).chain = d.chain := rfl
@[simp] theorem Dev.command_tap (d : Dev) (p : PortId) (n : Nat) : (d.command p n).tap = d.tap := rfl
@[simp] theorem Dev.command_frz (d : Dev) (p : PortId) (n : Nat) : (d.command p n).frz = d.frz := rfl
@[simp] theorem Dev.command_shown (d : Dev) (p : PortId) (n : Nat) : (d.command p n).shown = d.shown := rfl
@[simp] theorem Dev.command_snap (d : Dev) (p : PortId) (n : Nat) : (d.command p n).snap = d.snap := rfl
@[simp] theorem Dev.command_gpioIn (d : Dev) (p : PortId) (n : Nat) : (d.command p n).gpioIn = d.gpioIn := rfl
@[simp] theorem Dev.command_freeIx (d : Dev) (p : PortId) (n : Nat) : (d.command p n).freeIx = d.freeIx := rfl

@[simp] theorem Quad.get_set_same {α : Type} (q : Quad α) (p : PortId) (x : α) : (q.set p x).get p = x := by cases p <;> rfl

/-- The other places keep their values. -/
theorem Quad.get_set_ne {α : Type} (q : Quad α) (p r : PortId) (x : α) (h : r ≠ p) : (q.set p x).get r = q.get r := by
  cases p <;> cases r <;> first | rfl | exact absurd rfl h

@[simp] theorem Duo.get_set_same {α : Type} (q : Duo α) (p : LaneId) (x : α) : (q.set p x).get p = x := by cases p <;> rfl

/-- The other places keep their values. -/
theorem Duo.get_set_ne {α : Type} (q : Duo α) (p r : LaneId) (x : α) (h : r ≠ p) : (q.set p x).get r = q.get r := by
  cases p <;> cases r <;> first | rfl | exact absurd rfl h

@[simp] theorem Engines.get_set_same {α : Type} (q : Engines α) (r : EngineRole) (x : α) : (q.set r x).get r = x := by
  cases r <;> rfl

/-- The other engines keep their values. -/
theorem Engines.get_set_ne {α : Type} (q : Engines α) (r r' : EngineRole) (x : α) (h : r' ≠ r) :
    (q.set r x).get r' = q.get r' := by
  cases r <;> cases r' <;> first | rfl | exact absurd rfl h

@[simp] theorem Dev.port_setPort (d : Dev) (p : PortId) (x : Port) : (d.setPort p x).port p = x := Quad.get_set_same ..
@[simp] theorem Dev.port_onPort (d : Dev) (p : PortId) (f : Port → Port) : (d.onPort p f).port p = f (d.port p) :=
  Quad.get_set_same ..
@[simp] theorem Dev.lane_setLane (d : Dev) (l : LaneId) (x : Lane) : (d.setLane l x).lane l = x := Duo.get_set_same ..
@[simp] theorem Dev.lane_onLane (d : Dev) (l : LaneId) (f : Lane → Lane) : (d.onLane l f).lane l = f (d.lane l) :=
  Duo.get_set_same ..

/-- A change of one port leaves the others. -/
theorem Dev.port_onPort_ne (d : Dev) (p q : PortId) (f : Port → Port) (h : q ≠ p) : (d.onPort p f).port q = d.port q :=
  Quad.get_set_ne _ _ _ _ h

/-- A change of one lane leaves the other. -/
theorem Dev.lane_onLane_ne (d : Dev) (l m : LaneId) (f : Lane → Lane) (h : m ≠ l) : (d.onLane l f).lane m = d.lane m :=
  Duo.get_set_ne _ _ _ _ h

@[simp] theorem Dev.putVal_port (d : Dev) (i j : Nat) (v : ObjVal) (q : PortId) : (d.putVal i j v).port q = d.port q := rfl
@[simp] theorem Dev.putVal_lane (d : Dev) (i j : Nat) (v : ObjVal) (m : LaneId) : (d.putVal i j v).lane m = d.lane m := rfl
@[simp] theorem Dev.put_port (d : Dev) (i j : Nat) (v : Int) (q : PortId) : (d.put i j v).port q = d.port q := rfl
@[simp] theorem Dev.put_lane (d : Dev) (i j : Nat) (v : Int) (m : LaneId) : (d.put i j v).lane m = d.lane m := rfl
@[simp] theorem Dev.incBy_port (d : Dev) (i j n : Nat) (q : PortId) : (d.incBy i j n).port q = d.port q := rfl
@[simp] theorem Dev.incBy_lane (d : Dev) (i j n : Nat) (m : LaneId) : (d.incBy i j n).lane m = d.lane m := rfl
@[simp] theorem Dev.inc_port (d : Dev) (i j : Nat) (q : PortId) : (d.inc i j).port q = d.port q := rfl
@[simp] theorem Dev.inc_lane (d : Dev) (i j : Nat) (m : LaneId) : (d.inc i j).lane m = d.lane m := rfl
@[simp] theorem Dev.putBit_port (d : Dev) (i j k : Nat) (b : Bool) (q : PortId) : (d.putBit i j k b).port q = d.port q := rfl
@[simp] theorem Dev.putBit_lane (d : Dev) (i j k : Nat) (b : Bool) (m : LaneId) : (d.putBit i j k b).lane m = d.lane m := rfl
@[simp] theorem Dev.pput_port (d : Dev) (p : PortId) (i j : Nat) (v : Int) (q : PortId) : (d.pput p i j v).port q = d.port q := rfl
@[simp] theorem Dev.pput_lane (d : Dev) (p : PortId) (i j : Nat) (v : Int) (m : LaneId) : (d.pput p i j v).lane m = d.lane m := rfl
@[simp] theorem Dev.pinc_port (d : Dev) (p : PortId) (i j : Nat) (q : PortId) : (d.pinc p i j).port q = d.port q := rfl
@[simp] theorem Dev.pinc_lane (d : Dev) (p : PortId) (i j : Nat) (m : LaneId) : (d.pinc p i j).lane m = d.lane m := rfl
@[simp] theorem Dev.setPort_num (d : Dev) (p : PortId) (x : Port) (i' j' : Nat) : (d.setPort p x).num i' j' = d.num i' j' := rfl
@[simp] theorem Dev.setPort_arr (d : Dev) (p : PortId) (x : Port) (i' j' : Nat) : (d.setPort p x).arr i' j' = d.arr i' j' := rfl
@[simp] theorem Dev.setPort_bytes (d : Dev) (p : PortId) (x : Port) (i' j' : Nat) : (d.setPort p x).bytes i' j' = d.bytes i' j' := rfl
@[simp] theorem Dev.setPort_lane (d : Dev) (p : PortId) (x : Port) (m : LaneId) : (d.setPort p x).lane m = d.lane m := rfl
@[simp] theorem Dev.onPort_num (d : Dev) (p : PortId) (f : Port → Port) (i' j' : Nat) : (d.onPort p f).num i' j' = d.num i' j' := rfl
@[simp] theorem Dev.onPort_arr (d : Dev) (p : PortId) (f : Port → Port) (i' j' : Nat) : (d.onPort p f).arr i' j' = d.arr i' j' := rfl
@[simp] theorem Dev.onPort_bytes (d : Dev) (p : PortId) (f : Port → Port) (i' j' : Nat) : (d.onPort p f).bytes i' j' = d.bytes i' j' := rfl
@[simp] theorem Dev.onPort_lane (d : Dev) (p : PortId) (f : Port → Port) (m : LaneId) : (d.onPort p f).lane m = d.lane m := rfl
@[simp] theorem Dev.setLane_num (d : Dev) (l : LaneId) (x : Lane) (i' j' : Nat) : (d.setLane l x).num i' j' = d.num i' j' := rfl
@[simp] theorem Dev.setLane_arr (d : Dev) (l : LaneId) (x : Lane) (i' j' : Nat) : (d.setLane l x).arr i' j' = d.arr i' j' := rfl
@[simp] theorem Dev.setLane_bytes (d : Dev) (l : LaneId) (x : Lane) (i' j' : Nat) : (d.setLane l x).bytes i' j' = d.bytes i' j' := rfl
@[simp] theorem Dev.setLane_port (d : Dev) (l : LaneId) (x : Lane) (q : PortId) : (d.setLane l x).port q = d.port q := rfl
@[simp] theorem Dev.onLane_num (d : Dev) (l : LaneId) (f : Lane → Lane) (i' j' : Nat) : (d.onLane l f).num i' j' = d.num i' j' := rfl
@[simp] theorem Dev.onLane_arr (d : Dev) (l : LaneId) (f : Lane → Lane) (i' j' : Nat) : (d.onLane l f).arr i' j' = d.arr i' j' := rfl
@[simp] theorem Dev.onLane_bytes (d : Dev) (l : LaneId) (f : Lane → Lane) (i' j' : Nat) : (d.onLane l f).bytes i' j' = d.bytes i' j' := rfl
@[simp] theorem Dev.onLane_port (d : Dev) (l : LaneId) (f : Lane → Lane) (q : PortId) : (d.onLane l f).port q = d.port q := rfl
@[simp] theorem Dev.commandUnit_num (d : Dev) (p : PortId) (c : SafeCmd) (i' j' : Nat) : (d.commandUnit p c).num i' j' = d.num i' j' := rfl
@[simp] theorem Dev.commandUnit_arr (d : Dev) (p : PortId) (c : SafeCmd) (i' j' : Nat) : (d.commandUnit p c).arr i' j' = d.arr i' j' := rfl
@[simp] theorem Dev.commandUnit_bytes (d : Dev) (p : PortId) (c : SafeCmd) (i' j' : Nat) : (d.commandUnit p c).bytes i' j' = d.bytes i' j' := rfl
@[simp] theorem Dev.commandUnit_lane (d : Dev) (p : PortId) (c : SafeCmd) (m : LaneId) : (d.commandUnit p c).lane m = d.lane m := rfl
@[simp] theorem Dev.command_num (d : Dev) (p : PortId) (n : Nat) (i' j' : Nat) : (d.command p n).num i' j' = d.num i' j' := rfl
@[simp] theorem Dev.command_arr (d : Dev) (p : PortId) (n : Nat) (i' j' : Nat) : (d.command p n).arr i' j' = d.arr i' j' := rfl
@[simp] theorem Dev.command_bytes (d : Dev) (p : PortId) (n : Nat) (i' j' : Nat) : (d.command p n).bytes i' j' = d.bytes i' j' := rfl
@[simp] theorem Dev.command_lane (d : Dev) (p : PortId) (n : Nat) (m : LaneId) : (d.command p n).lane m = d.lane m := rfl

@[simp] theorem Dev.stamped_port (d : Dev) (q : PortId) : d.stamped.port q = d.port q := rfl
@[simp] theorem Dev.stamped_lane (d : Dev) (m : LaneId) : d.stamped.lane m = d.lane m := rfl
@[simp] theorem Dev.stamped_num (d : Dev) (i j : Nat) : d.stamped.num i j = d.num i j := rfl

end Sys2Proof.Machine
end

