-- ==== Sys2Proof/Laws/Engine.lean ====
section
/-! SUPPORT. The engines: what replacing an engine's state leaves alone, when an operation can issue, and what a wait for a
result keeps. -/

namespace Sys2Proof.Machine

/-- An operation issues only while no freeze holds the block. -/
theorem Dev.issues_awake (d : Dev) (e : EngineId) (t : Nat) (c : Issue) (h : d.issues e t c = true) :
    d.frozen = false := by
  simp [Dev.issues, Dev.clocked] at h; exact h.1.1.1.1.1.2

@[simp] theorem Dev.engine_setEngine (d : Dev) (e : EngineId) (x : Engine) : (d.setEngine e x).engine e = x := by
  simp [Dev.setEngine, Dev.engine]

/-- A change of one engine leaves the others. -/
theorem Dev.engine_setEngine_ne (d : Dev) (e r : EngineId) (x : Engine) (h : r ≠ e) :
    (d.setEngine e x).engine r = d.engine r := by
  obtain ⟨p, k⟩ := e
  obtain ⟨q, j⟩ := r
  unfold Dev.setEngine Dev.engine
  by_cases hp : q = p
  · subst hp; simp; exact Engines.get_set_ne _ _ _ _ (by simpa using h)
  · simp [Dev.port_onPort_ne _ _ _ _ hp]

@[simp] theorem Dev.setEngine_lane (d : Dev) (e : EngineId) (x : Engine) (l : LaneId) :
    (d.setEngine e x).lane l = d.lane l := rfl

@[simp] theorem Dev.engTick_setEngine (d : Dev) (e r : EngineId) (x : Engine) (t : Nat) :
    (d.setEngine e x).engTick r t = d.engTick r t := rfl

/-- A change of an engine leaves everything else of its port. -/
theorem Dev.port_setEngine (d : Dev) (e : EngineId) (x : Engine) :
    (d.setEngine e x).port e.port = { d.port e.port with eng := (d.port e.port).eng.set e.role x } :=
  Dev.port_onPort ..

/-- The results put in their places are those that are due; the others wait. -/
theorem Engine.settle_backs (e : Engine) (T : Nat) : (e.settle T).backs = e.backs.filter fun w => T < w.due := by
  have key : ∀ (l : List WriteBack) (x : Engine), (l.foldl (fun e w => e.setReg w.reg w.val) x).backs = x.backs := by
    intro l; induction l with
    | nil => intro x; rfl
    | cons w r ih => intro x; exact ih _
  exact key _ _

@[simp] theorem Engine.back_backs (e : Engine) (due reg : Nat) (v : Word) :
    (e.back due reg v).backs = insertBack ⟨due, reg, v⟩ e.backs := rfl

end Sys2Proof.Machine
end

