-- ==== Sys2Proof/Laws/Objects.lean ====
section
/-! SUPPORT. The object store: what a write leaves to read, and that every store operation keeps the canonical form. -/

namespace Sys2Proof.Machine

theorem ObjStore.find_erase_same (k : Nat) (st : ObjStore) : (ObjStore.erase k st).find k = none := by
  induction st with
  | nil => rfl
  | cons e r ih => obtain ⟨k', v⟩ := e; by_cases h : k' = k <;> simp [ObjStore.erase, ObjStore.find, h, ih]

theorem ObjStore.find_erase_ne (k m : Nat) (st : ObjStore) (h : m ≠ k) : (ObjStore.erase k st).find m = st.find m := by
  induction st with
  | nil => rfl
  | cons e r ih =>
    obtain ⟨k', v⟩ := e
    by_cases h' : k' = k
    · subst h'; simp [ObjStore.erase, ObjStore.find, ih, Ne.symm h]
    · simp [ObjStore.erase, ObjStore.find, h', ih]

theorem ObjStore.find_insert_same (k : Nat) (v : ObjVal) (st : ObjStore) : (ObjStore.insert k v st).find k = some v := by
  induction st with
  | nil => simp [ObjStore.insert, ObjStore.find]
  | cons e r ih =>
    obtain ⟨k', v'⟩ := e
    simp only [ObjStore.insert]
    split
    · simp [ObjStore.find]
    · split
      · simp [ObjStore.find]
      · rename_i h; simp [ObjStore.find, ih, Ne.symm h]

theorem ObjStore.find_insert_ne (k m : Nat) (v : ObjVal) (st : ObjStore) (h : m ≠ k) :
    (ObjStore.insert k v st).find m = st.find m := by
  induction st with
  | nil => simp [ObjStore.insert, ObjStore.find, Ne.symm h]
  | cons e r ih =>
    obtain ⟨k', v'⟩ := e
    simp only [ObjStore.insert]
    split
    · simp [ObjStore.find, Ne.symm h]
    · split
      · rename_i hk; subst hk; simp [ObjStore.find, Ne.symm h]
      · simp [ObjStore.find, ih]

/-- A read after a write of the same object gives the value written. -/
@[simp] theorem ObjStore.get_put_same (st : ObjStore) (k : Nat) (v : ObjVal) : (st.put k v).get k = v := by
  unfold ObjStore.put ObjStore.get
  by_cases h : v = objDefault k
  · rw [if_pos h, ObjStore.find_erase_same, h]
  · rw [if_neg h, ObjStore.find_insert_same]

/-- A write leaves every other object alone. -/
theorem ObjStore.get_put_ne (st : ObjStore) (k m : Nat) (v : ObjVal) (h : m ≠ k) : (st.put k v).get m = st.get m := by
  unfold ObjStore.put ObjStore.get
  by_cases h' : v = objDefault k
  · rw [if_pos h', ObjStore.find_erase_ne _ _ _ h]
  · rw [if_neg h', ObjStore.find_insert_ne _ _ _ _ h]

theorem ObjStore.erase_mem (k : Nat) (st : ObjStore) : ∀ e ∈ ObjStore.erase k st, e ∈ st := by
  induction st with
  | nil => simp [ObjStore.erase]
  | cons x r ih =>
    obtain ⟨k', v⟩ := x
    intro e he
    by_cases h : k' = k
    · rw [ObjStore.erase, if_pos h] at he; exact List.mem_cons_of_mem _ (ih e he)
    · rw [ObjStore.erase, if_neg h, List.mem_cons] at he
      rcases he with he | he
      · exact he ▸ List.mem_cons_self
      · exact List.mem_cons_of_mem _ (ih e he)

theorem ObjStore.insert_mem (k : Nat) (v : ObjVal) (st : ObjStore) :
    ∀ e ∈ ObjStore.insert k v st, e = (k, v) ∨ e ∈ st := by
  induction st with
  | nil => intro e he; simpa [ObjStore.insert] using he
  | cons x r ih =>
    obtain ⟨k', v'⟩ := x
    intro e he
    simp only [ObjStore.insert] at he
    split at he
    · simpa using he
    · split at he
      · rcases List.mem_cons.mp he with h | h
        · exact .inl h
        · exact .inr (List.mem_cons_of_mem _ h)
      · rcases List.mem_cons.mp he with h | h
        · exact .inr (h ▸ List.mem_cons_self)
        · rcases ih e h with h | h
          · exact .inl h
          · exact .inr (List.mem_cons_of_mem _ h)

theorem ObjStore.wf_cons (k : Nat) (v : ObjVal) (r : ObjStore) :
    ObjStore.wf ((k, v) :: r) = true ↔ v ≠ objDefault k ∧ (∀ e ∈ r, k < e.1) ∧ ObjStore.wf r = true := by
  simp [ObjStore.wf, and_assoc]

theorem ObjStore.wf_erase (k : Nat) (st : ObjStore) (h : st.wf = true) : (ObjStore.erase k st).wf = true := by
  induction st with
  | nil => rfl
  | cons x r ih =>
    obtain ⟨k', v⟩ := x
    rw [ObjStore.wf_cons] at h
    by_cases hk : k' = k
    · rw [ObjStore.erase, if_pos hk]; exact ih h.2.2
    · rw [ObjStore.erase, if_neg hk, ObjStore.wf_cons]
      exact ⟨h.1, fun e he => h.2.1 e (ObjStore.erase_mem k r e he), ih h.2.2⟩

theorem ObjStore.wf_insert (k : Nat) (v : ObjVal) (st : ObjStore) (hv : v ≠ objDefault k) (h : st.wf = true) :
    (ObjStore.insert k v st).wf = true := by
  induction st with
  | nil => exact (ObjStore.wf_cons k v []).mpr ⟨hv, by simp, rfl⟩
  | cons x r ih =>
    obtain ⟨k', v'⟩ := x
    have h' := (ObjStore.wf_cons k' v' r).mp h
    simp only [ObjStore.insert]
    split
    · rename_i hk
      refine (ObjStore.wf_cons _ _ _).mpr ⟨hv, ?_, h⟩
      intro e he
      rcases List.mem_cons.mp he with he | he
      · subst he; exact hk
      · exact Nat.lt_trans hk (h'.2.1 e he)
    · split
      · rename_i hk; subst hk; exact (ObjStore.wf_cons _ _ _).mpr ⟨hv, h'.2.1, h'.2.2⟩
      · refine (ObjStore.wf_cons _ _ _).mpr ⟨h'.1, ?_, ih h'.2.2⟩
        intro e he
        rcases ObjStore.insert_mem k v r e he with he | he
        · subst he; simp only; omega
        · exact h'.2.1 e he

/-- A write keeps the canonical form: keys ascend and no entry holds its default. -/
theorem ObjStore.wf_put (st : ObjStore) (k : Nat) (v : ObjVal) (h : st.wf = true) : (st.put k v).wf = true := by
  unfold ObjStore.put
  split
  · exact ObjStore.wf_erase k st h
  · rename_i hv; exact ObjStore.wf_insert k v st hv h

/-! ### Objects of the block -/

/-- Two objects have one key only if index and sub-index agree. -/
theorem objKey_inj (i j i' j' : Nat) (hj : j < 256) (hj' : j' < 256) : objKey i j = objKey i' j' ↔ i = i' ∧ j = j' := by
  unfold objKey; omega

@[simp] theorem Dev.num_put (d : Dev) (i j : Nat) (v : Int) : (d.put i j v).num i j = v := by
  simp [Dev.num, Dev.put, Dev.putVal, ObjVal.toInt]

@[simp] theorem Dev.arr_putVal (d : Dev) (i j : Nat) (xs : List Int) : (d.putVal i j (.arr xs)).arr i j = xs := by
  simp [Dev.arr, Dev.putVal, ObjVal.toArr]

@[simp] theorem Dev.bytes_putVal (d : Dev) (i j : Nat) (b : List Byte) : (d.putVal i j (.bytes b)).bytes i j = b := by
  simp [Dev.bytes, Dev.putVal, ObjVal.toBytes]

@[simp] theorem Dev.num_pput (d : Dev) (p : PortId) (i j : Nat) (v : Int) : (d.pput p i j v).pnum p i j = v :=
  Dev.num_put ..

/-- A write of another object leaves the number of this one. -/
theorem Dev.num_putVal_ne (d : Dev) (i j i' j' : Nat) (v : ObjVal) (h : objKey i' j' ≠ objKey i j) :
    (d.putVal i j v).num i' j' = d.num i' j' := by
  simp [Dev.num, Dev.putVal, ObjStore.get_put_ne _ _ _ _ h]

/-- A write of another object leaves the number of this one. -/
theorem Dev.num_put_ne (d : Dev) (i j i' j' : Nat) (v : Int) (h : objKey i' j' ≠ objKey i j) :
    (d.put i j v).num i' j' = d.num i' j' := Dev.num_putVal_ne _ _ _ _ _ _ h

/-- A write of another object leaves the elements of this one. -/
theorem Dev.arr_putVal_ne (d : Dev) (i j i' j' : Nat) (v : ObjVal) (h : objKey i' j' ≠ objKey i j) :
    (d.putVal i j v).arr i' j' = d.arr i' j' := by
  simp [Dev.arr, Dev.putVal, ObjStore.get_put_ne _ _ _ _ h]

/-- A write of another object leaves the bytes of this one. -/
theorem Dev.bytes_putVal_ne (d : Dev) (i j i' j' : Nat) (v : ObjVal) (h : objKey i' j' ≠ objKey i j) :
    (d.putVal i j v).bytes i' j' = d.bytes i' j' := by
  simp [Dev.bytes, Dev.putVal, ObjStore.get_put_ne _ _ _ _ h]

/-- A saturating counter advances by n. -/
theorem Dev.num_incBy (d : Dev) (i j n : Nat) : (d.incBy i j n).num i j = min (d.num i j + n) 4294967295 :=
  Dev.num_put ..

/-- A saturating counter advances by one. -/
theorem Dev.num_inc (d : Dev) (i j : Nat) : (d.inc i j).num i j = min (d.num i j + 1) 4294967295 := Dev.num_incBy ..

/-- A counter's advance leaves every other number. -/
theorem Dev.num_incBy_ne (d : Dev) (i j n i' j' : Nat) (h : objKey i' j' ≠ objKey i j) :
    (d.incBy i j n).num i' j' = d.num i' j' := Dev.num_put_ne _ _ _ _ _ _ h

/-- A bit's change leaves every other number. -/
theorem Dev.num_putBit_ne (d : Dev) (i j k : Nat) (b : Bool) (i' j' : Nat) (h : objKey i' j' ≠ objKey i j) :
    (d.putBit i j k b).num i' j' = d.num i' j' := Dev.num_put_ne _ _ _ _ _ _ h

/-- The store's canonical form through the writes of objects. -/
theorem Dev.putVal_wf (d : Dev) (i j : Nat) (v : ObjVal) (h : d.objs.wf = true) : (d.putVal i j v).objs.wf = true :=
  ObjStore.wf_put _ _ _ h

end Sys2Proof.Machine
end

