-- ==== Sys2Proof/Laws/PerInstr.lean ====
section
/-! SUPPORT. What holds of every command as syntax: a well-formed command names its tick within the slot. -/

namespace Sys2Proof.Laws.Operands

set_option Elab.async false

/-- The tick of the slot at which a command of an engine or of a chopper happens, for the commands that carry one (R24). -/
def slotTick : Instr → Option Nat
  | .slotBoundary _ _ _ => none
  | .changePublication => none
  | .budgetAllocation _ => none
  | .alu _ t _ _ _ _ _ => some t
  | .multiply _ t _ _ _ _ _ => some t
  | .sineCosine _ t _ _ _ => some t
  | .divideSquareRoot _ t _ _ _ _ _ => some t
  | .scratchpadAccess _ t _ _ _ _ => some t
  | .sharedSramAccess _ t _ _ _ => some t
  | .stagePortAccess _ t _ => some t
  | .crosswindSend _ t _ _ _ _ _ _ _ _ _ _ => some t
  | .branch _ t _ _ => some t
  | .loopSetUp _ t _ _ => some t
  | .kIin _ t => some t
  | .kAngIn _ t => some t
  | .kVbusIn _ t => some t
  | .kClarke _ t => some t
  | .kPark _ t => some t
  | .kPiDq _ t => some t
  | .kDecouple _ t => some t
  | .kMtpa _ t => some t
  | .kFwVlim _ t => some t
  | .kIpark _ t => some t
  | .kOvm _ t => some t
  | .kDtcomp _ t => some t
  | .kSvm7 _ t => some t
  | .kSvm5 _ t => some t
  | .kZvv _ t => some t
  | .kHfiInj _ t => some t
  | .kDutyOut _ t => some t
  | .kQepIn _ t => some t
  | .kHallIn _ t => some t
  | .kHallInterp _ t => some t
  | .kSentIn _ t => some t
  | .kAngScale _ t => some t
  | .kSpdEst _ t => some t
  | .kObsBemf _ t => some t
  | .kObsHfi _ t => some t
  | .kObsBlend _ t => some t
  | .kPllAng _ t => some t
  | .kAlign _ t => some t
  | .kIfRamp _ t => some t
  | .kHandover _ t => some t
  | .kFlyCatch _ t => some t
  | .kRotorLoss _ t => some t
  | .kAngOut _ t => some t
  | .kProcIn _ t => some t
  | .kRamp _ t => some t
  | .kScurve _ t => some t
  | .kSpdPi _ t => some t
  | .kTrqSet _ t => some t
  | .kLimBudget _ t => some t
  | .kCheckDq _ t => some t
  | .kXwExch _ t => some t
  | .kXwPlaus _ t => some t
  | .kSupervise _ t => some t
  | .kSetOut _ t => some t
  | .kStatusOut _ t => some t
  | .kStopSeq _ t => some t
  | .portStateTransition _ => none
  | .engineTimingFault _ _ => none
  | .carrierPeriodStart _ _ => none
  | .overcurrentTrip _ _ => none
  | .bothPoorLimit _ => none
  | .csStartCalibration _ => none
  | .calibrationInterval _ => none
  | .csCalibrationEnd _ _ => none
  | .bootUvFault _ => none
  | .gdSupplyFault _ _ _ => none
  | .desaturation _ _ _ _ _ => none
  | .phaseNodeCheck _ _ _ _ => none
  | .gdFeedbackFault _ => none
  | .safeStateCommand _ _ => none
  | .ascRelease _ _ => none
  | .safeStateReleaseOff _ => none
  | .chopperEngage _ t _ => some t
  | .chopperRelease _ t _ _ => some t
  | .chopperDrainCheck _ t _ => some t
  | .chopperEffectCheck _ t _ _ => some t
  | .nonmemberOv2 _ t _ => some t
  | .nonmemberOv2Withdraw _ t _ => some t
  | .escalationDelay _ t _ => some t
  | .busOv3 _ _ _ => none
  | .gridPhaseMeasurement => none
  | .coastTimeout _ => none
  | .standstill _ => none
  | .faultClear _ _ => none
  | .quadratureEdge _ _ _ _ => none
  | .illegalBucketLeak _ => none
  | .illegalBucketLimit _ => none
  | .indexEvent _ => none
  | .indexMismatchLimit _ => none
  | .presetCount _ => none
  | .hallStateChange _ _ _ => none
  | .hallInvalidTimeout _ => none
  | .zeroSpeedTimeout _ => none
  | .sentFrameReceived _ _ => none
  | .sentTimeout _ => none
  | .startPhaseBoundary _ => none
  | .startAttemptFailure _ => none
  | .polarityDecision _ => none
  | .handoverReached _ => none
  | .rotorLossDetected _ => none
  | .catchConfirmed _ => none
  | .crosswindRecordArrival _ t => some t
  | .faultLineReceived _ => none
  | .pairStateTransition _ => none
  | .xwLineFault _ => none
  | .blamedPartnerDriving _ => none
  | .overloadTimeExpiry _ => none
  | .partnerLaneLost _ => none
  | .degradedEntry => none
  | .gcConversionComplete _ _ => none
  | .restartSequence _ => none
  | .gcRestartTakesEffect _ => none
  | .injectedRequest _ => none
  | .gcStartCalibration _ => none
  | .gcCalibrationEnd _ _ => none
  | .modeRequestSleep => none
  | .modeRequestStandby => none
  | .modeRequestRun => none
  | .privilegedRequestStorage => none
  | .privilegedRequestConfigure => none
  | .lowPowerEntry => none
  | .autoRun => none
  | .wakePin _ _ => none
  | .wakeTimer _ => none
  | .canWakeUp _ => none
  | .vbatReconnect _ _ => none
  | .supplyUv _ _ _ _ => none
  | .sensorSupplyFault _ _ _ _ => none
  | .laneSupplyReturn _ => none
  | .bothLanesLost _ => none
  | .powerOnReset => none
  | .resetNPulse _ => none
  | .deviceReset => none
  | .resetRelease _ _ _ _ _ _ => none
  | .rootClockQualified _ => none
  | .rootQualificationTimeout _ => none
  | .laneNotReady _ => none
  | .startupImageCheckComplete => none
  | .thermalMeasurement _ _ => none
  | .overtemp _ _ _ => none
  | .vgdBelow7v _ _ => none
  | .islandUnpowered => none
  | .rootClockLoss _ _ => none
  | .backupTrimAdjust _ _ => none
  | .backupSteeringStep _ _ => none
  | .laneClockComparison _ _ _ => none
  | .laneClockFault _ => none
  | .commonTimeFault => none
  | .syncReceived _ _ _ => none
  | .followUpReceived _ _ => none
  | .announceReceived _ _ => none
  | .pdelayReqReceived _ _ _ _ _ => none
  | .pdelayRespReceived _ _ _ => none
  | .pdelayReqSend _ _ => none
  | .syncReceiptTimeout _ _ => none
  | .announceReceiptTimeout _ _ => none
  | .atSwitchComplete => none
  | .atRevert => none
  | .domainEnable _ => none
  | .setDt => none
  | .timedActionArm _ => none
  | .timedActionCancel _ => none
  | .syncPulse _ => none
  | .syncPulseEnd _ => none
  | .applyValue _ => none
  | .reanchorCarrierGrid _ => none
  | .timedModeRequest _ => none
  | .journalCommitStart => none
  | .journalCommitComplete _ _ => none
  | .journalBlockEraseComplete => none
  | .acknowledge => none
  | .takeSnapshot => none
  | .requestArrival _ _ _ _ => none
  | .read _ => none
  | .write _ _ => none
  | .readSegment _ => none
  | .writeSegment _ _ => none
  | .stagingBufferWrite _ => none
  | .openSession _ => none
  | .auth _ => none
  | .close _ => none
  | .attach _ => none
  | .detach _ => none
  | .openExpiry _ => none
  | .sessionTimeout _ => none
  | .authLockoutExpiry _ => none
  | .bridgeExecution _ => none
  | .streamFrameArrival _ _ _ _ => none
  | .streamTimeout _ => none
  | .streamTransmit _ => none
  | .arpRequest _ _ _ => none
  | .neighbourSolicitation _ _ _ => none
  | .echoRequest _ _ _ => none
  | .busOff => none
  | .busOffRecovery => none
  | .n3Takeover => none
  | .n3TakeoverComplete => none
  | .ipv4LinkLocalClaim _ _ _ => none
  | .bankStaging _ => none
  | .verifyStagedImage => none
  | .imageVerificationComplete => none
  | .activateStagedImage => none
  | .imageHyperframeStart => none
  | .selectProfile => none
  | .profileLoadComplete => none
  | .saveProfile => none
  | .profileSaveComplete _ => none
  | .eraseProfile => none
  | .profileEraseComplete => none
  | .deviceRecordWrite => none
  | .bankEraseComplete => none
  | .verifyInactiveBank => none
  | .bankVerificationComplete => none
  | .switchBanks => none
  | .programWord => none
  | .otpProgramComplete _ => none
  | .lockRegion => none
  | .otpLockComplete _ _ => none
  | .otpPeriodicReread _ _ => none
  | .ordinaryWordsRead _ => none
  | .chainCsnFall _ => none
  | .chainCsnRise _ _ _ => none
  | .chainStartUnit => none
  | .chainDataUnit => none
  | .chainAbortUnit => none
  | .freeze => none
  | .fzStatus => none
  | .dumpAddr _ => none
  | .dumpData _ => none
  | .resume => none
  | .sysreset => none
  | .idcode => none
  | .extest _ _ => none
  | .samplePreload _ _ => none
  | .highz => none
  | .clamp => none
  | .bypass _ _ => none
  | .obj _ _ => none
  | .tapReset => none
  | .lullNTrigger _ => none
  | .selfDumpStart _ => none
  | .freezeCommand => none
  | .selfDumpComplete => none
  | .releaseCapture => none
  | .captureEraseComplete => none
  | .traceRecordWrite => none
  | .returnConsentSet => none
  | .returnConsentClear => none

/-- A well-formed command that names a tick names one of the 200 ticks of a slot (R24). -/
def Statement (i : Instr) : Prop := i.wf = true → ∀ t, slotTick i = some t → t < 200

/-- No tick is named. -/
theorem of_none {P : Nat → Prop} : ∀ t, none = some t → P t := fun _ h => nomatch h

/-- The tick is the whole range check. -/
theorem of_tick {t : Nat} (h : decide (t < 200) = true) : ∀ u, some t = some u → u < 200 :=
  fun _ hu => Option.some.inj hu ▸ of_decide_eq_true h

/-- The tick is the first of two range checks. -/
theorem of_tick_and {t : Nat} {b : Bool} (h : (decide (t < 200) && b) = true) : ∀ u, some t = some u → u < 200 :=
  of_tick (Bool.and_eq_true_iff.1 h).1

/-- The tick is a tick of the crossbar. -/
theorem of_crossbar {e : EngineId} {t : Nat} {b : Bool} (h : (e.crossbarTick t && b) = true) : ∀ u, some t = some u → u < 200 := by
  simp only [EngineId.crossbarTick, Bool.and_eq_true, decide_eq_true_eq] at h
  intro u hu; cases hu; omega

theorem slotBoundary : ∀ x0 x1 x2, Statement (.slotBoundary x0 x1 x2) := fun _ _ _ => fun _ => of_none
theorem changePublication : Statement .changePublication := fun _ => of_none
theorem budgetAllocation : ∀ x0, Statement (.budgetAllocation x0) := fun _ => fun _ => of_none
theorem alu : ∀ x0 x1 x2 x3 x4 x5 x6, Statement (.alu x0 x1 x2 x3 x4 x5 x6) := fun _ _ _ _ _ _ _ => fun h => of_tick_and h
theorem multiply : ∀ x0 x1 x2 x3 x4 x5 x6, Statement (.multiply x0 x1 x2 x3 x4 x5 x6) := fun _ _ _ _ _ _ _ => fun h => of_tick_and h
theorem sineCosine : ∀ x0 x1 x2 x3 x4, Statement (.sineCosine x0 x1 x2 x3 x4) := fun _ _ _ _ _ => fun h => of_tick h
theorem divideSquareRoot : ∀ x0 x1 x2 x3 x4 x5 x6, Statement (.divideSquareRoot x0 x1 x2 x3 x4 x5 x6) := fun _ _ _ _ _ _ _ => fun h => of_tick h
theorem scratchpadAccess : ∀ x0 x1 x2 x3 x4 x5, Statement (.scratchpadAccess x0 x1 x2 x3 x4 x5) := fun _ _ _ _ _ _ => fun h => of_tick_and h
theorem sharedSramAccess : ∀ x0 x1 x2 x3 x4, Statement (.sharedSramAccess x0 x1 x2 x3 x4) := fun _ _ _ _ _ => fun h => of_crossbar h
theorem stagePortAccess : ∀ x0 x1 x2, Statement (.stagePortAccess x0 x1 x2) := fun _ _ _ => fun h => of_tick_and h
theorem crosswindSend : ∀ x0 x1 x2 x3 x4 x5 x6 x7 x8 x9 x10 x11, Statement (.crosswindSend x0 x1 x2 x3 x4 x5 x6 x7 x8 x9 x10 x11) := fun _ _ _ _ _ _ _ _ _ _ _ _ => fun h => of_tick_and (Bool.and_eq_true_iff.1 (Bool.and_eq_true_iff.1 (Bool.and_eq_true_iff.1 h).1).1).1
theorem branch : ∀ x0 x1 x2 x3, Statement (.branch x0 x1 x2 x3) := fun _ _ _ _ => fun h => of_tick_and h
theorem loopSetUp : ∀ x0 x1 x2 x3, Statement (.loopSetUp x0 x1 x2 x3) := fun _ _ _ _ => fun h => of_tick_and (Bool.and_eq_true_iff.1 h).1
theorem kIin : ∀ x0 x1, Statement (.kIin x0 x1) := fun _ _ => fun h => of_tick h
theorem kAngIn : ∀ x0 x1, Statement (.kAngIn x0 x1) := fun _ _ => fun h => of_tick h
theorem kVbusIn : ∀ x0 x1, Statement (.kVbusIn x0 x1) := fun _ _ => fun h => of_tick h
theorem kClarke : ∀ x0 x1, Statement (.kClarke x0 x1) := fun _ _ => fun h => of_tick h
theorem kPark : ∀ x0 x1, Statement (.kPark x0 x1) := fun _ _ => fun h => of_tick h
theorem kPiDq : ∀ x0 x1, Statement (.kPiDq x0 x1) := fun _ _ => fun h => of_tick h
theorem kDecouple : ∀ x0 x1, Statement (.kDecouple x0 x1) := fun _ _ => fun h => of_tick h
theorem kMtpa : ∀ x0 x1, Statement (.kMtpa x0 x1) := fun _ _ => fun h => of_tick h
theorem kFwVlim : ∀ x0 x1, Statement (.kFwVlim x0 x1) := fun _ _ => fun h => of_tick h
theorem kIpark : ∀ x0 x1, Statement (.kIpark x0 x1) := fun _ _ => fun h => of_tick h
theorem kOvm : ∀ x0 x1, Statement (.kOvm x0 x1) := fun _ _ => fun h => of_tick h
theorem kDtcomp : ∀ x0 x1, Statement (.kDtcomp x0 x1) := fun _ _ => fun h => of_tick h
theorem kSvm7 : ∀ x0 x1, Statement (.kSvm7 x0 x1) := fun _ _ => fun h => of_tick h
theorem kSvm5 : ∀ x0 x1, Statement (.kSvm5 x0 x1) := fun _ _ => fun h => of_tick h
theorem kZvv : ∀ x0 x1, Statement (.kZvv x0 x1) := fun _ _ => fun h => of_tick h
theorem kHfiInj : ∀ x0 x1, Statement (.kHfiInj x0 x1) := fun _ _ => fun h => of_tick h
theorem kDutyOut : ∀ x0 x1, Statement (.kDutyOut x0 x1) := fun _ _ => fun h => of_tick h
theorem kQepIn : ∀ x0 x1, Statement (.kQepIn x0 x1) := fun _ _ => fun h => of_tick h
theorem kHallIn : ∀ x0 x1, Statement (.kHallIn x0 x1) := fun _ _ => fun h => of_tick h
theorem kHallInterp : ∀ x0 x1, Statement (.kHallInterp x0 x1) := fun _ _ => fun h => of_tick h
theorem kSentIn : ∀ x0 x1, Statement (.kSentIn x0 x1) := fun _ _ => fun h => of_tick h
theorem kAngScale : ∀ x0 x1, Statement (.kAngScale x0 x1) := fun _ _ => fun h => of_tick h
theorem kSpdEst : ∀ x0 x1, Statement (.kSpdEst x0 x1) := fun _ _ => fun h => of_tick h
theorem kObsBemf : ∀ x0 x1, Statement (.kObsBemf x0 x1) := fun _ _ => fun h => of_tick h
theorem kObsHfi : ∀ x0 x1, Statement (.kObsHfi x0 x1) := fun _ _ => fun h => of_tick h
theorem kObsBlend : ∀ x0 x1, Statement (.kObsBlend x0 x1) := fun _ _ => fun h => of_tick h
theorem kPllAng : ∀ x0 x1, Statement (.kPllAng x0 x1) := fun _ _ => fun h => of_tick h
theorem kAlign : ∀ x0 x1, Statement (.kAlign x0 x1) := fun _ _ => fun h => of_tick h
theorem kIfRamp : ∀ x0 x1, Statement (.kIfRamp x0 x1) := fun _ _ => fun h => of_tick h
theorem kHandover : ∀ x0 x1, Statement (.kHandover x0 x1) := fun _ _ => fun h => of_tick h
theorem kFlyCatch : ∀ x0 x1, Statement (.kFlyCatch x0 x1) := fun _ _ => fun h => of_tick h
theorem kRotorLoss : ∀ x0 x1, Statement (.kRotorLoss x0 x1) := fun _ _ => fun h => of_tick h
theorem kAngOut : ∀ x0 x1, Statement (.kAngOut x0 x1) := fun _ _ => fun h => of_tick h
theorem kProcIn : ∀ x0 x1, Statement (.kProcIn x0 x1) := fun _ _ => fun h => of_tick h
theorem kRamp : ∀ x0 x1, Statement (.kRamp x0 x1) := fun _ _ => fun h => of_tick h
theorem kScurve : ∀ x0 x1, Statement (.kScurve x0 x1) := fun _ _ => fun h => of_tick h
theorem kSpdPi : ∀ x0 x1, Statement (.kSpdPi x0 x1) := fun _ _ => fun h => of_tick h
theorem kTrqSet : ∀ x0 x1, Statement (.kTrqSet x0 x1) := fun _ _ => fun h => of_tick h
theorem kLimBudget : ∀ x0 x1, Statement (.kLimBudget x0 x1) := fun _ _ => fun h => of_tick h
theorem kCheckDq : ∀ x0 x1, Statement (.kCheckDq x0 x1) := fun _ _ => fun h => of_tick h
theorem kXwExch : ∀ x0 x1, Statement (.kXwExch x0 x1) := fun _ _ => fun h => of_tick h
theorem kXwPlaus : ∀ x0 x1, Statement (.kXwPlaus x0 x1) := fun _ _ => fun h => of_tick h
theorem kSupervise : ∀ x0 x1, Statement (.kSupervise x0 x1) := fun _ _ => fun h => of_tick h
theorem kSetOut : ∀ x0 x1, Statement (.kSetOut x0 x1) := fun _ _ => fun h => of_tick h
theorem kStatusOut : ∀ x0 x1, Statement (.kStatusOut x0 x1) := fun _ _ => fun h => of_tick h
theorem kStopSeq : ∀ x0 x1, Statement (.kStopSeq x0 x1) := fun _ _ => fun h => of_tick h
theorem portStateTransition : ∀ x0, Statement (.portStateTransition x0) := fun _ => fun _ => of_none
theorem engineTimingFault : ∀ x0 x1, Statement (.engineTimingFault x0 x1) := fun _ _ => fun _ => of_none
theorem carrierPeriodStart : ∀ x0 x1, Statement (.carrierPeriodStart x0 x1) := fun _ _ => fun _ => of_none
theorem overcurrentTrip : ∀ x0 x1, Statement (.overcurrentTrip x0 x1) := fun _ _ => fun _ => of_none
theorem bothPoorLimit : ∀ x0, Statement (.bothPoorLimit x0) := fun _ => fun _ => of_none
theorem csStartCalibration : ∀ x0, Statement (.csStartCalibration x0) := fun _ => fun _ => of_none
theorem calibrationInterval : ∀ x0, Statement (.calibrationInterval x0) := fun _ => fun _ => of_none
theorem csCalibrationEnd : ∀ x0 x1, Statement (.csCalibrationEnd x0 x1) := fun _ _ => fun _ => of_none
theorem bootUvFault : ∀ x0, Statement (.bootUvFault x0) := fun _ => fun _ => of_none
theorem gdSupplyFault : ∀ x0 x1 x2, Statement (.gdSupplyFault x0 x1 x2) := fun _ _ _ => fun _ => of_none
theorem desaturation : ∀ x0 x1 x2 x3 x4, Statement (.desaturation x0 x1 x2 x3 x4) := fun _ _ _ _ _ => fun _ => of_none
theorem phaseNodeCheck : ∀ x0 x1 x2 x3, Statement (.phaseNodeCheck x0 x1 x2 x3) := fun _ _ _ _ => fun _ => of_none
theorem gdFeedbackFault : ∀ x0, Statement (.gdFeedbackFault x0) := fun _ => fun _ => of_none
theorem safeStateCommand : ∀ x0 x1, Statement (.safeStateCommand x0 x1) := fun _ _ => fun _ => of_none
theorem ascRelease : ∀ x0 x1, Statement (.ascRelease x0 x1) := fun _ _ => fun _ => of_none
theorem safeStateReleaseOff : ∀ x0, Statement (.safeStateReleaseOff x0) := fun _ => fun _ => of_none
theorem chopperEngage : ∀ x0 x1 x2, Statement (.chopperEngage x0 x1 x2) := fun _ _ _ => fun h => of_tick h
theorem chopperRelease : ∀ x0 x1 x2 x3, Statement (.chopperRelease x0 x1 x2 x3) := fun _ _ _ _ => fun h => of_tick h
theorem chopperDrainCheck : ∀ x0 x1 x2, Statement (.chopperDrainCheck x0 x1 x2) := fun _ _ _ => fun h => of_tick h
theorem chopperEffectCheck : ∀ x0 x1 x2 x3, Statement (.chopperEffectCheck x0 x1 x2 x3) := fun _ _ _ _ => fun h => of_tick h
theorem nonmemberOv2 : ∀ x0 x1 x2, Statement (.nonmemberOv2 x0 x1 x2) := fun _ _ _ => fun h => of_tick h
theorem nonmemberOv2Withdraw : ∀ x0 x1 x2, Statement (.nonmemberOv2Withdraw x0 x1 x2) := fun _ _ _ => fun h => of_tick h
theorem escalationDelay : ∀ x0 x1 x2, Statement (.escalationDelay x0 x1 x2) := fun _ _ _ => fun h => of_tick h
theorem busOv3 : ∀ x0 x1 x2, Statement (.busOv3 x0 x1 x2) := fun _ _ _ => fun _ => of_none
theorem gridPhaseMeasurement : Statement .gridPhaseMeasurement := fun _ => of_none
theorem coastTimeout : ∀ x0, Statement (.coastTimeout x0) := fun _ => fun _ => of_none
theorem standstill : ∀ x0, Statement (.standstill x0) := fun _ => fun _ => of_none
theorem faultClear : ∀ x0 x1, Statement (.faultClear x0 x1) := fun _ _ => fun _ => of_none
theorem quadratureEdge : ∀ x0 x1 x2 x3, Statement (.quadratureEdge x0 x1 x2 x3) := fun _ _ _ _ => fun _ => of_none
theorem illegalBucketLeak : ∀ x0, Statement (.illegalBucketLeak x0) := fun _ => fun _ => of_none
theorem illegalBucketLimit : ∀ x0, Statement (.illegalBucketLimit x0) := fun _ => fun _ => of_none
theorem indexEvent : ∀ x0, Statement (.indexEvent x0) := fun _ => fun _ => of_none
theorem indexMismatchLimit : ∀ x0, Statement (.indexMismatchLimit x0) := fun _ => fun _ => of_none
theorem presetCount : ∀ x0, Statement (.presetCount x0) := fun _ => fun _ => of_none
theorem hallStateChange : ∀ x0 x1 x2, Statement (.hallStateChange x0 x1 x2) := fun _ _ _ => fun _ => of_none
theorem hallInvalidTimeout : ∀ x0, Statement (.hallInvalidTimeout x0) := fun _ => fun _ => of_none
theorem zeroSpeedTimeout : ∀ x0, Statement (.zeroSpeedTimeout x0) := fun _ => fun _ => of_none
theorem sentFrameReceived : ∀ x0 x1, Statement (.sentFrameReceived x0 x1) := fun _ _ => fun _ => of_none
theorem sentTimeout : ∀ x0, Statement (.sentTimeout x0) := fun _ => fun _ => of_none
theorem startPhaseBoundary : ∀ x0, Statement (.startPhaseBoundary x0) := fun _ => fun _ => of_none
theorem startAttemptFailure : ∀ x0, Statement (.startAttemptFailure x0) := fun _ => fun _ => of_none
theorem polarityDecision : ∀ x0, Statement (.polarityDecision x0) := fun _ => fun _ => of_none
theorem handoverReached : ∀ x0, Statement (.handoverReached x0) := fun _ => fun _ => of_none
theorem rotorLossDetected : ∀ x0, Statement (.rotorLossDetected x0) := fun _ => fun _ => of_none
theorem catchConfirmed : ∀ x0, Statement (.catchConfirmed x0) := fun _ => fun _ => of_none
theorem crosswindRecordArrival : ∀ x0 x1, Statement (.crosswindRecordArrival x0 x1) := fun _ _ => fun h => of_tick h
theorem faultLineReceived : ∀ x0, Statement (.faultLineReceived x0) := fun _ => fun _ => of_none
theorem pairStateTransition : ∀ x0, Statement (.pairStateTransition x0) := fun _ => fun _ => of_none
theorem xwLineFault : ∀ x0, Statement (.xwLineFault x0) := fun _ => fun _ => of_none
theorem blamedPartnerDriving : ∀ x0, Statement (.blamedPartnerDriving x0) := fun _ => fun _ => of_none
theorem overloadTimeExpiry : ∀ x0, Statement (.overloadTimeExpiry x0) := fun _ => fun _ => of_none
theorem partnerLaneLost : ∀ x0, Statement (.partnerLaneLost x0) := fun _ => fun _ => of_none
theorem degradedEntry : Statement .degradedEntry := fun _ => of_none
theorem gcConversionComplete : ∀ x0 x1, Statement (.gcConversionComplete x0 x1) := fun _ _ => fun _ => of_none
theorem restartSequence : ∀ x0, Statement (.restartSequence x0) := fun _ => fun _ => of_none
theorem gcRestartTakesEffect : ∀ x0, Statement (.gcRestartTakesEffect x0) := fun _ => fun _ => of_none
theorem injectedRequest : ∀ x0, Statement (.injectedRequest x0) := fun _ => fun _ => of_none
theorem gcStartCalibration : ∀ x0, Statement (.gcStartCalibration x0) := fun _ => fun _ => of_none
theorem gcCalibrationEnd : ∀ x0 x1, Statement (.gcCalibrationEnd x0 x1) := fun _ _ => fun _ => of_none
theorem modeRequestSleep : Statement .modeRequestSleep := fun _ => of_none
theorem modeRequestStandby : Statement .modeRequestStandby := fun _ => of_none
theorem modeRequestRun : Statement .modeRequestRun := fun _ => of_none
theorem privilegedRequestStorage : Statement .privilegedRequestStorage := fun _ => of_none
theorem privilegedRequestConfigure : Statement .privilegedRequestConfigure := fun _ => of_none
theorem lowPowerEntry : Statement .lowPowerEntry := fun _ => of_none
theorem autoRun : Statement .autoRun := fun _ => of_none
theorem wakePin : ∀ x0 x1, Statement (.wakePin x0 x1) := fun _ _ => fun _ => of_none
theorem wakeTimer : ∀ x0, Statement (.wakeTimer x0) := fun _ => fun _ => of_none
theorem canWakeUp : ∀ x0, Statement (.canWakeUp x0) := fun _ => fun _ => of_none
theorem vbatReconnect : ∀ x0 x1, Statement (.vbatReconnect x0 x1) := fun _ _ => fun _ => of_none
theorem supplyUv : ∀ x0 x1 x2 x3, Statement (.supplyUv x0 x1 x2 x3) := fun _ _ _ _ => fun _ => of_none
theorem sensorSupplyFault : ∀ x0 x1 x2 x3, Statement (.sensorSupplyFault x0 x1 x2 x3) := fun _ _ _ _ => fun _ => of_none
theorem laneSupplyReturn : ∀ x0, Statement (.laneSupplyReturn x0) := fun _ => fun _ => of_none
theorem bothLanesLost : ∀ x0, Statement (.bothLanesLost x0) := fun _ => fun _ => of_none
theorem powerOnReset : Statement .powerOnReset := fun _ => of_none
theorem resetNPulse : ∀ x0, Statement (.resetNPulse x0) := fun _ => fun _ => of_none
theorem deviceReset : Statement .deviceReset := fun _ => of_none
theorem resetRelease : ∀ x0 x1 x2 x3 x4 x5, Statement (.resetRelease x0 x1 x2 x3 x4 x5) := fun _ _ _ _ _ _ => fun _ => of_none
theorem rootClockQualified : ∀ x0, Statement (.rootClockQualified x0) := fun _ => fun _ => of_none
theorem rootQualificationTimeout : ∀ x0, Statement (.rootQualificationTimeout x0) := fun _ => fun _ => of_none
theorem laneNotReady : ∀ x0, Statement (.laneNotReady x0) := fun _ => fun _ => of_none
theorem startupImageCheckComplete : Statement .startupImageCheckComplete := fun _ => of_none
theorem thermalMeasurement : ∀ x0 x1, Statement (.thermalMeasurement x0 x1) := fun _ _ => fun _ => of_none
theorem overtemp : ∀ x0 x1 x2, Statement (.overtemp x0 x1 x2) := fun _ _ _ => fun _ => of_none
theorem vgdBelow7v : ∀ x0 x1, Statement (.vgdBelow7v x0 x1) := fun _ _ => fun _ => of_none
theorem islandUnpowered : Statement .islandUnpowered := fun _ => of_none
theorem rootClockLoss : ∀ x0 x1, Statement (.rootClockLoss x0 x1) := fun _ _ => fun _ => of_none
theorem backupTrimAdjust : ∀ x0 x1, Statement (.backupTrimAdjust x0 x1) := fun _ _ => fun _ => of_none
theorem backupSteeringStep : ∀ x0 x1, Statement (.backupSteeringStep x0 x1) := fun _ _ => fun _ => of_none
theorem laneClockComparison : ∀ x0 x1 x2, Statement (.laneClockComparison x0 x1 x2) := fun _ _ _ => fun _ => of_none
theorem laneClockFault : ∀ x0, Statement (.laneClockFault x0) := fun _ => fun _ => of_none
theorem commonTimeFault : Statement .commonTimeFault := fun _ => of_none
theorem syncReceived : ∀ x0 x1 x2, Statement (.syncReceived x0 x1 x2) := fun _ _ _ => fun _ => of_none
theorem followUpReceived : ∀ x0 x1, Statement (.followUpReceived x0 x1) := fun _ _ => fun _ => of_none
theorem announceReceived : ∀ x0 x1, Statement (.announceReceived x0 x1) := fun _ _ => fun _ => of_none
theorem pdelayReqReceived : ∀ x0 x1 x2 x3 x4, Statement (.pdelayReqReceived x0 x1 x2 x3 x4) := fun _ _ _ _ _ => fun _ => of_none
theorem pdelayRespReceived : ∀ x0 x1 x2, Statement (.pdelayRespReceived x0 x1 x2) := fun _ _ _ => fun _ => of_none
theorem pdelayReqSend : ∀ x0 x1, Statement (.pdelayReqSend x0 x1) := fun _ _ => fun _ => of_none
theorem syncReceiptTimeout : ∀ x0 x1, Statement (.syncReceiptTimeout x0 x1) := fun _ _ => fun _ => of_none
theorem announceReceiptTimeout : ∀ x0 x1, Statement (.announceReceiptTimeout x0 x1) := fun _ _ => fun _ => of_none
theorem atSwitchComplete : Statement .atSwitchComplete := fun _ => of_none
theorem atRevert : Statement .atRevert := fun _ => of_none
theorem domainEnable : ∀ x0, Statement (.domainEnable x0) := fun _ => fun _ => of_none
theorem setDt : Statement .setDt := fun _ => of_none
theorem timedActionArm : ∀ x0, Statement (.timedActionArm x0) := fun _ => fun _ => of_none
theorem timedActionCancel : ∀ x0, Statement (.timedActionCancel x0) := fun _ => fun _ => of_none
theorem syncPulse : ∀ x0, Statement (.syncPulse x0) := fun _ => fun _ => of_none
theorem syncPulseEnd : ∀ x0, Statement (.syncPulseEnd x0) := fun _ => fun _ => of_none
theorem applyValue : ∀ x0, Statement (.applyValue x0) := fun _ => fun _ => of_none
theorem reanchorCarrierGrid : ∀ x0, Statement (.reanchorCarrierGrid x0) := fun _ => fun _ => of_none
theorem timedModeRequest : ∀ x0, Statement (.timedModeRequest x0) := fun _ => fun _ => of_none
theorem journalCommitStart : Statement .journalCommitStart := fun _ => of_none
theorem journalCommitComplete : ∀ x0 x1, Statement (.journalCommitComplete x0 x1) := fun _ _ => fun _ => of_none
theorem journalBlockEraseComplete : Statement .journalBlockEraseComplete := fun _ => of_none
theorem acknowledge : Statement .acknowledge := fun _ => of_none
theorem takeSnapshot : Statement .takeSnapshot := fun _ => of_none
theorem requestArrival : ∀ x0 x1 x2 x3, Statement (.requestArrival x0 x1 x2 x3) := fun _ _ _ _ => fun _ => of_none
theorem read : ∀ x0, Statement (.read x0) := fun _ => fun _ => of_none
theorem write : ∀ x0 x1, Statement (.write x0 x1) := fun _ _ => fun _ => of_none
theorem readSegment : ∀ x0, Statement (.readSegment x0) := fun _ => fun _ => of_none
theorem writeSegment : ∀ x0 x1, Statement (.writeSegment x0 x1) := fun _ _ => fun _ => of_none
theorem stagingBufferWrite : ∀ x0, Statement (.stagingBufferWrite x0) := fun _ => fun _ => of_none
theorem openSession : ∀ x0, Statement (.openSession x0) := fun _ => fun _ => of_none
theorem auth : ∀ x0, Statement (.auth x0) := fun _ => fun _ => of_none
theorem close : ∀ x0, Statement (.close x0) := fun _ => fun _ => of_none
theorem attach : ∀ x0, Statement (.attach x0) := fun _ => fun _ => of_none
theorem detach : ∀ x0, Statement (.detach x0) := fun _ => fun _ => of_none
theorem openExpiry : ∀ x0, Statement (.openExpiry x0) := fun _ => fun _ => of_none
theorem sessionTimeout : ∀ x0, Statement (.sessionTimeout x0) := fun _ => fun _ => of_none
theorem authLockoutExpiry : ∀ x0, Statement (.authLockoutExpiry x0) := fun _ => fun _ => of_none
theorem bridgeExecution : ∀ x0, Statement (.bridgeExecution x0) := fun _ => fun _ => of_none
theorem streamFrameArrival : ∀ x0 x1 x2 x3, Statement (.streamFrameArrival x0 x1 x2 x3) := fun _ _ _ _ => fun _ => of_none
theorem streamTimeout : ∀ x0, Statement (.streamTimeout x0) := fun _ => fun _ => of_none
theorem streamTransmit : ∀ x0, Statement (.streamTransmit x0) := fun _ => fun _ => of_none
theorem arpRequest : ∀ x0 x1 x2, Statement (.arpRequest x0 x1 x2) := fun _ _ _ => fun _ => of_none
theorem neighbourSolicitation : ∀ x0 x1 x2, Statement (.neighbourSolicitation x0 x1 x2) := fun _ _ _ => fun _ => of_none
theorem echoRequest : ∀ x0 x1 x2, Statement (.echoRequest x0 x1 x2) := fun _ _ _ => fun _ => of_none
theorem busOff : Statement .busOff := fun _ => of_none
theorem busOffRecovery : Statement .busOffRecovery := fun _ => of_none
theorem n3Takeover : Statement .n3Takeover := fun _ => of_none
theorem n3TakeoverComplete : Statement .n3TakeoverComplete := fun _ => of_none
theorem ipv4LinkLocalClaim : ∀ x0 x1 x2, Statement (.ipv4LinkLocalClaim x0 x1 x2) := fun _ _ _ => fun _ => of_none
theorem bankStaging : ∀ x0, Statement (.bankStaging x0) := fun _ => fun _ => of_none
theorem verifyStagedImage : Statement .verifyStagedImage := fun _ => of_none
theorem imageVerificationComplete : Statement .imageVerificationComplete := fun _ => of_none
theorem activateStagedImage : Statement .activateStagedImage := fun _ => of_none
theorem imageHyperframeStart : Statement .imageHyperframeStart := fun _ => of_none
theorem selectProfile : Statement .selectProfile := fun _ => of_none
theorem profileLoadComplete : Statement .profileLoadComplete := fun _ => of_none
theorem saveProfile : Statement .saveProfile := fun _ => of_none
theorem profileSaveComplete : ∀ x0, Statement (.profileSaveComplete x0) := fun _ => fun _ => of_none
theorem eraseProfile : Statement .eraseProfile := fun _ => of_none
theorem profileEraseComplete : Statement .profileEraseComplete := fun _ => of_none
theorem deviceRecordWrite : Statement .deviceRecordWrite := fun _ => of_none
theorem bankEraseComplete : Statement .bankEraseComplete := fun _ => of_none
theorem verifyInactiveBank : Statement .verifyInactiveBank := fun _ => of_none
theorem bankVerificationComplete : Statement .bankVerificationComplete := fun _ => of_none
theorem switchBanks : Statement .switchBanks := fun _ => of_none
theorem programWord : Statement .programWord := fun _ => of_none
theorem otpProgramComplete : ∀ x0, Statement (.otpProgramComplete x0) := fun _ => fun _ => of_none
theorem lockRegion : Statement .lockRegion := fun _ => of_none
theorem otpLockComplete : ∀ x0 x1, Statement (.otpLockComplete x0 x1) := fun _ _ => fun _ => of_none
theorem otpPeriodicReread : ∀ x0 x1, Statement (.otpPeriodicReread x0 x1) := fun _ _ => fun _ => of_none
theorem ordinaryWordsRead : ∀ x0, Statement (.ordinaryWordsRead x0) := fun _ => fun _ => of_none
theorem chainCsnFall : ∀ x0, Statement (.chainCsnFall x0) := fun _ => fun _ => of_none
theorem chainCsnRise : ∀ x0 x1 x2, Statement (.chainCsnRise x0 x1 x2) := fun _ _ _ => fun _ => of_none
theorem chainStartUnit : Statement .chainStartUnit := fun _ => of_none
theorem chainDataUnit : Statement .chainDataUnit := fun _ => of_none
theorem chainAbortUnit : Statement .chainAbortUnit := fun _ => of_none
theorem freeze : Statement .freeze := fun _ => of_none
theorem fzStatus : Statement .fzStatus := fun _ => of_none
theorem dumpAddr : ∀ x0, Statement (.dumpAddr x0) := fun _ => fun _ => of_none
theorem dumpData : ∀ x0, Statement (.dumpData x0) := fun _ => fun _ => of_none
theorem resume : Statement .resume := fun _ => of_none
theorem sysreset : Statement .sysreset := fun _ => of_none
theorem idcode : Statement .idcode := fun _ => of_none
theorem extest : ∀ x0 x1, Statement (.extest x0 x1) := fun _ _ => fun _ => of_none
theorem samplePreload : ∀ x0 x1, Statement (.samplePreload x0 x1) := fun _ _ => fun _ => of_none
theorem highz : Statement .highz := fun _ => of_none
theorem clamp : Statement .clamp := fun _ => of_none
theorem bypass : ∀ x0 x1, Statement (.bypass x0 x1) := fun _ _ => fun _ => of_none
theorem obj : ∀ x0 x1, Statement (.obj x0 x1) := fun _ _ => fun _ => of_none
theorem tapReset : Statement .tapReset := fun _ => of_none
theorem lullNTrigger : ∀ x0, Statement (.lullNTrigger x0) := fun _ => fun _ => of_none
theorem selfDumpStart : ∀ x0, Statement (.selfDumpStart x0) := fun _ => fun _ => of_none
theorem freezeCommand : Statement .freezeCommand := fun _ => of_none
theorem selfDumpComplete : Statement .selfDumpComplete := fun _ => of_none
theorem releaseCapture : Statement .releaseCapture := fun _ => of_none
theorem captureEraseComplete : Statement .captureEraseComplete := fun _ => of_none
theorem traceRecordWrite : Statement .traceRecordWrite := fun _ => of_none
theorem returnConsentSet : Statement .returnConsentSet := fun _ => of_none
theorem returnConsentClear : Statement .returnConsentClear := fun _ => of_none

end Sys2Proof.Laws.Operands
end

