-- ==== Sys2Proof/Tests/Slice0.lean ====
section
/-! SUPPORT. Small states that meet the hypotheses of the statements, one clause after the other, and single steps whose
results the manual gives. -/

namespace Sys2Proof.Tests

set_option Elab.async false

open Sys2Proof Sys2Proof.Machine

/-! ### States -/

/-- A kernel placed at tick 0 of slot index 0 of an engine, certified to its last tick. -/
def inst (engine kernel formula : Nat) (bs : List Binding) : Instance :=
  ⟨engine, kernel, 0, false, 0, 0, 1, formula, bs, 0, 199, 0, 0, 0⟩

/-- An image that places every kernel at M1 and uses all ports with frames of four slots. -/
def im : Image := { factoryMinimal with
  slots := ⟨⟨true, false, 4, 0, 5, 0⟩, ⟨true, false, 4, 0, 5, 0⟩, ⟨true, false, 4, 0, 5, 0⟩, ⟨true, false, 4, 0, 5, 0⟩⟩
  insts := ((List.range 17).map fun k => inst 0 (k + 1) 2 []) ++
    ((List.range 16).map fun k => inst 1 (k + 32) 2 [⟨0, false, 0⟩, ⟨1, false, 1⟩, ⟨2, false, 2⟩]) ++
    ((List.range 13).map fun k => inst 2 (k + 64) 2 [⟨0, false, 3⟩, ⟨1, false, 50⟩, ⟨2, false, 7⟩]) }

/-- A lane in operation. -/
def lane : Lane := { Lane.atReset with alive := true, slots := 100000 }

/-- The block in operation: both lanes on the root clock, the image running, RUN. -/
def up : Dev := ({ Dev.atReset with
  lanes := ⟨lane, lane⟩, image := some im, monArmed := true,
  boot := { Boot.atReset with phase := .up, laneB := true } } : Dev).put 0x2000 1 4 |>.put 0x2110 1 1 |>.put 0x2110 2 1
    |>.put 0x2110 3 1

/-- A state of the block in operation. -/
def st (f : Dev → Dev) : State := ⟨f up, []⟩

/-- The block in operation with one port changed. -/
def m1 (f : Port → Port) : State := st fun d => d.onPort .m1 f

/-- The block in operation in another port state. -/
def inState (x : PortState) (f : Port → Port) : State := m1 fun p => f { p with reg := { p.reg with state := x } }

/-- A published value that waits for its row. -/
def pub (idx sub : Nat) (v : ObjVal) (d : Dev) : Dev := { d with published := [⟨objKey idx sub, v, 0, 0⟩] }

/-- A number published. -/
def pubN (idx sub : Nat) (v : Int) (d : Dev) : Dev := pub idx sub (.num v) d

/-- Another mode. -/
def inMode (v : Int) (d : Dev) : Dev := d.put 0x2000 1 v

/-! ### Engines -/

/-- Engine 0 of M1. -/
def me0 : EngineId := ⟨.m1, .e0⟩

theorem test_wit_engine_issues : (st id).dev.issues me0 0 .any = true ∧ (st id).dev.issues ⟨.m1, .e1⟩ 199 .low = true ∧
    (st id).dev.issues ⟨.m1, .e2⟩ 5 .high = true ∧ ((st id).dev.engine me0).divFree ≤ (st id).dev.engTick me0 0 ∧
    ((st id).dev.engine me0).pc + 1 < 2048 ∧ ownsTick me0 6 = true ∧ (st id).dev.frozen = false ∧
    (st id).dev.slotOf .m1 = 100000 := by decide +kernel

/-- Engine 0 of M1 with operations in the bundle of tick 0. -/
def p1Bundle (any low high : Nat) : State := st fun d => d.setEngine me0 { d.engine me0 with bundle := ⟨20000001, any, low, high⟩ }

theorem test_wit_bundles :
    (p1Bundle 1 2 0).dev.engTick me0 0 = 20000000 ∧
    (((p1Bundle 1 2 0).dev.engine me0).bundleAt 20000000).any + (((p1Bundle 1 2 0).dev.engine me0).bundleAt 20000000).low +
      (((p1Bundle 1 2 0).dev.engine me0).bundleAt 20000000).high = 3 ∧
    (((p1Bundle 0 2 0).dev.engine me0).bundleAt 20000000).low = 2 ∧
    (((p1Bundle 0 0 1).dev.engine me0).bundleAt 20000000).high = 1 ∧ (st fun d => { d with monArmed := false }).dev.monArmed = false ∧
    (st id).dev.covered me0 0 0 = true ∧ (st fun d => d.setLane .a { lane with hyper := 7 }).dev.covered me0 7 0 = false := by
  decide +kernel

/-- A pair P1 with a record of M3 on its link that reaches M1 at tick 5. -/
def p1Pair : State := st fun d =>
  { d with image := some { im with pairFlags := 1 } }.onPort .m3 fun p => { p with flight := [(19999605, XwVal.atReset)] }

theorem test_wit_crosswind :
    let s := p1Pair
    (s.dev.port .m3).flight = (19999605, XwVal.atReset) :: [] ∧ s.dev.clocked .a = true ∧
    s.dev.arrives .m1 19999605 5 = true ∧ 19999605 + 400 ≠ (s.dev.lane .a).tick 4 ∧
    s.dev.linked .m1 = true ∧ s.dev.linked .m3 = true ∧ s.dev.issues ⟨.m1, .e2⟩ 0 .high = true ∧
    (s.dev.port .m1).mod.periods % 256 = XwVal.atReset.tag ∧ (s.dev.engine ⟨.m1, .e2⟩).lastSend = 0 ∧
    s.dev.onRoot .a = true ∧ s.dev.onRoot .b = true ∧ (st fun d => d.put 0x2500 2 1).dev.laneLost .b = true := by decide +kernel

theorem test_wit_record_claim :
    (st fun d => { d with image := some { im with claims := [⟨4, EngineId.num ⟨.m1, .e2⟩, 0, 0x103, 0⟩] } }).dev.gcClaimedFor 3 ⟨.m1, .e2⟩ = true := by
  decide +kernel

theorem test_wit_monitor : (st id).dev.clocked .a = true ∧ (st id).dev.monArmed = true ∧
    (st fun d => d.setLane .a { lane with hyper := 7 }).dev.monMismatch me0 (.unplaced 3) = true := by decide +kernel

/-! ### Kernels of engine 0 -/

/-- A cell written in the present slot. -/
def now {α : Type} (c : Cell α) (v : α) : Cell α := { c with cur := ⟨100000, 1, false, false, v⟩ }

/-- A port whose cells were all written in the present slot, with a setpoint's flags. -/
def freshCells (flags : Nat) (p : Port) : Port := { p with cells :=
  { current := now p.cells.current ⟨100, -40, 200, 0, 200, 0⟩, angle := now p.cells.angle ⟨5000, 300, 255, 0⟩,
    setpoint := now p.cells.setpoint ⟨10, 20, 4000, flags⟩, duty := now p.cells.duty ⟨30000, 32000, 34000, 16⟩,
    bus := now p.cells.bus ⟨4000, 0⟩, xw := now p.cells.xw XwVal.atReset } }

/-- Engine 0 with another frame. -/
def fr (f : E0Frame → E0Frame) (p : Port) : Port := { p with e0 := { p.e0 with fr := f p.e0.fr } }

/-- Engine 0 with other flags. -/
def fl (f : E0Flags → E0Flags) (p : Port) : Port := { p with e0 := { p.e0 with fl := f p.e0.fl } }

def k0Fresh : State := st fun d => (d.onPort .m1 (freshCells 0)).pput .m1 0x50 7 0

theorem test_wit_e0_fresh :
    let x := k0Fresh.dev.port .m1
    let v := x.cells.current.cur.val
    k0Fresh.dev.runs .m1 .e0 0x01 0 = true ∧ x.cons.cur0.stale x.cells.current.cur 100000 = false ∧
    k0Fresh.dev.poor .m1 v.uValid v.uGap = false ∧ k0Fresh.dev.poor .m1 v.vValid v.vGap = false ∧
    k0Fresh.dev.runs .m1 .e0 0x02 0 = true ∧ x.cons.ang0.stale x.cells.angle.cur 100000 = false ∧
    k0Fresh.dev.runs .m1 .e0 0x03 0 = true ∧ x.cons.bus0.stale x.cells.bus.cur 100000 = false ∧
    k0Fresh.dev.slotOf .m1 = 100000 := by decide +kernel

def k0Stale : State := m1 fun p => { p with cons := { p.cons with cur0 := { p.cons.cur0 with rule := .trip } } }

theorem test_wit_e0_stale_trip :
    let x := k0Stale.dev.port .m1
    k0Stale.dev.runs .m1 .e0 0x01 0 = true ∧ x.cons.cur0.stale x.cells.current.cur (k0Stale.dev.slotOf .m1) = true ∧
    x.cons.cur0.rule = .trip := by decide +kernel

def k0Frame : State := m1 (fr fun f => { f with iu := 100, iv := -40, iw := -60, thetaMeas := 4096 * 65536, vd := 9000 })

theorem test_wit_e0_frame :
    let e := (k0Frame.dev.port .m1).e0
    k0Frame.dev.runs .m1 .e0 0x04 0 = true ∧ e.fr.iu + e.fr.iv + e.fr.iw = 0 ∧ k0Frame.dev.runs .m1 .e0 0x05 0 = true ∧
    k0Frame.dev.runs .m1 .e0 0x0A 0 = true ∧ k0Frame.dev.runs .m1 .e0 0x11 0 = true := by decide +kernel

def k0Driving : State := m1 (fl fun f => { f with sp := { f.sp with flags := 4 } })

theorem test_wit_e0_controllers :
    k0Driving.dev.runs .m1 .e0 0x06 0 = true ∧ flagDriving (k0Driving.dev.port .m1).e0.fl.sp.flags = true ∧
    flagDriving (k0Frame.dev.port .m1).e0.fl.sp.flags = false ∧ k0Frame.dev.runs .m1 .e0 0x06 0 = true := by decide +kernel

def k0Source : State := m1 (fl fun f => { f with angHeld := { f.angHeld with source := 3 } })

theorem test_wit_e0_voltage :
    k0Fresh.dev.runs .m1 .e0 0x07 0 = true ∧ k0Fresh.dev.pnum .m1 0x50 7 = 0 ∧
    (∃ i, k0Fresh.dev.placed .m1 .e0 0x08 0 = some i ∧ (pairsQ (k0Fresh.dev.arr (pidx .m1 0x50) 0x10)).length ≠ i.formula) ∧
    k0Source.dev.runs .m1 .e0 0x10 0 = true ∧ (k0Source.dev.port .m1).e0.fl.angHeld.source = 3 ∧
    k0Fresh.dev.runs .m1 .e0 0x10 0 = true ∧ (k0Fresh.dev.port .m1).e0.fl.angHeld.source = 0 := ⟨by decide +kernel, by decide +kernel, ⟨_, rfl, by decide +kernel⟩,
      by decide +kernel, by decide +kernel, by decide +kernel, by decide +kernel⟩

theorem test_wit_e0_vlim :
    let x := k0Fresh.dev.port .m1
    k0Fresh.dev.runs .m1 .e0 0x09 0 = true ∧ flagDriving x.cells.setpoint.cur.val.flags = false ∧
    x.cons.sp0.stale x.cells.setpoint.cur 100000 = false ∧
    norm2 x.e0.fr.vdCmd x.e0.fr.vqCmd ≤ vMax (k0Fresh.dev.pnum .m1 0x40 0x12) x.e0.fr.vbus := by decide +kernel

/-- The image with a kernel placed at another tick of engine 0 as well. -/
def imAt (kernel tick : Nat) : Image := { im with insts := im.insts ++ [{ inst 0 kernel 2 [] with tick := tick }] }

/-- The block with such an image. -/
def stAt (kernel tick : Nat) (f : Port → Port) : State := st fun d => { d with image := some (imAt kernel tick) }.onPort .m1 f

def k0Late : State := stAt 9 190 (freshCells 0)

theorem test_wit_e0_late_load :
    let x := k0Late.dev.port .m1
    k0Late.dev.runs .m1 .e0 0x09 190 = true ∧ 200 ≤ 190 + 18 ∧ (k0Late.dev.port .m1).e0.late = none ∧
    x.cons.sp0.stale x.cells.setpoint.cur 100000 = false := by decide +kernel

def k0Resumed : State := m1 fun p => { p with e0 := { p.e0 with late := some ⟨100000, 19999990, 0, 0⟩ } }

theorem test_wit_e0_resumed : (k0Resumed.dev.port .m1).e0.late = some ⟨100000, 19999990, 0, 0⟩ ∧
    100000 ≤ k0Resumed.dev.slotOf .m1 := by decide +kernel

def k0Mtpa : State := st fun d => (d.onPort .m1 fun p => { p with e0 := { p.e0 with st := { p.e0.st with iqS := 60 * 65536 } } }).putVal
  (pidx .m1 0x50) 0x10 (.arr [50, -3, 100, -11])

theorem test_wit_e0_mtpa : ∃ i, k0Mtpa.dev.runs .m1 .e0 0x08 0 = true ∧ k0Mtpa.dev.placed .m1 .e0 0x08 0 = some i ∧
    (pairsQ (k0Mtpa.dev.arr (pidx .m1 0x50) 0x10)).length = i.formula := ⟨_, by decide +kernel, rfl, by decide +kernel⟩

/-- R157: between the points (50, −3) and (100, −11) the table is linear. -/
theorem test_mtpa_interpolates : interp 0 0 (pairsQ [50, -3, 100, -11]) (75 * 65536) = -7 * 65536 := by decide +kernel

def k0Enter : State := m1 fun p => { freshCells 4 p with e0 := { p.e0 with
  fl := { p.e0.fl with sp := { p.e0.fl.sp with flags := 3 } }, st := { p.e0.st with xd := 70000, xq := -5 } } }

theorem test_wit_e0_closed_entry :
    let x := k0Enter.dev.port .m1
    k0Enter.dev.runs .m1 .e0 0x09 0 = true ∧ flagState x.cells.setpoint.cur.val.flags = 4 ∧ flagState x.e0.fl.sp.flags ≠ 4 ∧
    x.cons.sp0.stale x.cells.setpoint.cur (k0Enter.dev.slotOf .m1) = false := by decide +kernel

def k0Over : State := m1 (fr fun f => { f with vbus := 1000, valpha := 2000 * 65536, id := 70000 })
def k0Deadtime : State := st fun d => (d.onPort .m1 (fr fun f => { f with vbus := 1000, valpha := 5, id := 70000 })).pput .m1 0x40 3 1

theorem test_wit_modulation :
    let f := (k0Over.dev.port .m1).e0.fr
    let r := phaseRefs f.valpha f.vbeta
    let g := (k0Frame.dev.port .m1).e0.fr
    k0Over.dev.runs .m1 .e0 0x0B 0 = true ∧ 0 < f.vbus ∧ f.vbus * 65536 < max3 r - min3 r ∧
    max3 (phaseRefs g.valpha g.vbeta) - min3 (phaseRefs g.valpha g.vbeta) ≤ g.vbus * 65536 ∧
    k0Frame.dev.runs .m1 .e0 0x0B 0 = true ∧ k0Frame.dev.runs .m1 .e0 0x0C 0 = true ∧
    (st fun d => d.pput .m1 0x40 3 0).dev.pnum .m1 0x40 3 = 0 ∧ k0Deadtime.dev.runs .m1 .e0 0x0C 0 = true ∧
    k0Deadtime.dev.pnum .m1 0x40 3 = 1 := by decide +kernel

theorem test_wit_duties :
    let g := (k0Frame.dev.port .m1).e0.fr
    let h := ((m1 (fr fun f => { f with vbus := 1 })).dev.port .m1).e0.fr
    k0Frame.dev.runs .m1 .e0 0x0D 0 = true ∧ g.vbus ≤ 0 ∧ 0 < h.vbus ∧ h.valpha = 0 ∧ h.vbeta = 0 ∧
    k0Frame.dev.runs .m1 .e0 0x0E 0 = true ∧ (m1 (fr fun f => { f with vbus := 1 })).dev.runs .m1 .e0 0x0E 0 = true ∧
    k0Frame.dev.runs .m1 .e0 0x0F 0 = true := by decide +kernel

/-! ### Kernels of engine 1 -/

/-- Engine 1 changed. -/
def e1 (f : E1 → E1) (p : Port) : Port := { p with e1 := f p.e1 }

/-- The feedback interface of M1 in a mode. -/
def fbIn (m : Int) (f : Feedback → Feedback) : State :=
  st fun d => (d.onPort .m1 fun p => { p with fb := f p.fb }).pput .m1 0x70 1 m

def k1Latch : State := fbIn 1 fun f => { f with latch := { f.latch with p := 77, edge := 4990000, clk := 5000000 } }
def k1Sent : State :=
  st fun d => { ((d.pput .m1 0x70 1 4).onPort .m1 fun p => { p with fb := { p.fb with latch := { p.fb.latch with
    sent := { p.fb.latch.sent with v1 := 291, trx := 4999000 } } } }) with
    image := some { im with insts := [inst 1 0x23 5 []] } }

theorem test_wit_feedback_kernels :
    k1Latch.dev.runs .m1 .e1 0x20 0 = true ∧ k1Latch.dev.runs .m1 .e1 0x21 0 = true ∧
    k1Latch.dev.runs .m1 .e1 0x23 0 = true ∧ 2 ≠ formatNibbles (k1Latch.dev.pnat .m1 0x70 0xF) ∧
    k1Sent.dev.runs .m1 .e1 0x23 0 = true ∧ 5 = formatNibbles (k1Sent.dev.pnat .m1 0x70 0xF) ∧
    k1Sent.dev.pnum .m1 0x70 4 = 0 := by decide +kernel

theorem test_wit_sent_instances :
    k1Latch.dev.placed .m1 .e1 0x23 0 = some (inst 1 0x23 2 [⟨0, false, 0⟩, ⟨1, false, 1⟩, ⟨2, false, 2⟩]) ∧
    k1Sent.dev.placed .m1 .e1 0x23 0 = some (inst 1 0x23 5 []) := ⟨by decide +kernel, by decide +kernel⟩

/-- The Hall interface of M1 with an edge at cycle 1000000 and a latch at the given one. -/
def k1HallAt (clk : Int) (prev : Nat) : State := st fun d => (d.pput .m1 0x70 1 3).onPort .m1 (e1 fun e => { e with fb := { e.fb with
  refClk := clk, wf := 5, flags := { e.fb.flags with motion := true },
  hall := { e.fb.hall with last := 3, arc := 2731, prev := prev, edgeAt := 1000000, base := 1000000, angle := 1365 } } })

theorem test_wit_hall_interp :
    let f (clk : Int) (prev : Nat) := ((k1HallAt clk prev).dev.port .m1).e1.fb
    (k1HallAt 1002000 5000).dev.runs .m1 .e1 0x22 0 = true ∧
    (k1HallAt 1002000 5000).dev.still .m1 (f 1002000 5000) (f 1002000 5000).hall.edgeAt = false ∧
    (f 1002000 5000).hall.prev ≠ 0 ∧ (f 1002000 0).hall.prev = 0 ∧
    (k1HallAt 1002000 0).dev.still .m1 (f 1002000 0) (f 1002000 0).hall.edgeAt = false ∧
    (k1HallAt 500001000000 5000).dev.still .m1 (f 500001000000 5000) (f 500001000000 5000).hall.edgeAt = true := by
  decide +kernel

/-- A feedback interface of M1 in a mode with two positions behind it, its latch at the given cycle. -/
def k1Speed (mode clk : Int) : State := st fun d => (d.pput .m1 0x70 1 mode).onPort .m1 (e1 fun e => { e with fb := { e.fb with
  x := 12, got := true, stamp := 1002000, lastX := 10, lastStamp := 1000000, seen := 1, refClk := clk, wf := 77,
  flags := { e.fb.flags with motion := true } } })
def k1Hall : State := st fun d => (d.pput .m1 0x70 1 3).onPort .m1 (e1 fun e => { e with fb := { e.fb with wf := 3, w := 400 } })

/-- A SENT port that has received no frame yet. -/
def k1NoSent : State := st fun d => d.pput .m1 0x70 1 4

theorem test_wit_feedback_speed :
    let f (m clk : Int) := ((k1Speed m clk).dev.port .m1).e1.fb
    (k1Speed 1 1002500).dev.runs .m1 .e1 0x24 0 = true ∧ (k1Speed 1 1002500).dev.runs .m1 .e1 0x25 0 = true ∧
    (k1Speed 1 1002500).dev.fbMode .m1 = 1 ∧ (f 1 1002500).held.seen = 2 ∧
    (k1Speed 1 1002500).dev.still .m1 (f 1 1002500).held (f 1 1002500).held.lastStamp = false ∧
    (k1Speed 1 500001000000).dev.still .m1 (f 1 500001000000).held (f 1 500001000000).held.lastStamp = true ∧
    (k1Speed 4 1002500).dev.fbMode .m1 = 4 ∧ (f 4 1002500).heldSent.seen = 2 ∧
    (k1NoSent.dev.fbMode .m1 = 4 ∧ (k1NoSent.dev.port .m1).e1.fb.heldSent.seen < 2) ∧
    (k1Hall.dev.runs .m1 .e1 0x25 0 = true ∧ k1Hall.dev.fbMode .m1 = 3 ∧ (k1Hall.dev.port .m1).e1.fb.zero = false) := by
  decide +kernel

def k1Hold : State := m1 (e1 fun e => { e with
  latch := { e.latch with gatesOff := true }, bemf := { e.bemf with hold := true, eA := 900, conf := 40 } })

theorem test_wit_hold_frames :
    let e := (k1Hold.dev.port .m1).e1
    k1Hold.dev.runs .m1 .e1 0x26 0 = true ∧ e.latch.gatesOff = true ∧ k1Hold.dev.runs .m1 .e1 0x29 0 = true ∧
    e.bemf.hold = true ∧ k1Hold.dev.runs .m1 .e1 0x27 0 = true ∧ e.blend.weight ≠ 65536 := by decide +kernel

/-- A frame of M1 with a fresh current cell and samples enough. -/
def k1Frame (weight : Int) : State := m1 fun p => { e1 (fun e => { e with
    latch := { e.latch with du := 40000, dv := 30000, dw := 20000, vbus := 4000, gatesOff := false },
    bemf := { e.bemf with iA := 900000, iB := 70000, pA := 300000, pB := -5000, eA := 900 },
    hfi := { e.hfi with resolved := true, hist := [(7000000, -300000)] },
    blend := { e.blend with weight := weight } } ) p with
  cells := { p.cells with current := now p.cells.current ⟨1000, -400, 400, 0, 400, 0⟩ } }

theorem test_wit_observers :
    let s := k1Frame 100
    let x := s.dev.port .m1
    let r := x.cells.current.cur
    let v := (x.cons.cur1.after r (s.dev.slotOf .m1)).held
    s.dev.runs .m1 .e1 0x26 0 = true ∧ x.cons.cur1.stale r (s.dev.slotOf .m1) = false ∧
    s.dev.poor .m1 v.uValid v.uGap = false ∧ s.dev.poor .m1 v.vValid v.vGap = false ∧ x.e1.latch.gatesOff = false ∧
    s.dev.runs .m1 .e1 0x27 0 = true ∧ x.e1.bemf.hold = false ∧ x.e1.blend.weight ≠ 65536 ∧
    ((k1Frame 65536).dev.port .m1).e1.blend.weight = 65536 := by decide +kernel

theorem test_wit_hfi_instance :
    (k1Frame 100).dev.placed .m1 .e1 0x27 0 = some (inst 1 0x27 2 [⟨0, false, 0⟩, ⟨1, false, 1⟩, ⟨2, false, 2⟩]) := by
  decide +kernel

/-- M1 with an EMF estimate, both observers tracking, the injection's polarity unresolved. -/
def k1Blend (w : Int) : State := m1 (e1 fun e => { e with
  bemf := { e.bemf with eA := 900 * 65536, eB := -400 * 65536, pll := ⟨70000, w⟩, conf := 200 }
  hfi := { e.hfi with conf := 250, pll := ⟨90000, 5⟩, hist := [(7000000, -300000)] } })

theorem test_wit_pll_and_blend :
    (k1Blend 9).dev.runs .m1 .e1 0x29 0 = true ∧ ((k1Blend 9).dev.port .m1).e1.bemf.hold = false ∧
    (k1Blend 9).dev.runs .m1 .e1 0x28 0 = true ∧ (k1Blend 9).dev.places .m1 .e1 0x27 = true ∧
    ((k1Blend 9).dev.port .m1).e1.hfi.resolved = false := by decide +kernel

def k1NoHfi : State := st fun d => { d with image := some { im with insts := [inst 1 0x28 0 []] } }

theorem test_wit_blend : k1NoHfi.dev.runs .m1 .e1 0x28 0 = true ∧ k1NoHfi.dev.places .m1 .e1 0x27 = false := by
  decide +kernel

def k1Phase (n : Nat) : State := inState .ramp (e1 fun e => { e with start := { e.start with phase := n, phaseSlot := 100000 } })

theorem test_wit_start_kernels :
    (k1Phase 1).dev.runs .m1 .e1 0x2A 0 = true ∧ (k1Phase 1).dev.pnum .m1 0x80 1 = 0 ∧
    ((k1Phase 1).dev.port .m1).e1.start.phase = 1 ∧ (k1Phase 2).dev.runs .m1 .e1 0x2B 0 = true ∧
    ((k1Phase 2).dev.port .m1).e1.start.phaseSlot = (k1Phase 2).dev.slotOf .m1 ∧
    (k1Phase 2).dev.runs .m1 .e1 0x2C 0 = true ∧ (k1Phase 2).dev.handoverRuns .m1 = true ∧
    ((k1Phase 2).dev.port .m1).e1.bemf.hold = false ∧ (k1Phase 2).dev.blendOf .m1 = some Blend.atReset := by decide +kernel

def k1Skew : State := st fun d => (((d.put 0x2204 1 (100000 * 2 ^ 32)).put 0x2204 2 (99990 * 2 ^ 32)).put 0x2204 3
  (100000 * 2 ^ 32)).onPort .m1 fun p => { p with reg := { p.reg with state := .armed } }

theorem test_wit_catch :
    let r := fun k => recClk (k1Skew.dev.gcRecord (k1Skew.dev.bound .m1 .e1 0x2D 0 k)) (k1Skew.dev.slotOf .m1)
    k1Skew.dev.runs .m1 .e1 0x2D 0 = true ∧ k1Skew.dev.pstate .m1 = .armed ∧ 200 < spread3 (r 0) (r 1) (r 2) ∧
    (st id).dev.pstate .m1 ≠ .armed ∧ (st id).dev.pstate .m1 ≠ .coast := by decide +kernel

/-- Three records of one frame in ARMED, under a high bus voltage. -/
def k1Catch (u v w : Int) : State := st fun d => ((((d.put 0x2204 1 (100000 * 2 ^ 32 + u)).put 0x2204 2 (100000 * 2 ^ 32 + v)).put 0x2204
  3 (100000 * 2 ^ 32 + w)).pput .m1 0x80 0xB 200).onPort .m1 (fun p => { e1 (fun e => { e with latch := { e.latch with vbus := 8000 } }) p with
    reg := { p.reg with state := .armed } })

theorem test_wit_catch_voltage :
    let sq (s : State) : Int := let r := fun k => recCode (s.dev.gcRecord (s.dev.bound .m1 .e1 0x2D 0 k))
      let a := (r 0 - r 1) * s.dev.pnum .m1 0x80 0x22
      let b := (r 1 - r 2) * s.dev.pnum .m1 0x80 0x22
      a * a + a * b + b * b
    let thr := (k1Catch 0 0 0).dev.pnum .m1 0x80 0x21 * 1000
    let vb := ((k1Catch 0 0 0).dev.port .m1).e1.latch.vbus * (k1Catch 0 0 0).dev.pnum .m1 0x50 1 * 10000
    (k1Catch 0 0 0).dev.runs .m1 .e1 0x2D 0 = true ∧ 4 * sq (k1Catch 0 0 0) < 9 * thr * thr ∧
    9 * thr * thr ≤ 4 * sq (k1Catch 2000 0 1000) ∧ 40000 * sq (k1Catch 2000 0 1000) * 8192 * 8192 < 27075 * vb * vb ∧
    (let r := fun k => recClk ((k1Catch 0 0 0).dev.gcRecord ((k1Catch 0 0 0).dev.bound .m1 .e1 0x2D 0 k)) 100000
     spread3 (r 0) (r 1) (r 2) ≤ 200 ∧ ((0 / 4 : Nat) : Int) - 50 * ((k1Catch 0 0 0).dev.frame .m1 : Int) ≤
      min (r 0) (min (r 1) (r 2))) := by decide +kernel

def k1Closed : State := st fun d => (d.pput .m1 0x80 0x1F 0).onPort .m1 fun p => { p with
  reg := { p.reg with state := .closed }, e1 := { p.e1 with loss := { p.e1.loss with conf := 3, qsat := 5 } } }

theorem test_wit_rotor_loss :
    k1Closed.dev.runs .m1 .e1 0x2E 0 = true ∧ k1Closed.dev.pstate .m1 = .closed ∧
    (k1Closed.dev.port .m1).e1.bemf.hold = false ∧
    pllSpeed (k1Closed.dev.pnum .m1 0x80 0x1F) 1 ≤ absI (k1Closed.dev.port .m1).e1.bemf.pll.w := by decide +kernel

def k1Fault : State := m1 (e1 fun e => { e with fb := { e.fb with flags := { e.fb.flags with fault := true } } })

theorem test_wit_angle_out :
    k1Hall.dev.runs .m1 .e1 0x2F 0 = true ∧ k1Hall.dev.sensorless .m1 = false ∧
    (k1Fault.dev.port .m1).e1.fb.flags.fault = true ∧ k1Fault.dev.runs .m1 .e1 0x2F 0 = true ∧
    k1Hold.dev.sensorless .m1 = true ∧ k1Hold.dev.pstate .m1 = .off := by decide +kernel

/-! ### Kernels of engine 2 -/

/-- Engine 2 changed. -/
def e2 (f : E2 → E2) (p : Port) : Port := { p with e2 := f p.e2 }

/-- K_PROC_IN bound to the command objects of M1. -/
def k2Bound : State := st fun d => { ((d.put 0x3061 1 3).put 0x3061 2 500) with image := some { im with insts :=
  [inst 2 0x40 3 [⟨0, true, 0x306101⟩, ⟨1, true, 0x306102⟩, ⟨2, true, 0x306103⟩]] } }

/-- The same with the control word mapped into a stream that has received nothing. -/
def k2Stale : State := ⟨(((k2Bound.dev.put 0x1160 1 1).put 0x1160 2 0).put 0x4000 0 1).put 0x4000 1 (0x306101 * 256 + 16), []⟩

/-- The same placed so late that two bindings are left for the next slot, and K_LIM_BUDGET's grant. -/
def k2Late : State := ⟨{ k2Bound.dev with image := some { im with insts :=
  [{ inst 2 0x40 3 [⟨0, true, 0x306101⟩, ⟨1, true, 0x306102⟩, ⟨2, true, 0x306103⟩] with tick := 180 },
   { inst 2 0x45 0 [] with tick := 180 }] } }, []⟩

theorem test_wit_proc_in :
    let stale := fun (s : State) => (s.dev.bindings .m1 0x40 0).any fun b => b.object && (s.dev.resumed .m1).procStale .a b.value
    k2Bound.dev.runs .m1 .e2 0x40 0 = true ∧ stale k2Bound = false ∧ (k2Bound.dev.bindings .m1 0x40 0).length ≤ (187 - 0) / 6 ∧
    k2Stale.dev.runs .m1 .e2 0x40 0 = true ∧ stale k2Stale = true ∧
    k2Late.dev.runs .m1 .e2 0x40 180 = true ∧ (187 - 180) / 6 < (k2Late.dev.bindings .m1 0x40 180).length ∧
    (k2Late.dev.port .m1).e0.late = none ∧ (k2Late.dev.port .m1).e2.proc = none ∧ (k2Late.dev.port .m1).e2.budget = none := by
  decide +kernel

def k2Acted : State := m1 (e2 fun e => { e with mo := { e.mo with wf := 900, acted := [(0x41, 99960), (0x42, 100000)] } })
def k2Closed : State := inState .closed (e2 fun e => { e with
  mo := { e.mo with wf := 900, view := .closed }, out := { e.out with iLim := 1000 } })

theorem test_wit_ramps :
    k2Acted.dev.runs .m1 .e2 0x41 0 = true ∧
    mapFind 0x41 (k2Acted.dev.port .m1).e2.mo.acted ≠ some (k2Acted.dev.speedStart .m1) ∧ k2Acted.dev.pstate .m1 ≠ .closed ∧
    mapFind 0x42 (k2Acted.dev.port .m1).e2.mo.acted = some (k2Acted.dev.speedStart .m1) ∧
    k2Closed.dev.runs .m1 .e2 0x41 0 = true ∧ k2Closed.dev.runs .m1 .e2 0x42 0 = true ∧
    mapFind 0x41 (k2Closed.dev.port .m1).e2.mo.acted = none ∧ k2Closed.dev.pstate .m1 = .closed ∧
    (k2Closed.dev.port .m1).e2.mo.held = false := by decide +kernel

theorem test_wit_speed_controller :
    k2Acted.dev.runs .m1 .e2 0x43 0 = true ∧ mapFind 0x43 (k2Acted.dev.port .m1).e2.mo.acted = none ∧
    k2Acted.dev.pstate .m1 = .off ∧ k2Closed.dev.runs .m1 .e2 0x43 0 = true ∧ k2Closed.dev.torqueMode .m1 = false ∧
    k2Closed.dev.paired .m1 = false ∧ 0 ≤ (k2Closed.dev.port .m1).e2.out.iLim := by decide +kernel

/-- CLOSED in torque mode with a speed and a torque setpoint; 0x3x90.03 excludes the port from the budget. -/
def k2Torque (w trq : Int) : State := st fun d => (d.pput .m1 0x60 1 1).onPort .m1 fun p => { p with
  reg := { p.reg with state := .closed },
  e2 := { p.e2 with mo := { p.e2.mo with wf := w }, cmd := { p.e2.cmd with trq := trq } } }

theorem test_wit_torque :
    (k2Torque 5 7).dev.runs .m1 .e2 0x44 0 = true ∧ (k2Torque 5 7).dev.torqueMode .m1 = true ∧
    (k2Torque 5 7).dev.pstate .m1 = .closed ∧ k2Closed.dev.torqueMode .m1 = false ∧
    (k2Torque 7000000000 0).dev.pnum .m1 0x60 8 * 65536 < absI ((k2Torque 7000000000 0).dev.port .m1).e2.mo.wf := by
  decide +kernel

theorem test_wit_limit : k2Closed.dev.runs .m1 .e2 0x45 0 = true ∧ k2Closed.dev.num 0x2810 1 = 0 ∧
    k2Closed.dev.paired .m1 = false ∧ k2Late.dev.runs .m1 .e2 0x45 180 = true := by decide +kernel

def k2Fallback : State := m1 fun p => { p with cells := { p.cells with duty := { p.cells.duty with
  cur := ⟨100000, 1, true, false, DutyVal.atReset⟩ } } }

/-- Fresh cells of a frame without current: a saturated duty, and the check words of the given current. -/
def k2Check (i : Nat) : State := m1 fun p =>
  let p := freshCells 0 p
  { p with
    cells := { p.cells with
      current := now p.cells.current ⟨0, 0, 400, 0, 400, 0⟩
      angle := now p.cells.angle ⟨0, 0, 255, 0⟩
      duty := now p.cells.duty ⟨65535, 0, 0, 16⟩ }
    e0 := { p.e0 with fl := { p.e0.fl with chkI := i } } }

theorem test_wit_check :
    let x := (k2Check 0).dev.port .m1
    let base := fun (i : Nat) => let d := (k2Check i).dev.resumed .m1
      (((d.readCur2 .m1).readAng2 .m1).readDuty2 .m1).onOut .m1 fun o => { o with wSlot := x.cells.angle.cur.wslot }
    let fails := fun (i : Nat) => let r := (base i).recompute .m1
      (base i).checkFails .m1 ((((k2Check i).dev.resumed .m1).lane .a).tick 0) r.1 r.2.1 r.2.2.1
    k2Fallback.dev.runs .m1 .e2 0x46 0 = true ∧ (k2Fallback.dev.port .m1).cells.duty.cur.fb = true ∧
    (k2Check 0).dev.runs .m1 .e2 0x46 0 = true ∧ x.cells.duty.cur.fb = false ∧
    x.cons.cur2.stale x.cells.current.cur 100000 = false ∧ x.cons.ang2.stale x.cells.angle.cur 100000 = false ∧
    x.cons.duty2.stale x.cells.duty.cur 100000 = false ∧ fails 0 = false ∧ fails 5000 = true ∧
    2 ≤ ((base 0).port .m1).cons.duty2.held.pattern / 8 % 4 ∧ lastSlots 0 412 ≠ 0 := by decide +kernel

/-- Records of one tag of both ports, each in a port state. -/
def k2Pair (a b : Nat) : State := m1 fun p => { p with pair := { p.pair with
  wasFresh := true, sent := [{ XwVal.atReset with pairByte := a, health := 31 }],
  record := { XwVal.atReset with pairByte := b, health := 31, angle := 900 } } }

/-- The same in an image that pairs M1 and M3, in which the record stands in the receive cell. -/
def k2Paired (a b : Nat) : State := ⟨{ (k2Pair a b).dev with image := some { im with pairFlags := 1 } }.onPort .m1 fun p =>
  { p with cells := { p.cells with xw := now p.cells.xw p.pair.record } }, []⟩

theorem test_wit_pair_kernels :
    let m := fun (s : State) => (((s.dev.resumed .m1).readXw .m1).port .m1).pair.matched
    (k2Paired 0 0).dev.runs .m1 .e2 0x47 0 = true ∧ (k2Paired 0 0).dev.linked .m1 = true ∧ (st id).dev.linked .m1 = false ∧
    (st id).dev.runs .m1 .e2 0x48 0 = true ∧ m (st id) = none ∧
    (∃ own part, m (k2Paired 0 32) = some (own, part) ∧ own.portState ≠ 4) ∧
    (k2Paired 32 32).dev.runs .m1 .e2 0x48 0 = true ∧
    (∃ own part, m (k2Paired 32 32) = some (own, part) ∧ own.portState = 4 ∧ part.portState = 4) :=
  ⟨by decide +kernel, by decide +kernel, by decide +kernel, by decide +kernel, by decide +kernel,
    ⟨{ XwVal.atReset with pairByte := 0, health := 31 }, { XwVal.atReset with pairByte := 32, health := 31, angle := 900 },
      by decide +kernel⟩, by decide +kernel,
    ⟨{ XwVal.atReset with pairByte := 32, health := 31 }, { XwVal.atReset with pairByte := 32, health := 31, angle := 900 },
      by decide +kernel⟩⟩

/-- The angle cell of M1 fresh with a speed. -/
def k2Speed (w : Int) : State := m1 fun p =>
  { p with cells := { p.cells with angle := { p.cells.angle with cur := ⟨100000, 1, false, false, ⟨0, w, 255, 0⟩⟩ } } }

/-- A speed between the thresholds of the speed flag, in codes per slot. -/
def mid2 : Int := ((st id).dev.pnum .m1 0x20 0xA + (st id).dev.pnum .m1 0x20 0xB) * 2 ^ 29 / 20000000

theorem test_wit_supervise :
    let fast := (k2Speed (2 ^ 31 - 1)).dev
    let slow := (k2Speed 0).dev
    let upper := fun (d : Dev) => d.pnum .m1 0x20 0xA * 2 ^ 30
    fast.runs .m1 .e2 0x49 0 = true ∧ (fast.placed .m1 .e2 0x49 0).isSome = true ∧
    (fast.port .m1).cons.ang2.stale (fast.port .m1).cells.angle.cur (fast.slotOf .m1) = false ∧
    upper fast ≤ absI (fast.port .m1).cells.angle.cur.val.speed * 20000000 ∧
    absI (slow.port .m1).cells.angle.cur.val.speed * 20000000 < upper slow ∧
    absI (slow.port .m1).cells.angle.cur.val.speed * 20000000 < slow.pnum .m1 0x20 0xB * 2 ^ 30 ∧
    (let mid := (k2Speed mid2).dev
     absI (mid.port .m1).cells.angle.cur.val.speed * 20000000 < upper mid ∧
      mid.pnum .m1 0x20 0xB * 2 ^ 30 ≤ absI (mid.port .m1).cells.angle.cur.val.speed * 20000000) := by decide +kernel

theorem test_wit_setpoints :
    k2Closed.dev.runs .m1 .e2 0x4A 0 = true ∧ (k2Closed.dev.port .m1).e2.mo.view = .closed ∧
    k2Closed.dev.runs .m1 .e2 0x4B 0 = true := by decide +kernel

/-- K_STOP_SEQ in a port state with a control word in force. -/
def k2Stop (x : PortState) (ctl : Nat) : State := inState x fun p => { p with
  fe := { p.fe with everValid := true }, e2 := { p.e2 with cmd := { p.e2.cmd with ctl := ctl } } }

/-- ARMED with RUN and ENABLE under an image that places K_STOP_SEQ alone. -/
def k2Bare : State := ⟨{ (k2Stop .armed 3).dev with image := some { im with insts := [inst 2 0x4C 0 []] } }, []⟩

theorem test_wit_stop :
    (k2Stop .off 1).dev.runs .m1 .e2 0x4C 0 = true ∧ mapFind 0x4C ((k2Stop .off 1).dev.port .m1).e2.mo.acted = none ∧
    ((k2Stop .off 1).dev.port .m1).e2.cmd.enable = true ∧ ((k2Stop .off 1).dev.port .m1).fe.everValid = true ∧
    (k2Stop .off 1).dev.paired .m1 = false ∧ (k2Stop .off 1).dev.pstate .m1 = .off ∧
    (k2Stop .armed 0).dev.pstate .m1 = .armed ∧ ((k2Stop .armed 0).dev.port .m1).e2.cmd.enable = false ∧
    (k2Stop .armed 3).dev.pstate .m1 = .armed ∧ ((k2Stop .armed 3).dev.port .m1).e2.cmd.enable = true ∧
    bitOf ((k2Stop .armed 3).dev.port .m1).e2.cmd.ctl 1 = true ∧ k2Bare.dev.startPlaced .m1 = false ∧
    k2Bare.dev.runs .m1 .e2 0x4C 0 = true ∧ ((k2Stop .armed 3).dev.port .m1).e2.cmd.stale = false ∧
    (k2Stop .closed 1).dev.pstate .m1 = .closed ∧ bitOf ((k2Stop .closed 1).dev.port .m1).e2.cmd.ctl 1 = false ∧
    (k2Stop .tripped 0).dev.pstate .m1 = .tripped ∧ ((k2Stop .tripped 0).dev.port .m1).faults = [] ∧
    ((k2Stop .tripped 0).dev.port .m1).cons.ang2.rule ≠ .trip ∧
    ((k2Stop .tripped 0).dev.port .m1).e2.cmd.stale = false := by decide +kernel

/-! ### Ports -/

/-- M1 in a state with requests for another. -/
def p5Req (x : PortState) (f : PortReg → PortReg) : State := m1 fun p => { p with reg := f { p.reg with state := x } }

theorem test_wit_state_requests :
    let q : StateReq := ⟨99999, .armed, false, false⟩
    let s := p5Req .off fun r => { r with reqE2 := some q }
    let t := p5Req .armed fun r => { r with reqUnit := some ⟨99999, .tripped, false, false⟩ }
    let c := st fun d => inMode 3 (d.onPort .m1 fun p => { p with reg := { p.reg with reqE2 := some q } })
    (s.dev.port .m1).reg.reqUnit = none ∧ (s.dev.port .m1).reg.reqE2 = some q ∧ q.slot < s.dev.slotOf .m1 ∧
    s.dev.mode ≠ 2 ∧ s.dev.mode ≠ 3 ∧ e2May .off .armed = true ∧ e2May .off .closed = false ∧ s.dev.frozen = false ∧
    (let w := p5Req .tripped fun r => { r with reqUnit := some ⟨99999, .tripped, false, false⟩ }
     (w.dev.port .m1).reg.reqUnit = some ⟨99999, .tripped, false, false⟩ ∧ w.dev.pstate .m1 = .tripped) ∧
    (t.dev.port .m1).reg.reqUnit = some ⟨99999, .tripped, false, false⟩ ∧ t.dev.pstate .m1 = .armed ∧
    c.dev.mode = 3 ∧ c.dev.pstate .m1 = .off := by decide +kernel

def p5Oc : State := m1 fun p => { p with fe := { p.fe with oc := ⟨⟨200, 0, 0⟩, ⟨0, 0, 0⟩⟩ } }
def p5OcSafe : State := st fun d => (d.pput .m1 0x22 1 2).onPort .m1 fun p => { p with fe := { p.fe with oc := ⟨⟨200, 0, 0⟩, ⟨0, 0, 0⟩⟩ } }
def p5Pass : State := st fun d => (d.onPort .m1 fun p => { p with
  fe := { p.fe with pass := some ⟨99000, 0⟩ }
  e0 := { p.e0 with st := { p.e0.st with bothPoor := 100 } } })
def p5Poor : State := m1 fun p => { p with e0 := { p.e0 with st := { p.e0.st with bothPoor := 100, qualSlot := 100001 } } }
def p5Sample : OcSample := ⟨0, ⟨16383, 16383, true, true⟩⟩

theorem test_wit_overcurrent :
    p5Oc.dev.safeOut .m1 = 0 ∧ p5OcSafe.dev.safeOut .m1 ≠ 0 ∧
    (p5OcSafe.dev.ocRun .m1 (p5OcSafe.dev.transAhead .m1) (p5OcSafe.dev.pnat .m1 0x30 9) [p5Sample, p5Sample] (p5OcSafe.dev.port .m1).fe.oc).trips
      (p5OcSafe.dev.pnat .m1 0x30 9) = true ∧
    ((st id).dev.ocRun .m1 ((st id).dev.transAhead .m1) ((st id).dev.pnat .m1 0x30 9) [] ((st id).dev.port .m1).fe.oc).trips
      ((st id).dev.pnat .m1 0x30 9) = false ∧
    (p5Oc.dev.lane .a).alive = true ∧ (p5Oc.dev.port .m1).fe.pass = none ∧
    (p5Oc.dev.ocRun .m1 (p5Oc.dev.transAhead .m1) (p5Oc.dev.pnat .m1 0x30 9) [p5Sample, p5Sample] (p5Oc.dev.port .m1).fe.oc).trips
      (p5Oc.dev.pnat .m1 0x30 9) = true ∧
    (p5Pass.dev.port .m1).fe.pass.isSome = true ∧ (p5Pass.dev.port .m1).e0.st.qualSlot ≤ p5Pass.dev.slotOf .m1 ∧
    p5Poor.dev.slotOf .m1 < (p5Poor.dev.port .m1).e0.st.qualSlot ∧
    p5Poor.dev.pnat .m1 0x30 7 ≤ (p5Poor.dev.port .m1).e0.st.bothPoor ∧ p5Pass.dev.pnat .m1 0x30 7 ≤ (p5Pass.dev.port .m1).e0.st.bothPoor := by
  decide +kernel

def p5Interval : State := st fun d => (d.pput .m1 0x30 0xB 1).onPort .m1 fun p => { p with reg := { p.reg with state := .armed } }
def p5Good : CalSums := ⟨16777216, 16777216, 15099904, 15099904, 1677312, 1677312⟩
def p5Bad : CalSums := ⟨0, 16777216, 15099904, 15099904, 1677312, 1677312⟩
def p5Start : State := st (pubN 0x3031 0 1)
def p5StartBusy : State := ⟨pubN 0x3031 0 1 p5Pass.dev, []⟩

theorem test_wit_calibration :
    let ok := fun (c : CalSums) => calOk (calOffsetOf c.offU) (calGainOf c.posU c.negU)
    p5Interval.dev.pstate .m1 = .armed ∧ p5Interval.dev.pnat .m1 0x30 0xB ≠ 0 ∧
    (p5Interval.dev.port .m1).fe.lastStart + p5Interval.dev.pnat .m1 0x30 0xB * 2000 ≤ p5Interval.dev.slotOf .m1 ∧
    ok p5Good = true ∧ ok p5Bad = false ∧ p5Start.dev.published = [⟨objKey (pidx .m1 0x31) 0, .num 1, 0, 0⟩] ∧
    (p5Start.dev.port .m1).fe.pass = none ∧ (p5StartBusy.dev.port .m1).fe.pass ≠ none := by decide +kernel

def p5Running : State := m1 fun p => { p with mod := { p.mod with running := true, startSlot := 99996 } }
def p5Period : PeriodIn := ⟨[⟨8292, 8100, false, false⟩], [24000], 12000, 12000, 12000, []⟩

theorem test_wit_period :
    p5Running.dev.carrierDue .m1 = true ∧ (p5Running.dev.port .m1).mod.running = true ∧
    (st id).dev.carrierDue .m1 = true ∧ ((st id).dev.port .m1).mod.running = false ∧
    (st fun d => d.setLane .a { lane with hyper := 3 }).dev.carrierDue .m1 = false := by decide +kernel

/-- M1 far into a start phase. -/
def p5Phase (x : PortState) (n att : Nat) : State := st fun d => (d.setLane .a { lane with slots := 10000000 }).onPort .m1 fun p =>
  { p with reg := { p.reg with state := x }, mod := { p.mod with running := true, startSlot := 10000000 },
           e1 := { p.e1 with start := { p.e1.start with phase := n, attempt := att } } }
def p5Handed : State := inState .ramp (e1 fun e => { e with start := { e.start with phase := 2, handCount := 8 } })

theorem test_wit_start_events :
    (p5Phase .align 1 0).dev.phaseOver .m1 = true ∧ ((p5Phase .align 1 0).dev.port .m1).e1.start.phase = 1 ∧
    (p5Phase .align 1 0).dev.pnum .m1 0x80 1 = 0 ∧ (p5Phase .align 1 0).dev.pstate .m1 = .align ∧
    (p5Phase .ramp 2 0).dev.phaseOver .m1 = true ∧ ((p5Phase .ramp 2 0).dev.port .m1).e1.start.handed = false ∧
    0 < (p5Phase .ramp 2 0).dev.pnat .m1 0x80 0xC ∧ 0 < (p5Phase .ramp 2 0).dev.pnat .m1 0x80 0xD ∧
    (p5Phase .ramp 2 3).dev.phaseOver .m1 = true ∧ (p5Phase .ramp 2 3).dev.pnat .m1 0x80 0xD ≤ 3 ∧
    p5Handed.dev.pstate .m1 = .ramp ∧ (p5Handed.dev.port .m1).e1.start.handed = false ∧
    p5Handed.dev.pnat .m1 0x80 0xC ≤ (p5Handed.dev.port .m1).e1.start.handCount := by decide +kernel

def p5Polarity (sp sn : Int) : State := m1 (e1 fun e => { e with hfi := { e.hfi with cntP := 16, cntN := 16, sumP := sp, sumN := sn } })
def p5Lost : State := inState .closed (e1 fun e => { e with loss := { e.loss with conf := 16 } })
def p5LostLate : State := inState .closed (e1 fun e => { e with loss := { e.loss with conf := 16, slot := 100001 } })
def p5Caught : State := inState .armed (e1 fun e => { e with fly := { e.fly with count := 8 } })

theorem test_wit_observer_decisions :
    let h := ((p5Polarity 100 200).dev.port .m1).e1.hfi
    let g := ((p5Polarity 200 200).dev.port .m1).e1.hfi
    let k := ((p5Polarity 500 200).dev.port .m1).e1.hfi
    let mg := 1000 + (st id).dev.pnum .m1 0x80 0x1A
    16 ≤ h.cntP ∧ 16 ≤ h.cntN ∧ h.resolved = false ∧ h.ambiguous = false ∧
    k.sumN * k.cntP * 1000 ≤ k.sumP * k.cntN * mg ∧ k.sumN * k.cntP * mg < k.sumP * k.cntN * 1000 ∧
    (p5Lost.dev.port .m1).e1.loss.slot ≤ p5Lost.dev.slotOf .m1 ∧
    p5LostLate.dev.slotOf .m1 < (p5LostLate.dev.port .m1).e1.loss.slot ∧
    p5LostLate.dev.pnat .m1 0x80 0x1C ≤ (p5LostLate.dev.port .m1).e1.loss.conf ∧
    h.sumP * h.cntN * mg < h.sumN * h.cntP * 1000 ∧ g.sumP * g.cntN * 1000 ≤ g.sumN * g.cntP * mg ∧ g.sumN * g.cntP * 1000 ≤ g.sumP * g.cntN * mg ∧
    p5Lost.dev.pstate .m1 = .closed ∧ (p5Lost.dev.port .m1).e1.loss.lost = false ∧ p5Lost.dev.paired .m1 = false ∧
    p5Lost.dev.pnat .m1 0x80 0x1C ≤ (p5Lost.dev.port .m1).e1.loss.conf ∧ p5Caught.dev.pstate .m1 = .armed ∧
    (p5Caught.dev.port .m1).e1.fly.caught = false ∧
    p5Caught.dev.pnat .m1 0x80 0xC ≤ (p5Caught.dev.port .m1).e1.fly.count := by decide +kernel

/-! ### Gate drivers, safe states, choppers and over-voltage -/

/-- M1 in a port state with a safe-state output. -/
def p6 (x : PortState) (out : Int) (f : Port → Port) : State :=
  st fun d => (d.pput .m1 0x22 1 out).onPort .m1 fun p => f { p with reg := { p.reg with state := x } }

def p6Cmd (x : PortState) (out : Int) (c : SafeCmd) : State := p6 x out fun p => { p with unit := { p.unit with arriving := [c] } }
def p6Inhibit : State := ⟨(p6Cmd .closed 0 ⟨2, none, false, false⟩).dev.pput .m1 0x22 3 1, []⟩

theorem test_wit_safe_state :
    ((p6Cmd .closed 0 ⟨2, none, false, false⟩).dev.port .m1).unit.arriving ≠ [] ∧
    (p6Cmd .closed 0 ⟨2, none, false, false⟩).dev.pstate .m1 ≠ .off ∧ tripsCode 2 = true ∧
    (p6Cmd .closed 0 ⟨2, none, false, false⟩).dev.safeOut .m1 = 0 ∧ p6Inhibit.dev.order1 .m1 = true := by decide +kernel

def p6Asc : State := p6 .shorted 2 fun p => { p with unit := { p.unit with ascQuiet := 30000000000, ascSign := 1 } }
def p6AscTripped : State := ⟨p6Asc.dev.onPort .m1 fun p => { p with reg := { p.reg with reqUnit := some ⟨99999, .tripped, false, false⟩ } }, []⟩
def p6Off : State := p6 .off 1 id
def p6Scan : State := ⟨{ p6Off.dev with tap := { p6Off.dev.tap with bscan := true } }, []⟩

theorem test_wit_release :
    p6Asc.dev.safeOut .m1 = 2 ∧ (p6Asc.dev.port .m1).reg.state = .shorted ∧ ascQuietLong
      (ascRun (p6Asc.dev.pnum .m1 0x20 0xC) (p6Asc.dev.pnat .m1 0x20 0xB) [9000] (p6Asc.dev.port .m1).unit).ascQuiet
      (p6Asc.dev.pnat .m1 0x20 0xB) = true ∧
    (p6Asc.dev.port .m1).reg.reqUnit = none ∧ p6AscTripped.dev.safeOut .m1 = 2 ∧
    p6Off.dev.tap.bscan = false ∧ p6Scan.dev.tap.bscan = true ∧ (p6Scan.dev.port .m1).reg.state = .off ∧
    p6Scan.dev.safeOut .m1 ≠ 0 ∧ p6Off.dev.safeOut .m1 ≠ 2 ∧ (p6Off.dev.port .m1).reg.state = .off ∧ (p6Off.dev.port .m1).faults = [] ∧
    (p6Off.dev.port .m1).unit.arriving = [] ∧ p6Off.dev.safeOut .m1 ≠ 0 := by decide +kernel

def p6Boot : State := p6 .closed 0 fun p => { p with unit := { p.unit with bootWithheld := ⟨0, 2, 0⟩ } }
def p6Drive : State := p6 .closed 0 fun p => { p with mod := { p.mod with driving := true } }
def p6Node : State := p6 .closed 2 fun p => { p with unit := { p.unit with nodeMiss := ⟨0, 0, 2⟩, nodeHighLow := ⟨false, false, true⟩ } }

theorem test_wit_gate_drivers :
    2 ≤ (p6Boot.dev.port .m1).unit.bootWithheld.v ∧ p6Drive.dev.gateOn .m1 ⟨.u, true⟩ (some 7500) = true ∧
    p6Asc.dev.gateOn .m1 ⟨.u, false⟩ none = true ∧ p6Drive.dev.desaturated .m1 60000 60000 100 = true ∧
    2 ≤ (p6Node.dev.port .m1).unit.nodeMiss.w ∧ (p6Node.dev.port .m1).unit.nodeHighLow.w = true ∧
    p6Drive.dev.checkPoint .m1 (p6Drive.dev.pnat .m1 0x20 8) false = true ∧ p6Drive.dev.laneLost .a = false ∧
    p6Drive.dev.checkPoint .m1 60000 true = true ∧ 0 < p6Drive.dev.pnat .m1 0x20 8 ∧ (p6Drive.dev.lane .a).alive = true ∧
    p6Drive.dev.pstate .m1 ≠ .off ∧ p6Off.dev.pstate .m1 = .off ∧ p6Off.dev.frozen = false := by decide +kernel

/-- M1 a member of its lane's chopper, which is on or off, with a latest sample. -/
def p6Chop (on : Int) (mv : Nat) (c : Chopper) : State := st fun d =>
  (((d.pput .m1 0x20 0x11 1).put 0x3024 1 1).put 0x3024 0x10 on |>.onPort .m1 fun p =>
    { p with unit := { p.unit with busMv := mv } }) |>.setLane .a { lane with chop := c }

theorem test_wit_chopper :
    let off := (p6Chop 0 0 Chopper.atReset).dev
    let on := (p6Chop 1 90000 { Chopper.atReset with gateTick := 1, engagedMv := 1 }).dev
    (off.lane .a).alive = true ∧ off.member .m1 = true ∧ off.ov2Mv .m1 ≤ 90000 ∧ off.num (chopIdx .a) 0x10 = 0 ∧
    (off.lane .a).chop.faultAt = none ∧ (off.lane .a).chop.gateTick = 0 ∧ on.num (chopIdx .a) 0x10 = 1 ∧
    (on.lane .a).chop.gateTick + 20000 ≤ (on.lane .a).tick 0 ∧ on.member .m2 = false ∧
    ((on.setBusBoth .a 0 0).port .m1).unit.busMv < on.ov2Release .m1 ∧ (on.lane .a).chop.gateTick ≠ 0 ∧
    (on.lane .a).chop.gateTick + on.nat (chopIdx .a) 2 * 2 / 5 ≤ (on.lane .a).tick 0 ∧
    (on.lane .a).chop.engagedMv + on.nat (chopIdx .a) 3 * 10 < (on.setBusBoth .a 90000 0).memberMax .a := by decide +kernel

def p6Unit (f : SafeUnit → SafeUnit) : State := st fun d => (d.pput .m1 0x20 0x11 0).onPort .m1 fun p =>
  { p with reg := { p.reg with state := .closed }, unit := f p.unit }
def p6NonMember : State := p6Unit fun u => { u with nonMember := true, ov2Below := some 0, escalateAt := some 0 }

theorem test_wit_over_voltage :
    (p6Unit id).dev.member .m1 = false ∧ (p6Unit id).dev.ov2Mv .m1 ≤ 90000 ∧ ((p6Unit id).dev.port .m1).unit.nonMember = false ∧
    (p6NonMember.dev.port .m1).unit.ov2Below = some 0 ∧ 0 < p6NonMember.dev.ov2Release .m1 ∧
    0 + p6NonMember.dev.pnat .m1 0x20 0x12 * 400 ≤ (p6NonMember.dev.lane .a).tick 0 ∧
    (p6NonMember.dev.port .m1).unit.escalateAt = some 0 ∧ p6NonMember.dev.pstate .m1 ≠ .off ∧
    p6NonMember.dev.pnat .m1 0x20 0xF * 10 < 90000 := by decide +kernel

def p6Coast : State := st fun d => (d.setLane .a { lane with slots := 1000000000 }).onPort .m1 fun p => { p with
  reg := { p.reg with state := .coast }
  e2 := { p.e2 with mo := { p.e2.mo with stopCount := 100000 } } }
def p6Clear : State := st fun d => (d.put 0x3061 1 8).onPort .m1 fun p => { p with faults := [0x0203, 0x0401, 0x0306] }
def p6Obs : ClearObs := ⟨12000, true, 0, [0, 0]⟩

theorem test_wit_standstill_and_clear :
    p6Coast.dev.pstate .m1 = .coast ∧
    (p6Coast.dev.port .m1).reg.entrySlot + p6Coast.dev.pnat .m1 0x60 0xC * 2000 ≤ p6Coast.dev.slotOf .m1 ∧
    p6Coast.dev.pnat .m1 0x60 0xB ≤ (p6Coast.dev.port .m1).e2.mo.stopCount ∧ p6Clear.dev.bit (pidx .m1 0x61) 1 3 = true ∧
    (p6Clear.dev.port .m1).e2.cmd.lastClear = false ∧ (p6Clear.dev.port .m1).faults ≠ [] := by decide +kernel

/-! ### Feedback interfaces -/

/-- M1 with a feedback mode and another feedback interface. -/
def p7 (mode : Int) (f : Feedback → Feedback) : State := st fun d => (d.pput .m1 0x70 1 mode).onPort .m1 fun p => { p with fb := f p.fb }

theorem test_wit_quadrature :
    (p7 1 id).dev.fbMode .m1 = 1 ∧ (p7 2 id).dev.fbMode .m1 = 2 ∧ ((p7 1 id).dev.port .m1).fb.quad.prevA = false ∧
    ((p7 1 id).dev.port .m1).fb.quad.prevB = false ∧ (p7 1 id).dev.pnat .m1 0x70 2 < 200 ∧ ((p7 1 id).dev.lane .a).alive = true := by decide +kernel

def p7Bucket (n : Nat) : State := p7 1 fun f => { f with quad := { f.quad with bucket := n } }
def p7Illegal : State := ⟨((p7Bucket 5).dev.onPort .m1 fun p => { p with faults := [0x0401] }), []⟩

theorem test_wit_illegal_bucket :
    ((p7Bucket 5).dev.port .m1).fb.quad.leakSlot + (p7Bucket 5).dev.pnat .m1 0x70 9 * 2000 ≤ (p7Bucket 5).dev.slotOf .m1 ∧
    (p7Bucket 5).dev.pnat .m1 0x70 8 < 5 ∧ (p7Bucket 5).dev.faulted .m1 .fbIllegal = false ∧
    p7Illegal.dev.faulted .m1 .fbIllegal = true ∧ (p7 0 id).dev.fbMode .m1 = 0 := by decide +kernel

def p7Index (ref : Bool) (q miss : Nat) : State := p7 1 fun f => { f with
  flags := { f.flags with referenced := ref }, quad := { f.quad with q := q, p := q, missRun := miss } }
def p7Preset : State := ⟨pubN 0x3072 0 9 (p7 1 id).dev, []⟩

theorem test_wit_index_and_preset :
    ((p7Index false 4095 0).dev.port .m1).fb.quad.z = false ∧ (p7Index false 4095 0).dev.pnat .m1 0x70 3 < 200 ∧
    ((p7Index false 4095 0).dev.port .m1).fb.flags.referenced = false ∧ 0 < (p7Index false 4095 0).dev.cpr .m1 ∧
    (p7Index true 0 2).dev.pnum .m1 0x70 6 - ((p7Index true 0 2).dev.port .m1).fb.quad.q = 0 ∧
    (p7Index true 4095 2).dev.pnum .m1 0x70 6 - ((p7Index true 4095 2).dev.port .m1).fb.quad.q ≠ 0 ∧
    3 ≤ ((p7Index true 5 3).dev.port .m1).fb.quad.missRun ∧
    p7Preset.dev.published = [⟨objKey (pidx .m1 0x72) 0, .num 9, 0, 0⟩] := by decide +kernel

/-- M1 with a Hall sensor in some state after another. -/
def p7Hall (h last : Nat) (inv : Option Nat) : State :=
  p7 3 fun f => { f with
    hall := { f.hall with h := h, last := last, invalidAt := inv }
    latch := { f.latch with clk := 5000000, hall := { f.latch.hall with invalidAt := inv } } }

theorem test_wit_hall :
    let d := (p7Hall 1 1 none).dev
    let df (h : Nat) := (d.hallPos .m1 h + 6 - d.hallPos .m1 1) % 6
    d.fbMode .m1 = 3 ∧ (d.port .m1).fb.hall.last ≠ 0 ∧ df 3 = 1 ∧ df 5 = 5 ∧ df 2 = 2 ∧ df 6 = 3 ∧ df 4 = 4 ∧
    d.hallState .m1 ⟨true, 200⟩ ⟨true, 200⟩ ⟨false, 200⟩ = 3 ∧ d.hallState .m1 ⟨true, 200⟩ ⟨true, 0⟩ ⟨true, 0⟩ = 1 ∧
    d.hallState .m1 ⟨false, 200⟩ ⟨false, 0⟩ ⟨false, 0⟩ = 0 ∧
    ((p7Hall 0 1 (some 0)).dev.port .m1).fb.hall.invalidAt = some 0 ∧
    (let l := ((p7Hall 0 1 (some 0)).dev.port .m1).fb.latch
     l.hall.invalidAt = some 0 ∧ (p7Hall 0 1 (some 0)).dev.pnum .m1 0x70 0xE * 100 ≤ ((l.clk : Int) - 0) % 2 ^ 32) ∧
    (let l := ((p7Hall 0 1 (some 4999999)).dev.port .m1).fb.latch
     l.hall.invalidAt = some 4999999 ∧
     ((l.clk : Int) - 4999999) % 2 ^ 32 < (p7Hall 0 1 (some 4999999)).dev.pnum .m1 0x70 0xE * 100) ∧
    ((p7Hall 1 1 none).dev.port .m1).fb.latch.hall.invalidAt = none := by decide +kernel

def p7Slow (mode : Int) (edge : Nat) : State := p7 mode fun f => { f with
  latch := { f.latch with clk := 5000000000 % 2 ^ 32 }, quad := { f.quad with edge := edge } }

theorem test_wit_zero_speed :
    let late := fun (m : Int) =>
      let d := (p7Slow m 0).dev
      let f := (d.port .m1).fb
      (d.zeroCycles .m1 : Int) < ((f.latch.clk : Int) - f.latch.lastEvent m.toNat) % 2 ^ 32 ∧
      f.lastEvent m.toNat = f.latch.lastEvent m.toNat
    late 4 ∧ late 1 ∧ (p7Slow 4 0).dev.fbMode .m1 = 4 ∧ (p7Slow 1 0).dev.fbMode .m1 = 1 ∧
    ((p7Slow 1 7).dev.port .m1).fb.lastEvent 1 ≠ ((p7Slow 1 7).dev.port .m1).fb.latch.lastEvent 1 := by decide +kernel

/-- A frame of ticks of 300 cycles: status 0, data 8, 0, 1 and their check nibble. -/
def sentOk : SentFrame := ⟨none, 16800, [3600, 6000, 3600, 3900, 5400], 0, 100⟩
def p7Sent : State := p7 4 fun f => { f with latch := { f.latch with sent := { f.latch.sent with got := true, trx := 0 } } }

theorem test_wit_sent :
    p7Sent.dev.sentCause .m1 sentOk = 0 ∧ p7Sent.dev.sentCause .m1 { sentOk with cal := 13439 } = 1 ∧
    (p7Sent.dev.port .m1).fb.flags.sentStale = false ∧ p7Sent.dev.pnat .m1 0x70 3 < 100 ∧
    p7Sent.dev.pnum .m1 0x70 0x12 * 100 < (((p7Sent.dev.lane .a).clk 0 : Int) - 0) % 2 ^ 32 := by decide +kernel

/-! ### Pairs and lanes -/

/-- A pair P1 in operation, with another M1 and M3. -/
def p8 (f g : Port → Port) : State :=
  st fun d => ({ d with image := some { im with pairFlags := 1 } }.onPort .m1 f).onPort .m3 g

def onPair (f : PairUnit → PairUnit) (x : Port) : Port := { x with pair := f x.pair }
def p8Line (x : PortState) : State :=
  p8 (fun p => { p with reg := { p.reg with state := x } }) (onPair fun u => { u with ownLine := true })

def p8Solo : State := p8 (onPair fun u => { u with state := 2 }) (onPair fun u => { u with ownLine := true })

theorem test_wit_fault_line :
    (p8Line .closed).dev.paired .m1 = true ∧ (p8Line .closed).dev.partnerAsserts .m1 = true ∧
    ((p8Line .closed).dev.port .m1).pair.state = 0 ∧ (p8Solo.dev.port .m1).pair.state = soloOf .b ∧
    p8Solo.dev.partnerAsserts .m1 = true ∧ (p8Solo.dev.port .m1).pair.partnerLine = false ∧ (p8Line .tripped).dev.pstate .m1 = .tripped ∧
    (p8Line .closed).dev.pstate .m1 ≠ .tripped ∧ (p8Line .closed).dev.pstate .m1 ≠ .shorted ∧
    ((p8Line .closed).dev.port .m1).pair.ownLine = false := by decide +kernel

def p8Write (a : Nat) (w : PairWrite) : State := p8 (onPair fun u => { u with state := a, writes := [w] }) id

theorem test_wit_pair_register :
    pairMay 0 ⟨5, 0, 1, false, false⟩ = true ∧ pairMay 1 ⟨5, 0, 3, false, false⟩ = true ∧
    pairMay 3 ⟨5, 2, 0, false, true⟩ = true ∧ pairMay 3 ⟨5, 0, 1, false, false⟩ = false ∧
    5 < (p8Write 0 ⟨5, 0, 1, false, false⟩).dev.slotOf .m1 := by decide +kernel

def p8Sup : State := p8 (onPair fun u => { u with
  partnerLine := true, stale := false, lineDriving := 2, verdictAge := 3, record := { u.record with health := 128 }
  overloadSlot := some 0 }) fun p => p
def p8Over : State := ⟨p8Sup.dev.put 0x2510 4 50, []⟩

theorem test_wit_pair_supervision :
    (p8Sup.dev.port .m1).pair.stale = false ∧ (p8Sup.dev.port .m1).pair.record.driving = true ∧
    (p8Over.dev.port .m1).pair.overloadOver = none ∧
    0 + p8Over.dev.nat (pairIdx .p1) 4 * 2000 ≤ p8Over.dev.slotOf .m1 := by decide +kernel

def p8Lost : State := p8 (onPair fun u => { u with partnerLine := true, staleFrames := 2 }) id
def p8Ignored : State := ⟨(p8 (onPair fun u => { u with partnerLine := true, staleFrames := 2, lineIgnored := true }) id).dev.onPort .m2
  (onPair fun u => { u with lineIgnored := true }), []⟩

theorem test_wit_lost_lane :
    (p8Lost.dev.lane .a).otherLost = false ∧ p8Lost.dev.paired .m1 = true ∧ p8Lost.dev.mode = 4 ∧
    2 ≤ (p8Lost.dev.port .m1).pair.staleFrames ∧ (p8Lost.dev.port .m1).pair.lineIgnored = false ∧
    (p8Ignored.dev.port .m1).pair.lineIgnored = true ∧ (p8Ignored.dev.port .m2).pair.lineIgnored = true ∧ (st fun d => { d with degradeDue := true }).dev.degradeDue = true ∧
    (st fun d => { d with degradeDue := true }).dev.mode = 4 ∧ (st id).dev.degradeDue = false := by decide +kernel

/-! ### General converters -/

/-- Converter 0 in another state and an active mode, with an entry of its own. -/
def p9 (mode : Int) (f : Gc → Gc) : State := st fun d =>
  { d.put 0x2203 1 mode with image := some { im with claims := [⟨4, 0x20, 0, 0x100, 1⟩] }, gcs := d.gcs.set .g0 (f (d.gcs.get .g0)) }
/-- 1.5 V at a pin, and more than the span. -/
def gcMid : GcSample := ⟨1500000, 0⟩
def gcOver : GcSample := ⟨3000001, 0⟩
def p9Pub (sub : Nat) (s : State) : State := ⟨pubN 0x2202 sub 1 s.dev, []⟩
def p9Job (mode : Int) (e : Option Nat) : State := p9 mode fun c => { c with job := some ⟨e, 0, false, 0⟩ }

/-- Lane A treated as lost, with a conversion on the way. -/
def p9Gone : State := ⟨(p9Job 1 (some 0)).dev.put 0x2500 1 1, []⟩

theorem test_wit_conversions :
    ((p9Job 1 (some 0)).dev.gcs.get .g0).job = some ⟨some 0, 0, false, 0⟩ ∧ (p9Job 1 (some 0)).dev.gcRuns .g0 = true ∧
    (0 + gcSampleCycles 0 + gcPhase ((p9Job 1 (some 0)).dev.gcMode .g0)) / 50 ≤ ((p9Job 1 (some 0)).dev.lane .a).slots ∧
    p9Gone.dev.laneLost (GcId.g0).lane = true ∧ (p9Gone.dev.gcs.get .g0).job.isSome = true ∧
    ((p9 0 id).dev.gcs.get .g0).job = none ∧ gcScaled 0 1500000 = 120000000 ∧ 240000000 < gcScaled 0 3000001 ∧
    gcScaled 0 (-1) < 0 ∧ (p9 0 id).dev.num (gcIdx .g0 5) (2 + gcGain 0) = 0 ∧
    (p9 0 id).dev.num (gcIdx .g0 5) (5 + gcGain 0) = 32768 ∧ (p9 0 id).dev.gcCode .g0 0 gcMid = 8192 := by decide +kernel

def p9Pending (b : Bool) : State := ⟨(p9 1 fun c => { c with passEnd := some 7 }).dev.putBit 0x2203 3 1 b, []⟩

/-- A restart behind a calibration of the same boundary, and an injected request while one is pending. -/
def p9Both : State := st fun d => { d with published := [⟨objKey (gcIdx .g0 2) 1, .num 1, 0, 0⟩, ⟨objKey (gcIdx .g0 2) 3, .num 1, 0, 0⟩] }
def p9Busy : State := ⟨(p9Pub 2 (p9Job 1 none)).dev.putBit 0x2203 3 2 true, []⟩

theorem test_wit_converter_requests :
    (p9Pub 1 (p9Pending true)).dev.published = [⟨objKey (gcIdx .g0 2) 1, .num 1, 0, 0⟩] ∧
    (p9Pub 1 (p9Pending true)).dev.bit (gcIdx .g0 3) 3 1 = true ∧
    (p9Pub 1 (p9Pending false)).dev.bit (gcIdx .g0 3) 3 1 = false ∧ (p9Pub 1 (p9Pending false)).dev.gcMode .g0 ≠ 0 ∧
    ((p9Pending true).dev.gcs.get .g0).passEnd = some 7 ∧
    (p9Pub 2 (p9Job 1 none)).dev.published = [⟨objKey (gcIdx .g0 2) 2, .num 1, 0, 0⟩] ∧
    (p9Pub 2 (p9Job 1 none)).dev.gcInjects .g0 1 = true ∧ (p9Pub 1 (p9Pending true)).dev.pubOf (gcIdx .g0 2) 2 = none ∧
    (p9Pub 1 (p9Pending true)).dev.pubOf (gcIdx .g0 2) 3 = none ∧ p9Both.dev.pubOf (gcIdx .g0 2) 3 ≠ none ∧
    p9Busy.dev.bit (gcIdx .g0 3) 3 2 = true ∧ ((p9Pub 2 (p9Job 1 none)).dev.gcs.get .g0).cal = none ∧
    ((p9Pub 2 (p9Job 1 none)).dev.gcs.get .g0).calReq = false := by decide +kernel

def p9Cal : State := p9 0 fun c => { c with cal := some 0 }
def gcGood : GcSums := ⟨512 * 768, 12288 * 768, 512 * 768, 12288 * 768, 512 * 768, 12288 * 768⟩
def gcBad : GcSums := { gcGood with low2 := 512 * 768 + 65 * 768, high2 := 12288 * 768 + 65 * 768 }

theorem test_wit_converter_calibration :
    (p9Pub 3 (p9 0 id)).dev.published = [⟨objKey (gcIdx .g0 2) 3, .num 1, 0, 0⟩] ∧ (p9 0 id).dev.gcRuns .g0 = true ∧
    (p9Pub 3 (p9 0 id)).dev.pubOf (gcIdx .g0 2) 2 = none ∧
    ((p9 0 id).dev.gcs.get .g0).job = none ∧ ((p9 0 id).dev.gcs.get .g0).calReq = false ∧
    (p9Cal.dev.gcs.get .g0).cal = some 0 ∧ 0 + 104160 ≤ (p9Cal.dev.lane .a).clk 0 ∧
    gcFactorsOk (gcOffsetOf gcGood.low1) (gcFactorOf gcGood.low1 gcGood.high1) = true ∧
    gcFactorsOk (gcOffsetOf gcBad.low2) (gcFactorOf gcBad.low2 gcBad.high2) = false := by decide +kernel

/-! ### Modes, start-up and clocks -/

/-- The block in another mode with a mode request published. -/
def p10 (mode : Int) (idx : Nat) (v : Int) : State := st fun d => pubN idx 0 v (inMode mode d)

theorem test_wit_mode_requests :
    (p10 2 0x2001 1).dev.published = [⟨objKey 0x2001 0, .num 1, 0, 0⟩] ∧ (p10 2 0x2001 1).dev.powered = true ∧
    (p10 2 0x2001 1).dev.boot.modeSlot ≠ some (p10 2 0x2001 1).dev.slotNow ∧ (p10 2 0x2001 1).dev.mode = 2 ∧
    (p10 4 0x2001 2).dev.mode = 4 ∧ (p10 4 0x2001 2).dev.anyMoving = false ∧ (p10 2 0x2001 4).dev.image.isSome = true ∧
    (p10 2 0x2001 4).dev.bit 0x2000 2 2 = false ∧ (p10 2 0x2001 4).dev.bit 0x2000 2 6 = false ∧
    (p10 4 0x2001 4).dev.mode ≠ 2 ∧ (p10 3 0x2001 2).dev.mode = 3 ∧ (p10 3 0x2001 2).dev.nat 0x2620 1 ≠ 2 := by decide +kernel

/-- A request for STANDBY in CONFIGURE while an image is being verified. -/
def p10Verifying : State := ⟨(p10 3 0x2001 2).dev.put 0x2620 1 2, []⟩
/-- A second mode request of a slot. -/
def p10Second : State := ⟨{ (p10 2 0x2001 4).dev with boot := { (p10 2 0x2001 4).dev.boot with modeSlot := some 100000 } }, []⟩

theorem test_wit_mode_requests_dropped :
    (p10 2 0x2001 2).dev.published = [⟨objKey 0x2001 0, .num 2, 0, 0⟩] ∧ (p10 2 0x2001 2).dev.mode ∉ [3, 4] ∧
    (p10 4 0x2003 3).dev.published = [⟨objKey 0x2003 0, .num 3, 0, 0⟩] ∧ (p10 4 0x2003 3).dev.mode ∉ [2] ∧
    (p10 4 0x2001 1).dev.mode ∉ [2] ∧ p10Verifying.dev.mode = 3 ∧ p10Verifying.dev.nat 0x2620 1 = 2 ∧
    p10Verifying.dev.published = [⟨objKey 0x2001 0, .num 2, 0, 0⟩] ∧
    p10Second.dev.boot.modeSlot = some p10Second.dev.slotNow := by decide +kernel

/-- The block on its way to a low-power mode, or in it, with another island. -/
def p10Low (ph : BootPhase) (target : Nat) (f : Island → Island) : State :=
  ⟨{ Dev.atReset with boot := { Boot.atReset with phase := ph, target := target, island := f Boot.atReset.island } }, []⟩
def p10Wake : State := p10Low .low 1 fun i => { i with timerMs := 5, can := true }

theorem test_wit_low_power :
    (p10Low .goingDown 1 id).dev.boot.phase = .goingDown ∧ (p10Low .goingDown 1 id).dev.boot.island.latched = 0 ∧
    (p10Low .goingDown 0 fun i => { i with latched := 2 }).dev.boot.island.latched ≠ 0 ∧ p10Wake.dev.frozen = false ∧
    p10Wake.dev.boot.island.unpowered = false ∧ p10Wake.dev.boot.island.edge = 0 ∧ p10Wake.dev.boot.phase = .low ∧
    p10Wake.dev.boot.island.timerMs = 5 ∧ p10Wake.dev.boot.island.can = true := by decide +kernel

def p10Reset : State := st (pubN 0x2004 0 1)
def p10Gone : State := st fun d => (d.put 0x2500 1 1).put 0x2500 2 1

theorem test_wit_resets :
    p10Reset.dev.boot.phase ≠ .held ∧ p10Reset.dev.published = [⟨objKey 0x2004 0, .num 1, 0, 0⟩] ∧
    p10Gone.dev.laneLost .a = true ∧ p10Gone.dev.laneLost .b = true ∧ p10Gone.dev.boot.phase ≠ .low ∧
    p10Gone.dev.boot.phase ≠ .goingDown ∧ p10Gone.dev.boot.phase ≠ .held := by decide +kernel

def p10Feedback : State := st fun d => d.pput .m1 0x70 1 1
def p10Late : State := st fun d =>
  { d.onLane .b fun x => { x with alive := false } with boot := { d.boot with phase := .boot } }
def p10Obs : LaneObs := ⟨1400, 1300, 1200, 1100, 48000, 5000, 1000, 3300, 5000, 12000, 161⟩

theorem test_wit_supplies :
    ((st id).dev.lane .a).alive = true ∧ (st id).dev.laneLost .a = false ∧ railFilter .vbat ≤ 5000 ∧ 4999 < railLow .vbat ∧
    railAbove .vpre 6301 = true ∧ railAbove .vpre 6300 = false ∧ railAbove .vio 3601 = true ∧ railAbove .vcore 1081 = true ∧
    railAbove .vbat 70000 = false ∧
    p10Feedback.dev.sensorless .m1 = false ∧ p10Feedback.dev.sensorless .m2 = true ∧ p10Late.dev.boot.phase = .boot ∧
    (p10Late.dev.lane .b).alive = false ∧ (p10Late.dev.lane .a).alive = true ∧ p10Late.dev.laneLost .b = false ∧
    p10Late.dev.boot.laneB = true ∧ deratingOf 1400 ((st id).dev.num 0x2820 1) ((st id).dev.num 0x2820 2)
      ((st id).dev.num 0x2820 3) < (st id).dev.num 0x2820 (deratingSub .a) := by decide +kernel

/-- The block in a phase of start-up, with a profile. -/
def p10Phase (ph : BootPhase) (n : Nat) : State := st fun d => { d with boot := { d.boot with phase := ph, profile := n } }
def p10NoCatalogue : State := ⟨(p10Phase .clocked 0).dev.putBit 0x2000 2 6 true, []⟩
/-- A lane whose BIST failed beside one that passed, or alone. -/
def p10Bist (alone : Bool) : State :=
  ⟨{ (p10Phase .boot 0).dev.onLane .b fun x => { x with alive := !alone } with
    boot := { (p10Phase .boot 0).dev.boot with bistBad := [.a] } }, []⟩
def p10Lull (s : State) : State := ⟨{ s.dev with boot := { s.dev.boot with lullLow := true } }, []⟩
def p10Auto (t : Nat) : State := st fun d => { inMode 2 d with boot := { d.boot with autoAt := some t } }

theorem test_wit_start_up :
    State.reset.dev.boot.phase = .held ∧ State.reset.dev.laneLost .a = false ∧ (State.reset.dev.lane .a).alive = false ∧
    State.reset.dev.frozen = false ∧ (p10Phase .boot 0).dev.boot.phase = .boot ∧
    ((p10Bist false).dev.lane .b).alive = true ∧ LaneId.b ∉ (p10Bist false).dev.boot.bistBad ∧
    ((p10Bist true).dev.lane .b).alive = false ∧ LaneId.a ∈ (p10Bist true).dev.boot.bistBad ∧
    (p10Lull p10NoCatalogue).dev.boot.lullLow = true ∧ (p10Bist false).dev.boot.phase = .boot ∧
    p10NoCatalogue.dev.bit 0x2000 2 6 = true ∧ p10NoCatalogue.dev.boot.phase = .clocked ∧
    (p10Phase .clocked 0xFF).dev.bit 0x2000 2 6 = false ∧ (p10Phase .clocked 0xFF).dev.boot.profile = 0xFF ∧
    (p10Auto 100000).dev.boot.autoAt = some 100000 ∧ (p10Auto 100000).dev.powered = true ∧
    100000 ≤ (p10Auto 100000).dev.slotNow ∧ (p10Auto 100001).dev.slotNow < 100001 := by decide +kernel

/-- Lane A on its backup, the source base of AT in a state, with its last step of the trim. -/
def p10Backup (valid : Bool) (step : Option Nat) : State := st fun d =>
  ((((d.put 0x2110 1 2).put 0x2110 2 2).put 0x2100 6 1).put 0x2120 0x10 3).putBit 0x2100 0xA 0 valid |>.onLane .a fun x =>
    { x with mon := { x.mon with steerSlot := step } }
def p10Mon (f : LaneClk → LaneClk) : State := st fun d => d.onLane .a fun x => { x with mon := f x.mon }
/-- Lane A alone, with its measurement of the LFO. -/
def p10Alone : State := ⟨((p10Mon fun m => { m with lfoCount := 4096 * 12207 }).dev.onLane .b fun x => { x with alive := false }), []⟩
def p10Root : RootObs := ⟨0, 160, 160, false⟩

theorem test_wit_clocks :
    (st id).dev.onRoot .a = true ∧ (st id).dev.nat 0x2110 1 = 1 ∧ (p10Backup true none).dev.onRoot .a = false ∧
    (p10Backup true none).dev.steers .a = true ∧ (p10Backup false none).dev.bit 0x2100 0xA 0 = false ∧
    windowOff 164 = true ∧ windowOff 163 = false ∧ windowOff p10Root.win1 = false ∧
    ((p10Backup true (some 7)).dev.lane .a).mon.steerSlot = some 7 ∧ 7 + 20000 ≤ ((p10Backup true none).dev.lane .a).slots ∧
    (st id).dev.onRoot .b = true ∧ ((p10Mon fun m => { m with winRun := 1, winRoot := true }).dev.lane .a).mon.winRun = 1 ∧
    ((p10Mon fun m => { m with winRun := 1, winRoot := true }).dev.lane .a).mon.winRoot = true ∧
    (p10Alone.dev.lane .b).alive = false ∧ (p10Alone.dev.lane .a).mon.lfoCount ≠ 0 ∧
    ((p10Mon fun m => { m with faultDue := true }).dev.lane .a).mon.faultDue = true ∧
    ((st id).dev.lane .a).mon.faultDue = false ∧ (st id).dev.devFaulted .commonTime = false := by decide +kernel

/-! ### Slots, publication, budget and the carrier grid -/

def p11Backup : State := st fun d => d.put 0x2110 2 2

theorem test_wit_slot_boundary :
    (st id).dev.clocked .a = true ∧ (st id).dev.slotsRun = true ∧ (st id).dev.lanesWith .a = [.a, .b] ∧
    p11Backup.dev.lanesWith .a = [.a] ∧ p11Backup.dev.lanesWith .b = [.b] ∧ p11Backup.dev.clkLane = .a ∧
    p11Backup.dev.clkLane ∉ p11Backup.dev.lanesWith .b ∧ (st id).dev.clkLane ∈ (st id).dev.lanesWith .a ∧
    State.reset.dev.slotsRun = false ∧ State.reset.dev.clocked .a = false := by decide +kernel

/-- A change of an object by session 7 from N1, with its response. -/
def chg (key : Nat) (raw : List Byte) : Change := ⟨key, raw, 7, 3, 1, some ⟨1, [0, 0, 0, 0, 0, 0, 0, 0], ⟨[0, 0, 0, 0], 0⟩, 7, [], 4, 2, 3⟩⟩
def job (key : Nat) (raw : List Byte) : JournalJob :=
  ⟨1, [], some (key, raw), some (chg key raw), .a, 99000, some 99000, 1, false, [], none, false⟩
def p11Done (j : JournalJob) (n : Nat) : State := st fun d => { d with wr := { d.wr with done := [(j, n)], procs := [] } }
def p11Proc (key : Nat) (raw : List Byte) : State := st fun d =>
  { d with wr := { d.wr with done := [], procs := [⟨key, raw, 7, 1, .a, 100000, false⟩] } }

theorem test_wit_publication :
    (st id).dev.powered = true ∧ (st id).dev.wr.pubSlot ≠ some (st id).dev.slotNow ∧ 99999 < (st id).dev.slotNow ∧
    (job 0x282001 [0, 1]).change = some (chg 0x282001 [0, 1]) ∧ (st id).dev.slotNow ≤ 100000 ∧
    (objRow 0x2820 1).map (·.cls) = some .config ∧ (objRow 0x2001 0).map (·.cls) = some .command ∧
    (objRow 0x3061 2).map (fun r => (r.cls, r.access)) = some (.process, .rwa) ∧
    (objRow 0x2005 2).map (fun r => (r.cls, r.access)) = some (.process, .wo) ∧
    100000 ≤ ((st id).dev.lane .a).slots := by decide +kernel

def p11Budget (b : Int) : State := st fun d => ((((d.put 0x2810 1 b).put 0x2810 3 0x1234).pput .m1 0x90 3 100).pput .m2 0x90 3 100).onPort .m1
  fun p => { p with e2 := { p.e2 with out := { p.e2.out with reqWord := 900 } } }

theorem test_wit_budget :
    (p11Budget 1000).dev.budgetOrder .a = [.m1, .m2] ∧ (p11Budget 1000).dev.pnum .m1 0x90 3 ≠ 0 ∧
    (p11Budget 1000).dev.pnum .m2 0x90 3 ≠ 0 ∧ (p11Budget 1000).dev.num 0x2810 1 ≠ 0 ∧
    ((p11Budget 1000).dev.lane .a).budgetSlot ≠ some ((p11Budget 1000).dev.lane .a).slots ∧
    (p11Budget 0).dev.num 0x2810 1 = 0 ∧ (p11Budget 0).dev.budgetOrder .a = [.m1, .m2] := by decide +kernel

def p11Cal (b : Bool) : State := st fun d => (pubN 0x3031 0 1 d).onPort .m1 fun p =>
  { p with fe := { p.fe with pass := if b then some ⟨5, 0⟩ else none } }

theorem test_wit_calibration_request :
    (p11Cal true).dev.published = [⟨objKey (pidx .m1 0x31) 0, .num 1, 0, 0⟩] ∧ (p11Cal true).dev.clocked .a = true ∧
    ((p11Cal true).dev.port .m1).fe.pass ≠ none ∧ ((p11Cal false).dev.port .m1).fe.pass = none := by decide +kernel

/-- M1 locked to the grid, which follows AT, in a lock state. -/
def p11Grid (lock valid : Bool) (st0 val : Int) (g : Grid → Grid) : State := st fun d =>
  let d := { d with
    image := some { im with h := 12, slots := ⟨⟨true, lock, 4, 0, 5, 0⟩, ⟨true, false, 4, 0, 5, 0⟩, ⟨true, false, 4, 0, 5, 0⟩,
      ⟨true, false, 4, 0, 5, 0⟩⟩ }
    grid := g d.grid
    time := { d.time with at' := { d.time.at' with val := val } } }
  ((d.put 0x2150 1 1).put 0x2150 0x10 st0).putBit 0x2100 0xA 0 valid

theorem test_wit_grid :
    (st id).dev.disciplined = false ∧ (st id).dev.clocked (st id).dev.clkLane = true ∧
    (st id).dev.grid.slot + 200 ≤ (st id).dev.slotNow ∧ (p11Grid true true 1 0 id).dev.disciplined = true ∧
    (p11Grid true true 1 0 id).dev.lockValid = true ∧ (p11Grid true false 2 0 id).dev.lockValid = false ∧
    (p11Grid true true 1 0 id).dev.nat 0x2150 0x10 = 1 ∧ (p11Grid true true 2 0 id).dev.nat 0x2150 0x10 = 2 ∧
    absI (phaseError 0 0 12 0) ≤ 20 * nsUnit ∧ 40 * nsUnit < absI (phaseError (50 * nsUnit) 0 12 0) := by decide +kernel

/-! ### Network time and timed actions -/

/-- T0 enabled with number 0 and received on N1, in a domain state, with another master on N1. -/
def p12 (st0 slave : Int) (f : PortMaster → PortMaster) : State := st fun d =>
  let d := ((((((d.put 0x1110 1 1).put 0x2120 1 1).put 0x2120 2 0).put 0x2120 3 1).put 0x2120 0x10 st0).put 0x2120 0x13 slave)
  d.onDom .t0 fun t => t.setOn .n1 (f (t.on .n1))

def sync1 (two : Bool) : SyncMsg := ⟨0, 77, 3, two, 0, 5000, 0, 0⟩
def known (p : PortMaster) : PortMaster := { p with known := true, src := 77, vec := [5, 5], annOut := false, syncOut := false }
def awaiting (p : PortMaster) : PortMaster := { known p with await := some (sync1 true, 40) }

theorem test_wit_sync :
    (p12 1 1 known).dev.domOfNumber .n1 0 = some .t0 ∧ (p12 1 1 known).dev.domOfNumber .n1 9 = none ∧
    (p12 1 1 known).dev.netUp .n1 = true ∧ ((p12 1 1 known).dev.time.t0.on .n1).known = true ∧
    ((p12 1 1 known).dev.time.t0.on .n1).src = (sync1 true).src ∧ (p12 1 1 known).dev.isSlave .t0 .n1 = true ∧
    ((p12 1 1 known).dev.time.t0.on .n2).known = false ∧ (p12 1 1 known).dev.domState .t0 = 1 ∧
    (p12 1 1 known).dev.bit 0x2120 0x11 4 = false ∧
    absI ((p12 1 1 known).dev.syncRate .n1 0) * 1000000 ≤ 250 * 2 ^ 41 ∧
    ((p12 2 2 awaiting).dev.time.t0.on .n1).await = some (sync1 true, 40) ∧
    (p12 2 2 awaiting).dev.isSlave .t0 .n1 = false := by decide +kernel

def ann (src : Nat) (vec : List Nat) : AnnounceMsg := ⟨0, src, [1, 2, 3, 4, 5, 6], vec, 99, 0⟩

theorem test_wit_announce :
    better (ann 78 [4, 9]).vec ((p12 3 1 known).dev.time.t0.on .n1).vec = true ∧
    better (ann 78 [5, 5]).vec ((p12 3 1 known).dev.time.t0.on .n1).vec = false ∧
    ((p12 3 1 known).dev.time.t0.on .n1).annOut = false ∧ (p12 3 1 known).dev.num 0x2120 0x12 ≠ 99 ∧
    (p12 3 1 known).dev.domState .t0 = 3 := by decide +kernel

def fast (p : PortMaster) : PortMaster := { known p with syncLog := -8, annLog := -8 }

theorem test_wit_receipt_timeouts :
    (p12 3 1 fast).dev.domOn .t0 .n1 = true ∧ ((p12 3 1 fast).dev.time.t0.on .n1).syncOut = false ∧
    3 * logSlots ((p12 3 1 fast).dev.time.t0.on .n1).syncLog <
      (((p12 3 1 fast).dev.lane .a).slots - ((p12 3 1 fast).dev.time.t0.on .n1).syncSlot) * 256 ∧
    3 * logSlots ((p12 3 1 fast).dev.time.t0.on .n1).annLog <
      (((p12 3 1 fast).dev.lane .a).slots - ((p12 3 1 fast).dev.time.t0.on .n1).annSlot) * 256 ∧
    (((p12 3 1 known).dev.lane .a).slots - ((p12 3 1 known).dev.time.t0.on .n1).syncSlot) * 256 ≤
      3 * logSlots ((p12 3 1 known).dev.time.t0.on .n1).syncLog := by decide +kernel

def peer : List Byte := [2, 0, 0, 0, 0, 1]
def p12Peer (f : PeerDelay → PeerDelay) : State := ⟨((p12 1 1 known).dev.putVal 0x2128 4 (.bytes peer)).onPeer .n1 f, []⟩
def resp : PdelayResp := ⟨peer, 4, 100, 150⟩

/-- A time stamp on a DT that runs at twice its nominal rate lies half as far on the nominal ticks (R310, R313). -/
theorem test_stamps_on_nominal_ticks :
    ({ (st id).dev.time with dt := ⟨0, 10 * nsUnit⟩, nominal := 7 * nsUnit } : TimeUnit).onTicks 100 = 57 * nsUnit := by decide +kernel

theorem test_wit_peer_delay :
    (p12Peer id).dev.peerMac .n1 = some peer ∧ (p12Peer id).dev.netUp .n1 = true ∧
    ((p12Peer id).dev.time.peer .n1).sendSlot = none ∧ (st id).dev.peerMac .n1 = none ∧
    ((p12Peer fun p => { p with sentAt := some 5, seq := 4 }).dev.time.peer .n1).sentAt = some 5 ∧
    ((p12Peer fun p => { p with sentAt := some 5, seq := 4 }).dev.time.peer .n1).prev = none ∧
    ((p12Peer fun p => { p with sentAt := some 5, seq := 4, prev := some (peer, 1, 2) }).dev.time.peer .n1).prev = some (peer, 1, 2) ∧
    resp.seq = 4 ∧ resp.mac = peer ∧ (p12Peer id).dev.time.onTicks (900 - (p12Peer id).dev.num 0x2128 1) ≠ 2 ∧ [0] ≠ peer := by decide +kernel

def p12At (state src : Int) (f : Dev → Dev) : State := st fun d => f (((d.put 0x2100 5 state).put 0x2100 6 src).put 0x2100 7 2)
def p12Revert : State := p12At 1 1 fun d =>
  (((d.put 0x2100 8 1).put 0x2100 9 0).put 0x2121 0x10 3).onDom .t1 fun t => { t with trackSlot := some 0 }
def p12Enable (v state : Int) : State := st fun d => pubN 0x2120 1 1 ((d.put 0x2120 1 v).put 0x2120 0x10 state)
def p12Dt (mode : Int) : State := st fun d => pubN 0x2100 0xD 12345 (inMode mode d)

def p12DtPulse : State := ⟨{ (p12Dt 2).dev with time := { (p12Dt 2).dev.time with pulses := [⟨0, 70⟩] } }, []⟩

theorem test_wit_application_time :
    (p12At 2 1 id).dev.nat 0x2100 5 = 2 ∧ absI (p12At 2 1 id).dev.atDiff ≤ 20 * nsUnit ∧
    20 * nsUnit < absI (p12At 2 1 fun d => { d with time := { d.time with at' := { d.time.at' with val := 21 * nsUnit } } }).dev.atDiff ∧
    domOf (p12Revert.dev.nat 0x2100 7) = .t1 ∧ (p12Revert.dev.time.dom .t1).trackSlot = some 0 ∧
    p12Revert.dev.num 0x2100 8 = 1 ∧ p12Revert.dev.nat 0x2100 5 = 1 ∧ domOf (p12Revert.dev.nat 0x2100 6) ≠ .t1 ∧
    0 + p12Revert.dev.nat 0x2100 9 * 2000000 ≤ p12Revert.dev.slotNow ∧ p12Revert.dev.mayFollow .t1 = true ∧
    ((p12At 2 1 id).dev.time.dom .t1).trackSlot = none ∧
    (p12Enable 1 0).dev.published = [⟨objKey (domIdx .t0) 1, .num 1, 0, 0⟩] ∧ (p12Enable 1 0).dev.num 0x2120 1 ≠ 0 ∧
    (p12Enable 1 0).dev.domState .t0 = 0 ∧ (p12Enable 0 3).dev.num 0x2120 1 = 0 ∧ (p12Enable 1 3).dev.domState .t0 ≠ 0 ∧
    (p12Dt 2).dev.published = [⟨objKey 0x2100 0xD, .num 12345, 0, 0⟩] ∧ (p12Dt 2).dev.setDtRes = .ok ∧
    p12DtPulse.dev.time.pulses = [⟨0, 70⟩] ∧ p12DtPulse.dev.setDtRes = .ok ∧
    (p12Dt 4).dev.setDtRes ≠ .ok := by decide +kernel

/-- A timed-action record: kind, base 1, output, length, target and value, at time 0 without a period. -/
def rec44 (kind out len target : Nat) (value : List Byte) : List Byte :=
  toLE 1 kind ++ toLE 1 1 ++ toLE 1 out ++ toLE 1 len ++ toLE 4 target ++ List.replicate 24 0 ++ (value ++ List.replicate 10 0).take 10 ++
    List.replicate 2 0
def p12Rec (kind state : Nat) : State := st fun d =>
  pub 0x2130 3 (.bytes (rec44 kind 0 0 0 [])) { d with time := { d.time with
    entries := d.time.entries.mapIdx fun i x => if i = 2 then { x with state := state } else x } }

theorem test_wit_arming :
    (p12Rec 1 0).dev.published = [⟨objKey 0x2130 3, .bytes (rec44 1 0 0 0 []), 0, 0⟩] ∧
    (actionOf (rec44 1 0 0 0 [])).kind ≠ 0 ∧ (actionOf (rec44 0 0 0 0 [])).kind = 0 ∧
    ((p12Rec 0 1).dev.timedEntry 3).state = 1 ∧ ((p12Rec 0 0).dev.timedEntry 3).state ≠ 1 ∧
    3 ≤ (p12Rec 1 0).dev.time.entries.length := by decide +kernel

/-- Entry 3 armed with a record whose time has come, behind this slot's publication. -/
def p12Due (r : List Byte) (f : Dev → Dev) : State := st fun d =>
  let d := (d.putVal 0x2130 3 (.bytes r))
  f { d with
    wr := { d.wr with pubSlot := some 100000 }
    time := { d.time with
      dt := { d.time.dt with val := 10 ^ 9 * nsUnit }
      entries := d.time.entries.mapIdx fun i x => if i = 2 then { x with state := 1 } else x } }
def p12Pulse (f : Dev → Dev) : State := p12Due (rec44 1 0 0 0 []) f
def p12Apply (v : Byte) : State := p12Due (rec44 2 0 2 0x306101 [v, 0]) id
def p12Anchor : State := p12Due (rec44 3 0 0 0 [9]) id
def p12Mode : State := p12Due (rec44 4 0 0 0 [2]) id

theorem test_wit_pulses :
    (p12Pulse id).dev.dueBefore 3 1 ((p12Pulse id).dev.baseNow 1 + 500) = true ∧
    (p12Pulse id).dev.laneLost (outLane ((p12Pulse id).dev.action 3).out) = false ∧
    (p12Pulse fun d => d.put 0x2500 1 1).dev.laneLost (outLane 0) = true ∧ 3 ≤ (p12Pulse id).dev.time.entries.length ∧
    (p12Pulse fun d => { d with time := { d.time with pulses := [⟨0, 7⟩] } }).dev.time.pulses = [⟨0, 7⟩] ∧
    7 < (p12Pulse id).dev.time.dt.ns + 500 := by decide +kernel

theorem test_wit_occurrences :
    (p12Apply 0).dev.wr.pubSlot = some (p12Apply 0).dev.slotNow ∧ (p12Apply 0).dev.dueNow 3 2 = true ∧
    (p12Apply 0).dev.firstInLine 3 = true ∧ ((p12Apply 0).dev.action 3).target = 0x306101 ∧
    (p12Apply 0).dev.judgeOn ((p12Apply 0).dev.committed 6) .a 0xFF 7000 false 0x306101 [0, 0] = .ok ∧
    (p12Apply 255).dev.judgeOn ((p12Apply 255).dev.committed 6) .a 0xFF 7000 false 0x306101 [255, 0] ≠ .ok ∧
    p12Anchor.dev.dueNow 3 3 = true ∧ p12Anchor.dev.firstInLine 3 = true ∧
    p12Anchor.dev.judgeOn (p12Anchor.dev.committed 6) .a 0xFF 7000 false (p12Anchor.dev.entryKey 3) (p12Anchor.dev.action 3).value = .ok ∧
    p12Mode.dev.dueNow 3 4 = true ∧ p12Mode.dev.firstInLine 3 = true ∧
    (p12Mode.dev.committed 6).modeRequestRes (p12Mode.dev.entryKey 3 / 256) 2 = .ok := by decide +kernel

/-! ### The change journal -/

/-- The journal's writer in another state. -/
def p13 (f : Writer → Writer) (g : Flash → Flash) : State := st fun d => { d with wr := f d.wr, flash := g d.flash }
def p13Queue (j : JournalJob) (g : Flash → Flash) : State := p13 (fun w => { w with queue := [j] }) g
def j13 : JournalJob := job 0x282001 [0, 1]
def p13Down : State := ⟨(p13Queue j13 id).dev.deviceFault .commonFlash, []⟩
/-- The journal holds n units. -/
def p13Held (n : Nat) : State := p13Queue j13 fun f => { f with units := List.replicate n (0, []) }

theorem test_wit_commit_start :
    (p13Queue j13 id).dev.wr.running = none ∧ (p13Queue j13 id).dev.wr.queue = [j13] ∧
    j13.reach.isSome = true ∧ (p13Queue j13 id).dev.journalDown = false ∧
    (p13Queue j13 id).dev.flash.full = false ∧ j13.rejudge = false ∧ j13.change ≠ none ∧ j13.reserve = false ∧
    p13Down.dev.journalDown = true ∧ ({ j13 with reach := none } : JournalJob).reach = none ∧
    (p13Queue { j13 with reach := none } id).dev.boot.phase ≠ .goingDown := by
  decide +kernel

theorem held_full (n : Nat) (h : 524224 ≤ n) : (p13Held n).dev.flash.full = true := by
  simp [p13Held, p13Queue, p13, st, Flash.full, Flash.free, journalUnits]; omega

theorem test_wit_journal_full : (p13Held 524288).dev.flash.full = true := held_full 524288 (by decide)

def p13Run (key : Nat) : State := p13 (fun w => { w with running := some (job key [1, 0]) }) id

theorem test_wit_commit :
    (p13Run 0x282001).dev.wr.running = some (job 0x282001 [1, 0]) ∧ recordKey 0x282001 = false ∧
    recordKey 0x130001 = true ∧ (p13Run 0x282001).dev.powered = true := by decide +kernel

/-- The journal holds two entries in block 0, whose erase is queued, and one in block 1. -/
def unit13 (n : Nat) : List Byte := toLE 4 n ++ List.replicate 60 7
def p13Blocks : State := p13 (fun w => { w with erases := [0] })
  fun f => { f with units := [(0, unit13 0), (1, unit13 1), (1024, unit13 2)], head := 1025 }
def p13Ack : State := ⟨pub 0x1310 2 (.bytes (toLE 4 1 ++ List.replicate 8 0)) p13Blocks.dev, []⟩
/-- One erased unit is left for a commit. -/
def p13Last : State := p13 (fun w => { w with running := some (job 0x282001 [1, 0]) })
  fun f => { f with units := List.replicate 524287 (524287, []) }
/-- A listed object of lane B, whose count is behind. -/
def p13SnapB : State := ⟨(pubN 0x2005 2 1 ((st id).dev.putVal 0x2005 1 (.arr [0x327001]))).onLane .b fun x => { x with slots := 5 }, []⟩
def p13Snap : State := ⟨pubN 0x2005 2 1 ((st id).dev.putVal 0x2005 1 (.arr [0x282001, 0x200001])), []⟩

theorem test_wit_blocks_and_snapshots :
    p13Blocks.dev.wr.erases = [0] ∧ (p13Blocks.dev.flash.inBlock 0).getLast? = some (unit13 1) ∧
    p13Ack.dev.published = [⟨objKey 0x1310 2, .bytes (toLE 4 1 ++ List.replicate 8 0), 0, 0⟩] ∧ (st id).dev.wr.erases = [] ∧
    p13Snap.dev.published = [⟨objKey 0x2005 2, .num 1, 0, 0⟩] := by decide +kernel

/-! ### Requests, sessions and streams -/

def mac6 : List Byte := [2, 0, 0, 0, 0, 9]
def who8 : List Byte := mac6 ++ [0, 0]
def host6 : List Byte := [0xFE, 0x80] ++ List.replicate 14 9
/-- A frame from the host to a destination address and port, or with a CAN identifier. -/
def head14 (dst : List Byte) (port : Nat) : FrameHead := ⟨mac6, host6, dst, 5000, port, false⟩

/-- The block with N1 enabled and another network side. -/
def p14 (f : Net → Net) : State := st fun d =>
  let d := (d.put 0x1110 1 1).putVal 0x1110 2 (.bytes [2, 0, 0, 0, 0, 1])
  { d with net := f d.net }

/-- N1 with a request in the queue of its first partner. -/
def queued (r : Request) (x : ReqPort) : ReqPort := { x with entries := x.entries.mapIdx fun i e =>
  if i = 0 then { e with who := who8, used := true, queue := [r] } else e }
def onN1 (f : ReqPort → ReqPort) (x : Net) : Net := { x with ports := { x.ports with n1 := f x.ports.n1 } }

/-- A session of the partner, open or reserved. -/
def sess (isOpen : Bool) (role : Nat) : Session :=
  { id := 7, isOpen := isOpen, role := role, origin := 1, partner := who8, ip := host6, key := List.replicate 16 3
    nh := List.replicate 16 1, nd := List.replicate 16 2, since := 0, high := 0, seen := [], cache := [], asm := none, base := 0 }
def inTable (x : Session) (n : Net) : Net := { n with sessions := some x :: n.sessions.drop 1 }
def req (opcode session : Nat) (payload : List Byte) : Request := ⟨opcode, session, 5, payload, who8, ⟨host6, 5000⟩, 99000⟩

/-- A request at N1's service slot, with a session of its partner. -/
def p14Req (r : Request) (x : Session) : State := p14 fun n => inTable x (onN1 (queued r) n)

def pdu14 : List Byte := pduBytes 0 1 0 5 0 0 [0, 0x20, 1, 0]
def full (x : ReqPort) : ReqPort := { x with
  entries := x.entries.mapIdx fun i e => if i = 0 then
    { e with who := who8, used := true, queue := List.replicate 4 (req 1 0 [0, 0x20, 1, 0]) } else e
  window := 50 }

/-- A frame to N1's own address. -/
def to14 (port : Nat) : FrameHead := head14 ((p14 id).dev.ipv6 .n1) port

/-- An arrival of the partner's on N1 that the present boundary samples. -/
def arrived (b : List Byte) : Arrival := ⟨who8, ⟨host6, 5000⟩, b, 100000⟩
def p14Arrived (b : List Byte) (f : Net → Net) : State := p14 fun n => f (onN1 (fun x => { x with arrived := [arrived b] }) n)
/-- A request of session 7 with its tag. -/
def tagged14 (seq : Nat) : List Byte :=
  let b := pduBytes 0 1 7 seq 0 0 [0, 0x20, 1, 0]
  b ++ cmac8 (sess true 3).key b
def used14 : Session := { sess true 3 with high := 100 }

theorem test_wit_request_arrival :
    (p14 id).dev.busUp .n1 = true ∧ (st fun d => d.put 0x1110 1 0).dev.busUp .n1 = false ∧
    (p14 id).dev.takesFrame .n1 (to14 47120) 0 47120 0 = true ∧ (p14 id).dev.takesFrame .n1 (to14 5) 0 47120 0 = false ∧
    (pdu14 ++ [1]).length ≠ pduLen (pdu14 ++ [1]) ∧ 16 ≤ pdu14.length ∧ pdu14.length = pduLen pdu14 := by decide +kernel

theorem test_wit_request_checks :
    let s := p14Arrived pdu14 id
    s.dev.powered = true ∧ s.dev.wr.pubSlot ≠ some s.dev.slotNow ∧ s.dev.wr.done = [] ∧ s.dev.wr.procs = [] ∧
    (s.dev.reqPort .n1).arrived = [arrived pdu14] ∧ (s.dev.reqPort .n2).arrived = [] ∧
    (arrived pdu14).slot ≤ s.dev.serveSlot .n1 ∧ leNat (pdu14.take 1) = 0x10 ∧ lengthAgrees .n1 pdu14 = true ∧
    leNat (slice pdu14 2 2) = 0 ∧ (queueRequest (s.dev.reqPort .n1).entries (req 1 0 [0, 0x20, 1, 0])).isSome = true ∧
    queueRequest ((p14Arrived pdu14 (onN1 full)).dev.reqPort .n1).entries (req 1 0 [0, 0x20, 1, 0]) = none ∧
    ((p14Arrived pdu14 (onN1 full)).dev.reqPort .n1).window = s.dev.serveSlot .n1 / 2000 ∧
    leNat ((1 :: pdu14.drop 1).take 1) ≠ 0x10 := by decide +kernel

theorem test_wit_session_checks :
    let s := p14Arrived (tagged14 5) (inTable (sess true 3))
    lengthAgrees .n1 (tagged14 5) = true ∧ leNat (slice (tagged14 5) 2 2) ≠ 0 ∧
    s.dev.sessionFor .n1 who8 (tagged14 5) = some (sess true 3) ∧ (sess true 3).seqCheck 5 = 0 ∧ used14.seqCheck 5 = 2 ∧
    (p14Arrived (tagged14 5) id).dev.sessionFor .n1 who8 (tagged14 5) = none := by decide +kernel

def rRead : Request := req 1 0 [0, 0x20, 1, 0]
def rReadWo : Request := req 1 0 [5, 0x20, 2, 0]
def rSeg : Request := req 3 0 ([0, 0x20, 1, 0] ++ toLE 4 0 ++ toLE 2 100)
def rReadB : Request := req 1 0 [0x70, 0x32, 1, 0]
def p14Bridge : State := p14 fun n => { n with bridge := [⟨1, 100000, .b, 0, rReadB⟩] }
/-- A request on the bridge to lane B, which may be lost, of session 7. -/
def p14Cross (r : Request) (lost : Int) : State := ⟨(p14 fun n => inTable (sess true 3) { n with bridge := [⟨1, 100000, .b, 0, r⟩] }).dev.put 0x2500 2 lost, []⟩
def rReadNone : Request := req 1 0 [0x70, 0x32, 0xEE, 0]

theorem test_wit_reads :
    (p14 id).dev.chosen .n1 = none ∧ (p14Req rRead (sess true 2)).dev.chosen .n1 = some (0, rRead) ∧
    rRead.wellFormed = true ∧ rRead.row = 1 ∧ ((p14Req rRead (sess true 2)).dev.reqCtx .n1 rRead).isSome = true ∧
    homeOf (rRead.key / 256) = .replicated ∧ (p14Req rRead (sess true 2)).dev.readRes ⟨0, 0, 1, who8⟩ rRead.key = .ok ∧
    ((p14Req rRead (sess true 2)).dev.visible .a ⟨0, 0, 1, who8⟩ rRead.key).length ≤ payloadMax .n1 ∧
    (p14Req rReadWo (sess true 2)).dev.readRes ⟨0, 0, 1, who8⟩ rReadWo.key ≠ .ok ∧ rSeg.row = 3 ∧ rSeg.wellFormed = true ∧
    homeOf (rReadB.key / 256) = .lane .b ∧ (p14 id).dev.laneLost .b = false ∧
    p14Bridge.dev.net.bridge = [⟨1, 100000, .b, 0, rReadB⟩] ∧ 100000 ≤ (p14Bridge.dev.lane .b).slots ∧
    p14Bridge.dev.readRes ⟨0, 0, 1, who8⟩ rReadB.key = .ok := by decide +kernel

/-- A read that crossed to a lane lost on the way: WRONG_MODE, but NO_SUBINDEX where there is none (R361). -/
theorem test_wit_lost_bridge :
    (p14Cross rReadB 1).dev.readRes ⟨0, 0, 1, who8⟩ rReadB.key = .wrongMode ∧
    (p14Cross rReadNone 1).dev.readRes ⟨0, 0, 1, who8⟩ rReadNone.key = .noSubindex ∧ rReadNone.row = 1 ∧
    (p14Cross rReadB 1).dev.net.bridge = [⟨1, 100000, .b, 0, rReadB⟩] := by decide +kernel

def rWrite : Request := req 2 7 [0x20, 0x28, 1, 0, 0, 4]
def rProc : Request := req 2 7 [0x61, 0x30, 1, 0, 0, 0]
def rStage (key : List Byte) : Request := req 4 7 (key ++ [1] ++ toLE 4 0 ++ [8, 9])
def inCfg (s : State) : State := ⟨inMode 2 s.dev, []⟩

theorem test_wit_writes :
    (inCfg (p14Req rWrite (sess true 3))).dev.chosen .n1 = some (0, rWrite) ∧
    (inCfg (p14Req rWrite (sess true 3))).dev.judge ⟨3, 7, 1, who8⟩ 0 rWrite.key (rWrite.payload.drop 4) = .ok ∧
    (objRow 0x2820 1).map isChange = some true ∧ (inCfg (p14Req rWrite (sess true 3))).dev.queueRoom = true ∧
    (p14Req rProc (sess true 3)).dev.judge ⟨3, 7, 1, who8⟩ 0 rProc.key (rProc.payload.drop 4) = .ok ∧
    (objRow 0x3061 1).map isChange = some false ∧
    (p14Req rWrite (sess true 1)).dev.judge ⟨1, 7, 1, who8⟩ 0 rWrite.key (rWrite.payload.drop 4) ≠ .ok ∧
    (rStage [0x10, 0x12, 0]).row = 4 ∧ (objRow 0x1210 0).map (·.type) = some .octets ∧
    (p14Req rWrite (sess true 3)).dev.headRes 3 0x1210 0 = .ok ∧ (rStage [0x11, 0x26, 0]).row = 0x81 ∧
    (rStage [0x10, 0x14, 0]).row = 0x82 ∧
    (⟨inMode 3 (p14Req (rStage [0x11, 0x26, 0]) (sess true 3)).dev, []⟩ : State).dev.directRes ⟨3, 7, 1, who8⟩ 0x261100 true 0 2 = .ok ∧
    (⟨inMode 3 (p14Req (rStage [0x10, 0x14, 0]) (sess true 3)).dev, []⟩ : State).dev.directRes ⟨3, 7, 1, who8⟩ 0x141000 true 0 2 =
      .ok := by decide +kernel

def rCross : Request := req 2 7 [0x90, 0x32, 2, 0, 1, 0]
def rCrossProc : Request := req 2 7 [0x61, 0x32, 1, 0, 0, 0]

theorem test_wit_crossed_writes :
    (inCfg (p14Cross rCross 0)).dev.judge ⟨3, 7, 1, who8⟩ 0 rCross.key (rCross.payload.drop 4) = .ok ∧ rCross.row = 2 ∧
    (objRow 0x3290 2).map isChange = some true ∧ (inCfg (p14Cross rCross 0)).dev.queueRoom = true ∧
    (inCfg (p14Cross rCross 0)).dev.laneLost .b = false ∧
    (p14Cross rCrossProc 0).dev.judge ⟨3, 7, 1, who8⟩ 0 rCrossProc.key (rCrossProc.payload.drop 4) = .ok ∧
    (objRow 0x3261 1).map isChange = some false ∧
    (p14Cross rCross 1).dev.judge ⟨3, 7, 1, who8⟩ 0 rCross.key (rCross.payload.drop 4) = .wrongMode := by decide +kernel

def rOpen : Request := req 0x10 0 ([2, 0, 0, 0] ++ List.replicate 16 1)
def rAuth (k : List Byte) : Request := req 0x11 0 ([7, 0, 0, 0] ++ cmac k (0x01 :: (sess false 1).proofBytes))
def rLate : Request := { rAuth [] with stamp := 2000001 }
def rClose : Request := req 0x12 7 []
def p14Lock : State := p14 (onN1 fun x => { x with lockAt := some 0 })
def late (x : Nat) (s : State) : State := ⟨s.dev.setLane .a { lane with slots := x }, []⟩

theorem test_wit_sessions :
    rOpen.row = 0x10 ∧ rOpen.wellFormed = true ∧ (p14Req rOpen (sess true 2)).dev.lockout .n1 = 0 ∧
    (p14Req rOpen (sess true 2)).dev.net.sessions.contains none = true ∧
    (p14Req (rAuth []) (sess false 1)).dev.session 7 = some (sess false 1) ∧ (rAuth []).row = 0x11 ∧
    (p14Req (rAuth []) (sess false 1)).dev.roleKey .a 1 = some ((st id).dev.bytes 0x1210 0) ∧ rClose.row = 0x12 ∧
    (p14Req (rAuth []) (sess false 1)).dev.session 7 = some (sess false 1) ∧ (rAuth []).stamp ≤ (sess false 1).since + 2000000 ∧
    (sess false 1).since + 2000000 < rLate.stamp ∧ rLate.row = 0x11 ∧
    (late 2000001 (p14 (inTable (sess false 1)))).dev.authWaits (sess false 1) = false ∧
    (late 2000001 (p14Req (rAuth []) (sess false 1))).dev.authWaits (sess false 1) = true ∧
    2000000 < (late 2000001 (p14 (inTable (sess false 1)))).dev.sessionAge (sess false 1) ∧
    (st id).dev.nat 0x1200 1 * 2000 < (late 100000000 (p14 (inTable (sess true 1)))).dev.sessionAge (sess true 1) ∧
    (p14 (inTable (sess true 1))).dev.sessionAge (sess true 1) ≤ (st id).dev.nat 0x1200 1 * 2000 ∧
    (p14Lock.dev.reqPort .n1).lockAt = some 0 ∧ 0 + 2000000 ≤ (late 2000000 p14Lock).dev.serveSlot .n1 := by decide +kernel

/-- Stream 0 active, received or transmitted on N1 without values, attached to a session. -/
def p14Stream (rx state att : Int) (s : State) : State :=
  ⟨(((((s.dev.put 0x1160 1 1).put 0x1160 2 (1 - rx)).put 0x1160 3 1).put 0x1160 0x10 state).put 0x1160 0x11 att).put 0x1160 4 1, []⟩
def rAttach (op : Nat) : Request := req op 7 [0, 0, 0, 0]
def frame14 : List Byte :=
  let b := toLE 1 0x12 ++ toLE 1 0 ++ toLE 2 7 ++ toLE 4 5 ++ toLE 2 0 ++ List.replicate 6 (0 : Byte)
  b ++ cmac8 (sess true 3).key b

/-- Stream 0 with 0x3061.01 and 0x2001.00 mapped. -/
def mapped14 (s : State) : State := ⟨((s.dev.put 0x4000 0 2).put 0x4000 1 0x30610102).put 0x4000 2 0x20010001, []⟩
def frame14v : List Byte :=
  let b := toLE 1 0x12 ++ toLE 1 0 ++ toLE 2 7 ++ toLE 4 5 ++ toLE 2 3 ++ List.replicate 6 (0 : Byte) ++ [8, 9, 10]
  b ++ cmac8 (sess true 3).key b

theorem test_wit_stream_values :
    let s := mapped14 (p14Stream 1 0 7 (p14 (inTable (sess true 3))))
    s.dev.frameOk .n1 who8 frame14v = true ∧
    cutValues (s.dev.streamMap 0) (slice frame14v 16 (leNat (slice frame14v 8 2))) = [(0x306101, [8, 9]), (0x200100, [10])] ∧
    (objRow 0x3061 1).isSome = true ∧ s.dev.laneLost (s.dev.pubSlotOf .a 0x306101).1 = false ∧
    writeOnly (mapKey 0x30610102) = false ∧ writeOnly (mapKey 0x20010001) = true ∧
    (s.dev.visible .a (s.dev.sessionCtx 7) 0x306101).length = 2 := by decide +kernel

theorem test_wit_streams :
    (p14Stream 1 0 0 (p14Req (rAttach 0x20) (sess true 3))).dev.attachRes ⟨3, 7, 1, who8⟩ 0 = .ok ∧
    (p14Req (rAttach 0x20) (sess true 3)).dev.attachRes ⟨3, 7, 1, who8⟩ 0 ≠ .ok ∧ (rAttach 0x21).row = 0x21 ∧
    (p14Stream 1 0 7 (p14Req (rAttach 0x21) (sess true 3))).dev.nat 0x1160 0x11 = 7 ∧
    (p14 id).dev.takesFrame .n1 (to14 47121) 0 47121 2 = true ∧ (p14 id).dev.takesFrame .n1 (to14 47120) 0 47121 2 = false ∧
    (p14Stream 1 0 7 (p14 (inTable (sess true 3)))).dev.frameOk .n1 who8 frame14 = true ∧
    (p14 (inTable (sess true 3))).dev.frameOk .n1 who8 frame14 = false ∧ (p14 id).dev.net.streams.length = 16 ∧
    (p14Stream 1 2 7 (p14 id)).dev.streamOn 0 = true ∧ (p14Stream 1 2 7 (p14 id)).dev.streamRx 0 = true ∧
    (p14 id).dev.num 0x1160 0x10 ≠ 2 ∧ ((p14Stream 1 2 7 (p14 id)).dev.net.streams.getD 0 Stream.atReset).stampA +
      (p14Stream 1 2 7 (p14 id)).dev.streamSlots 0 < ((p14 id).dev.lane .a).slots ∧
    (p14Stream 0 4 7 (p14 id)).dev.serveSlot .n1 % ((p14Stream 0 4 7 (p14 id)).dev.nat 0x1160 4 * 2) = 0 ∧
    (p14Stream 0 4 7 (p14 id)).dev.num 0x1160 0x10 = 4 := by decide +kernel

def p14Ip : State := ⟨((p14 id).dev.putBit 0x1110 0x10 1 true).put 0x1110 0x11 77, []⟩
def p14N3 (f : Dev → Dev) : State := st fun d => f (d.put 0x1130 1 1)
def p14Take : State := st fun d => (d.put 0x2500 1 1).put 0x2400 3 8

theorem test_wit_below_pelnak :
    p14Ip.dev.portUp .n1 = true ∧ p14Ip.dev.bit 0x1110 0x10 1 = true ∧ p14Ip.dev.nat 0x1110 0x11 = 77 ∧
    p14Ip.dev.num 0x1110 3 = 0 ∧ p14Ip.dev.addressed .n1 (head14 (p14Ip.dev.ipv6 .n1) 0) = true ∧
    p14Ip.dev.addressed .n1 (head14 [0, 0, 0, 77] 0) = true ∧ p14Ip.dev.addressed .n1 (head14 [1] 0) = false ∧ 0xA9FE0001 / 65536 = 0xA9FE ∧ (p14N3 id).dev.portUp .n3 = true ∧
    (p14N3 id).dev.num 0x1130 0x11 ≠ 2 ∧ (p14N3 fun d => d.put 0x1130 0x11 2).dev.num 0x1130 0x11 = 2 ∧
    p14Take.dev.laneLost .a = true ∧ p14Take.dev.bit 0x2400 3 3 = true ∧ p14Take.dev.num 0x1130 0x10 = 0 ∧
    p14Take.dev.net.latchB = false ∧ (p14Take.dev.lane .b).alive = true ∧ p14Take.dev.laneLost .b = false := by decide +kernel

/-! ### Images, profiles and fuses -/

/-- An image that uses no port: empty slot table, five claims of shared SRAM, no instance; checksum and signature under the
zero key of an unlocked region. -/
def img15 : List Byte :=
  let dir := fun (o n : Nat) => toLE 4 o ++ toLE 4 n
  let head := [0x4D, 0x4A, 0x53, 0x49] ++ toLE 2 0x100 ++ toLE 2 0x50 ++ toLE 4 256 ++ toLE 4 9 ++ toLE 4 0 ++
    List.replicate 8 0 ++ toLE 2 20 ++ [7, 0] ++ dir 0x50 48 ++ dir 0x80 0 ++ dir 0x80 0 ++ dir 0x80 0 ++ dir 0x80 60 ++ dir 0xBC 48
  let claims := (List.range 5).flatMap fun i => [7, 0x31, 0, 0] ++ toLE 4 (4 * i) ++ toLE 4 4
  let b := head ++ List.replicate 48 0 ++ claims ++ List.replicate 48 0
  let c := b ++ toLE 4 (crc32 b)
  c ++ cmac (List.replicate 16 0) c

/-- The block with a catalogue, whose version and digest are zero, and other bytes in the staging buffer. -/
def p15 (b : List Byte) (f : Writer → Writer) : State := st fun d =>
  let d := (d.putVal 0x2640 3 (.bytes (List.replicate 8 0))).putVal 0x2611 0 (.bytes b)
  { d with wr := f d.wr }
def p15Verify (b : List Byte) : State := p15 b fun w => { w with verify := true }
def p15Cmd (idx : Nat) (v : Int) (f : Writer → Writer) : State := ⟨pubN idx 0 v (p15 [] f).dev, []⟩
def p15At (t : Nat) (ph : BootPhase) : State := st fun d => { d with activeAt := some t, boot := { d.boot with phase := ph } }

theorem test_wit_image_accepted :
    (p15Verify img15).dev.checkImage ((p15Verify img15).dev.bytes 0x2611 0) = .accepted (parseImage img15 true) := by
  decide +kernel

theorem test_wit_images :
    (p15Cmd 0x2610 1 id).dev.published = [⟨objKey 0x2610 0, .num 1, 0, 0⟩] ∧ (p15Verify img15).dev.wr.verify = true ∧
    (p15Verify [1]).dev.checkImage ((p15Verify [1]).dev.bytes 0x2611 0) = .refused .imageInvalid 1 2 0 ∧
    (p15Cmd 0x2612 1 fun w => { w with staged := some im }).dev.published = [⟨objKey 0x2612 0, .num 1, 0, 0⟩] ∧
    (p15Cmd 0x2612 1 fun w => { w with staged := some im }).dev.wr.staged = some im ∧
    (p15Cmd 0x2612 1 id).dev.wr.staged = none ∧ (p15At 100001 .up).dev.activeAt = some 100001 ∧
    (p15At 100001 .up).dev.slotNow < 100001 ∧ 100000 ≤ (p15At 100000 .imageDue).dev.slotNow ∧
    (p15At 100000 .imageDue).dev.boot.phase = .imageDue ∧ (p15At 100000 .up).dev.image = some im := by decide +kernel

/-- A half of profile 2 that holds the image and no record. -/
def half15 : Half :=
  ⟨[0x4D, 0x4A, 0x50, 0x46] ++ toLE 2 0x0100 ++ [2, 0] ++ toLE 4 1 ++ toLE 4 0 ++ toLE 4 256 ++ toLE 4 9 ++
    List.replicate 12 0 ++ toLE 4 0 ++ toLE 4 3056219637 ++ toLE 4 353750963, [], img15⟩
def p15Profile (o : FlashOp) : State :=
  let s := p15 [] fun w => { w with op := some o }
  ⟨{ s.dev with flash := s.dev.flash.setHalf 2 0 half15 }, []⟩

/-- An object that the store does not list stays unlisted at its default. -/
theorem store_erase_absent (k : Nat) (o : ObjStore) (h : o.find k = none) : ObjStore.erase k o = o := by
  induction o with
  | nil => rfl
  | cons e r ih =>
    obtain ⟨a, v⟩ := e
    unfold ObjStore.find at h
    unfold ObjStore.erase
    split at h
    · cases h
    · rename_i hne
      simp only [hne, if_false]
      rw [ih h]

/-- A load without records leaves a store that lists no object of a profile as it is. -/
theorem load_without_records (d : Dev) (h : (profileKeys.all fun k => d.objs.find k == none) = true) : d.withValues [] = d := by
  have key : ∀ (l : List Nat) (o : ObjStore), (l.all fun k => o.find k == none) = true →
      l.foldl (fun o k => o.put k (d.loadedVal [] k)) o = o := by
    intro l
    induction l with
    | nil => intro o _; rfl
    | cons k r ih =>
      intro o ho
      rw [List.all_cons, Bool.and_eq_true] at ho
      have hv : d.loadedVal [] k = objDefault k := by
        unfold Dev.loadedVal; split
        · rename_i e; simp at e
        · rfl
      have hp : o.put k (d.loadedVal [] k) = o := by
        rw [hv]; unfold ObjStore.put; rw [if_pos rfl]
        exact store_erase_absent k o (by simpa using ho.1)
      rw [List.foldl_cons, hp]; exact ih o ho.2
  unfold Dev.withValues
  rw [key _ _ h]

/-- The objects that profiles hold have their defaults there, and the defaults meet the joint rules. -/
theorem profile15_set : (profileKeys.all fun k => (p15Profile (.load 2)).dev.objs.find k == none &&
    (((p15Profile (.load 2)).dev.crossOk (k / 256) (k % 256) || (decide (0x3000 ≤ k / 256) && k / 256 % 256 == 0x50 &&
      k % 256 == 0x10 && (p15Profile (.load 2)).dev.arr (k / 256) 0x10 == List.replicate 8 0)) &&
    (p15Profile (.load 2)).dev.streamWriteOk (k / 256) (k % 256) &&
    (decide (k / 256 < 0x3000) || decide (0x3400 ≤ k / 256) || (p15Profile (.load 2)).dev.absent (k / 256) ||
      (p15Profile (.load 2)).dev.portRange (portOfIdx (k / 256)) (k / 256 % 256) (k % 256)
        ((p15Profile (.load 2)).dev.nat (k / 256) (k % 256))))) = true := by decide +kernel

theorem profile15_find :  (profileKeys.all fun k => (p15Profile (.load 2)).dev.objs.find k == none) = true := by
  have h := profile15_set
  rw [List.all_eq_true] at h ⊢
  intro k hk; have := h k hk; rw [Bool.and_eq_true] at this; exact this.1

theorem profile15_setOk : (p15Profile (.load 2)).dev.setOk = true := by
  have h := profile15_set
  unfold Dev.setOk
  rw [List.all_eq_true] at h ⊢
  intro k hk; have := h k hk; rw [Bool.and_eq_true] at this; exact this.2

theorem profile15_rest : (p15Profile (.load 2)).dev.flash.empty 2 = false ∧ (p15Profile (.load 2)).dev.flash.newest 2 = some 0 ∧
    recordsOf ((p15Profile (.load 2)).dev.flash.half 2 0).records.length ((p15Profile (.load 2)).dev.flash.half 2 0).records = some [] ∧
    (p15Profile (.load 2)).dev.checkImage ((p15Profile (.load 2)).dev.flash.half 2 0).image = .accepted (parseImage img15 true) := by
  decide +kernel

theorem test_wit_profile_good :
    (p15Profile (.load 2)).dev.readProfile 2 = .good [] (parseImage img15 true) := by
  obtain ⟨h0, h1, h2, h3⟩ := profile15_rest
  unfold Dev.readProfile
  rw [h0, if_neg (by simp), h1]
  simp only []
  rw [h2]
  simp only [List.all_nil]
  rw [load_without_records _ profile15_find, profile15_setOk, h3]
  simp

/-- Profile 2 with one bit of its header turned over. -/
def p15Broken (o : FlashOp) : State :=
  let s := p15Profile o
  ⟨{ s.dev with flash := s.dev.flash.setHalf 2 0 { half15 with header := 0 :: half15.header.drop 1 } }, []⟩
def bytes15 : HalfBytes := ⟨[1], [2], [3]⟩

theorem test_wit_profiles :
    (p15Cmd 0x1401 2 id).dev.published = [⟨objKey 0x1401 0, .num 2, 0, 0⟩] ∧
    (p15Profile (.load 2)).dev.wr.op = some (.load 2) ∧ (p15Profile (.load 2)).dev.powered = true ∧
    (p15Broken (.load 2)).dev.readProfile 2 = .bad 2 none ∧ (p15Profile (.load 3)).dev.readProfile 3 = .bad 1 none ∧
    (p15 [] id).dev.wr.op = none ∧ (p15Cmd 0x1402 2 id).dev.published = [⟨objKey 0x1402 0, .num 2, 0, 0⟩] ∧
    (p15Cmd 0x1403 2 id).dev.published = [⟨objKey 0x1403 0, .num 2, 0, 0⟩] ∧
    (p15Profile (.save 2 1 half15)).dev.wr.op = some (.save 2 1 half15) ∧
    2 * 2 + 1 < (p15Profile (.save 2 1 half15)).dev.flash.halves.length ∧
    (⟨bytes15.header, bytes15.records, bytes15.image⟩ : Half).valid 2 = false ∧
    (p15Profile (.erase 2)).dev.wr.op = some (.erase 2) := by decide +kernel

/-- A save, captured, programmed and loaded again, gives profile 2 its second half. -/
theorem test_save_alternates_halves :
    (p15Profile (.load 2)).dev.flash.spareHalf 2 = 1 ∧ (p15 [] id).dev.flash.spareHalf 2 = 0 := by decide +kernel

def p15Record : State := p15 [] fun w => { w with recDue := [job 0x121000 (List.replicate 16 1)] }
def p15Op (o : FlashOp) : State := p15 [1, 2] fun w => { w with op := some o }

theorem test_wit_records_and_banks :
    p15Record.dev.wr.recDue = [job 0x121000 (List.replicate 16 1)] ∧ (job 0x121000 []).change ≠ none ∧
    p15Record.dev.powered = true ∧ (p15Op .bankErase).dev.wr.op = some .bankErase ∧
    (p15Op .bankCheck).dev.wr.op = some .bankCheck ∧
    (p15Cmd 0x1411 1 id).dev.published = [⟨objKey 0x1411 0, .num 1, 0, 0⟩] ∧
    (p15Cmd 0x1412 1 id).dev.published = [⟨objKey 0x1412 0, .num 1, 0, 0⟩] := by decide +kernel

/-- The fuse controller in another state. -/
def p15Otp (f : Otp → Otp) (g : Fuses → Fuses) : State := st fun d => { d with otp := f d.otp, fuses := g d.fuses }
def end15 (verified windowLeft spareOk : Bool) : OtpEnd := ⟨0x0F, 0, verified, windowLeft, spareOk, false, false, false⟩
/-- Region 1 programmed with zero words and their integrity word. -/
def locked15 (f : Fuses) : Fuses :=
  { f with words := wordSet f.words 10 3971697493#32, closed := [10] }
def reply15 : Reply := ⟨1, who8, ⟨host6, 5000⟩, 7, [], 1, 1, 0⟩
def p15Reread (t : Nat) : State :=
  let s := p15Otp (fun o => { o with reread := t }) id
  ⟨s.dev.setLane .a { lane with slots := 20000000 }, []⟩

theorem test_wit_fuses :
    (p15Cmd 0x2402 0 id).dev.published = [⟨objKey 0x2402 0, .num 0, 0, 0⟩] ∧
    (p15Otp (fun o => { o with op := some (.program 5 0xFF#32) }) id).dev.otp.op = some (.program 5 0xFF#32) ∧
    (st id).dev.powered = true ∧ (st id).dev.devFaulted .commonOtp = false ∧ (end15 true false false).windowLeft = false ∧
    (end15 true true false).windowLeft = true ∧ (st id).dev.otp.left = false ∧
    (end15 true false false).verified = true ∧ (end15 false false true).verified = false ∧
    (end15 false false true).spareOk = true ∧ (st id).dev.fuses.spares < 32 := by decide +kernel

theorem test_wit_locks_and_reads :
    (p15Cmd 0x2403 1 id).dev.published = [⟨objKey 0x2403 0, .num 1, 0, 0⟩] ∧
    (p15Otp (fun o => { o with op := some (.lock 1) }) locked15).dev.otp.op = some (.lock 1) ∧
    ((locked15 (st id).dev.fuses).readWords (regionWords 1) [] []).lockTest 1 [] = true ∧
    ((locked15 (st id).dev.fuses).readWords (regionWords 1) [6] []).lockTest 1 [6] = false ∧ (st id).dev.otp.left = false ∧
    (p15Reread 0).dev.otp.reread + 20000000 ≤ (p15Reread 0).dev.slotNow ∧
    (p15Reread 0).dev.mode = 4 ∧
    (p15Otp (fun o => { o with waits := [(reply15, 5, 6)] }) id).dev.otp.waits = [(reply15, 5, 6)] ∧
    ((p15Otp (fun o => { o with waits := [(reply15, 5, 6)] }) id).dev.reqPort (originOf reply15.origin)).tx.length <
      txRoom (originOf reply15.origin) := by decide +kernel

/-! ### Serial ports and freeze -/

/-- The chain port in another state, with frames of 32 bits and a unit of 16, enabled in register mode. -/
def p16 (f : Chain → Chain) : State := st fun d =>
  let d := ((((d.put 0x2300 1 1).put 0x2300 2 0).put 0x2300 3 32).put 0x2300 4 16)
  { d with chain := f { d.chain with enable := true, frameLen := 32, unitLen := 16 } }
def p16Low (pel : Bool) : State := p16 fun c => { c with low := true, pelnak := pel, window := List.replicate 16 false }
def p16Rising : State := p16 fun c => { c with low := true, rising := true, rstb := true, window := List.replicate 16 false }
/-- A frame of 64 edges whose last bits are a number's. -/
def p16Bits (n v : Nat) : List Bool := List.replicate (n - 16) true ++ bitsBE 16 v
def p16Unit (asm : Option (List Byte)) (u : List Byte) : State := p16 fun c =>
  { c with link := { c.link with asm := asm, inbound := some u } }

theorem test_wit_chain_frames :
    (p16 id).dev.powered = true ∧ (p16 id).dev.chain.low = false ∧ (p16Low true).dev.chain.low = true ∧
    (p16Low true).dev.chain.enable = true ∧ (p16 fun c => { c with low := true, enable := false }).dev.chain.enable = false ∧
    (p16 id).dev.num 0x2300 1 = 1 ∧ (p16 id).dev.num 0x2300 2 ≠ 1 ∧ frameCause false 32 64 = none ∧
    frameCause false 32 63 = some 1 ∧ frameCause false 32 65 = some 2 ∧ frameCause true 32 64 = some 3 ∧
    (p16Low true).dev.chain.window ≠ [] ∧ (p16Low true).dev.chain.rising = false ∧ (p16Low true).dev.tap.bscan = false ∧
    p16Rising.dev.chain.rising = true ∧ p16Rising.dev.chain.sck = false ∧ p16Rising.dev.chain.window ≠ [] ∧
    unitBad [0x90, 7] = false ∧ unitBad [0x91, 7] = true := by decide +kernel

theorem test_wit_chain_units :
    (p16Unit none [0x90, 7]).dev.chain.link.inbound = some [0x90, 7] ∧ leNat (([0x90, 7] : List Byte).take 1) / 64 = 2 ∧
    unitBad [0x50, 7] = false ∧ leNat (([0x50, 7] : List Byte).take 1) / 64 = 1 ∧
    (p16Unit (some [1]) [0x50, 7]).dev.chain.link.asm = some [1] ∧ unitBad [0xC0, 0] = false ∧
    leNat (([0xC0, 0] : List Byte).take 1) / 64 = 3 ∧ pduLen (List.replicate 15 0 ++ [7]) ≤ 16 := by decide +kernel

/-- The device frozen, in RUN. -/
def p16Frozen (f : Freeze → Freeze) (g : Dev → Dev) : State := st fun d =>
  g { d with frozen := true, frz := f { d.frz with resumable := true } }
def p16Slots (x : Nat) : State := p16Frozen id fun d =>
  { d with flash := { d.flash with captures := List.replicate 3 ⟨x, [], []⟩ } }
def p16Erase : State := st fun d => { d with wr := { d.wr with erasing := [2] } }

theorem test_wit_freeze :
    (st id).dev.frozen = false ∧ (st id).dev.boot.lullLow = false ∧ (p10Lull (st id)).dev.boot.lullLow = true ∧
    ((st id).dev.mode = 4 ∧ (st id).dev.num 0x2700 1 ≠ 1) ∧
    (st fun d => d.put 0x2700 1 1).dev.num 0x2700 1 = 1 ∧ (st (inMode 3)).dev.mode ≠ 4 ∧ (st (inMode 3)).dev.mode ≠ 5 ∧
    (st (pubN 0x2701 0 1)).dev.published = [⟨objKey 0x2701 0, .num 1, 0, 0⟩] ∧ (st id).dev.boot.phase ≠ .low ∧
    (p16Slots 0).dev.frozen = true ∧ (p16Slots 0).dev.frz.readDone = false ∧ (p16Slots 0).dev.frz.running = false ∧
    (p16Slots 0).dev.frz.done = false ∧ (p16Slots 0).dev.frz.full = false ∧
    (p16Slots 0).dev.devFaulted .commonFlash = false ∧ (p16Slots 0).dev.flash.captureFor = some 1 ∧
    (p16Slots 2).dev.flash.captureFor = none ∧
    (p16Frozen (fun z => { z with running := true, slot := 1 }) id).dev.frz.slot - 1 < (st id).dev.flash.captures.length ∧
    (st (pubN 0x2712 0 2)).dev.published = [⟨objKey 0x2712 0, .num 2, 0, 0⟩] ∧
    (st id).dev.flash.captures[1]? = some Capture.atReset ∧ p16Erase.dev.wr.erasing = [2] ∧
    2 - 1 < p16Erase.dev.flash.captures.length := by decide +kernel

def trace16 : TraceRec := ⟨1, 0, 4, 0, 0, 1, 5, 0, 0, [], 0, 0⟩
def p16Trace : State := st fun d => { d with wr := { d.wr with traceQ := [trace16] } }

theorem test_wit_traces_and_consent :
    p16Trace.dev.wr.traceQ = [trace16] ∧ p16Trace.dev.powered = true ∧ p16Trace.dev.devFaulted .commonFlash = false ∧
    (st (pubN 0x2730 1 1)).dev.published = [⟨objKey 0x2730 1, .num 1, 0, 0⟩] ∧
    (st (pubN 0x2730 1 0)).dev.published = [⟨objKey 0x2730 1, .num 0, 0, 0⟩] ∧ (st id).dev.wr.traceQ = [] := by decide +kernel

theorem test_wit_debug :
    (p10Low .low 1 id).dev.boot.phase = .low ∧ (p10Low .low 1 id).dev.powered = false ∧
    (p16Frozen id id).dev.frz.resumable = true ∧ (p16Frozen id id).dev.frz.torn = false ∧
    (p16Frozen id id).dev.tap.dumpAddr + 4 < 2 ^ 32 ∧
    (p16Frozen (fun z => { z with resumable := false }) id).dev.frz.resumable = false ∧ (st id).dev.boot.phase ≠ .held ∧
    tapCodes.contains (0xFF % 256) = false ∧ tapCodes.contains (1 % 256) = true ∧
    unitBad (toLE 4 0x90070000).reverse = false ∧ leNat ((toLE 4 0x90070000).reverse.take 1) / 64 = 2 := by decide +kernel

/-! ### Operands in range, the queue, and what the statements about the whole machine need -/

/-- One command for each check of its operands, each just outside. -/
def illFormed1 : List Instr :=
  let e0 : EngineId := ⟨.m1, .e0⟩
  let i : Src := .imm 0#32
  [.slotBoundary .a 0 ⟨256, ⟨false, false, false⟩⟩, .alu e0 200 .and 0 i i i, .alu e0 0 (.saturate 0) 0 i i i, .alu e0 0 (.saturate 33) 0 i i i,
   .multiply e0 200 (.mul true) 0 i i i, .multiply e0 0 (.mulQ 32 true) 0 i i i, .sineCosine e0 200 0 1 i,
   .divideSquareRoot e0 200 false false 0 i i, .scratchpadAccess e0 200 (.load 0) false 0 .none,
   .scratchpadAccess e0 0 (.load 0) false 8192 .none, .scratchpadAccess e0 0 (.load 0) true 8191 .none,
   .sharedSramAccess e0 1 (.load 0) 0 .none, .sharedSramAccess e0 198 (.load 0) 0 .none,
   .sharedSramAccess e0 0 (.load 0) 524288 .none, .stagePortAccess e0 200 (.read .current 0),
   .stagePortAccess e0 0 (.record .g0 16 0),
   .stagePortAccess e0 0 (.writeSetpoint 0 0 0 0 false), .stagePortAccess e0 0 (.writeAngle 0 0 0 0 false),
   .stagePortAccess ⟨.m1, .e1⟩ 0 (.writeDuty 0 0 0 0 false), .stagePortAccess e0 0 (.writeDuty 65536 0 0 0 false),
   .stagePortAccess ⟨.m1, .e1⟩ 0 (.writeAngle 16384 0 0 0 false), .stagePortAccess ⟨.m1, .e2⟩ 0 (.writeSetpoint 0 0 0 65536 false),
   .crosswindSend .m1 200 0 0 0 0 0 0 0 0 0 0, .crosswindSend .m1 0 16384 0 0 0 0 0 0 0 0 0,
   .crosswindSend .m1 0 0 256 0 0 0 0 0 0 0 0, .crosswindSend .m1 0 0 0 0 0 0 0 0 256 0 0,
   .crosswindSend .m1 0 0 0 0 0 0 0 0 0 65536 0, .branch e0 200 true 0, .branch e0 0 true 2048, .loopSetUp e0 200 false 1,
   .loopSetUp e0 0 false 0, .loopSetUp e0 0 false 65537]
def illFormedKernels : List Instr :=
  ([.kIin, .kAngIn, .kVbusIn, .kClarke, .kPark, .kPiDq, .kDecouple, .kMtpa, .kFwVlim, .kIpark, .kOvm, .kDtcomp, .kSvm7, .kSvm5,
    .kZvv, .kHfiInj, .kDutyOut, .kQepIn, .kHallIn, .kHallInterp, .kSentIn, .kAngScale, .kSpdEst, .kObsBemf, .kObsHfi, .kObsBlend,
    .kPllAng, .kAlign, .kIfRamp, .kHandover, .kFlyCatch, .kRotorLoss, .kAngOut, .kProcIn, .kRamp, .kScurve, .kSpdPi, .kTrqSet,
    .kLimBudget, .kCheckDq, .kXwExch, .kXwPlaus, .kSupervise, .kSetOut, .kStatusOut, .kStopSeq] :
    List (PortId → Nat → Instr)).map fun k => k .m1 200
def illFormed2 : List Instr :=
  let bad : CurSample := ⟨16384, 0, false, false⟩
  let mac5 : List Byte := [0, 0, 0, 0, 0]
  let ip4 : List Byte := [10, 0, 0, 1]
  [.engineTimingFault ⟨.m1, .e0⟩ (.unplaced 200), .engineTimingFault ⟨.m1, .e0⟩ (.marker false 1 0 200 0),
   .engineTimingFault ⟨.m1, .e0⟩ (.absent false 1 0 200), .carrierPeriodStart .m1 ⟨[bad], [], 0, 0, 0, []⟩,
   .overcurrentTrip .m1 [⟨0, bad⟩], .csCalibrationEnd .m1 ⟨2048 * 16383 + 1, 0, 0, 0, 0, 0⟩, .ascRelease .m1 [16384],
   .chopperEngage .m1 200 0, .chopperRelease .a 200 0 0, .chopperDrainCheck .a 200 0, .chopperEffectCheck .a 200 0 0,
   .nonmemberOv2 .m1 200 0, .nonmemberOv2Withdraw .m1 200 0, .escalationDelay .m1 200 0,
   .quadratureEdge .m1 ⟨true, 0⟩ ⟨true, 1⟩ 0, .quadratureEdge .m1 ⟨true, 1⟩ ⟨true, 2 ^ 32⟩ 0,
   .quadratureEdge .m1 ⟨true, 1⟩ ⟨true, 1⟩ 50, .indexEvent ⟨.m1, ⟨true, 0⟩⟩, .hallStateChange .m1 ⟨⟨true, 1⟩, ⟨true, 1⟩, ⟨true, 0⟩⟩ 0,
   .hallStateChange .m1 ⟨⟨true, 1⟩, ⟨true, 1⟩, ⟨true, 1⟩⟩ 50, .sentFrameReceived .m1 ⟨none, 56, [0], 50, 1⟩,
   .sentFrameReceived .m1 ⟨none, 56, [0], 0, 0⟩, .sentFrameReceived .m1 ⟨none, 56, [0], 0, 2 ^ 32⟩,
   .crosswindRecordArrival .m1 200, .gcConversionComplete .g0 ⟨0, 16384⟩, .gcConversionComplete .g0 ⟨0, -16384⟩,
   .gcCalibrationEnd .g0 ⟨768 * 16383 + 1, 0, 0, 0, 0, 0⟩, .resetRelease true true 8 ⟨[], [], [], 0⟩ true true,
   .resetRelease true true 0 ⟨[(512, 0)], [], [], 0⟩ true true, .syncReceived .n1 ⟨256, 0, 0, true, 0, 0, 0, 0⟩ 0,
   .followUpReceived .n1 ⟨0, 0, 65536, true, 0, 0, 0, 0⟩, .announceReceived .n1 ⟨256, 0, mac6, [], 0, 0⟩,
   .announceReceived .n1 ⟨0, 0, mac5, [], 0, 0⟩, .pdelayReqReceived .n1 (2 ^ 80) 0 0 0, .pdelayReqReceived .n1 0 65536 0 0,
   .pdelayRespReceived .n1 ⟨mac5, 0, 0, 0⟩ 0, .timedActionArm 0, .timedActionArm 33, .timedActionCancel 0, .syncPulse 33,
   .syncPulseEnd 4, .syncPulseEnd 24, .applyValue 0, .reanchorCarrierGrid 0, .timedModeRequest 33, .requestArrival .n1 ⟨mac5, ip4, ip4, 0, 0, false⟩ (0) [],
   .requestArrival .n1 ⟨mac6, mac5, mac5, 0, 0, false⟩ (0) [], .requestArrival .n1 ⟨mac6, ip4, host6, 0, 0, false⟩ (0) [],
   .requestArrival .n1 ⟨mac6, ip4, ip4, 65536, 0, false⟩ (0) [], .requestArrival .n1 ⟨mac6, ip4, ip4, 0, 65536, false⟩ (0) [],
   .requestArrival .n3 ⟨mac6, ip4, ip4, 0, 0, false⟩ (2 ^ 29) [], .openExpiry 0, .sessionTimeout 65536,
   .streamFrameArrival .n3 ⟨mac6, ip4, ip4, 0, 0, false⟩ (2 ^ 29) [], .echoRequest .n1 ⟨mac5, ip4, ip4, 0, 0, false⟩ [],
   .streamTimeout 16, .streamTransmit 16, .arpRequest .n1 mac5 0,
   .arpRequest .n1 mac6 (2 ^ 32), .neighbourSolicitation .n1 mac6 [],
   .ipv4LinkLocalClaim .n1 (2 ^ 32) false, .otpProgramComplete { end15 true false true with pulsed := 2 ^ 32 },
   .otpProgramComplete { end15 true false true with checks := 128 }, .otpLockComplete ⟨[512], [], 0⟩ (end15 true false true),
   .otpLockComplete ⟨[], [16], 0⟩ (end15 true false true), .safeStateCommand .m1 400, .otpPeriodicReread ⟨[], [512], [], 0⟩ true, .ordinaryWordsRead [512],
   .chainCsnRise false 64 [true], .dumpAddr (2 ^ 32), .extest [] [], .samplePreload [] [], .bypass 256 false, .obj 32 (2 ^ 128)]

theorem test_ill_formed_refused :
    ((illFormed1 ++ illFormedKernels ++ illFormed2).any Instr.wf) = false := by decide +kernel

theorem test_boundary_operands_accepted :
    (([.slotBoundary .a 199 ⟨255, ⟨true, true, true⟩⟩, .scratchpadAccess ⟨.m1, .e0⟩ 199 (.load 0) true 8190 .none, .kIin .m1 199, .bypass 255 true,
      .sharedSramAccess ⟨.m1, .e0⟩ 192 (.load 0) 524287 .none, .timedActionArm 32, .syncPulseEnd 23, .hallStateChange .m1 ⟨⟨true, 1⟩, ⟨true, 2 ^ 32 - 1⟩, ⟨false, 1⟩⟩ 49, .requestArrival .n1 (to14 65535) 0 [],
      .stagePortAccess ⟨.m1, .e0⟩ 0 (.record .g3 15 0), .gcConversionComplete .g0 ⟨-40000, 16383⟩, .indexEvent ⟨.m1, ⟨true, 1⟩⟩,
      .multiply ⟨.m1, .e0⟩ 0 (.mulQ 31 true) 0 (.imm 0) (.imm 0) (.imm 0)] : List Instr).all Instr.wf) = true := by decide +kernel

/-- No row of the table has bits. -/
theorem test_no_row_has_bits : decodeTableWord 16 0 = none ∧ decodeTableWord 8 0xFF = none := by decide

theorem test_wit_step :
    (⟨up, [.fzStatus, .idcode]⟩ : State).pending = .fzStatus :: [.idcode] ∧ (⟨up, []⟩ : State).pending = [] := by decide +kernel

/-- What an outcome is: 0 a next state, 1 an engine's access to a word that is not there, 2 a refusal. -/
def kind17 (c : Instr) : Nat :=
  match exec c (st id) with
  | .next _ => 0
  | .fault .noSuchWord => 1
  | .refused _ => 2

theorem test_wit_commands :
    let e0 : EngineId := ⟨.m1, .e0⟩
    Instr.wf (.scratchpadAccess e0 0 (.load 0) false 5 .none) = true ∧
    kind17 (.scratchpadAccess e0 0 (.load 0) false 5 .none) = 0 ∧
    kind17 (.scratchpadAccess e0 0 (.load 0) false 8192 .none) = 1 ∧
    kind17 (.scratchpadAccess e0 0 (.load 0) true 8191 .none) = 1 ∧
    kind17 (.sharedSramAccess e0 0 (.load 0) 524288 .none) = 1 ∧
    Part.changedBy .fuses (.kIin .m1 0) = false ∧ ownPort (.kIin .m1 0) = some .m1 ∧
    unheld (.kIin .m1 0) = false ∧ Instr.wf (.kIin .m1 0) = true ∧ (p16Frozen id id).dev.frozen = true := by decide +kernel

/-- A block whose scratchpad holds a word and whose fuses hold one has the canonical form. -/
def p17 : State := st fun d => { d with fuses := { d.fuses with words := [(5, 7#32)] } }
theorem test_wit_canonical : p17.dev.canonical := by
  refine ⟨by decide +kernel, fun l => by cases l <;> decide +kernel, fun e => ?_, by decide +kernel, by decide +kernel,
    fun l => by cases l <;> decide +kernel⟩
  obtain ⟨p, r⟩ := e
  cases p <;> cases r <;> exact ⟨by decide +kernel, by decide +kernel⟩

/-! ### Rules stated whole -/

theorem test_wit_arithmetic :
    let s := st id
    s.dev.issues ⟨.m1, .e0⟩ 0 .any = true ∧ s.dev.issues ⟨.m1, .e0⟩ 0 .low = true ∧ s.dev.issues ⟨.m1, .e0⟩ 0 .high = true ∧ (s.dev.engine ⟨.m1, .e0⟩).divFree ≤ s.dev.engTick ⟨.m1, .e0⟩ 0 ∧
    ((s.dev.engine ⟨.m1, .e0⟩).src (s.dev.engTick ⟨.m1, .e0⟩ 0) (.imm 5#32)).toInt = 5 ∧
    ((s.dev.engine ⟨.m1, .e0⟩).src (s.dev.engTick ⟨.m1, .e0⟩ 0) (.imm (-5))).toInt = -5 := by decide +kernel

/-- A write of 2000 to M1's over-current level or hard level, in CONFIGURE, where the other is 3000 or 1500. -/
def rHard (sub : Byte) : Request := req 2 7 ([0x30, 0x30, sub, 0] ++ toLE 2 2000)
def p18Hard (sub : Byte) (f : Dev → Dev) : State := ⟨f (inCfg (p14Req (rHard sub) (sess true 3))).dev, []⟩

theorem test_wit_hard_level :
    let s := p18Hard 0xA fun d => d.pput .m1 0x30 8 3000
    s.dev.chosen .n1 = some (0, rHard 0xA) ∧ (rHard 0xA).wellFormed = true ∧ (rHard 0xA).row = 2 ∧
    (rHard 0xA).key = objKey (pidx .m1 0x30) 0xA ∧
    (decodeVal .u16 ((rHard 0xA).payload.drop 4)).toInt = 2000 ∧ ((s.dev.taken .n1 0 (rHard 0xA)).committed 1).pnum .m1 0x30 8 = 3000 ∧
    (s.dev.taken .n1 0 (rHard 0xA)).reqCtx .n1 (rHard 0xA) = some ⟨3, 7, 1, who8⟩ ∧
    (((p18Hard 8 fun d => d.pput .m1 0x30 0xA 1500).dev.taken .n1 0 (rHard 8)).committed 1).pnum .m1 0x30 0xA = 1500 := by
  decide +kernel

theorem test_wit_hard_level_home : (p18Hard 0xA id).dev.atHome .a (rHard 0xA).key := by
  intro h e; left
  have : homeOf ((rHard 0xA).key / 256) = .lane .a := by decide +kernel
  rw [this] at e; cases e; rfl

theorem test_wit_illegal_edge :
    (p7 1 id).dev.frozen = false ∧ true ≠ ((p7 1 id).dev.port .m1).fb.quad.prevA ∧
    true ≠ ((p7 1 id).dev.port .m1).fb.quad.prevB ∧ filtered ((p7 1 id).dev.pnat .m1 0x70 2) false ⟨true, 200⟩ = true := by
  decide +kernel

theorem test_wit_freeze_permission :
    ((st id).dev.committed 1).mode = 4 ∧ (st id).dev.headRes 3 0x2700 1 = .ok ∧ (st id).dev.mode = 4 ∧
    (st fun d => d.put 0x2700 1 1).dev.num 0x2700 1 = 1 ∧ (st id).dev.num 0x2700 1 ≠ 1 := by decide +kernel

/-! ### One state for each further case of a statement -/

def k1Kernel (mode : Int) (k : Nat) : Prop := (fbIn mode id).dev.runs .m1 .e1 k 0 = true ∧ ((fbIn mode id).dev.fbMode .m1 : Int) = mode

theorem test_wit_feedback_modes :
    k1Kernel 1 0x20 ∧ k1Kernel 0 0x20 ∧ k1Kernel 3 0x21 ∧ k1Kernel 0 0x21 ∧ k1Kernel 0 0x22 ∧ k1Kernel 0 0x25 ∧
    (k1HallAt 1002000 0).dev.fbMode .m1 = 3 ∧ k1Sent.dev.fbMode .m1 = 4 ∧
    (let t : State := ⟨k1Sent.dev.pput .m1 0x70 1 0, []⟩
     t.dev.runs .m1 .e1 0x23 0 = true ∧ 5 = formatNibbles (t.dev.pnat .m1 0x70 0xF) ∧ t.dev.fbMode .m1 ≠ 4) := by
  unfold k1Kernel
  decide +kernel

/-- M1 whose engine 0 is in the present frame already. -/
def k0SameFrame : State := m1 fun p => { p with e0 := { p.e0 with frame := (st id).dev.frameStart .m1 } }

theorem test_wit_e0_frames :
    (k0SameFrame.dev.port .m1).e0.frame = k0SameFrame.dev.frameStart .m1 ∧
    (k0Fresh.dev.port .m1).e0.frame ≠ k0Fresh.dev.frameStart .m1 := by decide +kernel

/-- M1 of a failed lane in OFF, its partner driving. -/
def k2Out : State := p8 (fun p => { p with pair := { p.pair with state := 2, record := { p.pair.record with pairByte := 32 } } }) id

theorem test_wit_held_out :
    k2Out.dev.runs .m1 .e2 0x4C 0 = true ∧ k2Out.dev.pstate .m1 = .off ∧ k2Out.dev.heldOut .m1 = true ∧
    mapFind 0x4C (k2Out.dev.port .m1).e2.mo.acted = none := by decide +kernel

/-- Instances whose last tick lies a slot ahead. -/
def laterUnit : State := ⟨p8Sup.dev.onPort .m1 (onPair fun u => { u with exchSlot := 100001, plausSlot := 100001, plausCmd := 100001 }), []⟩
def laterStart : State := ⟨(p5Phase .ramp 2 3).dev.onPort .m1 fun p => { p with e2 := { p.e2 with mo := { p.e2.mo with seqSlot := 10000001 } } }, []⟩

theorem test_wit_last_ticks :
    (p8Sup.dev.port .m1).pair.plausCmd ≤ p8Sup.dev.slotOf .m1 ∧
    laterUnit.dev.slotOf .m1 < (laterUnit.dev.port .m1).pair.plausCmd ∧ 3 ≤ (laterUnit.dev.port .m1).pair.verdictAge ∧
    laterStart.dev.phaseOver .m1 = true ∧ (laterStart.dev.port .m1).e1.start.phase = 2 ∧
    max (laterStart.dev.slotOf .m1) (laterStart.dev.port .m1).e2.mo.seqSlot ≠ laterStart.dev.slotOf .m1 ∧
    max ((p5Phase .ramp 2 3).dev.slotOf .m1) ((p5Phase .ramp 2 3).dev.port .m1).e2.mo.seqSlot =
      (p5Phase .ramp 2 3).dev.slotOf .m1 := by decide +kernel

/-- The auto-run request at its time: accepted, at a full queue, and in a mode that refuses it. -/
def autoFull : State := ⟨{ (p10Auto 100000).dev with wr := { (p10Auto 100000).dev.wr with queue := List.replicate 64 (job 0x282001 [0, 1]) } }, []⟩
def autoRefused : State := ⟨inMode 4 (p10Auto 100000).dev, []⟩

theorem test_wit_auto_run :
    (p10Auto 100000).dev.judge Ctx.internal 0 0x200100 [4] = .ok ∧ (p10Auto 100000).dev.queueRoom = true ∧
    autoFull.dev.queueRoom = false ∧ autoFull.dev.judge Ctx.internal 0 0x200100 [4] = .ok ∧
    autoRefused.dev.judge Ctx.internal 0 0x200100 [4] ≠ .ok := by decide +kernel

theorem test_wit_publication_cases :
    (p11Done (job 0x282001 [0, 1]) 100000).dev.wr.done = [(job 0x282001 [0, 1], 100000)] ∧
    ([Origin.n1, .n2, .n3, .chain, .tap].all fun o => ((st id).dev.reqPort o).arrived.isEmpty) = true ∧ (p11Proc 0x141000 [1]).dev.wr.procs = [⟨0x141000, [1], 7, 1, .a, 100000, false⟩] ∧
    (job 0x282001 [0, 1]).change ≠ none := by decide +kernel

/-- Assemblies of the chain port that a data unit completes, or whose length field is beyond 1024. -/
def asm16 (len : Nat) : List Byte := List.replicate 8 0 ++ toLE 2 len ++ List.replicate 5 0

theorem test_wit_chain_assemblies :
    (let b := asm16 0 ++ [7]; 16 ≤ b.length ∧ leNat (slice b 8 2) ≤ 1024 ∧ pduLen b ≤ b.length) ∧
    (let b := asm16 1025 ++ [7]; 10 ≤ b.length ∧ 1024 < leNat (slice b 8 2)) ∧
    (let b := asm16 4 ++ [7]; leNat (slice b 8 2) ≤ 1024 ∧ b.length < pduLen b) ∧
    (p16 fun c => { c with pelnak := true }).dev.portUp .chain = true := by decide +kernel

/-- Boundary scan in effect. -/
def p10Scan (s : State) : State := ⟨{ s.dev with tap := { s.dev.tap with bscan := true } }, s.pending⟩

theorem test_wit_scan_over_reset :
    (p10Scan p10Reset).dev.tap.bscan = true ∧ (p10Scan p10Wake).dev.tap.bscan = true ∧ p10Reset.dev.tap.bscan = false := by
  decide +kernel

end Sys2Proof.Tests
end

section
/-! SUPPORT. Objects, lists of operations and the profile's keys: what start-up needs beside the laws of the state. -/

namespace Sys2Proof.Machine

/-! ### Objects -/

/-- Writes of other keys leave a key's value. -/
theorem ObjStore.get_foldl_put {ks : List Nat} (f : Nat → ObjVal) {j : Nat} (h : j ∉ ks) (st : ObjStore) :
    (ks.foldl (fun o k => o.put k (f k)) st).get j = st.get j := by
  induction ks generalizing st with
  | nil => rfl
  | cons k ks ih =>
    rw [List.mem_cons, not_or] at h
    rw [List.foldl_cons, ih h.2, ObjStore.get_put_ne _ _ _ _ h.1]

/-- A write leaves the numbers of every other index. -/
theorem Dev.num_putVal_of_idx_ne (d : Dev) {i s j t : Nat} (v : ObjVal) (hij : i ≠ j) (hs : s < 256) (ht : t < 256) :
    (d.putVal i s v).num j t = d.num j t :=
  Dev.num_putVal_ne _ _ _ _ _ _ fun h => hij ((objKey_inj _ _ _ _ ht hs).mp h).1.symm

theorem bitOf_add_two_pow {n k : Nat} (h : bitOf n k = false) : bitOf (n + 2 ^ k) k = true := by
  simp only [bitOf, beq_eq_false_iff_ne, beq_iff_eq] at *
  rw [Nat.add_div_right _ (by positivity)]
  omega

theorem bitOf_sub_two_pow {n k : Nat} (h : bitOf n k = true) : 2 ^ k ≤ n ∧ bitOf (n - 2 ^ k) k = false := by
  simp only [bitOf, beq_eq_false_iff_ne, beq_iff_eq] at *
  have hn : 2 ^ k ≤ n := by
    by_contra hlt
    rw [Nat.div_eq_of_lt (by omega)] at h
    omega
  have hq := Nat.sub_mul_div n (2 ^ k) 1
  rw [Nat.mul_one] at hq
  exact ⟨hn, by omega⟩

@[simp] theorem Dev.bit_putBit_same (d : Dev) (i s k : Nat) (b : Bool) : (d.putBit i s k b).bit i s k = b := by
  unfold Dev.putBit Dev.bit
  rw [Dev.nat, Dev.num_put]
  cases hn : bitOf (d.nat i s) k <;> cases b
  · simp [hn]
  · have he : ((d.nat i s : Int) + 2 ^ k).toNat = d.nat i s + 2 ^ k := by
      rw [← Nat.cast_two, ← Nat.cast_pow, ← Nat.cast_add, Int.toNat_natCast]
    simpa [he] using bitOf_add_two_pow hn
  · obtain ⟨hle, hb⟩ := bitOf_sub_two_pow hn
    have he : ((d.nat i s : Int) - 2 ^ k).toNat = d.nat i s - 2 ^ k := by
      rw [← Nat.cast_two, ← Nat.cast_pow, ← Nat.cast_sub hle, Int.toNat_natCast]
    simpa [← sub_eq_add_neg, he] using hb
  · simp [hn]

/-! ### Lists of operations -/

/-- What every operation of a list keeps, the list keeps. -/
theorem foldl_keeps {α β σ : Type} (g : σ → β) {f : σ → α → σ} {xs : List α}
    (h : ∀ x ∈ xs, ∀ d, g (f d x) = g d) (d : σ) : g (xs.foldl f d) = g d := by
  induction xs generalizing d with
  | nil => rfl
  | cons x xs ih =>
    rw [List.foldl_cons, ih (fun y hy => h y (List.mem_cons_of_mem x hy)), h x List.mem_cons_self]

/-! ### The keys that profiles hold (R386) -/

theorem mem_insertNat {n m : Nat} {xs : List Nat} (h : m ∈ insertNat n xs) : m = n ∨ m ∈ xs := by
  induction xs with
  | nil => simpa [insertNat] using h
  | cons x xs ih =>
    unfold insertNat at h
    split_ifs at h with h1 h2
    · simpa using h
    · exact .inr h
    · rcases List.mem_cons.mp h with h | h
      · exact .inr (h ▸ List.mem_cons_self)
      · exact (ih h).imp_right (List.mem_cons_of_mem _)

theorem mem_of_mem_foldr_insertNat {m : Nat} {xs : List Nat} (h : m ∈ xs.foldr insertNat []) : m ∈ xs := by
  induction xs with
  | nil => exact h
  | cons x xs ih =>
    rcases mem_insertNat h with h | h
    · exact h ▸ List.mem_cons_self
    · exact List.mem_cons_of_mem _ (ih h)

theorem objRows_hi_lt : ∀ r ∈ objRows, r.hi < 256 := by decide +kernel

/-- A profile holds an object of a Configuration row only. -/
theorem config_row_of_mem_profileKeys {k : Nat} (h : k ∈ profileKeys) :
    ∃ r ∈ objRows, r.base = normIdx (k / 256) ∧ r.lo ≤ k % 256 ∧ k % 256 ≤ r.hi ∧ r.cls = .config := by
  obtain ⟨r, hr, h⟩ := List.mem_flatMap.mp (mem_of_mem_foldr_insertNat h)
  obtain ⟨i, hi, h⟩ := List.mem_flatMap.mp h
  obtain ⟨hk, hheld⟩ := List.mem_filter.mp h
  obtain ⟨s, hs, rfl⟩ := List.mem_map.mp hk
  have hbase : normIdx i = r.base := by simpa using (List.mem_filter.mp hi).2
  have hsub := List.mem_range.mp hs
  have hlt := objRows_hi_lt r hr
  have hcls : r.cls = .config := by
    simp only [profileHeld, Bool.and_eq_true, beq_iff_eq] at hheld
    exact hheld.1.1
  have hdiv : objKey i (r.lo + s) / 256 = i := by unfold objKey; omega
  have hmod : objKey i (r.lo + s) % 256 = r.lo + s := by unfold objKey; omega
  exact ⟨r, hr, by rw [hdiv, hbase], by omega, by omega, hcls⟩

end Sys2Proof.Machine
end

section
/-! SUPPORT. What start-up leaves of the clocks: reading the flash and loading the settings changes no slot count, no device
fault and no object of 0x2110 (R24, R288, R309). -/

namespace Sys2Proof.Machine

/-- The clocks as start-up shows them: each lane's slot count and hyperframe index, the device faults, the objects of 0x2110. -/
structure ClockView where
  counts : LaneId → Nat × Nat
  faults : List Nat
  objs : Fin 256 → Int

/-- The clocks of a block. -/
def Dev.clockView (d : Dev) : ClockView :=
  ⟨fun l => ((d.lane l).slots, (d.lane l).hyper), d.devFaults, fun k => d.num 0x2110 k⟩

theorem pidx_ne_clocks (p : PortId) (blk : Nat) : pidx p blk ≠ 0x2110 := by unfold pidx; omega

theorem gcIdx_ne_clocks (g : GcId) (blk : Nat) : gcIdx g blk ≠ 0x2110 := by unfold gcIdx; omega

theorem domIdx_ne_clocks (x : DomId) : domIdx x ≠ 0x2110 := by unfold domIdx; omega

theorem pairIdx_ne_clocks (y : PairId) : pairIdx y ≠ 0x2110 := by unfold pairIdx; omega

/-- No object of 0x2110 is a profile's. -/
theorem clocks_not_mem_profileKeys (k : Fin 256) : objKey 0x2110 k ∉ profileKeys := by
  intro h
  obtain ⟨r, hr, hbase, -, -, hcls⟩ := config_row_of_mem_profileKeys h
  have hnone : ∀ r ∈ objRows, r.cls = .config → r.base ≠ normIdx 0x2110 := by decide +kernel
  have hdiv : objKey 0x2110 k / 256 = 0x2110 := by unfold objKey; omega
  exact hnone r hr hcls (hdiv ▸ hbase)

namespace Dev

/-- The clocks are those of the lanes, the device faults and the objects of 0x2110; everything else may differ. -/
theorem clockView_congr {d e : Dev} (hl : e.lanes = d.lanes) (hf : e.devFaults = d.devFaults)
    (ho : ∀ k : Fin 256, e.num 0x2110 k = d.num 0x2110 k) : e.clockView = d.clockView := by
  simp only [clockView, lane, hl, hf, ho]

theorem clockView_foldl {α : Type} {f : Dev → α → Dev} {xs : List α}
    (h : ∀ x ∈ xs, ∀ d, (f d x).clockView = d.clockView) (d : Dev) : (xs.foldl f d).clockView = d.clockView :=
  foldl_keeps clockView h d

/-! ### Writes of objects -/

@[simp] theorem clockView_putVal (d : Dev) (i s : Nat) (v : ObjVal) (hi : i ≠ 0x2110) (hs : s < 256) :
    (d.putVal i s v).clockView = d.clockView :=
  clockView_congr rfl rfl fun k => num_putVal_of_idx_ne d v hi hs k.isLt

@[simp] theorem clockView_put (d : Dev) (i s : Nat) (v : Int) (hi : i ≠ 0x2110) (hs : s < 256) :
    (d.put i s v).clockView = d.clockView := clockView_putVal d i s _ hi hs

@[simp] theorem clockView_putBit (d : Dev) (i s k : Nat) (b : Bool) (hi : i ≠ 0x2110) (hs : s < 256) :
    (d.putBit i s k b).clockView = d.clockView := clockView_put d i s _ hi hs

@[simp] theorem clockView_inc (d : Dev) (i s : Nat) (hi : i ≠ 0x2110) (hs : s < 256) :
    (d.inc i s).clockView = d.clockView := clockView_put d i s _ hi hs

@[simp] theorem clockView_pput (d : Dev) (p : PortId) (blk s : Nat) (v : Int) (hs : s < 256) :
    (d.pput p blk s v).clockView = d.clockView := clockView_put d _ s v (pidx_ne_clocks p blk) hs

@[simp] theorem clockView_withValues (d : Dev) (recs : List (Nat × List Byte)) :
    (d.withValues recs).clockView = d.clockView := by
  refine clockView_congr (by rw [withValues]) (by rw [withValues]) fun k => ?_
  simp only [num, withValues, ObjStore.get_foldl_put _ (clocks_not_mem_profileKeys k)]

/-! ### Other fields -/

@[simp] theorem clockView_onPort (d : Dev) (p : PortId) (f : Port → Port) : (d.onPort p f).clockView = d.clockView := rfl

@[simp] theorem clockView_onGc (d : Dev) (g : GcId) (f : Gc → Gc) : (d.onGc g f).clockView = d.clockView := rfl

@[simp] theorem clockView_onDom (d : Dev) (x : DomId) (f : TimeDomain → TimeDomain) :
    (d.onDom x f).clockView = d.clockView := rfl

@[simp] theorem clockView_onStream (d : Dev) (s : Nat) (f : Stream → Stream) : (d.onStream s f).clockView = d.clockView := rfl

@[simp] theorem clockView_stamped (d : Dev) : d.stamped.clockView = d.clockView := rfl

@[simp] theorem clockView_with_boot (d : Dev) (b : Boot) : ({ d with boot := b } : Dev).clockView = d.clockView := rfl

@[simp] theorem clockView_with_time_grid (d : Dev) (t : TimeUnit) (g : Grid) :
    ({ d with time := t, grid := g } : Dev).clockView = d.clockView := rfl

/-! ### Journal and flash -/

@[simp] theorem clockView_journalEvent (d : Dev) (c : Ctx) (code key : Nat) (new : List Byte) :
    (d.journalEvent c code key new).clockView = d.clockView := by
  unfold journalEvent
  split
  · rfl
  · simp

@[simp] theorem clockView_journalObjects (d : Dev) : d.journalObjects.clockView = d.clockView := by
  simp [journalObjects]

@[simp] theorem clockView_checkJournal (d : Dev) : d.checkJournal.clockView = d.clockView := by
  unfold checkJournal
  dsimp only
  split
  · rfl
  · split_ifs
    · rfl
    · rfl
    · exact clockView_putBit _ _ _ _ _ (by decide) (by decide)
    · exact clockView_journalEvent ..

@[simp] theorem clockView_startJournal (d : Dev) : d.startJournal.clockView = d.clockView := by
  unfold startJournal
  dsimp only
  split_ifs <;> simp

@[simp] theorem clockView_loadRecord (d : Dev) : d.loadRecord.clockView = d.clockView := by
  unfold loadRecord
  dsimp only
  split_ifs <;> simp

@[simp] theorem clockView_loadBank (d : Dev) : d.loadBank.clockView = d.clockView := by
  unfold loadBank
  dsimp only
  split_ifs <;> simp

@[simp] theorem clockView_putTraces (d : Dev) : d.putTraces.clockView = d.clockView := by
  unfold putTraces
  split <;> simp

@[simp] theorem clockView_putFlashStatus (d : Dev) : d.putFlashStatus.clockView = d.clockView := by
  unfold putFlashStatus
  dsimp only
  split <;> simp

/-! ### Settings -/

@[simp] theorem clockView_detach (d : Dev) {s : Nat} (hs : s < 16) : (d.detach s).clockView = d.clockView := by
  have hi : streamIdx s ≠ 0x2110 := by unfold streamIdx; omega
  unfold detach
  dsimp only
  split_ifs <;> simp [hi, streamEvent]

@[simp] theorem clockView_streamEnabled (d : Dev) {s : Nat} (hs : s < 16) : (d.streamEnabled s).clockView = d.clockView := by
  have hi : streamIdx s ≠ 0x2110 := by unfold streamIdx; omega
  unfold streamEnabled
  split_ifs <;> simp [hi, hs]

@[simp] theorem clockView_comparePairs (d : Dev) : d.comparePairs.clockView = d.clockView := by
  refine clockView_foldl (fun y _ d => ?_) d
  split
  · exact clockView_putBit _ _ _ _ _ (pairIdx_ne_clocks y) (by decide)
  · rfl

@[simp] theorem clockView_putIpv4 (d : Dev) {i : Nat} (hi : i ≠ 0x2110) : (d.putIpv4 i).clockView = d.clockView := by
  simp [putIpv4, hi]

@[simp] theorem clockView_setDomState (d : Dev) (x : DomId) (v : Nat) : (d.setDomState x v).clockView = d.clockView := by
  simp [setDomState, domIdx_ne_clocks]

@[simp] theorem clockView_setAt (d : Dev) (st src : Nat) : (d.setAt st src).clockView = d.clockView := by
  simp [setAt]

@[simp] theorem clockView_atSwitch (d : Dev) (x : DomId) : (d.atSwitch x).clockView = d.clockView := by
  unfold atSwitch
  split_ifs <;> simp

@[simp] theorem clockView_retune (d : Dev) : d.retune.clockView = d.clockView :=
  clockView_put _ _ _ _ (by decide) (by decide)

@[simp] theorem clockView_atSelect (d : Dev) : d.atSelect.clockView = d.clockView := by
  unfold atSelect
  rw [clockView_retune]
  dsimp only
  split
  · split
    · rfl
    · exact clockView_setAt ..
  · split_ifs <;> simp

@[simp] theorem clockView_putLsb (d : Dev) (p : PortId) : (d.putLsb p).clockView = d.clockView :=
  clockView_pput _ _ _ _ _ (by decide)

@[simp] theorem clockView_putRadius (d : Dev) (p : PortId) : (d.putRadius p).clockView = d.clockView :=
  clockView_pput _ _ _ _ _ (by decide)

@[simp] theorem clockView_convert (d : Dev) (p : PortId) : (d.convert p).clockView = d.clockView := rfl

/-- Every settled part of a load, one after the other. -/
@[simp] theorem clockView_afterLoad (d : Dev) : d.afterLoad.clockView = d.clockView := by
  unfold afterLoad
  dsimp only
  rw [clockView_atSelect, clockView_with_time_grid, clockView_foldl, clockView_foldl, clockView_foldl,
    clockView_comparePairs, clockView_foldl]
  · intro p _ d
    simp
  · intro s hs d
    exact clockView_streamEnabled d (List.mem_range.mp hs)
  · intro i hi d
    split
    · rfl
    · exact clockView_putIpv4 d (by rintro rfl; revert hi; decide)
  · intro x _ d
    split_ifs <;> simp

@[simp] theorem clockView_loadSettings (d : Dev) (recs : List (Nat × List Byte)) (n source : Nat) :
    (d.loadSettings recs n source).clockView = d.clockView := by
  unfold loadSettings
  dsimp only
  rw [clockView_with_boot]
  simp

@[simp] theorem clockView_loadFactory (d : Dev) : d.loadFactory.clockView = d.clockView := by
  simp [loadFactory]

@[simp] theorem clockView_loadFallback (d : Dev) : d.loadFallback.clockView = d.clockView := by
  unfold loadFallback
  dsimp only
  split <;> simp

@[simp] theorem clockView_loadSelected (d : Dev) : d.loadSelected.clockView = d.clockView := by
  unfold loadSelected
  dsimp only
  split
  · simp
  · split_ifs <;> simp

@[simp] theorem clockView_startPass (d : Dev) (p : PortId) : (d.startPass p).clockView = d.clockView := by
  unfold startPass
  dsimp only
  split <;> simp

@[simp] theorem clockView_calibratePorts (d : Dev) : d.calibratePorts.clockView = d.clockView :=
  clockView_foldl (fun p _ d => by split <;> simp) d

@[simp] theorem clockView_gcBeginCal (d : Dev) (g : GcId) (clk : Nat) : (d.gcBeginCal g clk).clockView = d.clockView := by
  simp [gcBeginCal, gcIdx_ne_clocks]

@[simp] theorem clockView_calibrateGcs (d : Dev) : d.calibrateGcs.clockView = d.clockView :=
  clockView_foldl (fun g _ d => by dsimp only; split <;> simp) d

/-- The flash at start-up leaves the clocks. -/
theorem clockView_startFlash (d : Dev) : d.startFlash.clockView = d.clockView := by
  refine (clockView_foldl (fun n hn d => ?_) _).trans ?_
  · have := List.mem_range.mp hn
    exact clockView_putVal d _ _ _ (by decide) (by omega)
  · simp

end Dev
end Sys2Proof.Machine
end

section
/-! SUPPORT. The BIST's end and the start of the clocks: which lanes pass, and what the slot counts are then (R24, R288,
R291). -/

namespace Sys2Proof.Machine.Dev

/-- A lane passes its BIST: it works, and its result was no failure. -/
def passesBist (d : Dev) (l : LaneId) : Prop := (d.lane l).alive = true ∧ l ∉ d.boot.bistBad

/-! ### Lanes -/

/-- A change of a lane that keeps its counts leaves the clocks. -/
theorem clockView_onLane (d : Dev) (l : LaneId) (f : Lane → Lane) (hs : (f (d.lane l)).slots = (d.lane l).slots)
    (hh : (f (d.lane l)).hyper = (d.lane l).hyper) : (d.onLane l f).clockView = d.clockView := by
  have hcounts : ∀ m, (((d.onLane l f).lane m).slots, ((d.onLane l f).lane m).hyper) =
      ((d.lane m).slots, (d.lane m).hyper) := fun m => by
    by_cases hm : m = l
    · rw [hm, lane_onLane, hs, hh]
    · rw [lane_onLane_ne _ _ _ _ hm]
  simp only [clockView, hcounts, onLane_devFaults, onLane_num]

/-- A change of a lane that keeps whether it works leaves that of every lane. -/
theorem alive_onLane (d : Dev) (l m : LaneId) (f : Lane → Lane) (h : (f (d.lane l)).alive = (d.lane l).alive) :
    ((d.onLane l f).lane m).alive = (d.lane m).alive := by
  by_cases hm : m = l
  · rw [hm, lane_onLane, h]
  · rw [lane_onLane_ne _ _ _ _ hm]

@[simp] theorem lanes_degradeEvent (d : Dev) (code : Nat) : (d.degradeEvent code).lanes = d.lanes := by
  unfold degradeEvent; split_ifs <;> rfl

@[simp] theorem boot_degradeEvent (d : Dev) (code : Nat) : (d.degradeEvent code).boot = d.boot := by
  unfold degradeEvent; split_ifs <;> rfl

@[simp] theorem devFaults_degradeEvent (d : Dev) (code : Nat) : (d.degradeEvent code).devFaults = d.devFaults := by
  unfold degradeEvent; split_ifs <;> rfl

/-- The event's object is 0x2000.06. -/
theorem num_degradeEvent_of_idx_ne (d : Dev) (code : Nat) {j t : Nat} (hj : j ≠ 0x2000) (ht : t < 256) :
    (d.degradeEvent code).num j t = d.num j t := by
  unfold degradeEvent
  split_ifs
  · rfl
  · exact num_putVal_of_idx_ne d _ hj.symm (by decide) ht

@[simp] theorem clockView_degradeEvent (d : Dev) (code : Nat) : (d.degradeEvent code).clockView = d.clockView :=
  clockView_congr (by simp) (by simp) fun k => num_degradeEvent_of_idx_ne d code (by decide) k.isLt

/-! ### The lanes lost by their BIST (R291) -/

@[simp] theorem clockView_bistLost (d : Dev) (l : LaneId) : (d.bistLost l).clockView = d.clockView := by
  have hsub : laneStateSub l + 2 < 256 := by cases l <;> decide
  have hidx : 0x2800 + l.num ≠ 0x2110 := by omega
  unfold bistLost
  dsimp only
  rw [clockView_degradeEvent, clockView_putBit _ _ _ _ _ hidx (by decide), clockView_put _ _ _ _ (by decide) hsub,
    clockView_put _ _ _ _ (by decide) (by omega), clockView_putBit _ _ _ _ _ (by decide) (by decide),
    clockView_putBit _ _ _ _ _ (by decide) (by decide), clockView_onLane _ _ _ rfl rfl, clockView_onLane _ _ _ rfl rfl]

@[simp] theorem boot_bistLost (d : Dev) (l : LaneId) : (d.bistLost l).boot = d.boot := by simp [bistLost]

/-- Only the lane that failed stops working. -/
theorem alive_bistLost (d : Dev) (l m : LaneId) :
    ((d.bistLost l).lane m).alive = ((d.lane m).alive && decide (m ≠ l)) := by
  have hlanes : (d.bistLost l).lane m = (((d.onLane l fun x => { x with alive := false }).onLane l.other
      fun x => { x with otherLost := true }).lane m) := by simp [bistLost, lane]
  rw [hlanes, alive_onLane]
  · by_cases hm : m = l
    · simp [hm]
    · simp [hm, lane_onLane_ne]
  · rfl

theorem alive_foldl_bistLost (ls : List LaneId) (d : Dev) (m : LaneId) :
    ((ls.foldl (fun d l => d.bistLost l) d).lane m).alive = true ↔ (d.lane m).alive = true ∧ m ∉ ls := by
  induction ls generalizing d with
  | nil => simp
  | cons l ls ih => simp [ih, alive_bistLost, and_assoc]

/-- After the BIST step the lanes that pass it work. -/
theorem alive_bistEnds (d : Dev) (l : LaneId) : (d.bistEnds.lane l).alive = true ↔ d.passesBist l :=
  alive_foldl_bistLost d.boot.bistBad d l

@[simp] theorem clockView_bistEnds (d : Dev) : d.bistEnds.clockView = d.clockView :=
  clockView_foldl (fun _ _ d => clockView_bistLost d _) d

/-! ### The slot counts -/

/-- Both lanes' slot counts and hyperframe indices at 0. -/
def zeroCounts (d : Dev) : Dev :=
  [LaneId.a, .b].foldl (fun d l => d.onLane l fun x => { x with slots := 0, hyper := 0 }) d

theorem passesBist_zeroCounts (d : Dev) (l : LaneId) : d.zeroCounts.passesBist l ↔ d.passesBist l := by
  have halive : (d.zeroCounts.lane l).alive = (d.lane l).alive := by
    simp only [zeroCounts, List.foldl_cons, List.foldl_nil]
    rw [alive_onLane _ _ _ _ rfl, alive_onLane _ _ _ _ rfl]
  rw [passesBist, halive]
  rfl

theorem clockView_zeroCounts (d : Dev) : d.zeroCounts.clockView = { d.clockView with counts := fun _ => (0, 0) } := by
  simp only [clockView, ClockView.mk.injEq]
  refine ⟨funext fun l => ?_, rfl, rfl⟩
  cases l
  · simp [zeroCounts, lane_onLane_ne]
  · simp [zeroCounts]

/-- The block with other start-up data. -/
def withBoot (d : Dev) (b : Boot) : Dev := { d with boot := b }

/-- The block in another start-up phase. -/
def inPhase (d : Dev) (φ : BootPhase) : Dev := d.withBoot { d.boot with phase := φ }

/-- The start of the clocks, by the lanes that pass their BIST. -/
theorem startClocks_eq (d : Dev) : d.startClocks =
    if (d.zeroCounts.bistEnds.lane .a).alive || (d.zeroCounts.bistEnds.lane .b).alive then
      d.zeroCounts.bistEnds.startFlash.inPhase .clocked
    else d.zeroCounts.bistEnds.inPhase .halted := by
  unfold startClocks zeroCounts inPhase withBoot
  with_reducible rfl

/-- The clocks start with counts at 0 and leave the rest of them. -/
theorem clockView_startClocks (d : Dev) :
    d.startClocks.clockView = { d.clockView with counts := fun _ => (0, 0) } := by
  rw [startClocks_eq]
  split_ifs
  · rw [inPhase, withBoot, clockView_with_boot, clockView_startFlash, clockView_bistEnds, clockView_zeroCounts]
  · rw [inPhase, withBoot, clockView_with_boot, clockView_bistEnds, clockView_zeroCounts]

theorem startClocks_condition (d : Dev) :
    ((d.zeroCounts.bistEnds.lane .a).alive || (d.zeroCounts.bistEnds.lane .b).alive) = true ↔ ∃ l, d.passesBist l := by
  rw [Bool.or_eq_true, alive_bistEnds, alive_bistEnds, passesBist_zeroCounts, passesBist_zeroCounts]
  constructor
  · rintro (h | h)
    · exact ⟨.a, h⟩
    · exact ⟨.b, h⟩
  · rintro ⟨l, h⟩
    cases l
    · exact .inl h
    · exact .inr h

/-- With a lane that passes its BIST start-up goes on. -/
theorem phase_startClocks_of_pass {d : Dev} (h : ∃ l, d.passesBist l) : d.startClocks.boot.phase = .clocked := by
  rw [startClocks_eq, if_pos ((startClocks_condition d).mpr h), inPhase, withBoot]

/-- Without a lane that passes its BIST start-up halts. -/
theorem phase_startClocks_of_no_pass {d : Dev} (h : ∀ l, ¬ d.passesBist l) : d.startClocks.boot.phase = .halted := by
  rw [startClocks_eq, if_neg (mt (startClocks_condition d).mp (not_exists.mpr h)), inPhase, withBoot]

/-- Every lane counts from 0 after the start of the clocks. -/
theorem counts_startClocks (d : Dev) (l : LaneId) :
    (d.startClocks.lane l).slots = 0 ∧ (d.startClocks.lane l).hyper = 0 :=
  Prod.ext_iff.mp (congrFun (congrArg ClockView.counts (clockView_startClocks d)) l)

theorem num_clocks_startClocks (d : Dev) {k : Nat} (hk : k < 256) : d.startClocks.num 0x2110 k = d.num 0x2110 k :=
  congrFun (congrArg ClockView.objs (clockView_startClocks d)) ⟨k, hk⟩

theorem devFaults_startClocks (d : Dev) : d.startClocks.devFaults = d.devFaults :=
  congrArg ClockView.faults (clockView_startClocks d)

end Sys2Proof.Machine.Dev
end

section
/-! SUPPORT. The decision on the root clock: what the qualified root and the timeout write before the clocks start (R288, R291,
R302, R309). -/

namespace Sys2Proof.Machine

namespace Dev

theorem passesBist_congr {d e : Dev} {l : LaneId} (ha : (e.lane l).alive = (d.lane l).alive)
    (hb : e.boot.bistBad = d.boot.bistBad) : e.passesBist l ↔ d.passesBist l := by
  rw [passesBist, ha, hb, passesBist]

/-- Which lane clocks the common domain follows from which lanes work and from lane A's state. -/
theorem clkLane_congr {d e : Dev} (ha : (e.lane .a).alive = (d.lane .a).alive)
    (hs : e.num 0x2500 1 = d.num 0x2500 1) : e.clkLane = d.clkLane := by
  have hlost : e.laneLost .a = d.laneLost .a := congrArg (· == (1 : Int)) hs
  rw [clkLane, clkLane, ha, hlost]

/-! ### The measurement of the LFO (R302) -/

/-- One lane's count of the measurement, where the lane works. -/
def noteLfo (d : Dev) (l : LaneId) (n : Nat) : Dev :=
  if (d.lane l).alive then d.onLane l fun x => { x with mon := { x.mon with lfoCount := n } } else d

theorem measureLfo_eq (d : Dev) (na nb : Nat) :
    let e := (d.noteLfo .a na).noteLfo .b nb
    d.measureLfo na nb = e.put 0x2110 0xA (lfoMilliHz (e.lane e.clkLane).mon.lfoCount) := rfl

@[simp] theorem alive_noteLfo (d : Dev) (l m : LaneId) (n : Nat) : ((d.noteLfo l n).lane m).alive = (d.lane m).alive := by
  unfold noteLfo
  split_ifs
  · exact alive_onLane _ _ _ _ rfl
  · rfl

@[simp] theorem boot_noteLfo (d : Dev) (l : LaneId) (n : Nat) : (d.noteLfo l n).boot = d.boot := by
  unfold noteLfo; split_ifs <;> rfl

@[simp] theorem num_noteLfo (d : Dev) (l : LaneId) (n i s : Nat) : (d.noteLfo l n).num i s = d.num i s := by
  unfold noteLfo; split_ifs <;> rfl

theorem lfoCount_noteLfo {d : Dev} {l : LaneId} (n : Nat) (h : (d.lane l).alive = true) :
    ((d.noteLfo l n).lane l).mon.lfoCount = n := by
  rw [noteLfo, if_pos h, lane_onLane]

theorem lane_noteLfo_ne (d : Dev) {l m : LaneId} (n : Nat) (h : m ≠ l) : (d.noteLfo l n).lane m = d.lane m := by
  unfold noteLfo
  split_ifs
  · exact lane_onLane_ne _ _ _ _ h
  · rfl

@[simp] theorem alive_measureLfo (d : Dev) (na nb : Nat) (l : LaneId) :
    ((d.measureLfo na nb).lane l).alive = (d.lane l).alive := by
  rw [measureLfo_eq, put_lane, alive_noteLfo, alive_noteLfo]

@[simp] theorem boot_measureLfo (d : Dev) (na nb : Nat) : (d.measureLfo na nb).boot = d.boot := by
  rw [measureLfo_eq, put_boot, boot_noteLfo, boot_noteLfo]

/-- The measurement writes 0x2110.0A alone. -/
theorem num_measureLfo_ne (d : Dev) (na nb : Nat) {i s : Nat} (h : objKey i s ≠ objKey 0x2110 0xA) :
    (d.measureLfo na nb).num i s = d.num i s := by
  rw [measureLfo_eq, num_put_ne _ _ _ _ _ _ h, num_noteLfo, num_noteLfo]

/-- The object shows the count of the lane that clocks the common domain. -/
theorem num_measureLfo {d : Dev} (na nb : Nat) (h : (d.lane d.clkLane).alive = true) :
    (d.measureLfo na nb).num 0x2110 0xA = lfoMilliHz (if d.clkLane = .a then na else nb) := by
  have hclk : ((d.noteLfo .a na).noteLfo .b nb).clkLane = d.clkLane :=
    clkLane_congr (by simp) (by simp)
  rw [measureLfo_eq, num_put, hclk]
  cases hl : d.clkLane <;> rw [hl] at h
  · rw [if_pos rfl, lane_noteLfo_ne _ _ (by decide), lfoCount_noteLfo na h]
  · rw [if_neg (by decide), lfoCount_noteLfo nb (by simpa using h)]

/-! ### The root qualified -/

/-- The working lanes on the root. -/
def lanesToRoot (d : Dev) : Dev :=
  [LaneId.a, .b].foldl (fun d l => if (d.lane l).alive then d.put 0x2110 (srcSub l) 1 else d) d

theorem rootClockQualifiedStep_eq {d : Dev} (na nb : Nat) (h : d.boot.phase = .boot) :
    rootClockQualifiedStep na nb d = (((d.put 0x2110 1 1).measureLfo na nb).lanesToRoot).startClocks := by
  rw [rootClockQualifiedStep, if_pos h]
  unfold lanesToRoot
  with_reducible rfl

theorem passesBist_lanesToRoot (d : Dev) (l : LaneId) : d.lanesToRoot.passesBist l ↔ d.passesBist l :=
  passesBist_congr (foldl_keeps (fun d => (d.lane l).alive) (fun _ _ d => by split_ifs <;> rfl) d)
    (foldl_keeps (fun d => d.boot.bistBad) (fun _ _ d => by split_ifs <;> rfl) d)

/-- The switch to the root writes the lanes' sources alone. -/
theorem num_lanesToRoot_ne (d : Dev) {i s : Nat} (h : ∀ l, objKey i s ≠ objKey 0x2110 (srcSub l)) :
    d.lanesToRoot.num i s = d.num i s :=
  foldl_keeps (fun d => d.num i s) (fun l _ d => by
    split_ifs
    · exact num_put_ne _ _ _ _ _ _ (h l)
    · rfl) d

theorem passesBist_qualified (d : Dev) (na nb : Nat) (l : LaneId) :
    (((d.put 0x2110 1 1).measureLfo na nb).lanesToRoot).passesBist l ↔ d.passesBist l :=
  (passesBist_lanesToRoot _ l).trans (passesBist_congr (by simp) (by simp))

theorem num_qualified_clock (d : Dev) (na nb : Nat) :
    (((d.put 0x2110 1 1).measureLfo na nb).lanesToRoot).num 0x2110 1 = 1 := by
  rw [num_lanesToRoot_ne _ fun l => by cases l <;> decide, num_measureLfo_ne _ _ _ (by decide), num_put]

theorem num_qualified_lfo {d : Dev} (na nb : Nat) (h : (d.lane d.clkLane).alive = true) :
    (((d.put 0x2110 1 1).measureLfo na nb).lanesToRoot).num 0x2110 0xA =
      lfoMilliHz (if d.clkLane = .a then na else nb) := by
  have hclk : (d.put 0x2110 1 1).clkLane = d.clkLane :=
    clkLane_congr rfl (num_put_ne _ _ _ _ _ _ (by decide))
  rw [num_lanesToRoot_ne _ fun l => by cases l <;> decide, num_measureLfo na nb (by rw [hclk]; exact h), hclk]

/-! ### The timeout -/

@[simp] theorem lanes_queueTrace (d : Dev) (r : TraceRec) : (d.queueTrace r).lanes = d.lanes := by
  unfold queueTrace; split_ifs <;> rfl

@[simp] theorem boot_queueTrace (d : Dev) (r : TraceRec) : (d.queueTrace r).boot = d.boot := by
  unfold queueTrace; split_ifs <;> rfl

/-- A trace that is lost is counted in 0x2721.02. -/
theorem num_queueTrace_ne (d : Dev) (r : TraceRec) {i s : Nat} (h : objKey i s ≠ objKey 0x2721 2) :
    (d.queueTrace r).num i s = d.num i s := by
  unfold queueTrace
  split_ifs
  · rfl
  · rfl
  · exact num_incBy_ne _ _ _ _ _ _ h

@[simp] theorem lanes_recordDeviceFault (d : Dev) (f : FaultId) : (d.recordDeviceFault f).lanes = d.lanes :=
  lanes_queueTrace ..

@[simp] theorem boot_recordDeviceFault (d : Dev) (f : FaultId) : (d.recordDeviceFault f).boot = d.boot :=
  boot_queueTrace ..

/-- FLT_ROOT_CLOCK raised. -/
theorem deviceFault_rootClock_eq (d : Dev) : d.deviceFault .rootClock =
    if d.devFaulted .rootClock then d
    else (d.recordDeviceFault .rootClock).degradeEvent FaultId.rootClock.code := by
  unfold deviceFault
  rw [if_neg (by decide : ¬ (FaultId.rootClock = .commonFlash ∨ FaultId.rootClock = .commonTime))]

@[simp] theorem lanes_deviceFault_rootClock (d : Dev) : (d.deviceFault .rootClock).lanes = d.lanes := by
  rw [deviceFault_rootClock_eq]; split_ifs <;> simp

@[simp] theorem boot_deviceFault_rootClock (d : Dev) : (d.deviceFault .rootClock).boot = d.boot := by
  rw [deviceFault_rootClock_eq]; split_ifs <;> simp

/-- The fault is listed in its own objects, none of 0x2110. -/
theorem num_clocks_deviceFault_rootClock (d : Dev) {k : Nat} (hk : k < 256) :
    (d.deviceFault .rootClock).num 0x2110 k = d.num 0x2110 k := by
  rw [deviceFault_rootClock_eq]
  split_ifs
  · rfl
  · rw [num_degradeEvent_of_idx_ne _ _ (by decide) hk]
    refine (num_putVal_of_idx_ne _ _ (by decide) (by decide) hk).trans (num_queueTrace_ne d _ ?_)
    unfold objKey
    omega

/-- The fault is active once it is raised. -/
theorem devFaulted_deviceFault_rootClock (d : Dev) : (d.deviceFault .rootClock).devFaulted .rootClock = true := by
  rw [deviceFault_rootClock_eq]
  split_ifs with h
  · exact h
  · rw [devFaulted, devFaults_degradeEvent]
    have hlist : (d.recordDeviceFault .rootClock).devFaults = d.devFaults ++ [FaultId.rootClock.code] :=
      if_neg h
    simp [hlist]

/-- The backup oscillators kept and FLT_ROOT_CLOCK raised. -/
def rootTimedOut (d : Dev) (na nb : Nat) : Dev :=
  ((((d.put 0x2110 4 4).measureLfo na nb).putBit 0x2110 9 3 true).putBit 0x2110 9 0 true).deviceFault .rootClock

theorem rootQualificationTimeoutStep_eq {d : Dev} (na nb : Nat) (h : d.boot.phase = .boot) :
    rootQualificationTimeoutStep na nb d = (d.rootTimedOut na nb).startClocks := by
  rw [rootQualificationTimeoutStep, if_pos h]
  unfold rootTimedOut
  with_reducible rfl

theorem passesBist_timedOut (d : Dev) (na nb : Nat) (l : LaneId) : (d.rootTimedOut na nb).passesBist l ↔ d.passesBist l := by
  refine passesBist_congr ?_ (by simp [rootTimedOut])
  rw [rootTimedOut, lane, lanes_deviceFault_rootClock]
  exact alive_measureLfo _ na nb l

theorem num_timedOut (d : Dev) (na nb : Nat) : (d.rootTimedOut na nb).num 0x2110 4 = 4 := by
  rw [rootTimedOut, num_clocks_deviceFault_rootClock _ (by decide), num_putBit_ne _ _ _ _ _ _ _ (by decide),
    num_putBit_ne _ _ _ _ _ _ _ (by decide), num_measureLfo_ne _ _ _ (by decide), num_put]

end Dev
end Sys2Proof.Machine
end

section
/-! PROOF. The clocks decided, in a waking state (R24, R288, R291, R302). -/

namespace Sys2Proof.Machine

/-- A command whose meaning is one change of a waking block answers with what holds of the changed block. -/
theorem answers_of_awake {c : Instr} {s : State} {f : Dev → Dev} {P : State → Prop} (hs : s.dev.frozen = false)
    (hc : exec c s = .next (s.awake f)) (h : ∀ u : State, u.dev = f s.dev → P u) : Answers c s P :=
  ⟨_, hc, h _ (State.awake_dev _ _ hs)⟩

/-- A change that leaves the block leaves the state. -/
theorem State.awake_of_fixed {s : State} {f : Dev → Dev} (h : f s.dev = s.dev) : s.awake f = s := by
  cases s
  simp_all [State.awake, State.upd]

/-- The root qualified with a lane that passes its BIST. -/
theorem answers_rootClockQualified {s : State} (na nb : Nat) (hs : s.dev.frozen = false) (hp : s.dev.boot.phase = .boot)
    (hl : ∃ l, s.dev.passesBist l) : Answers (.rootClockQualified ⟨na, nb⟩) s fun u =>
      u.dev.boot.phase = .clocked ∧ u.dev.num 0x2110 1 = 1 ∧
      ((s.dev.lane s.dev.clkLane).alive = true →
        u.dev.num 0x2110 0xA = lfoMilliHz (if s.dev.clkLane = .a then na else nb)) ∧
      ∀ l, (u.dev.lane l).slots = 0 ∧ (u.dev.lane l).hyper = 0 := by
  refine answers_of_awake hs rfl fun u hu => ?_
  rw [hu, Dev.rootClockQualifiedStep_eq na nb hp]
  refine ⟨?_, ?_, fun ha => ?_, Dev.counts_startClocks _⟩
  · exact Dev.phase_startClocks_of_pass (hl.imp fun l h => (Dev.passesBist_qualified _ na nb l).mpr h)
  · rw [Dev.num_clocks_startClocks _ (by decide), Dev.num_qualified_clock]
  · rw [Dev.num_clocks_startClocks _ (by decide), Dev.num_qualified_lfo na nb ha]

/-- The root qualified without a lane that passes its BIST. -/
theorem answers_rootClockQualified_halted {s : State} (na nb : Nat) (hs : s.dev.frozen = false)
    (hp : s.dev.boot.phase = .boot) (hl : ∀ l, ¬ s.dev.passesBist l) :
    Answers (.rootClockQualified ⟨na, nb⟩) s fun u => u.dev.boot.phase = .halted := by
  refine answers_of_awake hs rfl fun u hu => ?_
  rw [hu, Dev.rootClockQualifiedStep_eq na nb hp]
  exact Dev.phase_startClocks_of_no_pass fun l => mt (Dev.passesBist_qualified _ na nb l).mp (hl l)

/-- The timeout without a lane that passes its BIST. -/
theorem answers_rootQualificationTimeout_halted {s : State} (na nb : Nat) (hs : s.dev.frozen = false)
    (hp : s.dev.boot.phase = .boot) (hl : ∀ l, ¬ s.dev.passesBist l) :
    Answers (.rootQualificationTimeout ⟨na, nb⟩) s fun u => u.dev.boot.phase = .halted := by
  refine answers_of_awake hs rfl fun u hu => ?_
  rw [hu, Dev.rootQualificationTimeoutStep_eq na nb hp]
  exact Dev.phase_startClocks_of_no_pass fun l => mt (Dev.passesBist_timedOut _ na nb l).mp (hl l)

/-- The timeout with a lane that passes its BIST. -/
theorem answers_rootQualificationTimeout {s : State} (na nb : Nat) (hs : s.dev.frozen = false)
    (hp : s.dev.boot.phase = .boot) (hl : ∃ l, s.dev.passesBist l) :
    Answers (.rootQualificationTimeout ⟨na, nb⟩) s fun u =>
      u.dev.boot.phase = .clocked ∧ u.dev.devFaulted .rootClock = true ∧ u.dev.num 0x2110 4 = 4 ∧
      ∀ l, (u.dev.lane l).slots = 0 ∧ (u.dev.lane l).hyper = 0 := by
  refine answers_of_awake hs rfl fun u hu => ?_
  rw [hu, Dev.rootQualificationTimeoutStep_eq na nb hp]
  refine ⟨?_, ?_, ?_, Dev.counts_startClocks _⟩
  · exact Dev.phase_startClocks_of_pass (hl.imp fun l h => (Dev.passesBist_timedOut _ na nb l).mpr h)
  · rw [Dev.devFaulted, Dev.devFaults_startClocks]
    exact Dev.devFaulted_deviceFault_rootClock _
  · rw [Dev.num_clocks_startClocks _ (by decide), Dev.num_timedOut]

end Sys2Proof.Machine
end

section
/-! PROOF. RESET_RELEASE: the first lane out of its power-on reset reads the fuses and starts the boot ROM (R4, R288, R416,
R466). -/

namespace Sys2Proof.Machine

namespace Dev

/-! ### The variant -/

/-- The variant follows from the shadows alone. -/
theorem variantOf_congr {d e : Dev} (h : e.otp = d.otp) (l : LaneId) : e.variantOf l = d.variantOf l := by
  have hword : e.shadowWord l 0 = d.shadowWord l 0 := by rw [shadowWord, h, shadowWord]
  have hweak : e.shadowWeak l 0 = d.shadowWeak l 0 := by rw [shadowWeak, h, shadowWeak]
  rw [variantOf, variantOf, hword, hweak]

/-- A weak variant word stands for TK4822 (R4). -/
theorem variantCode_of_weak {d : Dev} {l : LaneId} (h : d.shadowWeak l 0 = true) : variantCode (d.variantOf l) = 2 := by
  simp [variantOf, h, variantCode]

/-! ### What reading the fuses leaves -/

@[simp] theorem lanes_otpAlarms (d : Dev) (l : LaneId) : (d.otpAlarms l).lanes = d.lanes := by
  unfold otpAlarms; dsimp only; split_ifs <;> rfl

/-- The start-up alarms stand in 0x2000.02 and 0x2400.05. -/
theorem num_otpAlarms_ne (d : Dev) (l : LaneId) {i s : Nat} (h1 : objKey i s ≠ objKey 0x2000 2)
    (h2 : objKey i s ≠ objKey 0x2400 5) : (d.otpAlarms l).num i s = d.num i s := by
  unfold otpAlarms
  dsimp only
  split_ifs <;> simp only [num_putBit_ne _ _ _ _ _ _ _ h1, num_putBit_ne _ _ _ _ _ _ _ h2]

@[simp] theorem lanes_putIdentity (d : Dev) (l : LaneId) : (d.putIdentity l).lanes = d.lanes := by
  unfold putIdentity
  dsimp only
  rw [foldl_keeps Dev.lanes fun p _ d => pput_lanes d p 0 9 p.lane.num]
  split_ifs <;> rfl

@[simp] theorem otp_putIdentity (d : Dev) (l : LaneId) : (d.putIdentity l).otp = d.otp := by
  unfold putIdentity
  dsimp only
  rw [foldl_keeps Dev.otp fun p _ d => pput_otp d p 0 9 p.lane.num]
  split_ifs <;> rfl

/-- The ports' lanes, written one port after the other, leave every object outside the ports. -/
theorem num_foldl_pput_lane (d : Dev) {i s : Nat} (hi : i < 0x3000) (hs : s < 256) :
    (PortId.all.foldl (fun d p => d.pput p 0x00 9 p.lane.num) d).num i s = d.num i s :=
  foldl_keeps (fun d => d.num i s) (fun p _ d =>
    num_putVal_of_idx_ne d _ (by unfold pidx; omega) (by decide) hs) d

/-- The variant that the part adopts stands in 0x2400.01. -/
theorem num_variant_putIdentity (d : Dev) (l : LaneId) :
    (d.putIdentity l).num 0x2400 1 = (variantCode (d.variantOf l) : Nat) := by
  unfold putIdentity
  dsimp only
  rw [num_foldl_pput_lane _ (by decide) (by decide)]
  split_ifs <;> simp (disch := decide) only [num_putVal_ne, num_put_ne, num_put]

/-- The identity leaves lane A's state. -/
theorem num_laneA_putIdentity (d : Dev) (l : LaneId) : (d.putIdentity l).num 0x2500 1 = d.num 0x2500 1 := by
  unfold putIdentity
  dsimp only
  rw [num_foldl_pput_lane _ (by decide) (by decide)]
  split_ifs <;> simp (disch := decide) only [num_putVal_ne, num_put_ne]

/-- The fuse array read into both shadows. -/
def withShadows (d : Dev) (l : LaneId) (otp : OtpReading) : Dev :=
  let f := d.fuses.readAll otp
  let d := { d with fuses := f, otp := { d.otp with shadows := ⟨f.shadow, f.shadow⟩ } }
  { d with boot := { d.boot with laneB := d.grantsB l } }

/-- Reading the fuses: the shadows, then what they say. -/
theorem readFuses_eq (d : Dev) (l : LaneId) (otp : OtpReading) : d.readFuses l otp =
    (((((d.withShadows l otp).otpAlarms l).putIdentity l).putLocks).putMargins).incBy 0x2400 9 otp.corrected := by
  unfold readFuses withShadows
  with_reducible rfl

@[simp] theorem lanes_withShadows (d : Dev) (l : LaneId) (otp : OtpReading) : (d.withShadows l otp).lanes = d.lanes := by
  rw [withShadows]

theorem num_withShadows (d : Dev) (l : LaneId) (otp : OtpReading) (i s : Nat) :
    (d.withShadows l otp).num i s = d.num i s := by
  rw [withShadows]
  rfl

theorem lanes_locksMargins (d : Dev) (n : Nat) : ((d.putLocks.putMargins).incBy 0x2400 9 n).lanes = d.lanes := by
  simp [putMargins, putLocks]

theorem otp_locksMargins (d : Dev) (n : Nat) : ((d.putLocks.putMargins).incBy 0x2400 9 n).otp = d.otp := by
  simp [putMargins, putLocks]

@[simp] theorem lanes_readFuses (d : Dev) (l : LaneId) (otp : OtpReading) : (d.readFuses l otp).lanes = d.lanes := by
  rw [readFuses_eq, lanes_locksMargins, lanes_putIdentity, lanes_otpAlarms, lanes_withShadows]

/-- Locks, margins and the count of corrections stand in other objects than the part's variant and lane A's state. -/
theorem num_locksMargins_ne (d : Dev) (n : Nat) {i s : Nat} (h4 : objKey i s ≠ objKey 0x2400 4)
    (h1200 : objKey i s ≠ objKey 0x1200 4) (h2401 : objKey i s ≠ objKey 0x2401 0) (h8 : objKey i s ≠ objKey 0x2400 8)
    (h9 : objKey i s ≠ objKey 0x2400 9) : ((d.putLocks.putMargins).incBy 0x2400 9 n).num i s = d.num i s := by
  unfold putMargins putLocks
  dsimp only
  rw [num_incBy_ne _ _ _ _ _ _ h9, num_put_ne _ _ _ _ _ _ h8, num_putVal_ne _ _ _ _ _ _ h2401,
    num_putBit_ne _ _ _ _ _ _ _ h1200, num_putBit_ne _ _ _ _ _ _ _ h1200, num_put_ne _ _ _ _ _ _ h4]

/-- The variant read stands in 0x2400.01 (R466). -/
theorem num_variant_readFuses (d : Dev) (l : LaneId) (otp : OtpReading) :
    (d.readFuses l otp).num 0x2400 1 = (variantCode ((d.readFuses l otp).variantOf l) : Nat) := by
  have hotp : (d.readFuses l otp).otp = ((d.withShadows l otp).otpAlarms l).otp := by
    rw [readFuses_eq, otp_locksMargins, otp_putIdentity]
  rw [variantOf_congr hotp, readFuses_eq, num_locksMargins_ne _ _ (by decide) (by decide) (by decide) (by decide) (by decide),
    num_variant_putIdentity]

/-- Reading the fuses leaves lane A's state. -/
theorem laneLost_readFuses (d : Dev) (l : LaneId) (otp : OtpReading) : (d.readFuses l otp).laneLost .a = d.laneLost .a := by
  refine congrArg (· == (1 : Int)) (?_ : (d.readFuses l otp).num 0x2500 1 = d.num 0x2500 1)
  rw [readFuses_eq, num_locksMargins_ne _ _ (by decide) (by decide) (by decide) (by decide) (by decide),
    num_laneA_putIdentity, num_otpAlarms_ne _ _ (by decide) (by decide), num_withShadows]

/-! ### Lanes out of their reset -/

theorem releaseLane_of_not_out (d : Dev) (l : LaneId) (bistOk : Bool) : d.releaseLane l false bistOk = d := rfl

/-- Lane A out of its reset with a passing BIST. -/
theorem releaseLane_a {d : Dev} (ha : (d.lane .a).alive = false) (hl : d.laneLost .a = false) :
    d.releaseLane .a true true = d.onLane .a fun x => { x with alive := true } := by
  have hin : d.lanesPresent.contains .a = true := by unfold lanesPresent; split <;> rfl
  rw [releaseLane, hin, ha, hl]
  rfl

theorem num_withBoot (d : Dev) (b : Boot) (i s : Nat) : (d.withBoot b).num i s = d.num i s := rfl

theorem lane_withBoot (d : Dev) (b : Boot) (l : LaneId) : (d.withBoot b).lane l = d.lane l := rfl

theorem otp_withBoot (d : Dev) (b : Boot) : (d.withBoot b).otp = d.otp := rfl

theorem boot_withBoot (d : Dev) (b : Boot) : (d.withBoot b).boot = b := rfl

/-- Lane A out of its reset first, with a passing BIST, while start-up waits for it (R288). -/
theorem resetReleaseStep_a {d : Dev} (psel : Nat) (otp : OtpReading) (bistB : Bool) (hp : d.boot.phase = .held)
    (ha : (d.lane .a).alive = false) (hl : d.laneLost .a = false) :
    let e := (d.readFuses .a otp).onLane .a fun x => { x with alive := true }
    resetReleaseStep true false psel otp true bistB d =
      (e.withBoot { e.boot with psel := psel % 8, phase := .boot }).put 0x1400 3 (psel % 8 : Nat) := by
  have he : (d.readFuses .a otp).releaseLane .a true true = _ :=
    releaseLane_a (by rw [lane, lanes_readFuses]; exact ha) (by rw [laneLost_readFuses]; exact hl)
  rw [resetReleaseStep, if_pos hp]
  dsimp only
  rw [if_pos rfl, if_neg (by simp), he, releaseLane_of_not_out, withBoot]

end Dev

/-- RESET_RELEASE of lane A, the first lane, with a passing BIST. -/
theorem answers_resetRelease {s : State} (psel : Nat) (otp : OtpReading) (bistB : Bool) (hs : s.dev.frozen = false)
    (hp : s.dev.boot.phase = .held) (hl : s.dev.laneLost .a = false) (ha : (s.dev.lane .a).alive = false) :
    Answers (.resetRelease true false psel otp true bistB) s fun u =>
      u.dev.boot.phase = .boot ∧ (u.dev.lane .a).alive = true ∧ u.dev.boot.psel = psel % 8 ∧
      u.dev.num 0x2400 1 = (variantCode (u.dev.variantOf .a) : Nat) ∧
      (u.dev.shadowWeak .a 0 = true → u.dev.num 0x2400 1 = 2) := by
  refine answers_of_awake hs rfl fun u hu => ?_
  rw [Dev.resetReleaseStep_a psel otp bistB hp ha hl] at hu
  have hnum : u.dev.num 0x2400 1 = (variantCode (u.dev.variantOf .a) : Nat) := by
    have hotp : u.dev.otp = (s.dev.readFuses .a otp).otp := by rw [hu, Dev.put_otp, Dev.otp_withBoot, Dev.onLane_otp]
    have hread : u.dev.num 0x2400 1 = (s.dev.readFuses .a otp).num 0x2400 1 := by
      rw [hu, Dev.num_put_ne _ _ _ _ _ _ (by decide), Dev.num_withBoot, Dev.onLane_num]
    rw [hread, Dev.num_variant_readFuses, Dev.variantOf_congr hotp]
  have halive : (u.dev.lane .a).alive = true := by
    rw [hu, Dev.put_lane, Dev.lane_withBoot, Dev.lane_onLane]
  have hboot : u.dev.boot = { (s.dev.readFuses .a otp).boot with psel := psel % 8, phase := .boot } := by
    rw [hu, Dev.put_boot, Dev.boot_withBoot, Dev.onLane_boot]
  refine ⟨by rw [hboot], halive, by rw [hboot], hnum, fun hw => ?_⟩
  · rw [hnum, Dev.variantCode_of_weak hw]
    rfl

/-- Without a lane out of its reset nothing happens. -/
theorem exec_resetRelease_none {s : State} (psel : Nat) (otp : OtpReading) (ba bb : Bool) (hp : s.dev.boot.phase = .held) :
    exec (.resetRelease false false psel otp ba bb) s = .next s := by
  have hstep : resetReleaseStep false false psel otp ba bb s.dev = s.dev := by
    rw [resetReleaseStep, if_pos hp]
    simp
  exact congrArg Host.Outcome.next (State.awake_of_fixed hstep)

end Sys2Proof.Machine
end

section
/-! PROOF. STARTUP_IMAGE_CHECK_COMPLETE: STANDBY without a catalogue, and the factory minimal image (R74, R288, R291, R441). -/

namespace Sys2Proof.Machine

namespace Dev

/-! ### STANDBY -/

/-- At STANDBY the device is powered and in mode 2; the image stays, and so do the freeze and LULL_N. -/
theorem enterStandby_reached (d : Dev) : d.enterStandby.mode = 2 ∧ d.enterStandby.boot.phase = .up ∧
    d.enterStandby.image = d.image ∧ d.enterStandby.frozen = d.frozen ∧
    d.enterStandby.boot.lullLow = d.boot.lullLow := by
  refine ⟨?_, rfl, rfl, rfl, rfl⟩
  have hnum : d.enterStandby.num 0x2000 1 = 2 :=
    num_put (d.put 0x2000 5 (narrow d.slotNow 2 + Config.freeValue d.freeIx % 5001)) 0x2000 1 2
  rw [mode, nat, hnum]
  rfl

@[simp] theorem image_queueTrace (d : Dev) (r : TraceRec) : (d.queueTrace r).image = d.image := by
  unfold queueTrace; split_ifs <;> rfl

/-- A freeze leaves mode, start-up and image. -/
theorem enterFreeze_keeps (d : Dev) (k : Nat) : (d.enterFreeze k).mode = d.mode ∧ (d.enterFreeze k).boot = d.boot ∧
    (d.enterFreeze k).image = d.image ∧ (d.enterFreeze k).frozen = true := by
  unfold enterFreeze
  dsimp only
  refine ⟨?_, ?_, ?_, ?_⟩
  · rw [mode, nat, foldl_keeps (fun d => d.num 0x2000 1) fun p _ d => command_num d p 12 0x2000 1]
    exact congrArg Int.toNat (num_queueTrace_ne d _ (by decide))
  · rw [foldl_keeps boot fun p _ d => command_boot d p 12]
    exact boot_queueTrace ..
  · rw [foldl_keeps image fun p _ d => command_image d p 12]
    exact image_queueTrace ..
  · rw [foldl_keeps frozen fun p _ d => command_frozen d p 12]

/-- In STANDBY a trigger freezes (R429). -/
theorem trigger_standby {d : Dev} (k : Nat) (hm : d.mode = 2) (hp : d.boot.phase = .up) (hf : d.frozen = false) :
    d.trigger k = d.enterFreeze k := by
  simp [trigger, powered, hm, hp, hf]

/-- STANDBY reached, frozen at once where LULL_N is low (R441). -/
theorem reachStandby_reached {d : Dev} (hf : d.frozen = false) : d.reachStandby.mode = 2 ∧ d.reachStandby.boot.phase = .up ∧
    d.reachStandby.image = d.image ∧ d.reachStandby.frozen = d.boot.lullLow := by
  obtain ⟨hmode, hphase, himage, hfrozen, hlull⟩ := enterStandby_reached d
  unfold reachStandby
  dsimp only
  rw [hlull]
  split_ifs with hlow
  · rw [trigger_standby 1 hmode hphase (hfrozen.trans hf)]
    obtain ⟨kmode, kboot, kimage, kfrozen⟩ := enterFreeze_keeps d.enterStandby 1
    exact ⟨kmode.trans hmode, kboot ▸ hphase, kimage.trans himage, kfrozen.trans hlow.symm⟩
  · exact ⟨hmode, hphase, himage, (hfrozen.trans hf).trans (Bool.eq_false_iff.mpr hlow).symm⟩

/-! ### The image's activation -/

@[simp] theorem image_putImage (d : Dev) (im : Image) (source : Nat) : (d.putImage im source).image = d.image := by
  unfold putImage
  dsimp only
  rw [foldl_keeps image fun p _ d => by rw [putRadius, putCarrier, putTopology]; simp,
    foldl_keeps image fun e _ d => put_image d _ _ _]
  rfl

@[simp] theorem image_gcHold (d : Dev) (g : GcId) : (d.gcHold g).image = d.image := by
  unfold gcHold
  dsimp only
  split_ifs <;> rfl

@[simp] theorem image_unboundStatus (d : Dev) (im : Image) (p : PortId) : (d.unboundStatus im p).image = d.image :=
  foldl_keeps image (fun _ _ d => by split_ifs <;> rfl) d

@[simp] theorem image_putPhase (d : Dev) (e : Option Int) : (d.putPhase e).image = d.image :=
  foldl_keeps image (fun p _ d => pput_image d p 0x40 0x15 _) d

@[simp] theorem image_cancelUnclaimed (d : Dev) : d.cancelUnclaimed.image = d.image :=
  foldl_keeps image (fun _ _ d => by dsimp only; split_ifs <;> rfl) d

/-- The image activated is the image. -/
theorem image_activate (d : Dev) (im : Image) (source : Nat) : (d.activate im source).image = some im := by
  unfold activate
  dsimp only
  rw [image_cancelUnclaimed]
  dsimp only
  rw [image_putPhase, foldl_keeps image fun g _ d => image_gcHold d g, foldl_keeps image fun p _ d => image_unboundStatus d im p,
    foldl_keeps image fun p _ d => onPort_image d p _, image_putImage]

/-- The image activated at the end of start-up is awaited. -/
theorem bootActivate_reached (d : Dev) (im : Image) (source : Nat) :
    (d.bootActivate im source).boot.phase = .imageDue ∧ (d.bootActivate im source).image = some im := by
  unfold bootActivate
  dsimp only
  exact ⟨rfl, image_activate d im source⟩

end Dev

/-- Without a catalogue STANDBY is entered, and LULL_N held low freezes there. -/
theorem answers_startupImageCheckComplete_noCatalogue {s : State} (hs : s.dev.frozen = false)
    (hp : s.dev.boot.phase = .clocked) (hb : s.dev.bit 0x2000 2 6 = true) : Answers .startupImageCheckComplete s fun u =>
      u.dev.mode = 2 ∧ u.dev.boot.phase = .up ∧ u.dev.image = s.dev.image ∧ u.dev.frozen = s.dev.boot.lullLow := by
  refine answers_of_awake hs rfl fun u hu => ?_
  have hstep : startupImageCheckCompleteStep s.dev = s.dev.reachStandby := by
    rw [startupImageCheckCompleteStep, if_pos hp]
    dsimp only
    rw [if_pos hb]
  rw [hu, hstep]
  exact Dev.reachStandby_reached hs

/-- The factory minimal profile gets the factory minimal image. -/
theorem answers_startupImageCheckComplete_factory {s : State} (hs : s.dev.frozen = false)
    (hp : s.dev.boot.phase = .clocked) (hb : s.dev.bit 0x2000 2 6 = false) (hn : s.dev.boot.profile = 0xFF) :
    Answers .startupImageCheckComplete s fun u => u.dev.boot.phase = .imageDue ∧ u.dev.image = some factoryMinimal := by
  refine answers_of_awake hs rfl fun u hu => ?_
  have hstep : startupImageCheckCompleteStep s.dev = s.dev.bootActivate factoryMinimal 0x20 := by
    rw [startupImageCheckCompleteStep, if_pos hp]
    dsimp only
    rw [if_neg (by simp [hb]), if_pos hn]
  rw [hu, hstep]
  exact Dev.bootActivate_reached s.dev factoryMinimal 0x20

end Sys2Proof.Machine
end

section
/-! PROOF. AUTO_RUN: the request judged as a host's, formed for the writer, or refused and counted (R279, R366, R373). -/

namespace Sys2Proof.Machine

namespace Dev

/-! ### The judgement does not see the request's time -/

/-- The auto-run request taken. -/
def autoTaken (d : Dev) : Dev := d.withBoot { d.boot with autoAt := none }

theorem assume_autoTaken (d : Dev) (k : Nat) (v : ObjVal) : d.autoTaken.assume k v = (d.assume k v).autoTaken := by
  cases hr : objRow (k / 256) (k % 256) with
  | none => simp only [assume, hr]
  | some r =>
    simp only [assume, hr, apply_ite autoTaken]
    rfl

theorem assumeAll_autoTaken (cs : List Ahead) (d : Dev) : d.autoTaken.assumeAll cs = (d.assumeAll cs).autoTaken := by
  induction cs generalizing d with
  | nil => rfl
  | cons c cs ih =>
    simp only [assumeAll, List.foldl_cons, assume_autoTaken]
    exact ih _

theorem committed_autoTaken (d : Dev) (origin : Nat) : d.autoTaken.committed origin = (d.committed origin).autoTaken :=
  assumeAll_autoTaken (d.changesAhead origin) d

/-- The request is judged alike before and after it is taken. -/
theorem judge_autoTaken (d : Dev) (c : Ctx) (raw : List Byte) :
    d.autoTaken.judge c 0 0x200100 raw = d.judge c 0 0x200100 raw := by
  rw [judge, committed_autoTaken]
  rfl

/-! ### The writer's queue -/

theorem length_insertJob (j : JournalJob) (q : List JournalJob) : (insertJob j q).length = q.length + 1 := by
  induction q with
  | nil => rfl
  | cons k q ih =>
    unfold insertJob
    split_ifs
    · rw [List.length_cons, ih, List.length_cons]
    · rfl

theorem length_recount (ids : List Nat) (acc : List Ahead) (q : List JournalJob) : (recount ids acc q).length = q.length := by
  induction q generalizing acc with
  | nil => rfl
  | cons j q ih => rw [recount, List.length_cons, List.length_cons, ih]

/-- An accepted change is one job more. -/
theorem length_queue_formChange (d : Dev) (l : LaneId) (c : Ctx) (slot vpp key : Nat) (raw : List Byte) (r : Option Reply) :
    (d.formChange l c slot vpp key raw r).wr.queue.length = d.wr.queue.length + 1 :=
  (length_recount _ _ _).trans (length_insertJob _ _)

/-! ### The step -/

/-- The request at its time, judged with its time taken. -/
theorem autoRunStep_due {d : Dev} {t : Nat} (ha : d.boot.autoAt = some t) (hp : d.powered = true) (ht : t ≤ d.slotNow) :
    autoRunStep d =
      match d.judge Ctx.internal 0 0x200100 [4] with
      | .ok =>
        if d.queueRoom then (d.autoTaken.formChange d.clkLane Ctx.internal ((d.lane d.clkLane).slots % 2 ^ 32) 0 0x200100 [4]
          none).stamped
        else (d.autoTaken.inc 0x1300 0xB).putBit 0x2000 2 11 true
      | _ => (d.autoTaken.inc 0x1300 0xA).putBit 0x2000 2 11 true := by
  rw [← judge_autoTaken, autoRunStep, ha]
  dsimp only
  rw [if_pos ⟨hp, ht⟩]
  rfl

/-- A request that is accepted finds room: one job more, and no object changes. -/
theorem formed_autoTaken (d : Dev) (l : LaneId) (slot : Nat) :
    let u := (d.autoTaken.formChange l Ctx.internal slot 0 0x200100 [4] none).stamped
    u.boot.autoAt = none ∧ u.wr.queue.length = d.wr.queue.length + 1 ∧ u.objs = d.objs :=
  ⟨rfl, length_queue_formChange d.autoTaken l Ctx.internal slot 0 0x200100 [4] none, rfl⟩

/-- A request that is not formed sets AUTORUN_REFUSED and is counted, in sub-index k of 0x1300. -/
theorem notFormed_autoTaken (d : Dev) {k : Nat} (hk : k < 256) :
    let u := (d.autoTaken.inc 0x1300 k).putBit 0x2000 2 11 true
    u.boot.autoAt = none ∧ u.mode = d.mode ∧ u.wr = d.wr ∧ u.bit 0x2000 2 11 = true ∧
      u.num 0x1300 k = min (d.num 0x1300 k + 1) 4294967295 := by
  have hbit : objKey 0x1300 k ≠ objKey 0x2000 2 := by unfold objKey; omega
  have hmode : objKey 0x2000 1 ≠ objKey 0x1300 k := by unfold objKey; omega
  refine ⟨rfl, ?_, rfl, bit_putBit_same .., ?_⟩
  · rw [mode, nat, num_putBit_ne _ _ _ _ _ _ _ (by decide), inc, num_incBy_ne _ _ _ _ _ _ hmode]
    rfl
  · rw [num_putBit_ne _ _ _ _ _ _ _ hbit, num_inc]
    rfl

end Dev

/-- AUTO_RUN at its time. -/
theorem answers_autoRun {s : State} {t : Nat} (hs : s.dev.frozen = false) (ha : s.dev.boot.autoAt = some t)
    (hp : s.dev.powered = true) (ht : t ≤ s.dev.slotNow) : Answers .autoRun s fun u =>
      let res := s.dev.judge Ctx.internal 0 0x200100 [4]
      let count := fun (sub : Nat) => u.dev.num 0x1300 sub = min (s.dev.num 0x1300 sub + 1) 4294967295
      u.dev.boot.autoAt = none ∧ u.dev.mode = s.dev.mode ∧
      (res = .ok → s.dev.queueRoom = true → u.dev.wr.queue.length = s.dev.wr.queue.length + 1 ∧ u.dev.objs = s.dev.objs) ∧
      (res = .ok → s.dev.queueRoom = false → u.dev.wr = s.dev.wr ∧ u.dev.bit 0x2000 2 11 = true ∧ count 0xB) ∧
      (res ≠ .ok → u.dev.wr = s.dev.wr ∧ u.dev.bit 0x2000 2 11 = true ∧ count 0xA) := by
  refine answers_of_awake hs rfl fun u hu => ?_
  rw [Dev.autoRunStep_due ha hp ht] at hu
  dsimp only
  split at hu
  next hok =>
    split_ifs at hu with hroom
    · obtain ⟨hat, hlen, hobjs⟩ := Dev.formed_autoTaken s.dev s.dev.clkLane ((s.dev.lane s.dev.clkLane).slots % 2 ^ 32)
      have hmode : u.dev.mode = s.dev.mode := by rw [Dev.mode, Dev.nat, Dev.num, hu, hobjs]; rfl
      rw [hu] at hmode ⊢
      exact ⟨hat, hmode, fun _ _ => ⟨hlen, hobjs⟩, fun _ hfull => absurd hroom (by simp [hfull]), fun h => absurd hok h⟩
    · obtain ⟨hat, hmode, hwr, hbit, hcount⟩ := Dev.notFormed_autoTaken s.dev (k := 0xB) (by decide)
      rw [hu]
      exact ⟨hat, hmode, fun _ h => absurd h hroom, fun _ _ => ⟨hwr, hbit, hcount⟩, fun h => absurd hok h⟩
  next hres =>
    obtain ⟨hat, hmode, hwr, hbit, hcount⟩ := Dev.notFormed_autoTaken s.dev (k := 0xA) (by decide)
    rw [hu]
    exact ⟨hat, hmode, fun h => absurd h hres, fun h => absurd h hres, fun _ => ⟨hwr, hbit, hcount⟩⟩

/-- Before its time AUTO_RUN does nothing. -/
theorem exec_autoRun_early {s : State} {t : Nat} (ha : s.dev.boot.autoAt = some t) (ht : s.dev.slotNow < t) :
    exec .autoRun s = .next s := by
  have hstep : autoRunStep s.dev = s.dev := by
    rw [autoRunStep, ha]
    dsimp only
    rw [if_neg fun h => absurd h.2 (Nat.not_le.mpr ht)]
  exact congrArg Host.Outcome.next (State.awake_of_fixed hstep)

end Sys2Proof.Machine
end

section
/-! PROOF. Start-up in order, and the auto-run request. -/

namespace Sys2Proof.Machine

/-- Start-up, command by command. -/
theorem startUpProceedsInOrder : Says.StartUpProceedsInOrder := fun _ hs =>
  ⟨fun psel otp bistB => answers_resetRelease psel otp bistB hs,
    fun psel otp ba bb => exec_resetRelease_none psel otp ba bb,
    fun na nb => answers_rootClockQualified na nb hs,
    fun na nb hp hl => ⟨answers_rootClockQualified_halted na nb hs hp hl,
      answers_rootQualificationTimeout_halted na nb hs hp hl⟩,
    fun na nb => answers_rootQualificationTimeout na nb hs,
    answers_startupImageCheckComplete_noCatalogue hs,
    answers_startupImageCheckComplete_factory hs⟩

/-- The auto-run request, at its time and before it. -/
theorem autoRunIsJudged : Says.AutoRunIsJudged := fun _ _ hs ha hp =>
  ⟨answers_autoRun hs ha hp, exec_autoRun_early ha⟩

/-- Settles O29: start-up's commands answer as R288 orders them, since reading the flash and losing lanes leave the clocks alone,
and the auto-run request is judged as it stands. -/
theorem startUpProceedsInOrderToAutoRun : Obligations.StartUpProceedsInOrderToAutoRun :=
  ⟨startUpProceedsInOrder, autoRunIsJudged⟩

end Sys2Proof.Machine
end

section
/-! SUPPORT. The block behind a command that completes. -/

namespace Sys2Proof.Machine

/-- The block that a command leaves whose meaning is one change of a waking block. -/
theorem State.dev_of_exec_awake {c : Instr} {s u : State} {f : Dev → Dev} (hs : s.dev.frozen = false)
    (hc : exec c s = .next (s.awake f)) (hu : exec c s = .next u) : u.dev = f s.dev := by
  rw [hc] at hu
  rw [← Host.Outcome.next.inj hu, State.awake_dev _ _ hs]

/-- A lane that works and has counted n slots. -/
def Lane.counted (n : Nat) : Lane := { Lane.atReset with alive := true, slots := n }

end Sys2Proof.Machine
end

section
/-! REFUTATION. A boundary that publishes a stream's value notes it in the timekeeping unit, in whichever lane it opens (R30, R326,
R353). -/

namespace Sys2Proof.Machine

/-- Lanes A and B on their own oscillators, and a stream's control word for M3 due at lane B's next boundary. -/
def streamDueInB : State :=
  ⟨{ Dev.atReset with
      lanes := ⟨Lane.counted 5, Lane.counted 7⟩
      boot := { Boot.atReset with phase := .up, laneB := true }
      net := { Net.atReset with pubs := [⟨0, .b, 8, 6, objKey 0x3261 1, [1, 0]⟩] } }, []⟩

/-- Lane A clocks the common domain, and lane B's boundary is its own. -/
theorem streamDueInB_apart : streamDueInB.dev.clocked .b = true ∧ streamDueInB.dev.slotsRun = true ∧
    streamDueInB.dev.clkLane ∉ streamDueInB.dev.lanesWith .b := by decide +kernel

/-- Lane B's boundary notes the control word, with its slot 8. -/
theorem streamDueInB_noted : (slotBoundaryStep .b 0 0 ⟨false, false, false⟩ streamDueInB.dev).time.applied =
    [(objKey 0x3261 1, 8)] := by decide +kernel

/-- Refutes O30: where lane B's boundary, apart from lane A's, publishes a stream's value, the value is noted among those applied,
so the timekeeping unit does not stay as it was but for the bases at the lane's own boundary. -/
theorem not_slotBoundaryOpensTheSlot : ¬ Obligations.SlotBoundaryOpensTheSlot := by
  intro h
  obtain ⟨hclocked, hrun, hapart⟩ := streamDueInB_apart
  obtain ⟨-, hopens⟩ := h streamDueInB .b 0 0 ⟨false, false, false⟩ rfl
  obtain ⟨u, hu, -, -, -, -, hother⟩ := hopens hclocked hrun
  obtain ⟨htime, -⟩ := hother hapart
  have hdev : u.dev = slotBoundaryStep .b 0 0 ⟨false, false, false⟩ streamDueInB.dev := State.dev_of_exec_awake rfl rfl hu
  have happlied := congrArg TimeUnit.applied htime
  rw [hdev, streamDueInB_noted] at happlied
  exact absurd happlied (List.cons_ne_nil _ _)

end Sys2Proof.Machine
end

section
/-! REFUTATION. A snapshot carries the slot count of the lane that served its command, which need not be the one that clocks the
common domain (R363). -/

namespace Sys2Proof.Machine

/-- Lanes A and B on their own oscillators, A at slot 5 and B at slot 7, and a snapshot of the mode published that was asked for
over N2, which lane B serves. -/
def snapshotOverN2 : State :=
  ⟨{ Dev.atReset with
      lanes := ⟨Lane.counted 5, Lane.counted 7⟩
      published := [⟨objKey 0x2005 2, .num 1, 0, 2⟩] }.putVal 0x2005 1 (.arr [0x20000100]), []⟩

/-- Lane A clocks the common domain, and the snapshot shows lane B's count behind generation 1. -/
theorem snapshotOverN2_count : (snapshotOverN2.dev.lane snapshotOverN2.dev.clkLane).count = 5 ∧
    (takeSnapshotStep snapshotOverN2.dev).bytes 0x2005 4 = toLE 4 1 ++ toLE 4 7 ++ [2] := by
  decide +kernel

/-- The mode, which the list names, is at home in both lanes, so nothing waits. -/
theorem snapshotOverN2_noneWaits {k : Nat} {l : LaneId} (hk : k ∈ snapKeys (snapshotOverN2.dev.arr 0x2005 1)) :
    homeOf (k / 256) ≠ .lane l := by
  have hkeys : snapKeys (snapshotOverN2.dev.arr 0x2005 1) = [0x200001] := by decide +kernel
  rw [hkeys, List.mem_singleton] at hk
  subst hk
  cases l <;> decide

theorem not_snapshotCopiesTheListedObjects : ¬ Says.SnapshotCopiesTheListedObjects := by
  intro h
  obtain ⟨hcopied, -⟩ := h snapshotOverN2 (.num 1) 0 2 [] rfl rfl
  obtain ⟨u, hu, -, -, -, hbytes⟩ := hcopied fun k l hk hl => absurd hl (snapshotOverN2_noneWaits hk)
  obtain ⟨hcount, hshown⟩ := snapshotOverN2_count
  have hdev : u.dev = takeSnapshotStep snapshotOverN2.dev := State.dev_of_exec_awake rfl rfl hu
  rw [hdev, hshown, hcount] at hbytes
  exact absurd (congrArg (fun b => b.take 8) hbytes) (by decide +kernel)

/-- Refutes O31: a snapshot asked for over N2 shows the slot count of lane B, which serves that port, where the statement names
that of lane A, which clocks the common domain. -/
theorem not_publicationAndSnapshot : ¬ Obligations.PublicationAndSnapshot :=
  fun ⟨_, h⟩ => not_snapshotCopiesTheListedObjects h

end Sys2Proof.Machine
end

section
/-! PROOF. STAGE_PORT_ACCESS: what a read puts into registers, and what a write leaves in the cell that the engine produces (R17, R18,
R39, R75, R267). -/

namespace Sys2Proof.Machine

/-! ### Results on their way to registers -/

@[simp] theorem mem_insertBack {w x : WriteBack} {xs : List WriteBack} : w ∈ insertBack x xs ↔ w = x ∨ w ∈ xs := by
  induction xs with
  | nil => simp [insertBack]
  | cons y ys ih =>
    unfold insertBack
    split_ifs
    · simp
    · simp only [List.mem_cons, ih]
      tauto

theorem Engine.mem_backs_foldl_back {due : Nat} {reg : Nat → Nat} {v : Nat → Word} {ks : List Nat} {e : Engine}
    {w : WriteBack} : w ∈ (ks.foldl (fun e i => e.back due (reg i) (v i)) e).backs ↔
      w ∈ e.backs ∨ ∃ i ∈ ks, w = ⟨due, reg i, v i⟩ := by
  induction ks generalizing e with
  | nil => simp
  | cons i ks ih => simp [ih, or_assoc, or_left_comm]

/-- Each of the eight words of a cell read is a result on its way. -/
theorem Engine.mem_backs_backCell (e : Engine) (due dst : Nat) (bs : List Byte) {k : Nat} (hk : k < 8) :
    (⟨due, dst + k, BitVec.ofNat 32 (leNat ((bs.drop (4 * k)).take 4))⟩ : WriteBack) ∈ (e.backCell due dst bs).backs :=
  Engine.mem_backs_foldl_back.mpr (.inr ⟨k, List.mem_range.mpr hk, rfl⟩)

/-! ### The block with an operation issued -/

namespace Dev

@[simp] theorem cells_setEngine (d : Dev) (e : EngineId) (x : Engine) :
    ((d.setEngine e x).port e.port).cells = (d.port e.port).cells := by
  rw [port_setEngine]

@[simp] theorem cells_issued (d : Dev) (e : EngineId) (t : Nat) (c : Issue) :
    ((d.issued e t c).port e.port).cells = (d.port e.port).cells := cells_setEngine ..

theorem cellBytes_issued (d : Dev) (e : EngineId) (t : Nat) (c : Issue) (x : CellId) :
    (d.issued e t c).cellBytes e.port x = d.cellBytes e.port x := by
  unfold cellBytes
  rw [cells_issued]

end Dev

/-! ### The accesses -/

variable {s : State} {p : PortId} {t : Nat}

/-- A cell read. -/
theorem answers_stagePortAccess_read {r : EngineRole} {c : CellId} {dst : Nat} (h : s.dev.issues ⟨p, r⟩ t .high = true) :
    Answers (.stagePortAccess ⟨p, r⟩ t (.read c dst)) s fun u =>
      (∀ k, k < 8 → (⟨s.dev.engTick ⟨p, r⟩ t + 4, dst + k,
        BitVec.ofNat 32 (leNat (((s.dev.cellBytes p c).drop (4 * k)).take 4))⟩ : WriteBack) ∈ (u.dev.engine ⟨p, r⟩).backs) ∧
      (u.dev.port p).cells = (s.dev.port p).cells := by
  refine answers_of_awake (Dev.issues_awake _ _ _ _ h) rfl fun u hu => ?_
  have hdev : u.dev = _ := hu.trans (if_pos h)
  rw [hdev]
  constructor
  · intro k hk
    rw [Dev.engine_setEngine, Dev.cellBytes_issued]
    exact Engine.mem_backs_backCell _ _ _ _ hk
  · exact (Dev.cells_setEngine ..).trans (Dev.cells_issued ..)

/-- The read of a converter's result record. -/
theorem answers_stagePortAccess_record {r : EngineRole} {g : GcId} {n dst : Nat} (h : s.dev.issues ⟨p, r⟩ t .high = true)
    (hl : g.lane = p.lane) (hc : s.dev.gcClaimedFor (16 * g.num + n) ⟨p, r⟩ = true) :
    Answers (.stagePortAccess ⟨p, r⟩ t (.record g n dst)) s fun u =>
      let w := s.dev.gcRecord (16 * g.num + n)
      let T := s.dev.engTick ⟨p, r⟩ t + 4
      (⟨T, dst, BitVec.ofNat 32 w⟩ : WriteBack) ∈ (u.dev.engine ⟨p, r⟩).backs ∧
      (⟨T, dst + 1, BitVec.ofNat 32 (w / 2 ^ 32)⟩ : WriteBack) ∈ (u.dev.engine ⟨p, r⟩).backs ∧
      (u.dev.port p).cells = (s.dev.port p).cells := by
  refine answers_of_awake (Dev.issues_awake _ _ _ _ h) rfl fun u hu => ?_
  have hdev : u.dev = _ := hu.trans ((if_pos h).trans (if_pos ⟨hl, hc⟩))
  rw [hdev]
  refine ⟨?_, ?_, (Dev.cells_setEngine ..).trans (Dev.cells_issued ..)⟩
  · rw [Dev.engine_setEngine]
    exact mem_insertBack.mpr (.inr (mem_insertBack.mpr (.inl rfl)))
  · rw [Dev.engine_setEngine]
    exact mem_insertBack.mpr (.inl rfl)

/-- A write of an engine to a cell: an operation issued, and then one change of the cells. -/
theorem answers_stagePortAccess_write {r : EngineRole} {op : StageOp} {f : Cells → Cells}
    (h : s.dev.issues ⟨p, r⟩ t .high = true)
    (hstep : stagePortAccessStep ⟨p, r⟩ t op s.dev =
      (s.dev.issued ⟨p, r⟩ t .high).onPort p fun x => { x with cells := f x.cells }) :
    Answers (.stagePortAccess ⟨p, r⟩ t op) s fun u => (u.dev.port p).cells = f (s.dev.port p).cells := by
  refine answers_of_awake (Dev.issues_awake _ _ _ _ h) rfl fun u hu => ?_
  rw [hu, hstep, Dev.port_onPort]
  exact congrArg f (Dev.cells_issued s.dev ⟨p, r⟩ t .high)

theorem answers_stagePortAccess_writeAngle {a f x : Nat} {w : Int} {fb : Bool} (ha : a < 16384) (hf : f < 256) (hx : x < 256)
    (h : s.dev.issues ⟨p, .e1⟩ t .high = true) : Answers (.stagePortAccess ⟨p, .e1⟩ t (.writeAngle a w f x fb)) s fun u =>
      (u.dev.port p).cells = { (s.dev.port p).cells with
        angle := (s.dev.port p).cells.angle.write (s.dev.slotOf p + writeSlots t 0 + 1) (s.dev.slotOf p + writeSlots t 0) fb
          ⟨(a : Int), satS 32 w, f, x⟩ } := by
  refine answers_stagePortAccess_write (f := fun c => { c with angle := c.angle.write _ _ fb _ }) h ?_
  rw [stagePortAccessStep, if_pos h]
  simp only [Nat.mod_eq_of_lt ha, Nat.mod_eq_of_lt hf, Nat.mod_eq_of_lt hx]

theorem answers_stagePortAccess_writeSetpoint {id iq lim : Int} {fl : Nat} {fb : Bool} (hf : fl < 65536)
    (h : s.dev.issues ⟨p, .e2⟩ t .high = true) :
    Answers (.stagePortAccess ⟨p, .e2⟩ t (.writeSetpoint id iq lim fl fb)) s fun u =>
      (u.dev.port p).cells = { (s.dev.port p).cells with
        setpoint := (s.dev.port p).cells.setpoint.write (s.dev.slotOf p + writeSlots t 0 + 1)
          (s.dev.slotOf p + writeSlots t 0) fb ⟨satS 14 id, satS 14 iq, satS 14 lim, fl⟩ } := by
  refine answers_stagePortAccess_write (f := fun c => { c with setpoint := c.setpoint.write _ _ fb _ }) h ?_
  rw [stagePortAccessStep, if_pos h]
  simp only [Nat.mod_eq_of_lt hf]

theorem answers_stagePortAccess_writeDuty {du dv dw pat : Nat} {fb : Bool} (hu : du < 65536) (hv : dv < 65536) (hw : dw < 65536)
    (hp : pat < 256) (h : s.dev.issues ⟨p, .e0⟩ t .high = true) :
    Answers (.stagePortAccess ⟨p, .e0⟩ t (.writeDuty du dv dw pat fb)) s fun u =>
      (u.dev.port p).cells = { (s.dev.port p).cells with
        duty := (s.dev.port p).cells.duty.write (s.dev.slotOf p + writeSlots t 0 + 1) (s.dev.slotOf p + writeSlots t 0) fb
          ⟨du, dv, dw, pat⟩ } := by
  refine answers_stagePortAccess_write (f := fun c => { c with duty := c.duty.write _ _ fb _ }) h ?_
  rw [stagePortAccessStep, if_pos h]
  simp only [Nat.mod_eq_of_lt hu, Nat.mod_eq_of_lt hv, Nat.mod_eq_of_lt hw, Nat.mod_eq_of_lt hp]

end Sys2Proof.Machine
end

section
/-! PROOF. Crosswind records: sent, on the link, and received (R12, R23, R31, R40). -/

namespace Sys2Proof.Machine

theorem portPartner_ne (p : PortId) : p.partner ≠ p := by cases p <;> decide

variable {s : State} {p : PortId} {t : Nat}

/-- A record that may be sent goes on the link. -/
theorem answers_crosswindSend {x : XwVal} (hangle : x.angle < 16384) (hpair : x.pairByte < 256) (hhealth : x.health < 65536)
    (hresidual : x.residual < 65536) (htag : x.tag = (s.dev.port p).mod.periods % 256)
    (h : s.dev.issues ⟨p, .e2⟩ t .high = true) (hl : s.dev.linked p = true)
    (hlast : (s.dev.engine ⟨p, .e2⟩).lastSend = 0 ∨
      (s.dev.engine ⟨p, .e2⟩).lastSend - 1 + s.dev.frame p * 200 ≤ s.dev.engTick ⟨p, .e2⟩ t) :
    Answers (.crosswindSend p t x.angle x.pairByte x.speed x.id x.iq x.vd x.vq x.health x.residual x.x) s fun u =>
      (u.dev.port p).flight = (s.dev.port p).flight ++ [(s.dev.engTick ⟨p, .e2⟩ t,
        { x with speed := satS 32 x.speed, id := satS 14 x.id, iq := satS 14 x.iq, vd := satS 14 x.vd,
                 vq := satS 14 x.vq, x := satS 32 x.x })] ∧
      ∀ q, q ≠ p → u.dev.port q = s.dev.port q := by
  have hsend : (s.dev.issues ⟨p, .e2⟩ t .high && s.dev.linked p && ((s.dev.engine ⟨p, .e2⟩).lastSend == 0 ||
      decide ((s.dev.engine ⟨p, .e2⟩).lastSend - 1 + s.dev.frame p * 200 ≤ s.dev.engTick ⟨p, .e2⟩ t))) = true := by
    simpa [h, hl] using hlast
  refine answers_of_awake (Dev.issues_awake _ _ _ _ h) rfl fun u hu => ?_
  have hdev : u.dev = _ := hu.trans (if_pos hsend)
  rw [hdev, Nat.mod_eq_of_lt hangle, Nat.mod_eq_of_lt hpair, Nat.mod_eq_of_lt hhealth, Nat.mod_eq_of_lt hresidual, ← htag]
  constructor
  · rw [Dev.sendRecord, Dev.port_onPort, Dev.port_setEngine s.dev ⟨p, .e2⟩]
  · intro q hq
    rw [Dev.sendRecord, Dev.port_onPort_ne _ _ _ _ hq, Dev.setEngine, Dev.port_onPort_ne _ _ _ _ hq]

/-- The partner's oldest record, when it arrives. -/
theorem answers_crosswindRecordArrival {T : Nat} {r : XwVal} {rest : List (Nat × XwVal)}
    (hf : (s.dev.port p.partner).flight = (T, r) :: rest) (hc : s.dev.clocked p.lane = true) (ht : t < 200)
    (hl : s.dev.linked p.partner = true) (ha : s.dev.arrives p T t = true) :
    Answers (.crosswindRecordArrival p t) s fun u => (u.dev.port p.partner).flight = rest ∧
      (u.dev.port p).cells.xw = (s.dev.port p).cells.xw.write ((s.dev.lane p.lane).slots + 1) (T / 200) false r := by
  have hawake : s.dev.frozen = false := by
    rw [Dev.clocked, Bool.and_eq_true] at hc
    simpa using hc.2
  refine answers_of_awake hawake rfl fun u hu => ?_
  rw [hu, crosswindRecordArrivalStep, hf]
  dsimp only
  rw [if_pos (by simp [hc, ht, hl, ha])]
  constructor
  · rw [Dev.port_onPort_ne _ _ _ _ (portPartner_ne p), Dev.port_onPort]
  · rw [Dev.port_onPort, Dev.port_onPort_ne _ _ _ _ (portPartner_ne p).symm]

/-- Without an arrival at tick t nothing happens. -/
theorem exec_crosswindRecordArrival_none
    (h : ∀ T r rest, (s.dev.port p.partner).flight = (T, r) :: rest → s.dev.linked p.partner = true →
      s.dev.arrives p T t = false) : exec (.crosswindRecordArrival p t) s = .next s := by
  have hstep : crosswindRecordArrivalStep p t s.dev = s.dev := by
    unfold crosswindRecordArrivalStep
    split
    next => rfl
    next T r rest hf =>
      refine if_neg fun hc => ?_
      simp only [Bool.and_eq_true] at hc
      obtain ⟨⟨-, hl⟩, ha⟩ := hc
      exact absurd ha (by simp [h T r rest hf hl])
  exact congrArg Host.Outcome.next (State.awake_of_fixed hstep)

/-- On the root clock a record arrives 400 ticks after it was sent, and at no other tick. -/
theorem Dev.arrives_onRoot {d : Dev} (ha : d.onRoot .a = true) (hb : d.onRoot .b = true) (p : PortId) (T t : Nat) :
    d.arrives p T t = (T + 400 == (d.lane p.lane).tick t) := by
  simp [arrives, ha, hb]

/-- A lost lane has no link. -/
theorem Dev.linked_of_laneLost {d : Dev} (h : d.laneLost p.lane = true) : d.linked p = false := by simp [linked, h]

end Sys2Proof.Machine
end

section
/-! PROOF. Cells and crosswind records are carried. -/

namespace Sys2Proof.Machine

theorem stagePortReadsAndWritesCells : Says.StagePortReadsAndWritesCells := fun _ _ _ _ =>
  ⟨fun _ _ _ h => answers_stagePortAccess_read h,
    fun _ _ _ _ h hl hc => answers_stagePortAccess_record h hl hc,
    fun _ _ _ _ _ ha hf hx h => answers_stagePortAccess_writeAngle ha hf hx h,
    fun _ _ _ _ _ hf h => answers_stagePortAccess_writeSetpoint hf h,
    fun _ _ _ _ _ hu hv hw hp h => answers_stagePortAccess_writeDuty hu hv hw hp h⟩

theorem crosswindRecordsTravelTheLink : Says.CrosswindRecordsTravelTheLink := by
  intro s p t
  refine ⟨fun _ hangle hpair hhealth hres htag h hl hlast => answers_crosswindSend hangle hpair hhealth hres htag h hl hlast,
    fun _ _ _ hf hc ht hl ha => answers_crosswindRecordArrival hf hc ht hl ha, ?_, ?_⟩
  · intro T r rest hf ha hb hT
    refine exec_crosswindRecordArrival_none fun T' r' rest' hf' _ => ?_
    obtain ⟨⟨rfl, rfl⟩, rfl⟩ : (T' = T ∧ r' = r) ∧ rest' = rest := by simpa [hf, eq_comm] using hf'
    rw [Dev.arrives_onRoot ha hb]
    exact beq_eq_false_iff_ne.mpr hT
  · intro hlost
    exact exec_crosswindRecordArrival_none fun _ _ _ _ hl => absurd hl (by simp [Dev.linked_of_laneLost hlost])

/-- Settles O4: a read's words are results due four ticks later and a write is one entry of the engine's own cell; a record sent is
the last of its link, and leaves it for the partner's receive cell only at its arrival. -/
theorem cellsAndCrosswindRecordsAreCarried : Obligations.CellsAndCrosswindRecordsAreCarried :=
  ⟨stagePortReadsAndWritesCells, crosswindRecordsTravelTheLink⟩

end Sys2Proof.Machine
end

section
/-! SUPPORT. What a port's fault with its command leaves and sets (R131, R252, R256, R442). -/

namespace Sys2Proof.Machine

namespace Dev

@[simp] theorem port_queueTrace (d : Dev) (r : TraceRec) (q : PortId) : (d.queueTrace r).port q = d.port q := by
  unfold queueTrace; split_ifs <;> rfl

/-- A port's active faults with one more, where it is not among them. -/
def faultsWith (d : Dev) (p : PortId) (f : FaultId) : List Nat :=
  if (d.port p).faults.contains f.code then (d.port p).faults else (d.port p).faults ++ [f.code]

theorem contains_faultsWith (d : Dev) (p : PortId) (f : FaultId) : (d.faultsWith p f).contains f.code = true := by
  unfold faultsWith
  split_ifs with h
  · exact h
  · simp

/-- A fault noted as the first of its record, where the record is empty (R256). -/
def noteFirst (d : Dev) (p : PortId) (f : FaultId) (at' : Int) : Dev :=
  if d.pnum p 0xB0 2 = 0 then (d.pput p 0xB0 2 f.code).pput p 0xB0 3 at' else d

theorem noteFault_eq (d : Dev) (p : PortId) (f : FaultId) : d.noteFault p f =
    (((((d.setFaults p (d.faultsWith p f)).noteFirst p f d.stampNow).pput p 0xB0 4 f.code).pput p 0xB0 5
      d.stampNow).pinc p 0xB0 6).stamped := by
  unfold noteFault noteFirst faultsWith
  with_reducible rfl

@[simp] theorem port_noteFirst (d : Dev) (p : PortId) (f : FaultId) (at' : Int) (q : PortId) :
    (d.noteFirst p f at').port q = d.port q := by
  unfold noteFirst; split_ifs <;> rfl

theorem port_setFaults (d : Dev) (p : PortId) (fs : List Nat) :
    (d.setFaults p fs).port p = { d.port p with faults := fs } :=
  port_onPort d p fun x => { x with faults := fs }

/-- A noted fault changes nothing of its port but the list of active faults. -/
theorem port_noteFault (d : Dev) (p : PortId) (f : FaultId) :
    (d.noteFault p f).port p = { d.port p with faults := d.faultsWith p f } := by
  rw [noteFault_eq, stamped_port, pinc_port, pput_port, pput_port, port_noteFirst, port_setFaults]

theorem num_pput_of_idx_ne (d : Dev) {p : PortId} {blk k i s : Nat} (v : Int) (hi : i ≠ pidx p blk) (hk : k < 256)
    (hs : s < 256) : (d.pput p blk k v).num i s = d.num i s :=
  num_putVal_of_idx_ne d _ hi.symm hk hs

theorem num_pinc_of_idx_ne (d : Dev) {p : PortId} {blk k i s : Nat} (hi : i ≠ pidx p blk) (hk : k < 256) (hs : s < 256) :
    (d.pinc p blk k).num i s = d.num i s := num_pput_of_idx_ne d _ hi hk hs

/-- A fault is noted in the objects 0x3xB0 alone. -/
theorem num_noteFault_of_idx_ne (d : Dev) {p : PortId} (f : FaultId) {i s : Nat} (hi : i ≠ pidx p 0xB0) (hs : s < 256) :
    (d.noteFault p f).num i s = d.num i s := by
  have hfirst : ∀ e : Dev, (e.noteFirst p f d.stampNow).num i s = e.num i s := fun e => by
    unfold noteFirst
    split_ifs
    · rw [num_pput_of_idx_ne _ _ hi (by decide) hs, num_pput_of_idx_ne _ _ hi (by decide) hs]
    · rfl
  rw [noteFault_eq, stamped_num, num_pinc_of_idx_ne _ hi (by decide) hs, num_pput_of_idx_ne _ _ hi (by decide) hs,
    num_pput_of_idx_ne _ _ hi (by decide) hs, hfirst]
  exact num_putVal_of_idx_ne _ _ hi.symm (by decide) hs

/-- 0x3xB0.04 shows the fault noted last (R256). -/
theorem pnum_last_noteFault (d : Dev) (p : PortId) (f : FaultId) : (d.noteFault p f).pnum p 0xB0 4 = f.code := by
  have hne : ∀ {j k : Nat}, j < 256 → k < 256 → j ≠ k → objKey (pidx p 0xB0) j ≠ objKey (pidx p 0xB0) k := fun hj hk h e =>
    h ((objKey_inj _ _ _ _ hj hk).mp e).2
  rw [noteFault_eq, pnum, stamped_num, pinc, inc, num_incBy_ne _ _ _ _ _ _ (hne (by decide) (by decide) (by decide)), pput,
    num_put_ne _ _ _ _ _ _ (hne (by decide) (by decide) (by decide)), pput, num_put]

/-- A fault with its command changes nothing of its port but the list of active faults and what has arrived at the unit. -/
theorem port_trip (d : Dev) (p : PortId) (f : FaultId) (n : Nat) :
    (d.trip p f n).port p = { d.port p with
      faults := d.faultsWith p f
      unit := { (d.port p).unit with arriving := (d.port p).unit.arriving ++ [⟨n, none, false, false⟩] } } := by
  have hfaults : ∀ r, (d.queueTrace r).faultsWith p f = d.faultsWith p f := fun r => by
    rw [faultsWith, port_queueTrace, faultsWith]
  rw [trip, command, commandUnit, port_onPort, recordFault, port_noteFault, hfaults, port_queueTrace]

/-- A fault with its command leaves every object but 0x3xB0 and 0x2721.02. -/
theorem num_trip_ne (d : Dev) {p : PortId} (f : FaultId) (n : Nat) {i s : Nat} (hi : i ≠ pidx p 0xB0) (hs : s < 256)
    (ht : objKey i s ≠ objKey 0x2721 2) : (d.trip p f n).num i s = d.num i s := by
  rw [trip, command_num, recordFault, num_noteFault_of_idx_ne _ _ hi hs, num_queueTrace_ne _ _ ht]

theorem faulted_trip (d : Dev) (p : PortId) (f : FaultId) (n : Nat) : (d.trip p f n).faulted p f = true := by
  rw [faulted, port_trip]
  exact contains_faultsWith d p f

theorem pnum_last_trip (d : Dev) (p : PortId) (f : FaultId) (n : Nat) : (d.trip p f n).pnum p 0xB0 4 = f.code := by
  rw [trip, pnum, command_num]
  exact pnum_last_noteFault ..

end Dev
end Sys2Proof.Machine
end

section
/-! SUPPORT. Engine 0 before a kernel: what an earlier kernel left is done, and the frame is the present one; both change engine 0
alone (R37, R42, R153). -/

namespace Sys2Proof.Machine

namespace Dev

@[simp] theorem port_onE0 (d : Dev) (p : PortId) (f : E0 → E0) :
    (d.onE0 p f).port p = { d.port p with e0 := f (d.port p).e0 } := port_onPort ..

/-- The rest of K_FW_VLIM changes engine 0, but not its frame. -/
theorem exists_kFwVlimCalc (p : PortId) (w : FwLate) (d : Dev) :
    ∃ f : E0 → E0, kFwVlimCalc p w d = d.onE0 p f ∧ ∀ e, (f e).frame = e.frame := by
  unfold kFwVlimCalc
  exact ⟨_, rfl, fun _ => rfl⟩

/-- What no change of engine 0 touches is as before. -/
theorem resume0_keeps {β : Type} {g : Dev → β} {p : PortId} (h : ∀ d f, g (d.onE0 p f) = g d) (d : Dev) :
    g (d.resume0 p) = g d := by
  unfold resume0
  split
  next w _ =>
    split_ifs
    · obtain ⟨f, hf, -⟩ := exists_kFwVlimCalc p w d
      rw [hf, h]
    · rfl
  next => rfl

/-- What no change of engine 0 touches is as before. -/
theorem begin0_keeps {β : Type} {g : Dev → β} {p : PortId} (h : ∀ d f, g (d.onE0 p f) = g d) (d : Dev) :
    g (d.begin0 p) = g d := by
  rw [begin0, inFrame]
  split_ifs
  · exact resume0_keeps h d
  · rw [h]
    exact resume0_keeps h d

theorem frame_resume0 (d : Dev) (p : PortId) : ((d.resume0 p).port p).e0.frame = (d.port p).e0.frame := by
  unfold resume0
  split
  next w _ =>
    split_ifs
    · obtain ⟨f, hf, hframe⟩ := exists_kFwVlimCalc p w d
      rw [hf, port_onE0]
      exact hframe _
    · rfl
  next => rfl

@[simp] theorem frameStart_resume0 (d : Dev) (p : PortId) : (d.resume0 p).frameStart p = d.frameStart p :=
  resume0_keeps (g := fun d => d.frameStart p) (fun _ _ => rfl) d

/-- Within the present frame the engine goes on as it is. -/
theorem begin0_of_inFrame {d : Dev} {p : PortId} (h : (d.port p).e0.frame = d.frameStart p) : d.begin0 p = d.resume0 p :=
  if_pos (by rw [frame_resume0, frameStart_resume0, h])

/-- The first kernel of a frame starts it. -/
theorem begin0_of_newFrame {d : Dev} {p : PortId} (h : (d.port p).e0.frame ≠ d.frameStart p) :
    ((d.begin0 p).port p).e0 = ((d.resume0 p).port p).e0.newFrame (d.frameStart p) := by
  rw [begin0, inFrame, if_neg (by rw [frame_resume0, frameStart_resume0]; exact h), port_onE0, frameStart_resume0]

@[simp] theorem num_begin0 (d : Dev) (p : PortId) (i s : Nat) : (d.begin0 p).num i s = d.num i s :=
  begin0_keeps (g := fun d => d.num i s) (fun _ _ => rfl) d

@[simp] theorem poor_begin0 (d : Dev) (p : PortId) (valid gap : Nat) : (d.begin0 p).poor p valid gap = d.poor p valid gap :=
  begin0_keeps (g := fun d => d.poor p valid gap) (fun _ _ => rfl) d

@[simp] theorem slotOf_begin0 (d : Dev) (p : PortId) : (d.begin0 p).slotOf p = d.slotOf p :=
  begin0_keeps (g := fun d => d.slotOf p) (fun _ _ => rfl) d

@[simp] theorem frame_begin0 (d : Dev) (p : PortId) : (d.begin0 p).frame p = d.frame p :=
  begin0_keeps (g := fun d => d.frame p) (fun _ _ => rfl) d

@[simp] theorem cells_begin0 (d : Dev) (p : PortId) : ((d.begin0 p).port p).cells = (d.port p).cells :=
  begin0_keeps (g := fun d => (d.port p).cells) (fun _ _ => by rw [port_onE0]) d

@[simp] theorem cons_begin0 (d : Dev) (p : PortId) : ((d.begin0 p).port p).cons = (d.port p).cons :=
  begin0_keeps (g := fun d => (d.port p).cons) (fun _ _ => by rw [port_onE0]) d

@[simp] theorem unit_begin0 (d : Dev) (p : PortId) : ((d.begin0 p).port p).unit = (d.port p).unit :=
  begin0_keeps (g := fun d => (d.port p).unit) (fun _ _ => by rw [port_onE0]) d

/-! ### A judged read -/

@[simp] theorem port_countRead (d : Dev) (p q : PortId) (c : Nat) (st : Bool) (n : Nat) :
    (d.countRead p c st n).port q = d.port q := by
  unfold countRead; split_ifs <;> rfl

end Dev

/-- A fresh cell's value is the one used (R19). -/
theorem Consumer.after_fresh {α : Type} {c : Consumer α} {r : CellRec α} {slot : Nat} (h : c.stale r slot = false) :
    (c.after r slot).held = r.val := by simp [Consumer.after, h]

/-- A stale cell leaves the value held (R19). -/
theorem Consumer.after_stale {α : Type} {c : Consumer α} {r : CellRec α} {slot : Nat} (h : c.stale r slot = true) :
    (c.after r slot).held = c.held := by simp [Consumer.after, h]

/-- Where a kernel of engine 0 runs, no freeze holds the block. -/
theorem Dev.runs_awake {d : Dev} {p : PortId} {r : EngineRole} {id t : Nat} (h : d.runs p r id t = true) : d.frozen = false := by
  simp only [Dev.runs, Dev.clocked, Bool.and_eq_true, Bool.not_eq_true'] at h
  exact h.1.1.2

/-- A kernel of engine 0 that the image places answers with its body's effect. -/
theorem answers_kernel0 {c : Instr} {s : State} {p : PortId} {id t : Nat} {f : Dev → Dev} {P : State → Prop}
    (hr : s.dev.runs p .e0 id t = true) (hc : exec c s = .next (s.awake (kernel0 p id t f)))
    (h : ∀ u : State, u.dev = f (s.dev.begin0 p) → P u) : Answers c s P :=
  answers_of_awake (Dev.runs_awake hr) hc fun u hu => h u (hu.trans (if_pos hr))

end Sys2Proof.Machine
end

section
/-! PROOF. Engine 0 reads its cells, and trips on a stale current cell under the trip rule (R19, R78, R95, R137, R148, R153). -/

namespace Sys2Proof.Machine

/-! ### The bodies of the kernels -/

/-- K_IIN with a fresh cell and both channels good. -/
theorem kIinBody_fresh {d : Dev} {p : PortId} {t : Nat}
    (hst : (d.port p).cons.cur0.stale (d.port p).cells.current.cur (d.slotOf p) = false)
    (hu : d.poor p (d.port p).cells.current.cur.val.uValid (d.port p).cells.current.cur.val.uGap = false)
    (hv : d.poor p (d.port p).cells.current.cur.val.vValid (d.port p).cells.current.cur.val.vGap = false) :
    let x := d.port p
    let y := (kIinBody p t d).port p
    let v := x.cells.current.cur.val
    y.e0.fr.iu = v.iu ∧ y.e0.fr.iv = v.iv ∧ y.e0.fr.iw = -(v.iu + v.iv) ∧ y.e0.fl.hold = x.e0.fl.hold ∧
    y.e0.fl.coast = x.e0.fl.coast ∧ y.e0.fl.zvv = x.e0.fl.zvv ∧ y.e0.fl.uPoor = false ∧ y.e0.fl.vPoor = false ∧
    y.faults = x.faults := by
  simp [kIinBody, hst, Consumer.after_fresh hst, hu, hv, reconstruct, Dev.tripIf]

/-- K_ANG_IN with a fresh cell. -/
theorem kAngInBody_fresh {d : Dev} {p : PortId}
    (hst : (d.port p).cons.ang0.stale (d.port p).cells.angle.cur (d.slotOf p) = false) :
    let x := d.port p
    let f := ((kAngInBody p d).port p).e0
    let a := x.cells.angle.cur.val
    let k : Int := d.frame p
    f.fr.omega = a.speed ∧ f.fl.angHeld = a ∧ f.st.thetaS1 = x.e0.st.thetaS1 ∧ f.st.wS = a.speed ∧
    f.st.thetaS = angleAt a x.cells.angle.cur.wslot ((x.cells.current.cur.wslot : Int) + k) ∧
    f.fr.thetaMeas = wrapAngQ (angleAt a x.cells.angle.cur.wslot ((x.cells.current.cur.wslot : Int) - k) +
      narrow (a.speed * k) 2) := by
  have hnext : ∀ w k : Int, w - k + 2 * k = w + k := fun w k => by ring
  simp [kAngInBody, hst, Consumer.after_fresh hst, Dev.tripIf, hnext]

/-- K_VBUS_IN with a fresh cell. -/
theorem kVbusInBody_fresh {d : Dev} {p : PortId}
    (hst : (d.port p).cons.bus0.stale (d.port p).cells.bus.cur (d.slotOf p) = false) :
    let x := d.port p
    let f := ((kVbusInBody p d).port p).e0
    f.fr.vbus = x.cells.bus.cur.val.v ∧ f.fl = x.e0.fl := by
  simp [kVbusInBody, hst, Consumer.after_fresh hst, Dev.tripIf]

/-- K_IIN with a stale cell under the trip rule trips behind a count of the stale read. -/
theorem kIinBody_stale {d : Dev} {p : PortId} {t : Nat}
    (hst : (d.port p).cons.cur0.stale (d.port p).cells.current.cur (d.slotOf p) = true)
    (htrip : (d.port p).cons.cur0.rule = .trip) :
    ∃ e : E0, e.fl.hold = true ∧ ∃ c : Consumer CurVal, c.held = (d.port p).cons.cur0.held ∧
      kIinBody p t d = ((d.onPort p fun x => { x with cons := { x.cons with cur0 := c }, e0 := e }).inc (0x2650 + p.num)
        0x11).trip p .handoffStale 9 := by
  unfold kIinBody
  dsimp only
  rw [hst, htrip]
  refine ⟨_, ?_, _, ?_, rfl⟩
  · simp [E0.stale, E0.withFlags]
  · exact Consumer.after_stale hst

/-! ### The commands -/

theorem engineZeroReadsItsCells : Says.EngineZeroReadsItsCells := by
  intro s p t
  refine ⟨fun hr hst hu hv => answers_kernel0 hr rfl fun u hdev => ?_,
    fun hr hst => answers_kernel0 hr rfl fun u hdev => ?_,
    fun hr hst => answers_kernel0 hr rfl fun u hdev => ?_, Dev.begin0_of_inFrame, fun hframe => ?_⟩
  · rw [hdev]
    exact kIinBody_fresh (by rwa [Dev.slotOf_begin0]) (by rwa [Dev.poor_begin0]) (by rwa [Dev.poor_begin0])
  · rw [hdev, ← Dev.frame_begin0]
    exact kAngInBody_fresh (by rwa [Dev.slotOf_begin0])
  · rw [hdev]
    exact kVbusInBody_fresh (by rwa [Dev.slotOf_begin0])
  · dsimp only
    rw [Dev.begin0_of_newFrame hframe]
    exact ⟨rfl, rfl, rfl, rfl, rfl, rfl, rfl, rfl, rfl, rfl, rfl, rfl⟩

theorem staleCurrentCellUnderTripRaisesHandoffStale : Says.StaleCurrentCellUnderTripRaisesHandoffStale := by
  intro s p t x hr hst htrip
  have hstart : ((s.dev.begin0 p).port p).cons.cur0.stale ((s.dev.begin0 p).port p).cells.current.cur
      ((s.dev.begin0 p).slotOf p) = true := by simpa using hst
  obtain ⟨e, hold, c, hheld, hbody⟩ := kIinBody_stale (t := t) hstart (by simpa using htrip)
  refine answers_kernel0 hr rfl fun u hdev => ?_
  have hidx : 0x2650 + p.num ≠ pidx p 0xB0 := by unfold pidx; omega
  have hlost : objKey (0x2650 + p.num) 0x11 ≠ objKey 0x2721 2 := by unfold objKey; omega
  rw [hdev, hbody]
  refine ⟨Dev.faulted_trip .., Dev.pnum_last_trip .., ?_, ?_, ?_, ?_⟩
  · rw [Dev.port_trip, Dev.inc_port, Dev.port_onPort, Dev.unit_begin0]
  · rw [Dev.port_trip, Dev.inc_port, Dev.port_onPort, hheld, Dev.cons_begin0]
  · rw [Dev.port_trip, Dev.inc_port, Dev.port_onPort, hold]
  · rw [Dev.num_trip_ne _ _ _ hidx (by decide) hlost, Dev.num_inc, Dev.onPort_num, Dev.num_begin0]

/-- Settles O5: before a kernel engine 0 alone changes, so the kernel judges the cells as they stand, takes a fresh one's value and
holds, with a fault and its command, a stale one under the trip rule. -/
theorem engineZeroReadsItsCellsOrActsOnStaleness : Obligations.EngineZeroReadsItsCellsOrActsOnStaleness :=
  ⟨engineZeroReadsItsCells, staleCurrentCellUnderTripRaisesHandoffStale⟩

end Sys2Proof.Machine
end

section
/-! SUPPORT. Request ports, sessions and responses: what taking a request and answering it leave, and the frame that a response
sends (R339, R346 to R350). -/

namespace Sys2Proof.Machine

@[simp] theorem ReqPorts.get_set_same (q : ReqPorts) (o : Origin) (x : ReqPort) : (q.set o x).get o = x := by cases o <;> rfl

@[simp] theorem originOf_originCode (o : Origin) : originOf (originCode o) = o := by cases o <;> rfl

namespace Dev

@[simp] theorem reqPort_onReqPort (d : Dev) (o : Origin) (f : ReqPort → ReqPort) :
    (d.onReqPort o f).reqPort o = f (d.reqPort o) := ReqPorts.get_set_same ..

/-! ### A request taken -/

/-- What neither the port's queue of requests nor its objects touch, a request taken leaves. -/
theorem take_keeps {β : Type} {g : Dev → β} {o : Origin} (hput : ∀ d s v, s < 256 → g (d.put (netIdx o) s v) = g d) {d : Dev}
    (hport : ∀ f : ReqPort → ReqPort, (∀ x, (f x).tx = x.tx) → g (d.onReqPort o f) = g d) (i delay : Nat) : g (d.take o i delay) = g d := by
  have hcount : ∀ d a b, a < 256 → b < 256 → g (d.countReq o a b) = g d := fun d a b ha hb => by
    unfold countReq
    split
    · rfl
    · split_ifs
      · rfl
      · exact hput d b _ hb
    · exact hput d a _ ha
  have hdelay : ∀ d, g (if delay = 0 then d else d.countReq o 0x13 0) = g d := fun d => by
    split_ifs
    · rfl
    · exact hcount d _ _ (by decide) (by decide)
  have hlast : ∀ d, g (match (generalizing := false) o with
      | .tap => d
      | .chain => d.put 0x2301 0xA (max (d.num 0x2301 0xA) (delayUs delay))
      | o => d.put (netIdx o) 0x17 (max (d.num (netIdx o) 0x17) (delayUs delay))) = g d := fun d => by
    split
    · rfl
    · exact hput d _ _ (by decide)
    · exact hput d _ _ (by decide)
  unfold take
  refine (hlast _).trans ((hdelay _).trans ((hcount _ _ _ (by decide) (by decide)).trans (hport _ ?_)))
  exact fun _ => rfl

@[simp] theorem wr_taken (d : Dev) (o : Origin) (i : Nat) (r : Request) : (d.taken o i r).wr = d.wr :=
  take_keeps (g := Dev.wr) (fun _ _ _ _ => rfl) (fun _ _ => rfl) i _

@[simp] theorem published_taken (d : Dev) (o : Origin) (i : Nat) (r : Request) : (d.taken o i r).published = d.published :=
  take_keeps (g := Dev.published) (fun _ _ _ _ => rfl) (fun _ _ => rfl) i _

@[simp] theorem flash_taken (d : Dev) (o : Origin) (i : Nat) (r : Request) : (d.taken o i r).flash = d.flash :=
  take_keeps (g := Dev.flash) (fun _ _ _ _ => rfl) (fun _ _ => rfl) i _

@[simp] theorem lane_taken (d : Dev) (o : Origin) (i : Nat) (r : Request) (l : LaneId) : (d.taken o i r).lane l = d.lane l :=
  take_keeps (g := fun d => d.lane l) (fun _ _ _ _ => rfl) (fun _ _ => rfl) i _

/-- A request taken leaves the frames that wait for transmission. -/
@[simp] theorem tx_taken (d : Dev) (o : Origin) (i : Nat) (r : Request) :
    ((d.taken o i r).reqPort o).tx = (d.reqPort o).tx :=
  take_keeps (g := fun d => (d.reqPort o).tx) (fun _ _ _ _ => rfl) (fun f hf => by rw [reqPort_onReqPort, hf]) i _

/-- A request taken is counted in the objects of its port alone. -/
theorem get_objs_taken (d : Dev) (o : Origin) (i : Nat) (r : Request) {key : Nat} (hk : key / 256 ≠ netIdx o) :
    (d.taken o i r).objs.get key = d.objs.get key :=
  take_keeps (g := fun d => d.objs.get key)
    (fun d s v hs => ObjStore.get_put_ne _ _ _ _ fun h => hk (by rw [h]; unfold objKey; omega)) (fun _ _ => rfl) i _

/-! ### Responses -/

/-- The frame of a response follows from the slot of the serving lane and the node's own ID on N3. -/
theorem response_congr {d e : Dev} (hl : e.lanes = d.lanes) (ha : e.num 0x2500 1 = d.num 0x2500 1)
    (ho : e.num 0x1130 0x10 = d.num 0x1130 0x10) (hn : e.num 0x1130 2 = d.num 0x1130 2) (y : Reply) (res : Res)
    (payload : List Byte) : e.response y res payload = d.response y res payload := by
  have hlane : ∀ l, e.lane l = d.lane l := fun l => by rw [lane, hl, lane]
  have hclk : e.clkLane = d.clkLane := clkLane_congr (by rw [hlane]) ha
  have hserve : ∀ o, e.serveSlot o = d.serveSlot o := fun o => by
    simp only [serveSlot, serveLane, hclk, ho, hlane]
  unfold response framed canIdOf nat
  simp only [hserve, hn]

/-- A response changes the ports' and the sessions' state alone. -/
theorem exists_respond (d : Dev) (y : Reply) (res : Res) (payload : List Byte) :
    ∃ n, d.respond y res payload = { d with net := n } ∧ n.bridge = d.net.bridge := by
  unfold respond
  by_cases h : y.session = 0
  · rw [if_pos h]
    exact ⟨_, rfl, rfl⟩
  · rw [if_neg h]
    exact ⟨_, rfl, rfl⟩

/-- What the ports' and the sessions' state does not touch, a response leaves. -/
theorem respond_keeps {β : Type} {g : Dev → β} (h : ∀ d n, n.bridge = d.net.bridge → g { d with net := n } = g d) (d : Dev)
    (y : Reply) (res : Res) (payload : List Byte) : g (d.respond y res payload) = g d := by
  obtain ⟨n, hn, hb⟩ := exists_respond d y res payload
  rw [hn, h d n hb]

@[simp] theorem objs_respond (d : Dev) (y : Reply) (res : Res) (b : List Byte) : (d.respond y res b).objs = d.objs :=
  respond_keeps (g := Dev.objs) (fun _ _ _ => rfl) d y res b

@[simp] theorem wr_respond (d : Dev) (y : Reply) (res : Res) (b : List Byte) : (d.respond y res b).wr = d.wr :=
  respond_keeps (g := Dev.wr) (fun _ _ _ => rfl) d y res b

@[simp] theorem flash_respond (d : Dev) (y : Reply) (res : Res) (b : List Byte) : (d.respond y res b).flash = d.flash :=
  respond_keeps (g := Dev.flash) (fun _ _ _ => rfl) d y res b

@[simp] theorem bridge_respond (d : Dev) (y : Reply) (res : Res) (b : List Byte) :
    (d.respond y res b).net.bridge = d.net.bridge :=
  respond_keeps (g := fun d => d.net.bridge) (fun _ _ h => h) d y res b

/-- Behind a transmit queue with room a response is its last frame. -/
theorem tx_respond {d : Dev} {y : Reply} {o : Origin} (ho : y.origin = originCode o)
    (hroom : (d.reqPort o).tx.length < txRoom o) (res : Res) :
    ((d.respond y res []).reqPort o).tx = (d.reqPort o).tx ++ [d.response y res []] := by
  have hsession : ∀ (e : Dev) f, ((if y.session = 0 then e else e.onSession y.session f).reqPort o).tx = (e.reqPort o).tx :=
    fun e f => by split_ifs <;> rfl
  have hstream : ∀ pdu, (d.framed o 1 y.partner y.back pdu).stream = false := fun _ => by cases o <;> rfl
  unfold respond response
  rw [ho, originOf_originCode]
  dsimp only
  rw [hsession, transmit, reqPort_onReqPort, if_neg (Nat.not_le.mpr hroom)]
  simp [hstream]

end Dev
end Sys2Proof.Machine
end

section
/-! SUPPORT. What a write that is judged brings about: a change formed for the writer, a Process write for the next boundary, or a
refusal that is recorded (R361, R364, R366, R373). -/

namespace Sys2Proof.Machine

theorem mem_insertJob_self (j : JournalJob) (q : List JournalJob) : j ∈ insertJob j q := by
  induction q with
  | nil => exact List.mem_singleton_self j
  | cons k q ih =>
    unfold insertJob
    split_ifs
    · exact List.mem_cons_of_mem k ih
    · exact List.mem_cons_self

/-- A queue settled anew holds every job, with its lane and its write. -/
theorem exists_mem_recount {j : JournalJob} {q : List JournalJob} (h : j ∈ q) (ids : List Nat) (acc : List Ahead) :
    ∃ k ∈ recount ids acc q, k.lane = j.lane ∧ k.write = j.write := by
  induction q generalizing acc with
  | nil => cases h
  | cons x q ih =>
    unfold recount
    rcases List.mem_cons.mp h with rfl | h
    · exact ⟨_, List.mem_cons_self, rfl, rfl⟩
    · obtain ⟨k, hk, hlane, hwrite⟩ := ih h _
      exact ⟨k, List.mem_cons_of_mem _ hk, hlane, hwrite⟩

namespace Dev

/-! ### Changes -/

/-- A job formed is one of the queue's. -/
theorem exists_mem_formJob (d : Dev) (l : LaneId) (origin : Nat) (body : List Byte) (write : Option (Nat × List Byte))
    (change : Option Change) (reserve : Bool) (ahead : List Ahead) (seen : Option Seen) :
    ∃ q ∈ (d.formJob l origin body write change reserve ahead seen).wr.queue, q.lane = l ∧ q.write = write := by
  obtain ⟨k, hk, hlane, hwrite⟩ := exists_mem_recount (mem_insertJob_self
    ⟨d.wr.nextJob, body, write, change, l, (d.lane l).slots + 1, none, origin, reserve, ahead, seen, false⟩ d.wr.queue) _ _
  exact ⟨k, hk, hlane, hwrite⟩

/-- A permitted change with room for it is formed for the writer. -/
theorem write_change {d : Dev} {l : LaneId} {c : Ctx} {y : Reply} {vpp key : Nat} {raw : List Byte} {row : ObjRow}
    (hres : d.judge c vpp key raw = .ok) (hrow : objRow (key / 256) (key % 256) = some row) (hch : isChange row = true)
    (hroom : d.queueRoom = true) :
    d.write l c y vpp key raw = (d.formChange l c ((d.lane l).slots % 2 ^ 32) vpp key raw (some y)).stamped := by
  simp only [write, hres, hrow, hch, hroom, if_true]

/-! ### Process writes -/

/-- A Process write that also starts the bank's operation where it erases the bank (R364, R395). -/
def procQueued (d : Dev) (l : LaneId) (c : Ctx) (key : Nat) (raw : List Byte) (more erases : Bool) : Dev :=
  if erases then (d.procWrite l c key raw more).eraseAhead else d.procWrite l c key raw more

/-- A Process write changes the writer's state alone, and waits last among those of its kind. -/
theorem exists_procQueued (d : Dev) (l : LaneId) (c : Ctx) (key : Nat) (raw : List Byte) (more erases : Bool) :
    ∃ w, d.procQueued l c key raw more erases = { d with wr := w } ∧
      w.procs = d.wr.procs ++ [⟨key, raw, c.session, c.origin, l, (d.lane l).slots + 1, more⟩] := by
  unfold procQueued
  split_ifs
  · exact ⟨_, rfl, rfl⟩
  · exact ⟨_, rfl, rfl⟩

/-- A Process write queued and answered. -/
theorem procQueued_respond {d u : Dev} {l : LaneId} {c : Ctx} {y : Reply} {o : Origin} {key : Nat} {raw : List Byte}
    {more erases : Bool} (hu : u = (d.procQueued l c key raw more erases).respond y .ok []) (ho : y.origin = originCode o)
    (hroom : (d.reqPort o).tx.length < txRoom o) :
    u.wr.procs = d.wr.procs ++ [⟨key, raw, c.session, c.origin, l, (d.lane l).slots + 1, more⟩] ∧ u.objs = d.objs ∧
    u.flash = d.flash ∧ u.net.bridge = d.net.bridge ∧ (u.reqPort o).tx = (d.reqPort o).tx ++ [d.response y .ok []] := by
  obtain ⟨w, hw, hprocs⟩ := exists_procQueued d l c key raw more erases
  rw [hu, hw]
  refine ⟨?_, objs_respond .., flash_respond .., bridge_respond .., ?_⟩
  · rw [wr_respond, hprocs]
  · rw [tx_respond (d := { d with wr := w }) ho hroom, response_congr (d := d) rfl rfl rfl rfl]
    rfl

/-- A permitted Process write is queued and answered. -/
theorem write_process {d : Dev} {l : LaneId} {c : Ctx} {y : Reply} {vpp key : Nat} {raw : List Byte} {row : ObjRow}
    (hres : d.judge c vpp key raw = .ok) (hrow : objRow (key / 256) (key % 256) = some row) (hch : isChange row = false) :
    d.write l c y vpp key raw = (d.procQueued l c key raw false (key == 0x141000)).respond y .ok [] := by
  simp [write, hres, hrow, hch, procQueued]

/-! ### Refusals -/

/-- A write that is not permitted is refused with its result. -/
theorem write_refused {d : Dev} {l : LaneId} {c : Ctx} {y : Reply} {vpp key : Nat} {raw : List Byte}
    (hres : d.judge c vpp key raw ≠ .ok) :
    d.write l c y vpp key raw = d.refuseWrite l c y key raw (d.judge c vpp key raw) := by
  unfold write
  split
  next hok _ => exact absurd hok hres
  next => rfl

/-- A refused change is recorded outside the ports' state and the Process writes that wait. -/
theorem recordRefusal_keeps (d : Dev) (l : LaneId) (c : Ctx) (key : Nat) (raw : List Byte) (res : Res) :
    (d.recordRefusal c l key raw res).net = d.net ∧ (d.recordRefusal c l key raw res).wr.procs = d.wr.procs ∧
    ∀ y res' b, (d.recordRefusal c l key raw res).response y res' b = d.response y res' b := by
  unfold recordRefusal
  dsimp only
  split_ifs
  · exact ⟨rfl, rfl, response_congr rfl (num_incBy_ne _ _ _ _ _ _ (by decide)) (num_incBy_ne _ _ _ _ _ _ (by decide))
      (num_incBy_ne _ _ _ _ _ _ (by decide))⟩
  · exact ⟨rfl, rfl, response_congr rfl rfl rfl rfl⟩
  · exact ⟨rfl, rfl, fun _ _ _ => rfl⟩

/-- A refused write is answered with its result, and writes nothing. -/
theorem refuseWrite_answers {d u : Dev} {l : LaneId} {c : Ctx} {y : Reply} {o : Origin} {key : Nat} {raw : List Byte} {res : Res}
    (hu : u = d.refuseWrite l c y key raw res) (ho : y.origin = originCode o) (hroom : (d.reqPort o).tx.length < txRoom o) :
    (u.reqPort o).tx = (d.reqPort o).tx ++ [d.response y res []] ∧ u.wr.procs = d.wr.procs ∧
    u.net.bridge = d.net.bridge := by
  have hanswered : ∀ e : Dev, e.net = d.net → e.wr.procs = d.wr.procs → e.response y res [] = d.response y res [] →
      ((e.respond y res []).reqPort o).tx = (d.reqPort o).tx ++ [d.response y res []] ∧
      (e.respond y res []).wr.procs = d.wr.procs ∧ (e.respond y res []).net.bridge = d.net.bridge := by
    intro e hnet hprocs hframe
    have hport : e.reqPort o = d.reqPort o := by rw [reqPort, hnet, reqPort]
    exact ⟨by rw [tx_respond ho (by rw [hport]; exact hroom), hport, hframe], by rw [wr_respond, hprocs],
      by rw [bridge_respond, hnet]⟩
  obtain ⟨hnet, hprocs, hframe⟩ := recordRefusal_keeps d l c key raw res
  rw [hu]
  unfold refuseWrite
  dsimp only
  split_ifs
  · exact hanswered _ hnet hprocs (hframe y res [])
  · exact hanswered d rfl rfl rfl

end Dev
end Sys2Proof.Machine
end

section
/-! SUPPORT. A service slot: the request that it chooses is carried out by its row (R28, R341, R347, R350). -/

namespace Sys2Proof.Machine

namespace Dev

/-! ### Sessions -/

/-- A change of the sessions of an ID that keeps their IDs is seen in the table. -/
theorem session_onSession (d : Dev) (a id : Nat) {f : Session → Session} (hf : ∀ x, (f x).id = x.id) :
    (d.onSession a f).session id = (d.session id).map fun x => if x.id = a then f x else x := by
  have hid : ∀ x : Session, (if x.id = a then f x else x).id = x.id := fun x => by split_ifs <;> simp [hf]
  have hlist : ∀ xs : List (Option Session), ((xs.map fun s => s.map fun x => if x.id = a then f x else x).filterMap
      fun s => s) = (xs.filterMap fun s => s).map fun x => if x.id = a then f x else x := by
    intro xs
    induction xs with
    | nil => rfl
    | cons x xs ih => cases x <;> simp [ih]
  unfold session onSession
  dsimp only
  rw [hlist, List.find?_map]
  congr 2
  exact funext fun x => by simp [hid]

/-- An assembly set in a session is the session's. -/
theorem asm_onSession {d : Dev} {id : Nat} {x : Session} (h : d.session id = some x) (a : Option (Nat × List Byte)) :
    (d.onSession id fun s => { s with asm := a }).session id = some { x with asm := a } := by
  have hid : x.id = id := by simpa using List.find?_some h
  rw [session_onSession _ _ _ (f := fun s => { s with asm := a }) fun _ => rfl, h, Option.map_some, if_pos hid]

/-- A response leaves a session's assembly. -/
theorem asm_respond {d : Dev} {id : Nat} {x : Session} (h : d.session id = some x) (y : Reply) (res : Res) (b : List Byte) :
    ∃ z, (d.respond y res b).session id = some z ∧ z.asm = x.asm := by
  unfold respond
  by_cases hs : y.session = 0
  · rw [if_pos hs]
    exact ⟨x, h, rfl⟩
  · rw [if_neg hs, session_onSession _ _ _ fun s => by split_ifs <;> rfl]
    refine ⟨_, congrArg (Option.map _) h, ?_⟩
    simp only [apply_ite Session.asm, ite_self]

/-! ### The request served -/

variable {d : Dev} {o : Origin} {i : Nat} {r : Request} {c : Ctx}

/-- Where a service slot chooses no request, nothing happens. -/
theorem serve_none (h : d.chosen o = none) (row : Nat) (f : LaneId → Ctx → Reply → Request → Dev → Dev) :
    d.serve o row f = d := by
  rw [serve, h]

/-- The chosen request of a row is taken and carried out. -/
theorem serve_chosen (h : d.chosen o = some (i, r)) (hwf : r.wellFormed = true) (hc : (d.taken o i r).reqCtx o r = some c)
    (f : LaneId → Ctx → Reply → Request → Dev → Dev) :
    d.serve o r.row f = f ((d.taken o i r).serveLane o) c (d.replyNow o r) r (d.taken o i r) := by
  unfold serve
  rw [h]
  dsimp only
  rw [if_neg (not_not_intro rfl), if_neg (by simp [hwf])]
  change (match (d.taken o i r).reqCtx o r with | none => _ | some c => _) = _
  rw [hc]
  rfl

/-- A chosen request finds room for its answer. -/
theorem room_of_chosen (h : d.chosen o = some (i, r)) : ((d.taken o i r).reqPort o).tx.length < txRoom o := by
  rw [tx_taken]
  unfold chosen at h
  dsimp only at h
  split_ifs at h with hc
  simp only [Bool.and_eq_true, decide_eq_true_eq] at hc
  exact hc.2

/-- A request for an object at home in the serving lane is carried out there. -/
theorem objectService_atHome {l : LaneId} {y : Reply} (vpp : Nat) (h : d.atHome l r.key) :
    objectService vpp l c y r d = d.objectRequest l c y vpp r := by
  unfold objectService
  split
  next m hm =>
    refine if_neg fun ⟨hne, hlost, hb⟩ => ?_
    rcases h m hm with h | h | h
    · exact hne h
    · exact absurd hlost (by simp [h])
    · exact absurd hb (by simp [h])
  next => rfl

/-! ### Segments -/

/-- A first segment that is not the last opens an assembly (R341). -/
theorem doWriteSegment_first {l : LaneId} {y : Reply} {vpp key : Nat} {data : List Byte} {row : ObjRow}
    (hhead : d.headRes c.role (key / 256) (key % 256) = .ok) (hrow : objRow (key / 256) (key % 256) = some row)
    (haccess : accessOk row.access (d.committed c.origin).mode = true) (hhome : d.homeLost (key / 256) = false)
    (htype : row.type = .octets) (hlen : data.length ≤ row.len.max) (hmax : data.length ≤ 1024) :
    d.doWriteSegment l c y vpp key 1 0 data =
      (d.onSession c.session fun s => { s with asm := some (key, data) }).respond y .ok [] := by
  have hbytes : maxBytes row = row.len.max := by rw [maxBytes, htype]
  have hfits : ¬ (maxBytes row < data.length ∨ 1024 < data.length) := by omega
  simp [doWriteSegment, hhead, hrow, haccess, hhome, htype, hfits]

/-- A permitted direct segment is queued as a Process write and answered. -/
theorem doDirect_ok {l : LaneId} {y : Reply} {key flags off : Nat} {data : List Byte}
    (h : d.directRes c key (flags % 2 == 1) off data.length = .ok) :
    let first := flags % 2 == 1
    d.doDirect l c y key flags off data = (d.procQueued l c key ((if first then [] else d.pendingBytes key) ++ data) (!first)
      (first && key == 0x141000)).respond y .ok [] := by
  simp [doDirect, h, procQueued]

/-! ### The bridge -/

/-- The block with other requests on the bridge. -/
def withBridge (d : Dev) (b : List BridgeJob) : Dev := { d with net := { d.net with bridge := b } }

theorem assume_withBridge (d : Dev) (b : List BridgeJob) (k : Nat) (v : ObjVal) :
    (d.withBridge b).assume k v = (d.assume k v).withBridge b := by
  cases hr : objRow (k / 256) (k % 256) with
  | none => simp only [assume, hr]
  | some r =>
    simp only [assume, hr, apply_ite (withBridge · b)]
    rfl

theorem committed_withBridge (d : Dev) (b : List BridgeJob) (origin : Nat) :
    (d.withBridge b).committed origin = (d.committed origin).withBridge b := by
  have hall : ∀ (cs : List Ahead) (d : Dev), (d.withBridge b).assumeAll cs = (d.assumeAll cs).withBridge b := by
    intro cs
    induction cs with
    | nil => intro d; rfl
    | cons x cs ih =>
      intro d
      simp only [assumeAll, List.foldl_cons, assume_withBridge]
      exact ih _
  exact hall (d.changesAhead origin) d

/-- What waits on the bridge has no part in the judgement of a write. -/
theorem judge_withBridge (d : Dev) (b : List BridgeJob) (c : Ctx) (vpp key : Nat) (raw : List Byte) :
    (d.withBridge b).judge c vpp key raw = d.judge c vpp key raw := by
  rw [judge, committed_withBridge]
  rfl

theorem response_withBridge (d : Dev) (b : List BridgeJob) (y : Reply) (res : Res) (payload : List Byte) :
    (d.withBridge b).response y res payload = d.response y res payload :=
  response_congr rfl rfl rfl rfl y res payload

/-- The first request that is due on a port's bridge is executed in its home lane, or in the lane of the common domain once that
lane has been lost (R350, R361). -/
theorem bridgeExecutionStep_due {j : BridgeJob} {rest : List BridgeJob} (hb : d.net.bridge = j :: rest)
    (ho : j.origin = originCode o) (hdue : j.due ≤ (d.lane j.home).slots) (hc : d.reqCtx o j.req = some c) :
    bridgeExecutionStep o d = (d.withBridge rest).objectRequest (if d.laneLost j.home then d.clkLane else j.home) c
      (d.replyTo o j.req j.delay) 0 j.req := by
  have hfind : d.net.bridge.find? (fun j => j.origin == originCode o && decide (j.due ≤ (d.lane j.home).slots)) = some j := by
    rw [hb, List.find?_cons_of_pos (by simp [ho, hdue])]
  have herase : d.net.bridge.erase j = rest := by rw [hb, List.erase_cons_head]
  unfold bridgeExecutionStep
  rw [hfind]
  dsimp only
  rw [herase]
  change (match d.reqCtx o j.req with | none => _ | some c => _) = _
  rw [hc]
  rfl

end Dev
end Sys2Proof.Machine
end

section
/-! PROOF. Writes in a service slot, and writes that came over the bridge (R28, R81, R341, R350, R361, R364, R373, R395). -/

namespace Sys2Proof.Machine

namespace Dev

variable {d : Dev} {o : Origin} {i : Nat} {r : Request} {c : Ctx}

/-- An object request at home in the serving lane, chosen in its service slot, is carried out there. -/
theorem serve_atHome (h : d.chosen o = some (i, r)) (hwf : r.wellFormed = true)
    (hc : (d.taken o i r).reqCtx o r = some c) (hhome : (d.taken o i r).atHome ((d.taken o i r).serveLane o) r.key)
    {row : Nat} (hrow : r.row = row) (vpp : Nat) :
    d.serve o row (objectService vpp) =
      (d.taken o i r).objectRequest ((d.taken o i r).serveLane o) c (d.replyNow o r) vpp r := by
  rw [← hrow, serve_chosen h hwf hc, objectService_atHome vpp hhome]

theorem objectRequest_write {l : LaneId} {y : Reply} {vpp : Nat} (hrow : r.row = 2) :
    d.objectRequest l c y vpp r = d.write l c y vpp r.key (r.payload.drop 4) := by
  rw [objectRequest, hrow]
  rfl

/-- The bytes of the staging buffer and of the bank are none of a port's counters. -/
theorem pendingBytes_taken {key : Nat} (hk : key / 256 ≠ netIdx o) :
    (d.taken o i r).pendingBytes key = d.pendingBytes key := by
  unfold pendingBytes
  rw [wr_taken, get_objs_taken _ _ _ _ hk]

end Dev

variable {s : State} {o : Origin} {i : Nat} {r : Request} {c : Ctx} {vpp : Nat}

/-- The commands that write in a service slot, where it chooses no request. -/
theorem exec_writes_none (h : s.dev.chosen o = none) : exec (.write o vpp) s = .next s ∧ exec (.writeSegment o vpp) s = .next s ∧
    exec (.stagingBufferWrite o) s = .next s ∧ exec (.bankStaging o) s = .next s := by
  have hidle : ∀ row f, s.awake (fun d => d.serve o row f) = s := fun row f => State.awake_of_fixed (Dev.serve_none h row f)
  exact ⟨congrArg _ (hidle _ _), congrArg _ (hidle _ _), congrArg _ (hidle _ _), congrArg _ (hidle _ _)⟩

section
variable (hs : s.dev.frozen = false) (hch : s.dev.chosen o = some (i, r)) (hwf : r.wellFormed = true)
  (hc : (s.dev.taken o i r).reqCtx o r = some c)
  (hhome : (s.dev.taken o i r).atHome ((s.dev.taken o i r).serveLane o) r.key)
include hs hch hwf hc hhome

/-- A permitted change in its service slot. -/
theorem answers_write_change {row : ObjRow} (hrow : r.row = 2) (hobj : objRow (r.key / 256) (r.key % 256) = some row)
    (hres : (s.dev.taken o i r).judge c vpp r.key (r.payload.drop 4) = .ok) (hchange : isChange row = true)
    (hroom : (s.dev.taken o i r).queueRoom = true) : Answers (.write o vpp) s fun u =>
      u.dev.wr.queue.length = s.dev.wr.queue.length + 1 ∧ u.dev.objs = (s.dev.taken o i r).objs ∧
      u.dev.published = s.dev.published ∧ (u.dev.reqPort o).tx = (s.dev.reqPort o).tx := by
  refine answers_of_awake hs rfl fun u hu => ?_
  rw [hu, writeStep, Dev.serve_atHome hch hwf hc hhome hrow, Dev.objectRequest_write hrow,
    Dev.write_change hres hobj hchange hroom]
  refine ⟨?_, rfl, ?_, ?_⟩
  · rw [Dev.stamped_wr, Dev.length_queue_formChange, Dev.wr_taken]
  · exact Dev.published_taken ..
  · exact Dev.tx_taken ..

/-- A permitted Process write in its service slot. -/
theorem answers_write_process {row : ObjRow} (hrow : r.row = 2) (hobj : objRow (r.key / 256) (r.key % 256) = some row)
    (hres : (s.dev.taken o i r).judge c vpp r.key (r.payload.drop 4) = .ok) (hchange : isChange row = false) :
    Answers (.write o vpp) s fun u =>
      u.dev.wr.procs = s.dev.wr.procs ++ [⟨r.key, r.payload.drop 4, c.session, c.origin, (s.dev.taken o i r).serveLane o,
        (s.dev.lane ((s.dev.taken o i r).serveLane o)).slots + 1, false⟩] ∧ u.dev.objs = (s.dev.taken o i r).objs ∧
      (u.dev.reqPort o).tx = (s.dev.reqPort o).tx ++ [(s.dev.taken o i r).response (s.dev.replyNow o r) .ok []] := by
  refine answers_of_awake hs rfl fun u hu => ?_
  rw [writeStep, Dev.serve_atHome hch hwf hc hhome hrow, Dev.objectRequest_write hrow,
    Dev.write_process hres hobj hchange] at hu
  obtain ⟨hprocs, hobjs, -, -, htx⟩ := Dev.procQueued_respond hu rfl (Dev.room_of_chosen hch)
  rw [Dev.wr_taken, Dev.lane_taken] at hprocs
  rw [Dev.tx_taken] at htx
  exact ⟨hprocs, hobjs, htx⟩

/-- A refused write in its service slot. -/
theorem answers_write_refused (hrow : r.row = 2)
    (hres : (s.dev.taken o i r).judge c vpp r.key (r.payload.drop 4) ≠ .ok) : Answers (.write o vpp) s fun u =>
      (u.dev.reqPort o).tx = (s.dev.reqPort o).tx ++ [(s.dev.taken o i r).response (s.dev.replyNow o r)
        ((s.dev.taken o i r).judge c vpp r.key (r.payload.drop 4)) []] ∧ u.dev.wr.procs = s.dev.wr.procs := by
  refine answers_of_awake hs rfl fun u hu => ?_
  rw [writeStep, Dev.serve_atHome hch hwf hc hhome hrow, Dev.objectRequest_write hrow, Dev.write_refused hres] at hu
  obtain ⟨htx, hprocs, -⟩ := Dev.refuseWrite_answers hu rfl (Dev.room_of_chosen hch)
  rw [Dev.wr_taken] at hprocs
  rw [Dev.tx_taken] at htx
  exact ⟨htx, hprocs⟩

/-- A first segment in its service slot. -/
theorem answers_writeSegment_first {row : ObjRow} {x : Session} (hrow : r.row = 4) (hflags : slice r.payload 3 1 = [1])
    (hoff : leNat (slice r.payload 4 4) = 0)
    (hhead : (s.dev.taken o i r).headRes c.role (r.key / 256) (r.key % 256) = .ok)
    (hobj : objRow (r.key / 256) (r.key % 256) = some row)
    (haccess : accessOk row.access ((s.dev.taken o i r).committed c.origin).mode = true)
    (hlost : (s.dev.taken o i r).homeLost (r.key / 256) = false) (htype : row.type = .octets)
    (hlen : (r.payload.drop 8).length ≤ row.len.max) (hmax : (r.payload.drop 8).length ≤ 1024)
    (hx : (s.dev.taken o i r).session c.session = some x) : Answers (.writeSegment o vpp) s fun u =>
      ∃ z, u.dev.session c.session = some z ∧ z.asm = some (r.key, r.payload.drop 8) ∧
        u.dev.objs = (s.dev.taken o i r).objs := by
  have hseg : ∀ d : Dev, d.objectRequest ((s.dev.taken o i r).serveLane o) c (s.dev.replyNow o r) vpp r =
      d.doWriteSegment ((s.dev.taken o i r).serveLane o) c (s.dev.replyNow o r) vpp r.key 1 0 (r.payload.drop 8) := fun d => by
    rw [Dev.objectRequest, hrow, hflags, hoff]
    rfl
  refine answers_of_awake hs rfl fun u hu => ?_
  rw [hu, writeSegmentStep, Dev.serve_atHome hch hwf hc hhome hrow, hseg,
    Dev.doWriteSegment_first hhead hobj haccess hlost htype hlen hmax]
  obtain ⟨z, hz, hasm⟩ := Dev.asm_respond (Dev.asm_onSession hx (some (r.key, r.payload.drop 8))) (s.dev.replyNow o r) .ok []
  exact ⟨z, hz, hasm, Dev.objs_respond ..⟩

/-- A permitted direct segment in its service slot, by the row that serves its object. -/
theorem answers_direct {cmd : Instr} {row key : Nat} (hrow : r.row = row)
    (hcmd : exec cmd s = .next (s.awake fun d => d.serve o row (Dev.objectService 0)))
    (hseg : ∀ (d : Dev) l y, r.row = row → d.objectRequest l c y 0 r =
      d.doDirect l c y key (leNat (slice r.payload 3 1)) (leNat (slice r.payload 4 4)) (r.payload.drop 8))
    (hkey : key / 256 ≠ netIdx o)
    (hres : (s.dev.taken o i r).directRes c key (leNat (slice r.payload 3 1) % 2 == 1) (leNat (slice r.payload 4 4))
      (r.payload.drop 8).length = .ok) : Answers cmd s fun u =>
      let first := leNat (slice r.payload 3 1) % 2 == 1
      let l := (s.dev.taken o i r).serveLane o
      u.dev.wr.procs = s.dev.wr.procs ++ [⟨key, (if first then [] else s.dev.pendingBytes key) ++ r.payload.drop 8, c.session,
        c.origin, l, (s.dev.lane l).slots + 1, !first⟩] ∧ u.dev.objs = (s.dev.taken o i r).objs ∧
      u.dev.flash = s.dev.flash ∧
      (u.dev.reqPort o).tx = (s.dev.reqPort o).tx ++ [(s.dev.taken o i r).response (s.dev.replyNow o r) .ok []] := by
  refine answers_of_awake hs hcmd fun u hu => ?_
  rw [Dev.serve_atHome hch hwf hc hhome hrow, hseg _ _ _ hrow, Dev.doDirect_ok hres] at hu
  obtain ⟨hprocs, hobjs, hflash, -, htx⟩ := Dev.procQueued_respond hu rfl (Dev.room_of_chosen hch)
  rw [Dev.wr_taken, Dev.lane_taken, Dev.pendingBytes_taken hkey] at hprocs
  rw [Dev.flash_taken] at hflash
  rw [Dev.tx_taken] at htx
  exact ⟨hprocs, hobjs, hflash, htx⟩

end

/-! ### Writes that came over the bridge -/

section
variable {j : BridgeJob} {rest : List BridgeJob} {row : ObjRow} (hs : s.dev.frozen = false) (hb : s.dev.net.bridge = j :: rest)
  (ho : j.origin = originCode o) (hdue : j.due ≤ (s.dev.lane j.home).slots) (hreq : j.req.row = 2)
  (hc : s.dev.reqCtx o j.req = some c)
include hs hb ho hdue hreq hc

/-- A write that is due on the bridge is judged and carried out off it. -/
theorem answers_bridgedWrite {P : State → Prop}
    (h : ∀ u : State, u.dev = (s.dev.withBridge rest).write (if s.dev.laneLost j.home then s.dev.clkLane else j.home) c
      (s.dev.replyTo o j.req j.delay) 0 j.req.key (j.req.payload.drop 4) → P u) : Answers (.bridgeExecution o) s P := by
  refine answers_of_awake hs rfl fun u hu => h u ?_
  rw [hu, Dev.bridgeExecutionStep_due hb ho hdue hc, Dev.objectRequest_write hreq]

/-- A permitted change that came over the bridge goes to the writer in its home lane. -/
theorem answers_bridgedWrite_change (hlane : s.dev.laneLost j.home = false)
    (hobj : objRow (j.req.key / 256) (j.req.key % 256) = some row)
    (hres : s.dev.judge c 0 j.req.key (j.req.payload.drop 4) = .ok) (hchange : isChange row = true)
    (hroom : s.dev.queueRoom = true) : Answers (.bridgeExecution o) s fun u =>
      u.dev.net.bridge = rest ∧ u.dev.objs = s.dev.objs ∧ u.dev.wr.queue.length = s.dev.wr.queue.length + 1 ∧
      u.dev.wr.procs = s.dev.wr.procs ∧
      (∃ q, q ∈ u.dev.wr.queue ∧ q.lane = j.home ∧ q.write = some (j.req.key, j.req.payload.drop 4)) ∧
      (u.dev.reqPort o).tx = (s.dev.reqPort o).tx := by
  refine answers_bridgedWrite hs hb ho hdue hreq hc fun u hu => ?_
  rw [hlane, if_neg Bool.false_ne_true, Dev.write_change ((Dev.judge_withBridge s.dev rest ..).trans hres) hobj hchange hroom] at hu
  rw [hu]
  exact ⟨rfl, rfl, Dev.length_queue_formChange .., rfl, Dev.exists_mem_formJob .., rfl⟩

/-- A permitted Process write that came over the bridge waits for the next boundary of its home lane. -/
theorem answers_bridgedWrite_process (hlane : s.dev.laneLost j.home = false)
    (hobj : objRow (j.req.key / 256) (j.req.key % 256) = some row)
    (hres : s.dev.judge c 0 j.req.key (j.req.payload.drop 4) = .ok) (hchange : isChange row = false)
    (hroom : (s.dev.reqPort o).tx.length < txRoom o) : Answers (.bridgeExecution o) s fun u =>
      u.dev.net.bridge = rest ∧ u.dev.objs = s.dev.objs ∧
      u.dev.wr.procs = s.dev.wr.procs ++ [⟨j.req.key, j.req.payload.drop 4, c.session, c.origin, j.home,
        (s.dev.lane j.home).slots + 1, false⟩] ∧
      (u.dev.reqPort o).tx = (s.dev.reqPort o).tx ++ [s.dev.response (s.dev.replyTo o j.req j.delay) .ok []] := by
  refine answers_bridgedWrite hs hb ho hdue hreq hc fun u hu => ?_
  rw [hlane, if_neg Bool.false_ne_true, Dev.write_process ((Dev.judge_withBridge s.dev rest ..).trans hres) hobj hchange] at hu
  obtain ⟨hprocs, hobjs, -, hbridge, htx⟩ := Dev.procQueued_respond hu rfl hroom
  rw [Dev.response_withBridge] at htx
  exact ⟨hbridge, hobjs, hprocs, htx⟩

/-- A write that came over the bridge and is refused is answered with its result. -/
theorem answers_bridgedWrite_refused (hres : s.dev.judge c 0 j.req.key (j.req.payload.drop 4) ≠ .ok)
    (hroom : (s.dev.reqPort o).tx.length < txRoom o) : Answers (.bridgeExecution o) s fun u =>
      u.dev.net.bridge = rest ∧ u.dev.wr.procs = s.dev.wr.procs ∧
      (u.dev.reqPort o).tx = (s.dev.reqPort o).tx ++ [s.dev.response (s.dev.replyTo o j.req j.delay)
        (s.dev.judge c 0 j.req.key (j.req.payload.drop 4)) []] := by
  refine answers_bridgedWrite hs hb ho hdue hreq hc fun u hu => ?_
  rw [Dev.write_refused (by rw [Dev.judge_withBridge]; exact hres), Dev.judge_withBridge] at hu
  obtain ⟨htx, hprocs, hbridge⟩ := Dev.refuseWrite_answers hu rfl hroom
  rw [Dev.response_withBridge] at htx
  exact ⟨hbridge, hprocs, htx⟩

end

/-- Settles O38: the request that a service slot chooses, or the first that is due on the bridge, reaches the function of its row,
and the judgement of the write picks one of the change, the Process write and the refusal. -/
theorem writesAreJudgedAndQueued : Obligations.WritesAreJudgedAndQueued := by
  intro s o vpp hs
  refine ⟨exec_writes_none, fun i r c hch hwf hc hhome => ⟨?_, ?_, ?_, ?_⟩, fun j rest c row hb ho hdue hreq hc hobj =>
    ⟨?_, ?_, ?_⟩⟩
  case refine_1 =>
    exact fun row hrow hobj => ⟨answers_write_change hs hch hwf hc hhome hrow hobj,
      answers_write_process hs hch hwf hc hhome hrow hobj, answers_write_refused hs hch hwf hc hhome hrow⟩
  case refine_2 =>
    intro hrow hflags hoff row x
    exact answers_writeSegment_first hs hch hwf hc hhome hrow hflags hoff
  case refine_3 =>
    exact fun hrow => answers_direct (cmd := .stagingBufferWrite o) hs hch hwf hc hhome hrow rfl
      (fun d l y h => by rw [Dev.objectRequest, h]; rfl) (by cases o <;> decide)
  case refine_4 =>
    exact fun hrow => answers_direct (cmd := .bankStaging o) hs hch hwf hc hhome hrow rfl
      (fun d l y h => by rw [Dev.objectRequest, h]; rfl) (by cases o <;> decide)
  case refine_5 => exact fun hlane hres => answers_bridgedWrite_change hs hb ho hdue hreq hc hlane hobj hres
  case refine_6 => exact fun hlane hres => answers_bridgedWrite_process hs hb ho hdue hreq hc hlane hobj hres
  case refine_7 => exact answers_bridgedWrite_refused hs hb ho hdue hreq hc

end Sys2Proof.Machine
end

section
/-! SUPPORT. What an image's activation and its hyperframe index 0 leave: the objects that they write tell of image, ports and
converters, and neither identity nor mode (R82, R83, R266). -/

namespace Sys2Proof.Machine

/-- The block as an image's activation shows it: monitors, the start awaited, what is published, lanes, start-up, freeze, mode,
the objects of 0x2600 and every port's cells. -/
structure StageView where
  monArmed : Bool
  activeAt : Option Nat
  published : List Published
  lanes : Duo Lane
  boot : Boot
  frozen : Bool
  mode : Nat
  identity : Fin 256 → Int
  cells : PortId → Cells

/-- The view without the cells. -/
def StageView.core (v : StageView) : StageView := { v with cells := fun _ => Port.atReset.cells }

/-- The stage view of a block. -/
def Dev.stageView (d : Dev) : StageView :=
  ⟨d.monArmed, d.activeAt, d.published, d.lanes, d.boot, d.frozen, d.mode, fun k => d.num 0x2600 k,
    fun p => (d.port p).cells⟩

/-- The indices whose objects the stage view leaves out. -/
def offStage (i : Nat) : Prop := i ≠ 0x2000 ∧ i ≠ 0x2600

@[simp] theorem offStage_pidx (p : PortId) (blk : Nat) : offStage (pidx p blk) := by unfold offStage pidx; omega

@[simp] theorem offStage_pairIdx (y : PairId) : offStage (pairIdx y) := by cases y <;> exact ⟨by decide, by decide⟩

@[simp] theorem offStage_gcIdx_settings (g : GcId) : offStage (gcIdx g 3) := by cases g <;> exact ⟨by decide, by decide⟩

@[simp] theorem offStage_gcIdx_calibration (g : GcId) : offStage (gcIdx g 5) := by cases g <;> exact ⟨by decide, by decide⟩

theorem offStage_readCounters (p : PortId) : offStage (0x2650 + p.num) := by cases p <;> exact ⟨by decide, by decide⟩

namespace Dev

theorem fields_of_core {d e : Dev} (h : d.stageView.core = e.stageView.core) : d.monArmed = e.monArmed ∧
    d.activeAt = e.activeAt ∧ d.published = e.published ∧ ∀ k, k < 256 → d.num 0x2600 k = e.num 0x2600 k :=
  ⟨congrArg StageView.monArmed h, congrArg StageView.activeAt h, congrArg StageView.published h,
    fun k hk => congrFun (congrArg StageView.identity h) ⟨k, hk⟩⟩

theorem fields_of_stageView {d : Dev} {v : StageView} (h : d.stageView = v) : d.monArmed = v.monArmed ∧
    d.activeAt = v.activeAt ∧ d.lanes = v.lanes ∧ d.boot = v.boot ∧ d.frozen = v.frozen ∧ d.mode = v.mode ∧
    ∀ p, (d.port p).cells = v.cells p := by
  subst h
  exact ⟨rfl, rfl, rfl, rfl, rfl, rfl, fun _ => rfl⟩

@[simp] theorem monArmed_queueTrace (d : Dev) (r : TraceRec) : (d.queueTrace r).monArmed = d.monArmed := by
  unfold queueTrace; split_ifs <;> rfl

@[simp] theorem activeAt_queueTrace (d : Dev) (r : TraceRec) : (d.queueTrace r).activeAt = d.activeAt := by
  unfold queueTrace; split_ifs <;> rfl

/-! ### Writes of objects -/

/-- A write of a key of neither the mode nor the identity. -/
theorem stageView_putVal_of_key_ne (d : Dev) {i s : Nat} (v : ObjVal) (hm : objKey 0x2000 1 ≠ objKey i s)
    (hid : ∀ k : Fin 256, objKey 0x2600 k ≠ objKey i s) : (d.putVal i s v).stageView = d.stageView := by
  have hmode : (d.putVal i s v).mode = d.mode := congrArg Int.toNat (num_putVal_ne d i s _ _ v hm)
  have hident : (fun k : Fin 256 => (d.putVal i s v).num 0x2600 k) = fun k : Fin 256 => d.num 0x2600 k :=
    funext fun k => num_putVal_ne d i s _ _ v (hid k)
  unfold stageView
  rw [hmode, hident]
  rfl

@[simp] theorem stageView_putVal (d : Dev) {i s : Nat} (v : ObjVal) (hi : offStage i) (hs : s < 256) :
    (d.putVal i s v).stageView = d.stageView :=
  stageView_putVal_of_key_ne d v (fun h => hi.1 ((objKey_inj _ _ _ _ (by decide) hs).mp h).1.symm)
    fun k h => hi.2 ((objKey_inj _ _ _ _ k.isLt hs).mp h).1.symm

@[simp] theorem stageView_put (d : Dev) {i s : Nat} (v : Int) (hi : offStage i) (hs : s < 256) :
    (d.put i s v).stageView = d.stageView := stageView_putVal d _ hi hs

@[simp] theorem stageView_putBit (d : Dev) {i s k : Nat} (b : Bool) (hi : offStage i) (hs : s < 256) :
    (d.putBit i s k b).stageView = d.stageView := stageView_put d _ hi hs

@[simp] theorem stageView_pput (d : Dev) (p : PortId) {blk s : Nat} (v : Int) (hs : s < 256) :
    (d.pput p blk s v).stageView = d.stageView := stageView_put d v (offStage_pidx p blk) hs

@[simp] theorem stageView_onGc (d : Dev) (g : GcId) (f : Gc → Gc) : (d.onGc g f).stageView = d.stageView := rfl

/-! ### Ports -/

theorem stageView_onPort (d : Dev) (p : PortId) (f : Port → Port) : (d.onPort p f).stageView =
    { d.stageView with cells := fun q => if q = p then (f (d.port q)).cells else (d.port q).cells } := by
  have hcells : (fun q => ((d.onPort p f).port q).cells) =
      fun q => if q = p then (f (d.port q)).cells else (d.port q).cells := by
    funext q
    split_ifs with hq
    · rw [hq, port_onPort]
    · rw [port_onPort_ne _ _ _ _ hq]
  rw [stageView, hcells]
  rfl

/-! ### What the slots show -/

@[simp] theorem show_num (d : Dev) (i j : Nat) : d.show.num i j = d.num i j := rfl
@[simp] theorem show_port (d : Dev) (p : PortId) : d.show.port p = d.port p := rfl
@[simp] theorem show_lane (d : Dev) (l : LaneId) : d.show.lane l = d.lane l := rfl
@[simp] theorem show_mode (d : Dev) : d.show.mode = d.mode := rfl
@[simp] theorem show_image (d : Dev) : d.show.image = d.image := rfl
@[simp] theorem show_monArmed (d : Dev) : d.show.monArmed = d.monArmed := rfl
@[simp] theorem show_activeAt (d : Dev) : d.show.activeAt = d.activeAt := rfl
@[simp] theorem show_frozen (d : Dev) : d.show.frozen = d.frozen := rfl
@[simp] theorem show_published (d : Dev) : d.show.published = d.published := rfl
@[simp] theorem show_boot (d : Dev) : d.show.boot = d.boot := rfl
@[simp] theorem show_wr (d : Dev) : d.show.wr = d.wr := rfl

/-! ### Converters -/

@[simp] theorem stageView_gcPause (d : Dev) (g : GcId) : (d.gcPause g).stageView = d.stageView := by
  simp [gcPause]

@[simp] theorem stageView_gcHold (d : Dev) (g : GcId) : (d.gcHold g).stageView = d.stageView := by
  unfold gcHold
  dsimp only
  split_ifs <;> simp

@[simp] theorem stageView_gcJob (d : Dev) (g : GcId) (j : GcJob) : (d.gcJob g j).stageView = d.stageView := rfl

@[simp] theorem stageView_gcStartPass (d : Dev) (g : GcId) (clk : Nat) : (d.gcStartPass g clk).stageView = d.stageView := by
  simp [gcStartPass]

@[simp] theorem stageView_gcCopy (d : Dev) (g : GcId) : (d.gcCopy g).stageView = d.stageView := by
  simp [gcCopy]

@[simp] theorem stageView_gcBeginInject (d : Dev) (g : GcId) (i : GcInject) (clk : Nat) :
    (d.gcBeginInject g i clk).stageView = d.stageView := rfl

@[simp] theorem stageView_gcBeginCal (d : Dev) (g : GcId) (clk : Nat) : (d.gcBeginCal g clk).stageView = d.stageView := by
  simp [gcBeginCal]

/-- The configuration that a converter starts with. -/
def gcConfigured (d : Dev) (g : GcId) : Dev :=
  if d.gcAllClaimed g then d.gcCopy g else (d.gcPause g).putBit (gcIdx g 3) 3 5 true

@[simp] theorem stageView_gcConfigured (d : Dev) (g : GcId) : (d.gcConfigured g).stageView = d.stageView := by
  unfold gcConfigured
  split_ifs <;> simp

@[simp] theorem stageView_gcStart (d : Dev) (g : GcId) (clk : Nat) : (d.gcStart g clk).stageView = d.stageView := by
  rw [← stageView_gcConfigured d g]
  unfold gcStart
  rw [← gcConfigured]
  dsimp only
  split
  · simp
  · split_ifs <;> simp

@[simp] theorem stageView_gcRelease (d : Dev) (g : GcId) : (d.gcRelease g).stageView = d.stageView := by
  unfold gcRelease
  dsimp only
  split_ifs <;> simp

/-! ### The objects of an image -/

@[simp] theorem stageView_putTopology (d : Dev) (im : Image) (p : PortId) : (d.putTopology im p).stageView = d.stageView := by
  simp [putTopology]

@[simp] theorem stageView_putCarrier (d : Dev) (im : Image) (p : PortId) : (d.putCarrier im p).stageView = d.stageView := by
  simp [putCarrier]

@[simp] theorem stageView_putRadius (d : Dev) (p : PortId) : (d.putRadius p).stageView = d.stageView := by
  simp [putRadius]

/-- The image's name and origin in 0x2600 (R83). -/
def imageNamed (d : Dev) (im : Image) (source : Nat) : Dev :=
  (((d.put 0x2600 1 im.id).putVal 0x2600 2 (.bytes (im.sig.take 8))).put 0x2600 3 source).put 0x2600 4 (b2n im.zeroKey)

@[simp] theorem num_id_imageNamed (d : Dev) (im : Image) (source : Nat) : (d.imageNamed im source).num 0x2600 1 = im.id := by
  unfold imageNamed
  rw [num_put_ne _ _ _ _ _ _ (by decide), num_put_ne _ _ _ _ _ _ (by decide), num_putVal_ne _ _ _ _ _ _ (by decide), num_put]

@[simp] theorem num_source_imageNamed (d : Dev) (im : Image) (source : Nat) :
    (d.imageNamed im source).num 0x2600 3 = source := by
  unfold imageNamed
  rw [num_put_ne _ _ _ _ _ _ (by decide), num_put]

/-- The busy ticks of any number of engines lie above the identity. -/
theorem stageView_putBusy (d : Dev) (n : Nat) (v : Int) : (d.put 0x2643 (n + 1) v).stageView = d.stageView :=
  stageView_putVal_of_key_ne d _ (by unfold objKey; omega) fun k => by unfold objKey; omega

theorem stageView_putImage (d : Dev) (im : Image) (source : Nat) :
    (d.putImage im source).stageView = (d.imageNamed im source).stageView := by
  unfold putImage
  rw [← imageNamed]
  dsimp only
  rw [foldl_keeps stageView fun p _ d => by simp, foldl_keeps stageView fun e _ d => stageView_putBusy d _ _,
    stageView_put _ _ ⟨by decide, by decide⟩ (by decide), stageView_putVal _ _ ⟨by decide, by decide⟩ (by decide)]

@[simp] theorem stageView_unboundStatus (d : Dev) (im : Image) (p : PortId) :
    (d.unboundStatus im p).stageView = d.stageView := by
  have hsub : ∀ e ∈ statusSubs, e.2 < 256 := by decide
  refine foldl_keeps stageView (fun e he d => ?_) d
  split_ifs
  · rfl
  · exact stageView_pput d p _ (hsub e he)

@[simp] theorem stageView_putPhase (d : Dev) (e : Option Int) : (d.putPhase e).stageView = d.stageView :=
  foldl_keeps stageView (fun p _ d => stageView_pput d p _ (by decide)) d

@[simp] theorem stageView_putTimed (d : Dev) {e : Nat} (x : TimedEntry) (he : e < 256) :
    (d.putTimed e x).stageView = d.stageView := by
  unfold putTimed
  dsimp only
  rw [stageView_put _ _ ⟨by decide, by decide⟩ (by decide), stageView_putVal _ _ ⟨by decide, by decide⟩ he]
  rfl

@[simp] theorem stageView_cancelUnclaimed (d : Dev) : d.cancelUnclaimed.stageView = d.stageView := by
  refine foldl_keeps stageView (fun i hi d => ?_) d
  have := List.mem_range.mp hi
  dsimp only
  split_ifs
  · exact stageView_putTimed d _ (by omega)
  · rfl

@[simp] theorem stageView_comparePairs (d : Dev) : d.comparePairs.stageView = d.stageView := by
  refine foldl_keeps stageView (fun y _ d => ?_) d
  split_ifs
  · exact stageView_putBit d _ (offStage_pairIdx y) (by decide)
  · rfl

/-! ### The activation -/

/-- The block with an image awaited from the present slot. -/
def imageAwaited (d : Dev) (im : Image) : Dev :=
  { d with image := some im, monArmed := false, activeAt := some (d.slotNow + 2000) }

/-- The ports, the converters and the status objects as the old image leaves them, and the phase errors of the new one. -/
def oldImageStopped (d : Dev) (im : Image) : Dev :=
  let d := PortId.all.foldl (fun d p => d.onPort p fun x => x.imageStops (d.slotOf p)) d
  let d := GcId.all.foldl Dev.gcHold (PortId.all.foldl (fun d p => d.unboundStatus im p) d)
  d.putPhase (if d.nat 0x2150 0x10 = 0 then none else some (d.num 0x2150 0x11))

theorem stageView_oldImageStopped (d : Dev) (im : Image) : (d.oldImageStopped im).stageView.core = d.stageView.core := by
  unfold oldImageStopped
  rw [stageView_putPhase, foldl_keeps stageView fun g _ d => stageView_gcHold d g,
    foldl_keeps stageView fun p _ d => stageView_unboundStatus d im p]
  refine foldl_keeps (fun d : Dev => d.stageView.core) (fun p _ d => ?_) d
  rw [stageView_onPort]
  rfl

/-- The carrier grid told that the image moved it. -/
def gridMoved (d : Dev) : Dev := { d with grid := { d.grid with moved := true } }

@[simp] theorem stageView_gridMoved (d : Dev) : d.gridMoved.stageView = d.stageView := rfl

theorem activate_eq (d : Dev) (im : Image) (source : Nat) : d.activate im source =
    (((d.imageAwaited im).putImage im source).oldImageStopped im).gridMoved.cancelUnclaimed := by rfl

theorem stageView_activate (d : Dev) (im : Image) (source : Nat) :
    (d.activate im source).stageView.core = ((d.imageAwaited im).imageNamed im source).stageView.core := by
  rw [activate_eq, stageView_cancelUnclaimed, stageView_gridMoved, stageView_oldImageStopped, stageView_putImage]

/-- The image in activation: awaited 2000 slots later with the monitors disarmed, and named; what is published stays. -/
theorem activate_awaits (d : Dev) (im : Image) (source : Nat) :
    let e := d.activate im source
    e.monArmed = false ∧ e.activeAt = some (d.slotNow + 2000) ∧ e.num 0x2600 1 = im.id ∧ e.num 0x2600 3 = source ∧
    e.published = d.published := by
  obtain ⟨hmon, hdue, hpub, hid⟩ := fields_of_core (stageView_activate d im source)
  exact ⟨hmon, hdue, (hid 1 (by decide)).trans (num_id_imageNamed ..),
    (hid 3 (by decide)).trans (num_source_imageNamed ..), hpub⟩

/-! ### Hyperframe index 0 -/

@[simp] theorem stageView_convert (d : Dev) (p : PortId) : (d.convert p).stageView = d.stageView := by
  unfold convert
  dsimp only
  rw [stageView_onPort]
  simp only [ite_self]
  rfl

end Dev

/-- The view with a port's cells initialised (R79). -/
def StageView.opened (v : StageView) (p : PortId) : StageView :=
  { v with cells := fun q => if q = p then (v.cells q).activated (v.lanes.get q.lane).slots else v.cells q }

theorem StageView.opened_all (v : StageView) : PortId.all.foldl StageView.opened v =
    { v with cells := fun q => (v.cells q).activated (v.lanes.get q.lane).slots } := by
  have hcells : (PortId.all.foldl StageView.opened v).cells = fun q => (v.cells q).activated (v.lanes.get q.lane).slots := by
    funext q
    cases q <;> rfl
  rw [← hcells]
  rfl

namespace Dev

/-- A new image initialises the cells of the port that it opens. -/
theorem stageView_startPort (d : Dev) (im : Image) (p : PortId) : (d.startPort im p).stageView = d.stageView.opened p := by
  unfold startPort
  dsimp only
  rw [stageView_pput _ _ _ (by decide), stageView_pput _ _ _ (by decide), stageView_pput _ _ _ (by decide),
    stageView_pput _ _ _ (by decide), stageView_pput _ _ _ (by decide), foldl_keeps stageView, stageView_onPort]
  · refine congrArg (fun c => ({ d.stageView with cells := c } : StageView)) (funext fun q => ?_)
    split_ifs with hq
    · rw [← hq]
      rfl
    · rfl
  · intro i hi d
    have hi := List.mem_range.mp hi
    rw [stageView_put _ _ (offStage_readCounters p) (by omega), stageView_put _ _ (offStage_readCounters p) (by omega)]

/-- The block at hyperframe index 0, before start-up ends. -/
def atIndexZero (d : Dev) (im : Image) : Dev :=
  GcId.all.foldl Dev.gcRelease
    (PortId.all.foldl (fun (d : Dev) p => (d.startPort im p).convert p)
      ([LaneId.a, .b].foldl (fun (d : Dev) l => d.onLane l fun x => { x with hyper := 0 })
        { d with monArmed := true, activeAt := none })).comparePairs

theorem stageView_atIndexZero (d : Dev) (im : Image) : (d.atIndexZero im).stageView =
    { d.stageView with
      monArmed := true, activeAt := none
      lanes := ⟨{ d.lane .a with hyper := 0 }, { d.lane .b with hyper := 0 }⟩
      cells := fun p => (d.port p).cells.activated (d.slotOf p) } := by
  unfold atIndexZero
  have hport : ∀ (d : Dev) (p : PortId), ((d.startPort im p).convert p).stageView = d.stageView.opened p := fun d p => by
    rw [stageView_convert, stageView_startPort]
  rw [foldl_keeps stageView fun g _ d => stageView_gcRelease d g, stageView_comparePairs,
    ← List.foldl_hom stageView (g₂ := StageView.opened) fun d p => (hport d p).symm, StageView.opened_all]
  refine congrArg (fun c => ({ d.stageView with
    monArmed := true, activeAt := none
    lanes := ⟨{ d.lane .a with hyper := 0 }, { d.lane .b with hyper := 0 }⟩, cells := c } : StageView)) (funext fun p => ?_)
  cases p <;> rfl

/-- A freeze leaves monitors, the start awaited, lanes and cells. -/
theorem enterFreeze_keeps_stage (d : Dev) (k : Nat) : (d.enterFreeze k).monArmed = d.monArmed ∧
    (d.enterFreeze k).activeAt = d.activeAt ∧ (d.enterFreeze k).lanes = d.lanes ∧
    ∀ q, ((d.enterFreeze k).port q).cells = (d.port q).cells := by
  have hcommand : ∀ (p : PortId) (d : Dev) q, ((d.command p 12).port q).cells = (d.port q).cells := fun p d q => by
    by_cases hq : q = p
    · rw [hq, command, commandUnit, port_onPort]
    · rw [command, commandUnit, port_onPort_ne _ _ _ _ hq]
  unfold enterFreeze
  dsimp only
  refine ⟨?_, ?_, ?_, fun q => ?_⟩
  · rw [foldl_keeps monArmed fun p _ d => command_monArmed d p 12]
    exact monArmed_queueTrace ..
  · rw [foldl_keeps activeAt fun p _ d => command_activeAt d p 12]
    exact activeAt_queueTrace ..
  · rw [foldl_keeps lanes fun p _ d => command_lanes d p 12]
    exact lanes_queueTrace ..
  · rw [foldl_keeps (fun d => (d.port q).cells) fun p _ d => hcommand p d q]
    exact congrArg Port.cells (port_queueTrace ..)

/-- STANDBY leaves monitors, the start awaited, lanes and cells, frozen or not. -/
theorem reachStandby_keeps {d : Dev} (hf : d.frozen = false) : d.reachStandby.monArmed = d.monArmed ∧
    d.reachStandby.activeAt = d.activeAt ∧ d.reachStandby.lanes = d.lanes ∧
    ∀ q, (d.reachStandby.port q).cells = (d.port q).cells := by
  obtain ⟨hmode, hphase, -, hfrozen, -⟩ := enterStandby_reached d
  unfold reachStandby
  dsimp only
  split_ifs
  · rw [trigger_standby 1 hmode hphase (hfrozen.trans hf)]
    exact enterFreeze_keeps_stage d.enterStandby 1
  · exact ⟨rfl, rfl, rfl, fun _ => rfl⟩

end Dev
end Sys2Proof.Machine
end

section
/-! PROOF. Staged images: verified, activated, and started at hyperframe index 0 (R74, R79, R81, R82, R83, R441). -/

namespace Sys2Proof.Machine

variable {s : State} {v : ObjVal} {session origin : Nat} {rest : List Published}

theorem Dev.pubOf_head {d : Dev} {i j : Nat} (h : d.published = ⟨objKey i j, v, session, origin⟩ :: rest) :
    d.pubOf i j = some ⟨objKey i j, v, session, origin⟩ := by
  simp [Dev.pubOf, h]

theorem Dev.published_dropPub_head {d : Dev} {i j : Nat} (h : d.published = ⟨objKey i j, v, session, origin⟩ :: rest) :
    (d.dropPub i j).published = rest := by
  simp [Dev.dropPub, h]

theorem verifyStagedImageStep_of_pub {d : Dev} {x : Published} (h : d.pubOf 0x2610 0 = some x) :
    verifyStagedImageStep d =
      ({ d.dropPub 0x2610 0 with wr := { d.wr with verify := true, staged := none } }.put 0x2620 1 2).show := by
  rw [verifyStagedImageStep, h]

theorem answers_verifyStagedImage (hs : s.dev.frozen = false)
    (hp : s.dev.published = ⟨objKey 0x2610 0, v, session, origin⟩ :: rest) : Answers .verifyStagedImage s fun u =>
      u.dev.num 0x2620 1 = 2 ∧ u.dev.wr.verify = true ∧ u.dev.wr.staged = none ∧ u.dev.published = rest ∧
      u.dev.image = s.dev.image := by
  refine answers_of_awake hs rfl fun u hu => ?_
  rw [hu, verifyStagedImageStep_of_pub (Dev.pubOf_head hp)]
  simp only [Dev.show_num, Dev.show_wr, Dev.show_published, Dev.show_image]
  exact ⟨Dev.num_put .., rfl, rfl, Dev.published_dropPub_head hp, rfl⟩

/-- A write of one sub-index leaves the numbers of the others. -/
theorem Dev.num_put_of_sub_ne (d : Dev) {i j k : Nat} (x : Int) (h : j ≠ k) (hj : j < 256) (hk : k < 256) :
    (d.put i j x).num i k = d.num i k :=
  Dev.num_put_ne d i j i k x fun e => h ((objKey_inj _ _ _ _ hk hj).mp e).2.symm

/-- An acceptance says ACCEPTED. -/
theorem Dev.num_putVerdict_accepted (d : Dev) (im : Image) : (d.putVerdict (.accepted im) false).num 0x2620 1 = 3 := by
  simp [Dev.putVerdict, Dev.num_put_of_sub_ne]

/-- A refusal says REFUSED with result, reason, lane and offset. -/
theorem Dev.num_putVerdict_refused (d : Dev) (res : Res) (reason lane off : Nat) (keep : Bool) :
    let e := d.putVerdict (.refused res reason lane off) keep
    e.num 0x2620 1 = 4 ∧ e.num 0x2620 2 = res.code ∧ e.num 0x2620 3 = reason ∧ e.num 0x2620 4 = lane ∧
    e.num 0x2620 5 = off := by
  simp [Dev.putVerdict, Dev.num_put_of_sub_ne]

/-- A verification that accepts stages the image. -/
theorem imageVerificationCompleteStep_accepted {d : Dev} {im : Image} (hs : d.frozen = false) (hw : d.wr.verify = true)
    (hc : d.checkImage (d.bytes 0x2611 0) = .accepted im) : imageVerificationCompleteStep d =
      { d with wr := { d.wr with verify := false, staged := some im } }.putVerdict (.accepted im) false := by
  rw [imageVerificationCompleteStep, if_pos (by simp [hw, hs]), hc]

/-- A verification that refuses stages nothing. -/
theorem imageVerificationCompleteStep_refused {d : Dev} {res : Res} {reason lane off : Nat} (hs : d.frozen = false)
    (hw : d.wr.verify = true) (hc : d.checkImage (d.bytes 0x2611 0) = .refused res reason lane off) :
    imageVerificationCompleteStep d =
      { d with wr := { d.wr with verify := false, staged := none } }.putVerdict (.refused res reason lane off) false := by
  rw [imageVerificationCompleteStep, if_pos (by simp [hw, hs]), hc]

theorem answers_imageVerificationComplete_accepted {im : Image} (hs : s.dev.frozen = false) (hw : s.dev.wr.verify = true)
    (hc : s.dev.checkImage (s.dev.bytes 0x2611 0) = .accepted im) : Answers .imageVerificationComplete s fun u =>
      u.dev.num 0x2620 1 = 3 ∧ u.dev.wr.staged = some im ∧ u.dev.wr.verify = false ∧ u.dev.image = s.dev.image := by
  refine answers_of_awake hs rfl fun u hu => ?_
  rw [hu, imageVerificationCompleteStep_accepted hs hw hc]
  exact ⟨Dev.num_putVerdict_accepted .., rfl, rfl, rfl⟩

theorem answers_imageVerificationComplete_refused {res : Res} {reason lane off : Nat} (hs : s.dev.frozen = false)
    (hw : s.dev.wr.verify = true) (hc : s.dev.checkImage (s.dev.bytes 0x2611 0) = .refused res reason lane off) :
    Answers .imageVerificationComplete s fun u =>
      u.dev.num 0x2620 1 = 4 ∧ u.dev.num 0x2620 2 = res.code ∧ u.dev.num 0x2620 3 = reason ∧
      u.dev.num 0x2620 4 = lane ∧ u.dev.num 0x2620 5 = off ∧ u.dev.wr.staged = none ∧ u.dev.image = s.dev.image := by
  refine answers_of_awake hs rfl fun u hu => ?_
  rw [hu, imageVerificationCompleteStep_refused hs hw hc]
  obtain ⟨hstate, hres, hreason, hlane, hoff⟩ := Dev.num_putVerdict_refused _ res reason lane off false
  exact ⟨hstate, hres, hreason, hlane, hoff, rfl, rfl⟩

theorem activateStagedImageStep_of_pub {d : Dev} {x : Published} {im : Image} (h : d.pubOf 0x2612 0 = some x)
    (hi : d.wr.staged = some im) : activateStagedImageStep d = ((d.dropPub 0x2612 0).activate im 0x10).show := by
  rw [activateStagedImageStep, h, hi]

theorem answers_activateStagedImage {im : Image} (hs : s.dev.frozen = false)
    (hp : s.dev.published = ⟨objKey 0x2612 0, v, session, origin⟩ :: rest) (hi : s.dev.wr.staged = some im) :
    Answers .activateStagedImage s fun u =>
      u.dev.image = some im ∧ u.dev.monArmed = false ∧ u.dev.activeAt = some (s.dev.slotNow + 2000) ∧
      u.dev.num 0x2600 1 = im.id ∧ u.dev.num 0x2600 3 = 0x10 ∧ u.dev.published = rest := by
  refine answers_of_awake hs rfl fun u hu => ?_
  rw [hu, activateStagedImageStep_of_pub (Dev.pubOf_head hp) hi]
  obtain ⟨hmon, hdue, hid, hsource, hpub⟩ := Dev.activate_awaits (s.dev.dropPub 0x2612 0) im 0x10
  simp only [Dev.show_num, Dev.show_published, Dev.show_image, Dev.show_monArmed, Dev.show_activeAt]
  exact ⟨Dev.image_activate .., hmon, hdue, hid, hsource, hpub.trans (Dev.published_dropPub_head hp)⟩

theorem answers_activateStagedImage_none (hs : s.dev.frozen = false)
    (hp : s.dev.published = ⟨objKey 0x2612 0, v, session, origin⟩ :: rest) (hi : s.dev.wr.staged = none) :
    Answers .activateStagedImage s fun u => u.dev.image = s.dev.image ∧ u.dev.published = rest := by
  refine answers_of_awake hs rfl fun u hu => ?_
  rw [hu, activateStagedImageStep, Dev.pubOf_head hp, hi]
  exact ⟨rfl, Dev.published_dropPub_head hp⟩

variable {t : Nat} {im : Image}

/-- Before its slot an awaited image does not start. -/
theorem exec_imageHyperframeStart_early (ht : s.dev.activeAt = some t) (hi : s.dev.image = some im) (hn : s.dev.slotNow < t) :
    exec .imageHyperframeStart s = .next s := by
  refine congrArg Host.Outcome.next (State.awake_of_fixed ?_)
  rw [imageHyperframeStartStep, ht, hi]
  exact if_neg fun h => absurd h.1 (by omega)

theorem imageHyperframeStartStep_due {d : Dev} (hs : d.frozen = false) (ht : d.activeAt = some t) (hi : d.image = some im)
    (hn : t ≤ d.slotNow) : imageHyperframeStartStep d =
      (if (d.atIndexZero im).boot.phase = .imageDue then (d.atIndexZero im).reachStandby else d.atIndexZero im).show := by
  unfold imageHyperframeStartStep Dev.atIndexZero
  rw [ht, hi]
  dsimp only
  rw [if_pos ⟨hn, hs⟩]

/-- Hyperframe index 0 of an awaited image; at the end of start-up it is STANDBY. -/
theorem answers_imageHyperframeStart (hs : s.dev.frozen = false) (ht : s.dev.activeAt = some t) (hi : s.dev.image = some im)
    (hn : t ≤ s.dev.slotNow) : Answers .imageHyperframeStart s fun u =>
      u.dev.monArmed = true ∧ u.dev.activeAt = none ∧ (∀ l, (u.dev.lane l).hyper = 0) ∧
      (∀ p, (u.dev.port p).cells = (s.dev.port p).cells.activated (s.dev.slotOf p)) ∧
      (s.dev.boot.phase = .imageDue → u.dev.boot.phase = .up ∧ u.dev.mode = 2 ∧ u.dev.frozen = s.dev.boot.lullLow) ∧
      (s.dev.boot.phase ≠ .imageDue → u.dev.boot = s.dev.boot ∧ u.dev.mode = s.dev.mode) := by
  refine answers_of_awake hs rfl fun u hu => ?_
  rw [hu, imageHyperframeStartStep_due hs ht hi hn]
  obtain ⟨hmon, hdue, hlanes, hboot, hfrozen, hmode, hcells⟩ := Dev.fields_of_stageView (Dev.stageView_atIndexZero s.dev im)
  have hboot : (s.dev.atIndexZero im).boot = s.dev.boot := hboot
  have hfrozen : (s.dev.atIndexZero im).frozen = false := hfrozen.trans hs
  have hhyper : ∀ l, ((s.dev.atIndexZero im).lanes.get l).hyper = 0 := fun l => by
    rw [hlanes]
    cases l <;> rfl
  simp only [Dev.show_monArmed, Dev.show_activeAt, Dev.show_lane, Dev.show_port, Dev.show_boot, Dev.show_mode, Dev.show_frozen,
    hboot]
  split_ifs with hphase
  · obtain ⟨kmon, kdue, klanes, kcells⟩ := Dev.reachStandby_keeps hfrozen
    obtain ⟨smode, sphase, -, sfrozen⟩ := Dev.reachStandby_reached hfrozen
    exact ⟨kmon.trans hmon, kdue.trans hdue, fun l => (congrArg (fun q => (q.get l).hyper) klanes).trans (hhyper l),
      fun p => (kcells p).trans (hcells p),
      fun _ => ⟨sphase, smode, sfrozen.trans (congrArg Boot.lullLow hboot)⟩, fun h => absurd hphase h⟩
  · exact ⟨hmon, hdue, hhyper, hcells, fun h => absurd h hphase, fun _ => ⟨hboot, hmode⟩⟩

end Sys2Proof.Machine
end

section
/-! PROOF. The staged image's commands together. -/

namespace Sys2Proof.Machine

/-- Settles O42: each command's step is read off the block: the check's verdict is what 0x2620 shows, an activation awaits and
names the image, and hyperframe index 0 arms the monitors and initialises the cells, whatever start-up does behind it. -/
theorem stagedImagesAreVerifiedAndActivated : Obligations.StagedImagesAreVerifiedAndActivated := by
  intro s v session origin rest hs
  refine ⟨answers_verifyStagedImage hs, fun hw => ⟨fun im => answers_imageVerificationComplete_accepted hs hw,
    fun res reason lane off => answers_imageVerificationComplete_refused hs hw⟩, fun im => answers_activateStagedImage hs,
    answers_activateStagedImage_none hs, fun t im ht hi => ⟨exec_imageHyperframeStart_early ht hi,
    answers_imageHyperframeStart hs ht hi⟩⟩

end Sys2Proof.Machine
end

section
/-! SUPPORT. A port's faults and commands: what recording them leaves, and the kernels' commands in this slot or a later one
(R131, R252, R472). -/

namespace Sys2Proof.Machine

/-- A port with other faults and another unit. -/
def Port.guarded (x : Port) (fs : List Nat) (u : SafeUnit) : Port := { x with faults := fs, unit := u }

namespace Dev

@[simp] theorem lanes_noteFirst (d : Dev) (p : PortId) (f : FaultId) (at' : Int) : (d.noteFirst p f at').lanes = d.lanes := by
  unfold noteFirst; split_ifs <;> rfl

@[simp] theorem image_noteFirst (d : Dev) (p : PortId) (f : FaultId) (at' : Int) : (d.noteFirst p f at').image = d.image := by
  unfold noteFirst; split_ifs <;> rfl

@[simp] theorem lanes_recordFault (d : Dev) (p : PortId) (f : FaultId) : (d.recordFault p f).lanes = d.lanes := by
  rw [recordFault, noteFault_eq, stamped_lanes, pinc_lanes, pput_lanes, pput_lanes, lanes_noteFirst]
  exact lanes_queueTrace ..

@[simp] theorem image_recordFault (d : Dev) (p : PortId) (f : FaultId) : (d.recordFault p f).image = d.image := by
  rw [recordFault, noteFault_eq, stamped_image, pinc_image, pput_image, pput_image, image_noteFirst]
  exact image_queueTrace ..

@[simp] theorem lanes_trip (d : Dev) (p : PortId) (f : FaultId) (n : Nat) : (d.trip p f n).lanes = d.lanes := by
  rw [trip, command_lanes, lanes_recordFault]

@[simp] theorem image_trip (d : Dev) (p : PortId) (f : FaultId) (n : Nat) : (d.trip p f n).image = d.image := by
  rw [trip, command_image, image_recordFault]

/-- A recorded fault changes nothing of its port but the list of active faults. -/
theorem port_recordFault (d : Dev) (p : PortId) (f : FaultId) :
    (d.recordFault p f).port p = (d.port p).guarded (d.faultsWith p f) (d.port p).unit := by
  have hfaults : ∀ r, (d.queueTrace r).faultsWith p f = d.faultsWith p f := fun r => by
    rw [faultsWith, port_queueTrace, faultsWith]
  rw [recordFault, port_noteFault, hfaults, port_queueTrace]
  rfl

/-- A fault with its command changes nothing of its port but faults and unit. -/
theorem port_trip_guarded (d : Dev) (p : PortId) (f : FaultId) (n : Nat) :
    ∃ u, (d.trip p f n).port p = (d.port p).guarded (d.faultsWith p f) u :=
  ⟨_, port_trip d p f n⟩

/-- What of a port is neither its faults nor its unit, a kernel's command leaves. -/
theorem commandAt_keeps {β : Type} {g : Port → β} (hg : ∀ x fs u, g (x.guarded fs u) = g x) (d : Dev) (p : PortId) (n : Nat)
    (c : SafeCmd) (code : Nat) : g ((d.commandAt p n c code).port p) = g (d.port p) := by
  have hunit : ∀ (e : Dev) (f : SafeUnit → SafeUnit), g ((e.onPort p fun x => { x with unit := f x.unit }).port p) =
      g (e.port p) := fun e f => by
    rw [port_onPort]
    exact hg _ (e.port p).faults (f (e.port p).unit)
  have hrecord : g ((d.recordCode p code).port p) = g (d.port p) := by
    unfold recordCode
    split_ifs
    · rw [port_recordFault, hg]
    · rw [port_recordFault, hg]
    · rw [port_recordFault, hg]
    · rfl
  unfold commandAt
  split_ifs
  · exact (hunit _ fun u => { u with arriving := u.arriving ++ [c] }).trans hrecord
  · exact hunit d fun u => { u with later := u.later ++ [⟨(d.lane p.lane).slots + n, c, code, false⟩] }

/-- A command of this slot with the fault of the recomputation check. -/
theorem commandAt_recompute_now (d : Dev) (p : PortId) (c : SafeCmd) :
    let e := d.commandAt p 0 c FaultId.recompute.code
    e.faulted p .recompute = true ∧ c ∈ (e.port p).unit.arriving := by
  have hport : (d.commandAt p 0 c FaultId.recompute.code).port p = { d.port p with
      faults := d.faultsWith p .recompute
      unit := { (d.port p).unit with arriving := (d.port p).unit.arriving ++ [c] } } := by
    rw [commandAt, if_pos rfl, recordCode, if_pos rfl, commandUnit, port_onPort, port_recordFault]
    rfl
  dsimp only
  rw [faulted, hport]
  exact ⟨contains_faultsWith .., List.mem_append_right _ List.mem_cons_self⟩

/-- A command of a later slot waits for it. -/
theorem commandAt_later (d : Dev) (p : PortId) {n : Nat} (c : SafeCmd) (code : Nat) (hn : n ≠ 0) :
    ⟨d.slotOf p + n, c, code, false⟩ ∈ ((d.commandAt p n c code).port p).unit.later := by
  rw [commandAt, if_neg hn, port_onPort]
  exact List.mem_append_right _ List.mem_cons_self

end Dev
end Sys2Proof.Machine
end

section
/-! SUPPORT. Engine 2 before a kernel, and its judged reads (R19, R37, R77). -/

namespace Sys2Proof.Machine

namespace Dev

/-! ### What earlier kernels left -/

variable {β : Type} {g : Dev → β} {p : PortId}

theorem tripIf_keeps (htrip : ∀ d : Dev, g (d.trip p .handoffStale 9) = g d) (d : Dev) (b : Bool) :
    g (d.tripIf p b) = g d := by
  unfold tripIf
  split_ifs
  · exact htrip d
  · rfl

theorem kProcInJudge_keeps (honPort : ∀ (d : Dev) f, g (d.onPort p f) = g d)
    (htrip : ∀ d : Dev, g (d.trip p .handoffStale 9) = g d) (w : ProcLate) (d : Dev) : g (kProcInJudge p w d) = g d := by
  unfold kProcInJudge
  dsimp only
  by_cases hw : w.stale = true
  · rw [if_pos hw, tripIf_keeps htrip, onE2, honPort, onE2, honPort]
  · rw [if_neg hw, onE2, honPort, onE2, honPort]

theorem kLimBudgetCalc_keeps (honPort : ∀ (d : Dev) f, g (d.onPort p f) = g d) (b : BudgetLate) (n : Nat) (d : Dev) :
    g (kLimBudgetCalc p b n d) = g d := by
  unfold kLimBudgetCalc
  exact honPort ..

/-- Engine 2 with what K_PROC_IN left for this slot done. -/
def procResumed (d : Dev) (p : PortId) : Dev :=
  match (d.port p).e2.proc with
  | some w =>
    if w.due ≤ d.slotOf p then
      let (vals, stale) := d.procRead p w.rest
      kProcInJudge p { w with stale := w.stale || stale, vals := w.vals ++ vals, rest := [] } d
    else d
  | none => d

/-- Engine 2 with what K_LIM_BUDGET left for this slot done. -/
def budgetResumed (d : Dev) (p : PortId) : Dev :=
  match (d.port p).e2.budget with
  | some b => if b.due ≤ d.slotOf p then kLimBudgetCalc p b (b.due - 1) d else d
  | none => d

theorem resume2_eq (d : Dev) (p : PortId) : d.resume2 p = (d.procResumed p).budgetResumed p := rfl

theorem procResumed_keeps (honPort : ∀ (d : Dev) f, g (d.onPort p f) = g d)
    (htrip : ∀ d : Dev, g (d.trip p .handoffStale 9) = g d) (d : Dev) : g (d.procResumed p) = g d := by
  unfold procResumed
  dsimp only
  split
  · split_ifs
    · exact kProcInJudge_keeps honPort htrip _ d
    · rfl
  · rfl

theorem budgetResumed_keeps (honPort : ∀ (d : Dev) f, g (d.onPort p f) = g d) (d : Dev) : g (d.budgetResumed p) = g d := by
  unfold budgetResumed
  split
  · split_ifs
    · exact kLimBudgetCalc_keeps honPort _ _ d
    · rfl
  · rfl

/-- What no change of the port and no trip touches is as before. -/
theorem resumed_keeps (honPort : ∀ (d : Dev) f, g (d.onPort p f) = g d)
    (htrip : ∀ d : Dev, g (d.trip p .handoffStale 9) = g d) (d : Dev) : g (d.resumed p) = g d := by
  rw [resumed, resume2_eq, budgetResumed_keeps honPort, procResumed_keeps honPort htrip]
  exact resume0_keeps (fun d f => honPort d _) d

@[simp] theorem lanes_resumed (d : Dev) (p : PortId) : (d.resumed p).lanes = d.lanes :=
  resumed_keeps (g := lanes) (fun _ _ => rfl) (fun d => lanes_trip d p _ _) d

@[simp] theorem image_resumed (d : Dev) (p : PortId) : (d.resumed p).image = d.image :=
  resumed_keeps (g := image) (fun _ _ => rfl) (fun d => image_trip d p _ _) d

@[simp] theorem slotOf_resumed (d : Dev) (p q : PortId) : (d.resumed p).slotOf q = d.slotOf q := by
  simp only [slotOf, lane, lanes_resumed]

@[simp] theorem formula_resumed (d : Dev) (p : PortId) (r : EngineRole) (id t : Nat) :
    (d.resumed p).formula p r id t = d.formula p r id t := by
  simp only [formula, placed, lane, lanes_resumed, image_resumed]

/-! ### A judged read of engine 2 -/

/-- A read of a cell by consumer c: the port changed, the read counted, and a trip where the rule asks for it. -/
def judgedRead (d : Dev) (p : PortId) (f : Port → Port) (c skipped : Nat) (stale trips : Bool) : Dev :=
  ((d.onPort p f).countRead p c stale skipped).tripIf p (stale && trips)

section
variable (d : Dev) (p : PortId) (f : Port → Port) (c skipped : Nat) (stale trips : Bool)

@[simp] theorem lanes_judgedRead : (d.judgedRead p f c skipped stale trips).lanes = d.lanes := by
  rw [judgedRead, tripIf_keeps (g := lanes) fun d => lanes_trip d p _ _]
  unfold countRead
  split_ifs <;> rfl

/-- A fresh read trips nothing. -/
theorem port_judgedRead_fresh : (d.judgedRead p f c skipped false trips).port p = f (d.port p) := by
  rw [judgedRead, Bool.false_and, tripIf, if_neg Bool.false_ne_true, port_countRead, port_onPort]

/-- What of a port is neither its faults nor its unit a read changes as the consumer does, tripped or not. -/
theorem judgedRead_keeps {β : Type} {g : Port → β} (hg : ∀ x fs u, g (x.guarded fs u) = g x) :
    g ((d.judgedRead p f c skipped stale trips).port p) = g (f (d.port p)) := by
  have htrip : ∀ d : Dev, g ((d.trip p .handoffStale 9).port p) = g (d.port p) := fun d => by
    obtain ⟨u, hport⟩ := port_trip_guarded d p .handoffStale 9
    rw [hport, hg]
  rw [judgedRead, tripIf_keeps (g := fun d => g (d.port p)) htrip, port_countRead, port_onPort]

/-- A read leaves every object but the port's read counters, 0x3xB0 and 0x2721.02. -/
theorem num_judgedRead {i s : Nat} (hi : i ≠ pidx p 0xB0) (hr : i ≠ 0x2650 + p.num) (hs : s < 256)
    (ht : objKey i s ≠ objKey 0x2721 2) (hc : c < 16) : (d.judgedRead p f c skipped stale trips).num i s = d.num i s := by
  rw [judgedRead, tripIf_keeps (g := fun d => d.num i s) fun d => num_trip_ne d _ _ hi hs ht]
  unfold countRead
  split_ifs
  · exact num_putVal_of_idx_ne _ _ hr.symm (by omega) hs
  · exact num_putVal_of_idx_ne _ _ hr.symm (by omega) hs

end

/-- Engine 2's consumer of the current cell after its read. -/
def curRead (d : Dev) (p : PortId) : Consumer CurVal := (d.port p).cons.cur2.after (d.port p).cells.current.cur (d.slotOf p)

/-- Engine 2's consumer of the angle cell after its read. -/
def angRead (d : Dev) (p : PortId) : Consumer AngVal := (d.port p).cons.ang2.after (d.port p).cells.angle.cur (d.slotOf p)

/-- Engine 2's consumer of the duty cell after its read. -/
def dutyRead (d : Dev) (p : PortId) : Consumer DutyVal := (d.port p).cons.duty2.after (d.port p).cells.duty.cur (d.slotOf p)

theorem readCur2_eq (d : Dev) (p : PortId) : d.readCur2 p =
    d.judgedRead p (fun x => { x with cons := { x.cons with cur2 := d.curRead p } }) 3
      ((d.port p).cons.cur2.skipped (d.port p).cells.current.cur)
      ((d.port p).cons.cur2.stale (d.port p).cells.current.cur (d.slotOf p)) ((d.port p).cons.cur2.rule == .trip) := rfl

theorem readAng2_eq (d : Dev) (p : PortId) : d.readAng2 p =
    d.judgedRead p (fun x => { x with
      cons := { x.cons with ang2 := d.angRead p }
      e2 := { x.e2 with mo := { x.e2.mo with wCell := (d.angRead p).held.speed } } }) 5
      ((d.port p).cons.ang2.skipped (d.port p).cells.angle.cur)
      ((d.port p).cons.ang2.stale (d.port p).cells.angle.cur (d.slotOf p)) ((d.port p).cons.ang2.rule == .trip) := rfl

theorem readDuty2_eq (d : Dev) (p : PortId) : d.readDuty2 p =
    d.judgedRead p (fun x => { x with cons := { x.cons with duty2 := d.dutyRead p } }) 9
      ((d.port p).cons.duty2.skipped (d.port p).cells.duty.cur)
      ((d.port p).cons.duty2.stale (d.port p).cells.duty.cur (d.slotOf p)) ((d.port p).cons.duty2.rule == .trip) := rfl

/-! ### The reads of K_CHECK_DQ -/

/-- The cells read for the recomputation. -/
def checkRead (d : Dev) (p : PortId) : Dev := ((d.readCur2 p).readAng2 p).readDuty2 p

@[simp] theorem lanes_checkRead (d : Dev) (p : PortId) : (d.checkRead p).lanes = d.lanes := by
  rw [checkRead, readDuty2_eq, lanes_judgedRead, readAng2_eq, lanes_judgedRead, readCur2_eq, lanes_judgedRead]

/-- What of a port the consumers, faults and unit do not hold, the reads leave. -/
theorem checkRead_keeps {β : Type} {g : Port → β} (hg : ∀ x fs u, g (x.guarded fs u) = g x)
    (hcons : ∀ x c m, g { x with cons := c, e2 := { x.e2 with mo := m } } = g x) (d : Dev) (p : PortId) :
    g ((d.checkRead p).port p) = g (d.port p) := by
  rw [checkRead, readDuty2_eq, judgedRead_keeps _ _ _ _ _ _ _ hg]
  refine (hcons _ _ _).trans ?_
  rw [readAng2_eq, judgedRead_keeps _ _ _ _ _ _ _ hg]
  refine (hcons _ _ _).trans ?_
  rw [readCur2_eq, judgedRead_keeps _ _ _ _ _ _ _ hg]
  exact hcons _ _ _

@[simp] theorem cells_checkRead (d : Dev) (p : PortId) : ((d.checkRead p).port p).cells = (d.port p).cells :=
  checkRead_keeps (g := Port.cells) (fun _ _ _ => rfl) (fun _ _ _ => rfl) d p

@[simp] theorem e0_checkRead (d : Dev) (p : PortId) : ((d.checkRead p).port p).e0 = (d.port p).e0 :=
  checkRead_keeps (g := Port.e0) (fun _ _ _ => rfl) (fun _ _ _ => rfl) d p

/-- The reads leave the objects of the recomputation. -/
theorem num_checkRead (d : Dev) (p : PortId) {s : Nat} (hs : s < 256) : (d.checkRead p).num 0x2520 s = d.num 0x2520 s := by
  have hi : 0x2520 ≠ pidx p 0xB0 := by unfold pidx; omega
  have hr : 0x2520 ≠ 0x2650 + p.num := by omega
  have ht : objKey 0x2520 s ≠ objKey 0x2721 2 := by unfold objKey; omega
  rw [checkRead, readDuty2_eq, num_judgedRead _ _ _ _ _ _ _ hi hr hs ht (by decide), readAng2_eq,
    num_judgedRead _ _ _ _ _ _ _ hi hr hs ht (by decide), readCur2_eq,
    num_judgedRead _ _ _ _ _ _ _ hi hr hs ht (by decide)]

section
variable {d : Dev} {p : PortId}

/-- Whether engine 2 reads the cells of the recomputation fresh. -/
def checkFresh (d : Dev) (p : PortId) : Prop :=
  let x := d.port p
  x.cons.cur2.stale x.cells.current.cur (d.slotOf p) = false ∧ x.cons.ang2.stale x.cells.angle.cur (d.slotOf p) = false ∧
  x.cons.duty2.stale x.cells.duty.cur (d.slotOf p) = false

theorem port_readCur2_fresh (h : (d.port p).cons.cur2.stale (d.port p).cells.current.cur (d.slotOf p) = false) :
    (d.readCur2 p).port p = { d.port p with cons := { (d.port p).cons with cur2 := d.curRead p } } := by
  rw [readCur2_eq, h, port_judgedRead_fresh]

theorem port_readAng2_fresh (h : (d.port p).cons.ang2.stale (d.port p).cells.angle.cur (d.slotOf p) = false) :
    (d.readAng2 p).port p = { d.port p with
      cons := { (d.port p).cons with ang2 := d.angRead p }
      e2 := { (d.port p).e2 with mo := { (d.port p).e2.mo with wCell := (d.angRead p).held.speed } } } := by
  rw [readAng2_eq, h, port_judgedRead_fresh]

theorem port_readDuty2_fresh (h : (d.port p).cons.duty2.stale (d.port p).cells.duty.cur (d.slotOf p) = false) :
    (d.readDuty2 p).port p = { d.port p with cons := { (d.port p).cons with duty2 := d.dutyRead p } } := by
  rw [readDuty2_eq, h, port_judgedRead_fresh]

@[simp] theorem slotOf_readCur2 (q : PortId) : (d.readCur2 p).slotOf q = d.slotOf q := by
  rw [slotOf, lane, readCur2_eq, lanes_judgedRead]
  rfl

@[simp] theorem slotOf_readAng2 (q : PortId) : (d.readAng2 p).slotOf q = d.slotOf q := by
  rw [slotOf, lane, readAng2_eq, lanes_judgedRead]
  rfl

/-- Fresh reads change the consumers, and the speed that engine 2 takes. -/
theorem port_checkRead_fresh (h : d.checkFresh p) : (d.checkRead p).port p = { d.port p with
    cons := { (d.port p).cons with cur2 := d.curRead p, ang2 := d.angRead p, duty2 := d.dutyRead p }
    e2 := { (d.port p).e2 with mo := { (d.port p).e2.mo with wCell := (d.angRead p).held.speed } } } := by
  obtain ⟨hcur, hang, hduty⟩ := h
  have hport := port_readCur2_fresh hcur
  have hport2 := port_readAng2_fresh (d := d.readCur2 p) (p := p) (by rw [hport, slotOf_readCur2, hang])
  have hangRead : (d.readCur2 p).angRead p = d.angRead p := by rw [angRead, hport, slotOf_readCur2, angRead]
  rw [hport, hangRead] at hport2
  have hdutyRead : ((d.readCur2 p).readAng2 p).dutyRead p = d.dutyRead p := by
    rw [dutyRead, hport2, slotOf_readAng2, slotOf_readCur2, dutyRead]
  rw [checkRead, port_readDuty2_fresh (by rw [hport2, slotOf_readAng2, slotOf_readCur2, hduty]), hport2, hdutyRead]

end

end Dev

/-- A kernel of engine 2 that the image places acts on the block as earlier kernels have left it. -/
theorem exec_kernel2 {c : Instr} {s : State} {p : PortId} {id t : Nat} {f : Dev → Dev}
    (hr : s.dev.runs p .e2 id t = true) (hc : exec c s = .next (s.awake (kernel2 p id t f))) :
    exec c s = .next (s.upd fun _ => f (s.dev.resumed p)) := by
  have hdev : s.awake (kernel2 p id t f) = s.upd fun _ => f (s.dev.resumed p) := by
    rw [State.awake, State.upd, State.upd, if_neg (by simp [Dev.runs_awake hr]), kernel2, kernel, if_pos hr]
  rw [hc, hdev]

/-- A kernel of engine 2 that the image places answers with its body's effect. -/
theorem answers_kernel2 {c : Instr} {s : State} {p : PortId} {id t : Nat} {f : Dev → Dev} {P : State → Prop}
    (hr : s.dev.runs p .e2 id t = true) (hc : exec c s = .next (s.awake (kernel2 p id t f)))
    (h : ∀ u : State, u.dev = f (s.dev.resumed p) → P u) : Answers c s P :=
  ⟨_, exec_kernel2 hr hc, h _ rfl⟩

end Sys2Proof.Machine
end

section
/-! PROOF. K_CHECK_DQ: a frame that is skipped, one that passes and one that fails (R78, R472, R475). -/

namespace Sys2Proof.Machine

namespace Dev

/-! ### The comparisons -/

/-- The component in the low half of a stored word is near where it differs by no more than the tolerance. -/
theorem near14_low_iff (v : Int) (word : Nat) (tol : Int) :
    near14 v word 0 tol = true ↔ absI (v - signedOf 16 word * 65536) ≤ tol * 65536 := by
  rw [near14, decide_eq_true_iff, pow_zero, Nat.div_one]
  rfl

/-- The same of the high half. -/
theorem near14_high_iff (v : Int) (word : Nat) (tol : Int) :
    near14 v word 16 tol = true ↔ absI (v - signedOf 16 (word / 65536) * 65536) ≤ tol * 65536 :=
  decide_eq_true_iff

section
variable {d : Dev} {p : PortId} {T : Nat} {id iq th : Int}

/-- The stored currents of a frame whose kernel started at tick T. -/
def storedCurrents (d : Dev) (p : PortId) (T : Nat) : Nat := ((d.port p).e0.fl.settled (T + 12)).chkI

theorem storedCurrents_checked (d : Dev) (p : PortId) (f : E2Out → E2Out) (T : Nat) :
    ((d.checkRead p).onOut p f).storedCurrents p T = ((d.port p).e0.fl.settled (T + 12)).chkI := by
  rw [storedCurrents, onOut, onE2, port_onPort]
  exact congrArg (fun e : E0 => (e.fl.settled (T + 12)).chkI) (e0_checkRead d p)

/-- A current off by more than its tolerance fails the comparison. -/
theorem checkFails_of_current (h : (near14 id (d.storedCurrents p T) 0 (d.num 0x2520 1) &&
    near14 iq (d.storedCurrents p T) 16 (d.num 0x2520 1)) = false) : d.checkFails p T id iq th = true := by
  unfold storedCurrents at h
  unfold checkFails
  dsimp only
  rw [h]
  rfl

/-- With currents within their tolerance a saturated duty fails nothing. -/
theorem checkFails_of_saturated (hd : near14 id (d.storedCurrents p T) 0 (d.num 0x2520 1) = true)
    (hq : near14 iq (d.storedCurrents p T) 16 (d.num 0x2520 1) = true)
    (hs : 2 ≤ (d.port p).cons.duty2.held.pattern / 8 % 4) : d.checkFails p T id iq th = false := by
  have hsat : dutySaturated (d.pnat p 0x40 7) (d.port p).cons.duty2.held = true := by simp [dutySaturated, hs]
  unfold storedCurrents at hd hq
  unfold checkFails
  dsimp only
  rw [hd, hq, hsat]
  rfl

end

/-! ### The judgement -/

/-- The block as K_CHECK_DQ judges it: the cells read, and with a fresh angle cell the slot of its write. -/
def checkBase (d : Dev) (p : PortId) : Dev :=
  if ((d.checkRead p).port p).cons.ang2.wasStale then d.checkRead p
  else (d.checkRead p).onOut p fun o => { o with wSlot := ((d.checkRead p).port p).cells.angle.cur.wslot }

/-- Whether a frame is not judged. -/
def checkSkips (d : Dev) (p : PortId) : Bool :=
  let x := d.port p
  x.cons.cur2.wasStale || x.cons.ang2.wasStale || x.cons.duty2.wasStale || x.cells.duty.cur.fb

/-- Engine 2's own record of the frame with its verdict. -/
def checkRecorded (d : Dev) (p : PortId) (bad : Bool) : Dev :=
  let r := d.recompute p
  let v := (d.port p).cons.cur2.held
  d.onOut p fun o => { o with
    checkOk := !bad
    senseOk := d.pnum p 0x32 1 == 2 && !(d.poor p v.uValid v.uGap && d.poor p v.vValid v.vGap)
    recId := r.1
    recIq := r.2.1
    thetaS1 := o.thetaS2
    wS1 := o.wS2
    thetaS2 := r.2.2.2.1
    wS2 := r.2.2.2.2 }

/-- The comparisons of a frame that is judged. -/
def checkBad (d : Dev) (p : PortId) (t : Nat) : Bool :=
  let r := d.recompute p
  d.checkFails p ((d.lane p.lane).tick t) r.1 r.2.1 r.2.2.1

/-- The frame's end: the record, the count of a frame skipped, and the command of a frame that fails. -/
def checkEnds (d : Dev) (p : PortId) (t : Nat) (skips bad : Bool) : Dev :=
  let e := if skips then (d.checkRecorded p bad).inc 0x2520 3 else d.checkRecorded p bad
  if bad then e.commandAt p (lastSlots t 412) ⟨15, none, false, false⟩ FaultId.recompute.code else e

end Dev

theorem kCheckDqBody_eq (p : PortId) (t : Nat) (d : Dev) : kCheckDqBody p t d =
    (d.checkBase p).checkEnds p t ((d.checkBase p).checkSkips p)
      (!(d.checkBase p).checkSkips p && (d.checkBase p).checkBad p t) := by
  rfl

section
variable {d : Dev} {p : PortId} {t : Nat}

theorem kCheckDqBody_skipped (h : (d.checkBase p).checkSkips p = true) :
    kCheckDqBody p t d = ((d.checkBase p).checkRecorded p false).inc 0x2520 3 := by
  rw [kCheckDqBody_eq, h]
  rfl

theorem kCheckDqBody_passed (h : (d.checkBase p).checkSkips p = false) (hb : (d.checkBase p).checkBad p t = false) :
    kCheckDqBody p t d = (d.checkBase p).checkRecorded p false := by
  rw [kCheckDqBody_eq, h, hb]
  rfl

theorem kCheckDqBody_failed (h : (d.checkBase p).checkSkips p = false) (hb : (d.checkBase p).checkBad p t = true) :
    kCheckDqBody p t d = ((d.checkBase p).checkRecorded p true).commandAt p (lastSlots t 412) ⟨15, none, false, false⟩
      FaultId.recompute.code := by
  rw [kCheckDqBody_eq, h, hb]
  rfl

end

namespace Dev

section
variable (d : Dev) (p : PortId) (bad : Bool)

theorem port_checkRecorded : ∃ o, o.checkOk = (!bad) ∧
    (d.checkRecorded p bad).port p = { d.port p with e2 := { (d.port p).e2 with out := o } } :=
  ⟨_, rfl, port_onPort ..⟩

@[simp] theorem num_checkRecorded (i s : Nat) : (d.checkRecorded p bad).num i s = d.num i s := rfl

@[simp] theorem slotOf_checkRecorded (q : PortId) : (d.checkRecorded p bad).slotOf q = d.slotOf q := rfl

@[simp] theorem lanes_checkBase : (d.checkBase p).lanes = d.lanes := by
  rw [← lanes_checkRead d p]
  unfold checkBase
  split_ifs <;> rfl

theorem num_checkBase {s : Nat} (hs : s < 256) : (d.checkBase p).num 0x2520 s = d.num 0x2520 s := by
  rw [← num_checkRead d p hs]
  unfold checkBase
  split_ifs <;> rfl

@[simp] theorem cells_checkBase : ((d.checkBase p).port p).cells = (d.port p).cells := by
  rw [← cells_checkRead d p]
  unfold checkBase
  split_ifs
  · rfl
  · rw [onOut, onE2, port_onPort]

end

section
variable {d : Dev} {p : PortId}

/-- A frame whose duties come from a fallback is skipped. -/
theorem checkSkips_of_fallback (h : (d.port p).cells.duty.cur.fb = true) : (d.checkBase p).checkSkips p = true := by
  simp [checkSkips, h]

theorem checkBase_fresh (h : d.checkFresh p) : d.checkBase p =
    (d.checkRead p).onOut p fun o => { o with wSlot := (d.port p).cells.angle.cur.wslot } := by
  have hfresh : ((d.checkRead p).port p).cons.ang2.wasStale = false := by
    rw [port_checkRead_fresh h]
    simp [angRead, Consumer.after, h.2.1]
  rw [checkBase, hfresh, if_neg Bool.false_ne_true, cells_checkRead]

/-- A frame with fresh cells and duties of its own is judged. -/
theorem checkSkips_fresh (h : d.checkFresh p) (hfb : (d.port p).cells.duty.cur.fb = false) :
    (d.checkBase p).checkSkips p = false := by
  obtain ⟨hcur, hang, hduty⟩ := h
  rw [checkBase_fresh ⟨hcur, hang, hduty⟩, checkSkips, onOut, onE2, port_onPort, port_checkRead_fresh ⟨hcur, hang, hduty⟩]
  simp [curRead, angRead, dutyRead, Consumer.after, hcur, hang, hduty, hfb]

/-- Fresh reads leave faults and unit. -/
theorem guard_checkBase_fresh (h : d.checkFresh p) : ((d.checkBase p).port p).faults = (d.port p).faults ∧
    ((d.checkBase p).port p).unit = (d.port p).unit := by
  rw [checkBase_fresh h, onOut, onE2, port_onPort, port_checkRead_fresh h]
  exact ⟨rfl, rfl⟩

end
end Dev

/-! ### The command -/

theorem recomputationJudgesFreshFrames : Says.RecomputationJudgesFreshFrames := by
  intro s p t hr d x n read base T r cmd
  have hn : n = d.slotOf p := (Dev.slotOf_resumed s.dev p p).symm
  have hstored : base.storedCurrents p T = (x.e0.fl.settled (T + 12)).chkI := Dev.storedCurrents_checked ..
  refine ⟨fun hfb => answers_kernel2 hr rfl fun u hdev => ?_, fun hfb hcur hang hduty => ?_, fun id iq th => ?_⟩
  · obtain ⟨o, hok, hport⟩ := (d.checkBase p).port_checkRecorded p false
    rw [hdev, kCheckDqBody_skipped (Dev.checkSkips_of_fallback hfb), Dev.inc_port, hport, Dev.num_inc, Dev.num_checkRecorded,
      Dev.num_checkBase _ _ (by decide)]
    exact ⟨hok, rfl⟩
  · have hfresh : d.checkFresh p := ⟨hn ▸ hcur, hn ▸ hang, hn ▸ hduty⟩
    have hjudged := Dev.checkSkips_fresh hfresh hfb
    have hbad : (d.checkBase p).checkBad p t = base.checkFails p T r.1 r.2.1 r.2.2.1 := by
      rw [Dev.checkBad, Dev.lane, Dev.lanes_checkBase, Dev.checkBase_fresh hfresh]
      rfl
    refine ⟨fun hpass => answers_kernel2 hr rfl fun u hdev => ?_, fun hfail => answers_kernel2 hr rfl fun u hdev => ?_⟩
    · obtain ⟨o, hok, hport⟩ := (d.checkBase p).port_checkRecorded p false
      obtain ⟨hfaults, hunit⟩ := Dev.guard_checkBase_fresh hfresh
      rw [hdev, kCheckDqBody_passed hjudged (hbad.trans hpass), hport, Dev.num_checkRecorded, Dev.num_checkBase _ _ (by decide)]
      exact ⟨hok, hfaults, hunit, rfl⟩
    · obtain ⟨o, hok, hport⟩ := (d.checkBase p).port_checkRecorded p true
      rw [hdev, kCheckDqBody_failed hjudged (hbad.trans hfail)]
      refine ⟨?_, fun hnow => ?_, fun hlater => ?_⟩
      · rw [Dev.commandAt_keeps (g := fun x => x.e2.out.checkOk) fun _ _ _ => rfl, hport]
        exact hok
      · rw [hnow]
        exact Dev.commandAt_recompute_now _ p cmd
      · have hslot : ((d.checkBase p).checkRecorded p true).slotOf p = n := by
          rw [Dev.slotOf_checkRecorded, Dev.slotOf, Dev.lane, Dev.lanes_checkBase, hn]
          rfl
        rw [← hslot]
        exact Dev.commandAt_later _ p cmd _ hlater
  · refine ⟨fun hd => Dev.checkFails_of_current ?_, fun hq => Dev.checkFails_of_current ?_,
      fun hd hq => Dev.checkFails_of_saturated ?_ ?_⟩
    · rw [hstored, Bool.and_eq_false_iff]
      exact .inl (Bool.eq_false_iff.mpr fun h => absurd ((Dev.near14_low_iff _ _ _).mp h) (not_le.mpr hd))
    · rw [hstored, Bool.and_eq_false_iff]
      exact .inr (Bool.eq_false_iff.mpr fun h => absurd ((Dev.near14_high_iff _ _ _).mp h) (not_le.mpr hq))
    · rw [hstored]
      exact (Dev.near14_low_iff _ _ _).mpr hd
    · rw [hstored]
      exact (Dev.near14_high_iff _ _ _).mpr hq

end Sys2Proof.Machine
end

section
/-! PROOF. K_XW_EXCH and K_XW_PLAUS: the record sent, the receive cell read, and the verdict (R40, R237, R241 to R247, R472). -/

namespace Sys2Proof.Machine

namespace Dev

/-! ### The read of the receive cell -/

/-- Faults removed change nothing else of their port. -/
theorem port_removeFaults (d : Dev) (p : PortId) (fs : List Nat) :
    ∃ rest, (d.removeFaults p fs).port p = (d.port p).guarded rest (d.port p).unit := by
  unfold removeFaults
  dsimp only
  split_ifs
  · exact ⟨_, rfl⟩
  · exact ⟨_, port_setFaults ..⟩

/-- The receive cell read and counted. -/
def xwTaken (d : Dev) (p : PortId) : Dev :=
  let r := (d.port p).cells.xw.cur
  let c := (d.port p).cons.xw2
  let st := c.stale r (d.slotOf p)
  (d.onPort p fun x => { x with
    cons := { x.cons with xw2 := c.after r (d.slotOf p) }
    pair := { x.pair with
      record := if st then (d.port p).pair.record else r.val
      wasFresh := (d.port p).pair.wasFresh || !st
      stale := st } }).countRead p 10 st (c.skipped r)

/-- FLT_XW_LINK raised and withdrawn, and the link shown. -/
def xwLinkJudged (d : Dev) (p : PortId) (raises stale : Bool) : Dev :=
  let d := if raises then d.recordFault p .xwLink else d
  (if stale then d else d.removeFaults p [FaultId.xwLink.code]).putLinkStale p

theorem readXw_eq (d : Dev) (p : PortId) : d.readXw p =
    (let st := (d.port p).cons.xw2.stale (d.port p).cells.xw.cur (d.slotOf p)
    (d.xwTaken p).xwLinkJudged p (st && (d.port p).pair.wasFresh && !(d.port p).pair.stale) st) := by
  rfl

/-- What of a port is neither its faults nor its unit the link's fault leaves. -/
theorem xwLinkJudged_keeps {β : Type} {g : Port → β} (hg : ∀ x fs u, g (x.guarded fs u) = g x) (d : Dev) (p : PortId)
    (raises stale : Bool) : g ((d.xwLinkJudged p raises stale).port p) = g (d.port p) := by
  have hraise : g ((if raises then d.recordFault p .xwLink else d).port p) = g (d.port p) := by
    split_ifs
    · rw [port_recordFault, hg]
    · rfl
  rw [← hraise]
  unfold xwLinkJudged putLinkStale
  dsimp only
  rw [putBit_port]
  split_ifs
  · rfl
  · rfl
  · obtain ⟨rest, hport⟩ := port_removeFaults (d.recordFault p .xwLink) p [FaultId.xwLink.code]
    rw [hport, hg]
  · obtain ⟨rest, hport⟩ := port_removeFaults d p [FaultId.xwLink.code]
    rw [hport, hg]

/-- What of a port is neither its consumers, its faults, its unit nor what the pair unit holds of the partner's record, the read
leaves. -/
theorem readXw_keeps {β : Type} {g : Port → β} (hg : ∀ x fs u, g (x.guarded fs u) = g x)
    (hread : ∀ x c r fresh st, g { x with cons := c, pair := { x.pair with record := r, wasFresh := fresh, stale := st } } = g x)
    (d : Dev) (p : PortId) : g ((d.readXw p).port p) = g (d.port p) := by
  rw [readXw_eq]
  dsimp only
  rw [xwLinkJudged_keeps hg, xwTaken]
  dsimp only
  rw [port_countRead, port_onPort, hread]

/-! ### K_XW_EXCH -/

/-- Engine 2's read of the port state changes what it shows alone. -/
theorem port_readState (d : Dev) (p : PortId) :
    ∃ m, (d.readState p).port p = { d.port p with e2 := { (d.port p).e2 with mo := m } } := by
  rw [readState, port_onPort]
  split_ifs
  · exact ⟨_, rfl⟩
  · exact ⟨_, rfl⟩

/-- A record sent where there is a link, and kept among those sent. -/
def exchSent (d : Dev) (p : PortId) (T frame : Nat) (r : XwVal) : Dev :=
  (if d.linked p then d.sendRecord p T r else d).onPair p fun u =>
    { u with sent := (r :: u.sent).take 16, residual := r.residual, tag := frame }

/-- The overload time that is left, shown while the record says OVERLOAD. -/
def exchOverload (d : Dev) (p : PortId) (r : XwVal) : Dev :=
  let y := pairIdx p.pair
  if bitOf r.health 8 then
    match (d.port p).pair.overloadSlot with
    | some s0 => d.put y 0x13 (clampI 0 65535 ((d.num y 4 * 2000 + s0 - d.slotOf p) / 2000))
    | none => d
  else d

/-- The receive cell read and its frame counted. -/
def exchRead (d : Dev) (p : PortId) (t frame : Nat) : Dev :=
  (d.readXw p).onPair p fun u => { u.counted frame with exchSlot := d.slotOf p + lastSlots t 64 }

/-- Engine 2's read of the pair register. -/
def exchShown (d : Dev) (p : PortId) : Dev :=
  let st := (d.port p).pair.state
  d.onOut p fun o => { o with pairView := st, ge := if st = soloOf p.lane then 2 else 1 }

/-- A pair that can be re-formed written SHARED. -/
def exchReformed (d : Dev) (p : PortId) (t st : Nat) : Dev :=
  if st ≠ 0 ∧ d.reformable p = true then
    (d.onPair p fun u => { u with
      blameSelf := false, blamePartner := false, verdictAge := 0
      writes := u.writes ++ [⟨d.slotOf p + lastSlots t 64, 2, 0, false, true⟩] }).putBit (pairIdx p.pair) 0x14 3 false
  else d

/-- What follows the record that is sent. -/
def exchFinished (d : Dev) (p : PortId) (t frame : Nat) (r : XwVal) : Dev :=
  let e := (d.exchOverload p r).exchRead p t frame
  (e.exchShown p).exchReformed p t (e.port p).pair.state

end Dev

theorem kXwExchBody_eq (p : PortId) (t : Nat) (d : Dev) : kXwExchBody p t d =
    (let T := (d.lane p.lane).tick t
    let frame := ((d.readState p).port p).mod.periods
    let r := (d.readState p).ownRecord p T
    ((d.readState p).exchSent p T frame r).exchFinished p t frame r) := by
  rfl

theorem PairUnit.counted_keeps (u : PairUnit) (frame : Nat) :
    (u.counted frame).sent = u.sent ∧ (u.counted frame).state = u.state := by
  unfold PairUnit.counted
  split <;> exact ⟨rfl, rfl⟩

namespace Dev

section
variable (d : Dev) (p : PortId)

/-- A sent record is the last of its link and the first of those sent; a port without a link sends nothing. -/
theorem port_exchSent (T frame : Nat) (r : XwVal) :
    let y := (d.exchSent p T frame r).port p
    (d.linked p = true → y.flight = (d.port p).flight ++ [(T, r)]) ∧ (d.linked p = false → y.flight = (d.port p).flight) ∧
    y.pair.sent.head? = some r ∧ y.pair.state = (d.port p).pair.state := by
  dsimp only
  rw [exchSent, onPair, port_onPort]
  cases hl : d.linked p
  · exact ⟨fun h => absurd h Bool.false_ne_true, fun _ => rfl, rfl, rfl⟩
  · rw [if_pos rfl, sendRecord, port_onPort]
    exact ⟨fun _ => rfl, fun h => absurd h.symm Bool.false_ne_true, rfl, rfl⟩

@[simp] theorem slotOf_exchSent (T frame : Nat) (r : XwVal) (q : PortId) : (d.exchSent p T frame r).slotOf q = d.slotOf q := by
  unfold exchSent
  split_ifs <;> rfl

@[simp] theorem port_exchOverload (r : XwVal) (q : PortId) : (d.exchOverload p r).port q = d.port q := by
  unfold exchOverload
  dsimp only
  split_ifs
  · split <;> rfl
  · rfl

@[simp] theorem slotOf_exchOverload (r : XwVal) (q : PortId) : (d.exchOverload p r).slotOf q = d.slotOf q := by
  unfold exchOverload
  dsimp only
  split_ifs
  · split <;> rfl
  · rfl

theorem port_exchRead (t frame : Nat) :
    let y := (d.exchRead p t frame).port p
    y.flight = (d.port p).flight ∧ y.pair.sent = (d.port p).pair.sent ∧ y.pair.state = (d.port p).pair.state ∧
    y.pair.exchSlot = d.slotOf p + lastSlots t 64 := by
  obtain ⟨hsent, hstate⟩ := ((d.readXw p).port p).pair.counted_keeps frame
  dsimp only
  rw [exchRead, onPair, port_onPort]
  exact ⟨readXw_keeps (g := Port.flight) (fun _ _ _ => rfl) (fun _ _ _ _ _ => rfl) d p,
    hsent.trans (readXw_keeps (g := fun x => x.pair.sent) (fun _ _ _ => rfl) (fun _ _ _ _ _ => rfl) d p),
    hstate.trans (readXw_keeps (g := fun x => x.pair.state) (fun _ _ _ => rfl) (fun _ _ _ _ _ => rfl) d p), rfl⟩

/-- A pair written SHARED changes neither what was exchanged nor what engine 2 took. -/
theorem port_exchReformed (t st : Nat) :
    let y := (d.exchReformed p t st).port p
    y.flight = (d.port p).flight ∧ y.pair.sent = (d.port p).pair.sent ∧ y.pair.exchSlot = (d.port p).pair.exchSlot ∧
    y.e2 = (d.port p).e2 := by
  unfold exchReformed
  split_ifs
  · rw [putBit_port, onPair, port_onPort]
    exact ⟨rfl, rfl, rfl, rfl⟩
  · exact ⟨rfl, rfl, rfl, rfl⟩

/-- Behind the record the exchange has its slot, and engine 2 the pair state and the share factor. -/
theorem port_exchFinished (t frame : Nat) (r : XwVal) :
    let x := d.port p
    let y := (d.exchFinished p t frame r).port p
    y.flight = x.flight ∧ y.pair.sent = x.pair.sent ∧ y.pair.exchSlot = d.slotOf p + lastSlots t 64 ∧
    y.e2.out.pairView = x.pair.state ∧ y.e2.out.ge = (if x.pair.state = soloOf p.lane then 2 else 1) := by
  obtain ⟨hflight, hsent, hstate, hslot⟩ := (d.exchOverload p r).port_exchRead p t frame
  obtain ⟨kflight, ksent, kslot, ke2⟩ := (((d.exchOverload p r).exchRead p t frame).exchShown p).port_exchReformed p t
    (((d.exchOverload p r).exchRead p t frame).port p).pair.state
  rw [port_exchOverload] at hflight hsent hstate
  rw [slotOf_exchOverload] at hslot
  rw [exchShown, onOut, onE2, port_onPort] at kflight ksent kslot ke2
  dsimp only
  rw [exchFinished, exchShown, onOut, onE2, ke2, ← hstate]
  exact ⟨kflight.trans hflight, ksent.trans hsent, kslot.trans hslot, rfl, rfl⟩

end
end Dev

variable {s : State} {p : PortId} {t : Nat}

theorem answers_kXwExch (hr : s.dev.runs p .e2 0x47 t = true) : Answers (.kXwExch p t) s fun u =>
    let d := s.dev.resumed p
    let x := d.port p
    let y := u.dev.port p
    (∃ r, (d.linked p = true → y.flight = x.flight ++ [((d.lane p.lane).tick t, r)]) ∧
      (d.linked p = false → y.flight = x.flight) ∧ r.tag = x.mod.periods % 256 ∧ y.pair.sent.head? = some r) ∧
    y.pair.exchSlot = s.dev.slotOf p + lastSlots t 64 ∧ y.e2.out.pairView = x.pair.state ∧
    y.e2.out.ge = (if x.pair.state = soloOf p.lane then 2 else 1) := by
  refine answers_kernel2 hr rfl fun u hdev => ?_
  dsimp only
  rw [hdev, kXwExchBody_eq, ← Dev.slotOf_resumed s.dev p p]
  generalize s.dev.resumed p = d
  obtain ⟨m, hport⟩ := d.port_readState p
  dsimp only
  generalize (d.lane p.lane).tick t = T
  generalize ((d.readState p).port p).mod.periods = frame
  generalize hr : (d.readState p).ownRecord p T = r
  have htag : r.tag = (d.port p).mod.periods % 256 := by rw [← hr, Dev.ownRecord, hport]
  obtain ⟨hlinked, halone, hhead, hstate⟩ := (d.readState p).port_exchSent p T frame r
  obtain ⟨kflight, ksent, kslot, kview, kge⟩ := ((d.readState p).exchSent p T frame r).port_exchFinished p t frame r
  rw [hport] at hlinked halone hstate
  refine ⟨⟨r, fun hl => kflight.trans (hlinked hl), fun hl => kflight.trans (halone hl), htag, ?_⟩, ?_, ?_, ?_⟩
  · rw [ksent, hhead]
  · rw [kslot, Dev.slotOf_exchSent]
    rfl
  · rw [kview, hstate]
  · rw [kge, hstate]

/-! ### K_XW_PLAUS -/

theorem kXwPlausBody_unmatched {d : Dev} (h : ((d.startPlaus p t).port p).pair.matched = none) :
    kXwPlausBody p t d = d.startPlaus p t := by
  unfold kXwPlausBody
  dsimp only
  rw [h]

theorem kXwPlausBody_notClosed {d : Dev} {own part : XwVal} (h : ((d.startPlaus p t).port p).pair.matched = some (own, part))
    (hc : ¬(own.portState = 4 ∧ part.portState = 4)) : kXwPlausBody p t d = d.startPlaus p t := by
  unfold kXwPlausBody
  dsimp only
  rw [h]
  exact if_neg hc

/-- What a lane does on a verdict leaves the checks that failed. -/
theorem Dev.prevFailed_applyVerdict (d : Dev) (v : Option LaneId) :
    ((d.applyVerdict p t v).port p).pair.prevFailed = (d.port p).pair.prevFailed := by
  have hcommand : ∀ (d : Dev) n c code, ((d.commandAt p n c code).port p).pair.prevFailed = (d.port p).pair.prevFailed :=
    fun d n c code => d.commandAt_keeps (g := fun x => x.pair.prevFailed) (fun _ _ _ => rfl) p n c code
  have hjudged : ∀ (u : PairUnit) n, (u.judged n).prevFailed = u.prevFailed := fun u n => by
    unfold PairUnit.judged
    split_ifs <;> rfl
  unfold Dev.applyVerdict
  dsimp only
  split
  · rw [Dev.putBit_port, hcommand, Dev.onPair, Dev.port_onPort]
  · split_ifs
    · rw [hcommand, Dev.onPair, Dev.port_onPort]
    · rw [Dev.port_onPort]
      exact hjudged _ _

/-- The checks that failed kept, and shown where there are any. -/
def Dev.plausNoted (d : Dev) (p : PortId) (failed : Nat) : Dev :=
  let d := d.onPair p fun u => { u with prevFailed := failed }
  if failed = 0 then d else d.put (pairIdx p.pair) 0x11 failed

/-- An implausible frame counted, and its verdict. -/
def Dev.plausActs (d : Dev) (p : PortId) (t : Nat) (a b : XwVal) (bad : Bool) : Dev :=
  let y := pairIdx p.pair
  if bad then
    let d := if p.lane = .a || (d.port p.partner).pair.stale then d.inc y 0x10 else d
    d.applyVerdict p t (verdict a b (d.num y 0xC))
  else d

theorem kXwPlausBody_judged {d : Dev} {own part : XwVal} (h : ((d.startPlaus p t).port p).pair.matched = some (own, part))
    (hc : own.portState = 4 ∧ part.portState = 4) : kXwPlausBody p t d =
      (let e := d.startPlaus p t
      let a := if p.lane = .a then own else part
      let b := if p.lane = .a then part else own
      let failed := failedChecks (e.xwMeasures p a b) (a.unhealthy || b.unhealthy)
      (e.plausNoted p failed).plausActs p t a b
        (implausible (e.xwMeasures p a b) failed (e.port p).pair.prevFailed)) := by
  unfold kXwPlausBody
  dsimp only
  rw [h]
  exact if_pos hc

theorem Dev.prevFailed_plausNoted (d : Dev) (failed : Nat) : ((d.plausNoted p failed).port p).pair.prevFailed = failed := by
  unfold Dev.plausNoted
  dsimp only
  split_ifs
  · rw [Dev.onPair, Dev.port_onPort]
  · rw [Dev.put_port, Dev.onPair, Dev.port_onPort]

theorem Dev.prevFailed_plausActs (d : Dev) (a b : XwVal) (bad : Bool) :
    ((d.plausActs p t a b bad).port p).pair.prevFailed = (d.port p).pair.prevFailed := by
  unfold Dev.plausActs
  dsimp only
  split_ifs
  · rw [Dev.prevFailed_applyVerdict, Dev.inc_port]
  · rw [Dev.prevFailed_applyVerdict]
  · rfl

/-- The health check fails where the four bits of a record's word are zero (R237, R242). -/
theorem XwVal.unhealthy_iff (r : XwVal) : r.unhealthy = true ↔ ∀ k, k < 4 → bitOf r.health (k + 1) = false := by
  unfold XwVal.unhealthy bitOf
  rw [decide_eq_true_iff]
  constructor
  · intro h k hk
    rw [beq_eq_false_iff_ne]
    interval_cases k <;> omega
  · intro h
    have h0 := h 0 (by decide)
    have h1 := h 1 (by decide)
    have h2 := h 2 (by decide)
    have h3 := h 3 (by decide)
    rw [beq_eq_false_iff_ne] at h0 h1 h2 h3
    omega

/-- The frames since a verdict run from the first one. -/
theorem PairUnit.judged_first (n : Nat) (u : PairUnit) :
    (u.verdictAge = 0 → (u.judged n).verdictAge = 1 ∧ (u.judged n).verdictFrame = n) ∧
    (u.verdictAge ≠ 0 → u.judged n = u) := by
  unfold PairUnit.judged
  refine ⟨fun h => ?_, fun h => if_neg h⟩
  rw [if_pos h]
  exact ⟨rfl, rfl⟩

theorem pairKernelsExchangeAndJudgeRecords : Says.PairKernelsExchangeAndJudgeRecords := by
  intro s p t d x read
  refine ⟨answers_kXwExch, fun hr hm => ?_, fun own part hr hm hc => ?_, fun own part hr hm hown hpart => ?_,
    XwVal.unhealthy_iff, PairUnit.judged_first⟩
  · rw [exec_kernel2 (f := kXwPlausBody p t) hr rfl, kXwPlausBody_unmatched hm]
  · rw [exec_kernel2 (f := kXwPlausBody p t) hr rfl, kXwPlausBody_notClosed hm (not_and_or.mpr hc)]
  · refine answers_kernel2 hr rfl fun u hdev => ?_
    dsimp only
    rw [hdev, kXwPlausBody_judged hm ⟨hown, hpart⟩]
    exact (Dev.prevFailed_plausActs ..).trans (Dev.prevFailed_plausNoted ..)

end Sys2Proof.Machine
end

section
/-! PROOF. K_SUPERVISE: the speed flag's write (R132, R472). -/

namespace Sys2Proof.Machine

variable {d : Dev} {p : PortId} {t c : Nat}

/-- The speed flag's write, into the slot after the kernel's last tick. -/
def Dev.superviseWrites (d : Dev) (p : PortId) (t c : Nat) (b : Bool) : Dev :=
  d.onPort p fun x => { x with unit := { x.unit with speedDue := some (d.slotOf p + lastSlots t (40 + 14 * c) + 1, b) } }

/-- With a fresh angle cell the kernel compares the speed that it holds. -/
theorem kSuperviseBody_fresh (h : (d.port p).cons.ang2.stale (d.port p).cells.angle.cur (d.slotOf p) = false) :
    kSuperviseBody p t c d =
      (let w := absI (d.port p).cells.angle.cur.val.speed * 20000000
      if d.pnum p 0x20 0xA * 2 ^ 30 ≤ w then (d.readAng2 p).superviseWrites p t c true
      else if w < d.pnum p 0x20 0xB * 2 ^ 30 then (d.readAng2 p).superviseWrites p t c false
      else d.readAng2 p) := by
  have hheld : (d.readAng2 p).ang2 p = (d.port p).cells.angle.cur.val := by
    rw [Dev.ang2, Dev.port_readAng2_fresh h]
    exact Consumer.after_fresh h
  have hspeed : ∀ k, k < 256 → (d.readAng2 p).pnum p 0x20 k = d.pnum p 0x20 k := fun k hk => by
    rw [Dev.pnum, Dev.readAng2_eq]
    exact Dev.num_judgedRead _ _ _ _ _ _ _ (by unfold pidx; omega) (by unfold pidx; omega) hk
      (by unfold objKey pidx; omega) (by decide)
  unfold kSuperviseBody
  dsimp only
  rw [hheld, hspeed 0xA (by decide), hspeed 0xB (by decide)]
  rfl

theorem Dev.speedDue_superviseWrites (d : Dev) (b : Bool) :
    (((d.readAng2 p).superviseWrites p t c b).port p).unit.speedDue =
      some (d.slotOf p + lastSlots t (40 + 14 * c) + 1, b) := by
  rw [Dev.superviseWrites, Dev.port_onPort, Dev.slotOf_readAng2]

theorem superviseWritesTheSpeedFlag : Says.SuperviseWritesTheSpeedFlag := by
  intro s p t i hr hi d r hfresh w due
  have hslot : d.slotOf p = s.dev.slotOf p := Dev.slotOf_resumed s.dev p p
  have hformula : d.formula p .e2 0x49 t = i.formula := by
    rw [Dev.formula_resumed, Dev.formula, hi]
    rfl
  have hbody := kSuperviseBody_fresh (t := t) (c := d.formula p .e2 0x49 t) (hslot ▸ hfresh)
  have hdue : ∀ b, (((d.readAng2 p).superviseWrites p t (d.formula p .e2 0x49 t) b).port p).unit.speedDue = some (due, b) :=
    fun b => by rw [Dev.speedDue_superviseWrites, hformula, hslot]
  refine ⟨fun hup => ?_, fun hup hlow => ?_, fun hup hlow => ?_⟩
  · refine answers_kernel2 hr rfl fun u hdev => ?_
    rw [hdev, hbody]
    dsimp only
    rw [if_pos hup]
    exact hdue true
  · refine answers_kernel2 hr rfl fun u hdev => ?_
    rw [hdev, hbody]
    dsimp only
    rw [if_neg (not_le.mpr hup), if_pos hlow]
    exact hdue false
  · refine answers_kernel2 hr rfl fun u hdev => ?_
    rw [hdev, hbody]
    dsimp only
    rw [if_neg (not_le.mpr hup), if_neg (not_lt.mpr hlow), Dev.port_readAng2_fresh (hslot ▸ hfresh)]

end Sys2Proof.Machine
end

section
/-! PROOF. Engine 2's checks together. -/

namespace Sys2Proof.Machine

/-- Settles O14: K_CHECK_DQ's fresh reads change the consumers alone, so it compares the cells as they stand and records the
verdict; what K_XW_EXCH does behind its record leaves the record; K_XW_PLAUS keeps the failed checks whatever the verdict;
and K_SUPERVISE compares the speed that it has just read. -/
theorem engineTwoChecksItsFrames : Obligations.EngineTwoChecksItsFrames :=
  ⟨recomputationJudgesFreshFrames, pairKernelsExchangeAndJudgeRecords, superviseWritesTheSpeedFlag⟩

end Sys2Proof.Machine
end

section
/-! SUPPORT. Current sensing: a fault raised with a kernel's command, and the objects of calibration that a fault leaves (R131,
R252, R472). -/

namespace Sys2Proof.Machine

namespace Dev

variable (d : Dev) (p : PortId)

/-- A fault is recorded in 0x3xB0 and 0x2721.02 alone. -/
theorem num_recordFault_ne (f : FaultId) {i s : Nat} (hi : i ≠ pidx p 0xB0) (hs : s < 256)
    (ht : objKey i s ≠ objKey 0x2721 2) : (d.recordFault p f).num i s = d.num i s := by
  rw [recordFault, num_noteFault_of_idx_ne _ _ hi hs, num_queueTrace_ne _ _ ht]

/-- The other objects of the port are left. -/
theorem pnum_recordFault_ne (f : FaultId) {blk s : Nat} (hb : blk ≠ 0xB0) (hs : s < 256) :
    (d.recordFault p f).pnum p blk s = d.pnum p blk s :=
  num_recordFault_ne d p f (by unfold pidx; omega) hs (by unfold objKey pidx; omega)

theorem pnum_trip_ne (f : FaultId) (n : Nat) {blk s : Nat} (hb : blk ≠ 0xB0) (hs : s < 256) :
    (d.trip p f n).pnum p blk s = d.pnum p blk s := pnum_recordFault_ne d p f hb hs

theorem faulted_recordFault (f : FaultId) : (d.recordFault p f).faulted p f = true := by
  rw [faulted, port_recordFault]
  exact contains_faultsWith d p f

/-- A write of another object of the same block leaves a number of the port. -/
theorem pnum_pput_ne {blk i j : Nat} (v : Int) (hi : i < 256) (hj : j < 256) (h : j ≠ i) :
    (d.pput p blk i v).pnum p blk j = d.pnum p blk j :=
  num_put_ne _ _ _ _ _ _ fun hk => h ((objKey_inj _ _ _ _ hj hi).mp hk).2

/-- A write to one block of the port's objects leaves the numbers of another. -/
theorem pnum_pput_of_blk_ne {blk blk' i j : Nat} (v : Int) (hb : blk' ≠ blk) (hi : i < 256) (hj : j < 256) :
    (d.pput p blk i v).pnum p blk' j = d.pnum p blk' j :=
  num_pput_of_idx_ne d v (by unfold pidx; omega) hi hj

theorem pnum_pinc_of_blk_ne {blk blk' i j : Nat} (hb : blk' ≠ blk) (hi : i < 256) (hj : j < 256) :
    (d.pinc p blk i).pnum p blk' j = d.pnum p blk' j := pnum_pput_of_blk_ne d p _ hb hi hj

@[simp] theorem pnum_pinc (blk i : Nat) : (d.pinc p blk i).pnum p blk i = min (d.pnum p blk i + 1) 4294967295 := num_inc ..

@[simp] theorem pnum_onPort (f : Port → Port) (q : PortId) (blk i : Nat) : (d.onPort p f).pnum q blk i = d.pnum q blk i := rfl

/-- A port's front end replaced. -/
def onFe (d : Dev) (p : PortId) (f : FrontEnd → FrontEnd) : Dev := d.onPort p fun x => { x with fe := f x.fe }

@[simp] theorem port_onFe (f : FrontEnd → FrontEnd) :
    (d.onFe p f).port p = { d.port p with fe := f (d.port p).fe } := port_onPort d p _

@[simp] theorem pnum_onFe (f : FrontEnd → FrontEnd) (blk i : Nat) :
    (d.onFe p f).pnum p blk i = d.pnum p blk i := rfl

/-- A kernel's command of this slot, with FLT_CS_QUALITY. -/
theorem commandAt_csQuality_now (c : SafeCmd) :
    let u := d.commandAt p 0 c FaultId.csQuality.code
    u.port p = { d.port p with
      faults := d.faultsWith p .csQuality
      unit := { (d.port p).unit with arriving := (d.port p).unit.arriving ++ [c] } } ∧
    u.pnum p 0xB0 4 = FaultId.csQuality.code := by
  have hcode : d.recordCode p FaultId.csQuality.code = d.recordFault p .csQuality := rfl
  rw [commandAt, if_pos rfl, hcode]
  refine ⟨?_, pnum_last_trip d p .csQuality 0⟩
  rw [commandUnit, port_onPort, port_recordFault]
  rfl

/-- A kernel's command of a later slot waits, and leaves all else of its port. -/
theorem port_commandAt_later {due : Nat} (c : SafeCmd) (code : Nat) (hdue : d.slotOf p < due) :
    (d.commandAt p (due - d.slotOf p) c code).port p = { d.port p with unit := { (d.port p).unit with
      later := (d.port p).unit.later ++ [⟨due, c, code, false⟩] } } := by
  have hslot : (d.lane p.lane).slots + (due - d.slotOf p) = due := by
    unfold slotOf at hdue ⊢
    omega
  rw [commandAt, if_neg (Nat.sub_ne_zero_of_lt hdue), port_onPort, hslot]

end Dev
end Sys2Proof.Machine
end

section
/-! PROOF. The over-current comparator and the count of both-poor frames (R96, R98, R100, R131, R134, R472). -/

namespace Sys2Proof.Machine

namespace Dev

variable {d : Dev} {p : PortId} {obs : List OcSample}

/-- A trip counted in 0x3x33.07, with the comparator's counts at zero. -/
def tripCounted (d : Dev) (p : PortId) : Dev :=
  (d.onFe p fun f => { f with oc := ⟨⟨0, 0, 0⟩, ⟨0, 0, 0⟩⟩ }).pinc p 0x33 7

@[simp] theorem port_tripCounted (d : Dev) (p : PortId) : (d.tripCounted p).port p =
    { d.port p with fe := { (d.port p).fe with oc := ⟨⟨0, 0, 0⟩, ⟨0, 0, 0⟩⟩ } } := by
  rw [tripCounted, pinc_port, port_onFe]

theorem pnum_tripCounted (d : Dev) (p : PortId) :
    (d.tripCounted p).pnum p 0x33 7 = min (d.pnum p 0x33 7 + 1) 4294967295 := pnum_pinc ..

/-- The comparator at work. -/
theorem overcurrentTripStep_armed (ha : (d.lane p.lane).alive = true) (hp : (d.port p).fe.pass = none) :
    overcurrentTripStep p obs d =
      (let c := d.ocRun p (d.transAhead p) (d.pnat p 0x30 9) obs (d.port p).fe.oc
      if c.trips (d.pnat p 0x30 9) then
        if d.safeOut p ≠ 0 then d.tripCounted p else (d.tripCounted p).trip p .overcurrent 1
      else d.onFe p fun f => { f with oc := c }) := by
  unfold overcurrentTripStep
  dsimp only
  rw [if_pos (by simp [ha, hp])]
  rfl

/-- During a calibration pass the comparator sees nothing. -/
theorem overcurrentTripStep_disarmed (hp : (d.port p).fe.pass.isSome = true) : overcurrentTripStep p obs d = d := by
  have hnone : (d.port p).fe.pass.isNone = false := by simpa using hp
  unfold overcurrentTripStep
  dsimp only
  rw [hnone, Bool.and_false, if_neg Bool.false_ne_true]

/-- The count of both-poor frames at zero. -/
def poorCleared (d : Dev) (p : PortId) : Dev :=
  d.onPort p fun x => { x with e0 := { x.e0 with st := { x.e0.st with bothPoor := 0 } } }

@[simp] theorem port_poorCleared (d : Dev) (p : PortId) : (d.poorCleared p).port p =
    { d.port p with e0 := { (d.port p).e0 with st := { (d.port p).e0.st with bothPoor := 0 } } } := by
  rw [poorCleared, port_onPort]

@[simp] theorem slotOf_poorCleared (d : Dev) (p q : PortId) : (d.poorCleared p).slotOf q = d.slotOf q := rfl

/-- The count of both-poor frames at its limit. -/
theorem bothPoorLimitStep_reached (h : d.pnat p 0x30 7 ≤ (d.port p).e0.st.bothPoor) : bothPoorLimitStep p d =
    (d.poorCleared p).commandAt p ((d.port p).e0.st.qualSlot - (d.poorCleared p).slotOf p) ⟨7, none, false, false⟩
      FaultId.csQuality.code :=
  if_pos h

end Dev

theorem overcurrentTripsThePort : Says.OvercurrentTripsThePort := by
  intro s p obs hs f lim nx
  refine ⟨fun ha hp hsafe htrips => answers_of_awake hs rfl fun u hu => ?_,
    fun ha hp hsafe htrips => answers_of_awake hs rfl fun u hu => ?_,
    fun ha hp htrips => answers_of_awake hs rfl fun u hu => ?_,
    fun hp => congrArg Host.Outcome.next (State.awake_of_fixed (Dev.overcurrentTripStep_disarmed hp))⟩
  · have hdev : u.dev = (s.dev.tripCounted p).trip p .overcurrent 1 :=
      hu.trans ((Dev.overcurrentTripStep_armed ha hp).trans ((if_pos htrips).trans (if_neg (not_not_intro hsafe))))
    rw [hdev]
    refine ⟨Dev.faulted_trip .., Dev.pnum_last_trip .., ?_, ?_, ?_⟩
    · rw [Dev.port_trip, Dev.port_tripCounted]
    · rw [Dev.port_trip, Dev.port_tripCounted]
    · rw [Dev.pnum_trip_ne _ _ _ _ (by decide) (by decide), Dev.pnum_tripCounted]
  · have hdev : u.dev = s.dev.tripCounted p :=
      hu.trans ((Dev.overcurrentTripStep_armed ha hp).trans ((if_pos htrips).trans (if_pos hsafe)))
    rw [hdev, Dev.port_tripCounted]
    exact ⟨rfl, rfl, rfl, Dev.pnum_tripCounted ..⟩
  · have hdev : u.dev = s.dev.onFe p fun g => { g with oc := s.dev.ocRun p nx lim obs f.oc } :=
      hu.trans ((Dev.overcurrentTripStep_armed ha hp).trans (if_neg (Bool.eq_false_iff.mp htrips)))
    rw [hdev, Dev.port_onFe]
    exact ⟨rfl, rfl, rfl⟩

theorem bothPoorFramesRaiseCsQuality : Says.BothPoorFramesRaiseCsQuality := by
  intro s p hs hlim x due
  refine ⟨fun hdue => answers_of_awake hs rfl fun u hu => ?_, fun hdue => answers_of_awake hs rfl fun u hu => ?_⟩
  · rw [Dev.bothPoorLimitStep_reached hlim, Dev.slotOf_poorCleared, Nat.sub_eq_zero_of_le hdue] at hu
    obtain ⟨hport, hlast⟩ := (s.dev.poorCleared p).commandAt_csQuality_now p ⟨7, none, false, false⟩
    rw [hu, Dev.faulted, hport, hlast, Dev.port_poorCleared]
    exact ⟨Dev.contains_faultsWith .., rfl, rfl, rfl⟩
  · rw [hu, Dev.bothPoorLimitStep_reached hlim, Dev.port_commandAt_later (s.dev.poorCleared p) p _ _ hdue,
      Dev.port_poorCleared]
    exact ⟨rfl, rfl, rfl, rfl⟩

end Sys2Proof.Machine
end

section
/-! PROOF. Calibration passes: started by a request or the interval, and ended with factors or a fault (R100 to R104). -/

namespace Sys2Proof.Machine

/-- The front end after a pass: the inputs reconnected at an instant (R101). -/
def FrontEnd.reconnected (f : FrontEnd) (back : Nat) : FrontEnd := { f with pass := none, reconnect := some back }

/-- The front end after a valid pass, with the slot of its factors and the former ones (R100, R101). -/
def FrontEnd.validated (f : FrontEnd) (back slot : Nat) (old : Factors) : FrontEnd :=
  { f.reconnected back with everValid := true, changed := slot, former := old }

namespace Dev

variable {d : Dev} {p : PortId} {c : CalSums}

/-! ### A pass starts -/

/-- Without a pass one starts at the present slot. -/
theorem startPass_idle (h : (d.port p).fe.pass = none) :
    ((d.startPass p).port p).fe.pass = some ⟨d.slotOf p, d.pnat p 0x32 1⟩ ∧ (d.startPass p).pnum p 0x32 1 = 1 := by
  rw [startPass, if_neg (by simp [h])]
  dsimp only
  rw [num_pput, pput_port, port_onPort]
  exact ⟨rfl, rfl⟩

/-- A pass that runs is left. -/
theorem pass_startPass_running (h : (d.port p).fe.pass ≠ none) : ((d.startPass p).port p).fe.pass = (d.port p).fe.pass := by
  rw [startPass, if_pos (by rwa [Option.isSome_iff_ne_none]), port_onPort]

/-- A start leaves what is published, and the other ports. -/
theorem startPass_leaves (d : Dev) (p : PortId) :
    (d.startPass p).published = d.published ∧ ∀ q, q ≠ p → (d.startPass p).port q = d.port q := by
  unfold startPass
  split_ifs
  · exact ⟨rfl, fun q hq => port_onPort_ne _ _ _ _ hq⟩
  · refine ⟨rfl, fun q hq => ?_⟩
    dsimp only
    rw [pput_port, port_onPort_ne _ _ _ _ hq]

/-- The published request, taken. -/
theorem csStartCalibrationStep_of_pub {x : Published} (hc : d.clocked p.lane = true) (h : d.pubOf (pidx p 0x31) 0 = some x) :
    csStartCalibrationStep p d = ((d.dropPub (pidx p 0x31) 0).startPass p).showAt p.lane := by
  rw [csStartCalibrationStep, if_pos hc, h]

theorem calibrationIntervalStep_due (ha : d.pstate p = .armed) (hms : d.pnat p 0x30 0xB ≠ 0) (hp : (d.port p).fe.pass = none)
    (hdue : (d.port p).fe.lastStart + d.pnat p 0x30 0xB * 2000 ≤ d.slotOf p) :
    calibrationIntervalStep p d = d.startPass p :=
  if_pos (by simp [ha, hms, hp, hdue])

/-! ### A pass ends -/

/-- The factors of a valid pass in 0x3x32. -/
def factorsShown (d : Dev) (p : PortId) (ou ov gu gv : Int) : Dev :=
  ((((d.pput p 0x32 1 2).pput p 0x32 2 ou).pput p 0x32 3 ov).pput p 0x32 4 gu).pput p 0x32 5 gv

@[simp] theorem port_factorsShown (d : Dev) (p q : PortId) (ou ov gu gv : Int) :
    (d.factorsShown p ou ov gu gv).port q = d.port q := rfl

/-- The time of the pass leaves them. -/
theorem factorsShown_shows (d : Dev) (p : PortId) (ou ov gu gv at' : Int) :
    let u := ((d.factorsShown p ou ov gu gv).pput p 0x32 6 at').stamped
    u.pnum p 0x32 1 = 2 ∧ u.pnum p 0x32 2 = ou ∧ u.pnum p 0x32 3 = ov ∧ u.pnum p 0x32 4 = gu ∧ u.pnum p 0x32 5 = gv := by
  have hstamped : ∀ (e : Dev) i, e.stamped.pnum p 0x32 i = e.pnum p 0x32 i := fun _ _ => rfl
  simp [factorsShown, hstamped, pnum_pput_ne]

theorem csCalibrationEndStep_valid (h : (d.port p).fe.pass.isSome = true)
    (hu : calOk (calOffsetOf c.offU) (calGainOf c.posU c.negU) = true)
    (hv : calOk (calOffsetOf c.offV) (calGainOf c.posV c.negV) = true) :
    ∃ back old, let e := d.onFe p fun f => f.validated back (d.slotOf p) old
      csCalibrationEndStep p c d = ((e.factorsShown p (calOffsetOf c.offU) (calOffsetOf c.offV) (calGainOf c.posU c.negU)
        (calGainOf c.posV c.negV)).pput p 0x32 6 e.stampNow).stamped := by
  obtain ⟨q, hq⟩ := Option.isSome_iff_exists.mp h
  unfold csCalibrationEndStep
  rw [hq]
  dsimp only
  rw [hu, hv, Bool.and_self, if_pos rfl]
  exact ⟨_, _, rfl⟩

/-- A pass outside its limits: its status, FLT_CS_CAL and its count. -/
def calFailed (d : Dev) (p : PortId) (back : Nat) (status : Int) : Dev :=
  (((d.onFe p fun f => f.reconnected back).pput p 0x32 1 status).recordFault p .csCal).pinc p 0x33 6

section
variable (d : Dev) (p : PortId) (back : Nat) (status : Int)

/-- The pass is over, and the unit is left. -/
theorem port_calFailed : ((d.calFailed p back status).port p).fe = (d.port p).fe.reconnected back ∧
    ((d.calFailed p back status).port p).unit = (d.port p).unit := by
  rw [calFailed, pinc_port, port_recordFault, pput_port, port_onFe]
  exact ⟨rfl, rfl⟩

theorem faulted_calFailed : (d.calFailed p back status).faulted p .csCal = true := by
  rw [faulted, calFailed, pinc_port]
  exact faulted_recordFault ..

/-- The former factors stay. -/
theorem pnum_calFailed {i : Nat} (hi : i < 256) (hne : i ≠ 1) :
    (d.calFailed p back status).pnum p 0x32 i = d.pnum p 0x32 i := by
  rw [calFailed, pnum_pinc_of_blk_ne _ _ (by decide) (by decide) hi, pnum_recordFault_ne _ _ _ (by decide) hi,
    pnum_pput_ne _ _ _ (by decide) hi hne, pnum_onFe]

theorem count_calFailed : (d.calFailed p back status).pnum p 0x33 6 = min (d.pnum p 0x33 6 + 1) 4294967295 := by
  rw [calFailed, pnum_pinc, pnum_recordFault_ne _ _ _ (by decide) (by decide),
    pnum_pput_of_blk_ne _ _ _ (by decide) (by decide) (by decide), pnum_onFe]

end

theorem csCalibrationEndStep_failed (h : (d.port p).fe.pass.isSome = true)
    (hbad : calOk (calOffsetOf c.offU) (calGainOf c.posU c.negU) = false ∨
      calOk (calOffsetOf c.offV) (calGainOf c.posV c.negV) = false) :
    ∃ back status, csCalibrationEndStep p c d = d.calFailed p back status := by
  obtain ⟨q, hq⟩ := Option.isSome_iff_exists.mp h
  unfold csCalibrationEndStep
  rw [hq]
  dsimp only
  rw [if_neg (Bool.eq_false_iff.mp (Bool.and_eq_false_iff.mpr hbad))]
  exact ⟨_, _, rfl⟩

end Dev

theorem calibrationRequestStartsAPass : Says.CalibrationRequestStartsAPass := by
  intro s p v session origin rest hs hc hpub
  have hstep := Dev.csStartCalibrationStep_of_pub hc (Dev.pubOf_head hpub)
  obtain ⟨hpublished, hports⟩ := Dev.startPass_leaves (s.dev.dropPub (pidx p 0x31) 0) p
  rw [Dev.published_dropPub_head hpub] at hpublished
  refine ⟨fun hp => answers_of_awake hs rfl fun u hu => ?_, fun hp => answers_of_awake hs rfl fun u hu => ?_⟩
  · obtain ⟨hpass, hshown⟩ := Dev.startPass_idle (d := s.dev.dropPub (pidx p 0x31) 0) (p := p) hp
    rw [hu, hstep]
    exact ⟨hpass, hshown, hpublished, hports⟩
  · rw [hu, hstep]
    exact ⟨Dev.pass_startPass_running (d := s.dev.dropPub (pidx p 0x31) 0) (p := p) hp, hpublished⟩

theorem currentSensingCalibrationPublishesOrFails : Says.CurrentSensingCalibrationPublishesOrFails := by
  intro s p c hs f ou ov gu gv
  refine ⟨fun ha hms hp hdue => ?_, fun hp hu hv => ?_, fun hp hbad => ?_⟩
  · refine answers_of_awake hs rfl fun u hdev => ?_
    rw [hdev, Dev.calibrationIntervalStep_due ha hms hp hdue]
    exact Dev.startPass_idle hp
  · refine answers_of_awake hs rfl fun u hdev => ?_
    obtain ⟨back, old, hstep⟩ := Dev.csCalibrationEndStep_valid hp hu hv
    obtain ⟨hstatus, hou, hov, hgu, hgv⟩ := Dev.factorsShown_shows
      (s.dev.onFe p fun f => f.validated back (s.dev.slotOf p) old) p ou ov gu gv
      (s.dev.onFe p fun f => f.validated back (s.dev.slotOf p) old).stampNow
    rw [hdev, hstep]
    refine ⟨hstatus, hou, hov, hgu, hgv, ?_⟩
    rw [Dev.stamped_port, Dev.pput_port, Dev.port_factorsShown, Dev.port_onFe]
    exact ⟨rfl, rfl, rfl⟩
  · refine answers_of_awake hs rfl fun u hdev => ?_
    obtain ⟨back, status, hstep⟩ := Dev.csCalibrationEndStep_failed hp hbad
    rw [hdev, hstep]
    obtain ⟨hfe, hunit⟩ := s.dev.port_calFailed p back status
    exact ⟨Dev.faulted_calFailed .., Dev.pnum_calFailed _ _ _ _ (by decide) (by decide),
      Dev.pnum_calFailed _ _ _ _ (by decide) (by decide), congrArg FrontEnd.pass hfe, Dev.count_calFailed .., hunit⟩

/-- Settles O16: the comparator's run either trips, with its fault and command where no safe state holds the unit, or keeps its
counts; the count of poor frames acts through its kernel's command; a pass starts only where none runs, and ends with the
factors that it shows or with its fault. -/
theorem currentSensingIsCalibratedAndGuarded : Obligations.CurrentSensingIsCalibratedAndGuarded :=
  ⟨overcurrentTripsThePort, bothPoorFramesRaiseCsQuality, calibrationRequestStartsAPass,
    currentSensingCalibrationPublishesOrFails⟩

end Sys2Proof.Machine
end

section
/-! SUPPORT. A refused write that is a change leaves the queue's changes and every object but its count (R365, R366, R373). -/

namespace Sys2Proof.Machine

/-- A command that completes with two properties completes with both. -/
theorem Answers.and {c : Instr} {s : State} {P Q : State → Prop} (hp : Answers c s P) (hq : Answers c s Q) :
    Answers c s fun u => P u ∧ Q u := by
  obtain ⟨u, hu, hpu⟩ := hp
  obtain ⟨w, hw, hqw⟩ := hq
  obtain rfl : u = w := Host.Outcome.next.inj (hu.symm.trans hw)
  exact ⟨u, hu, hpu, hqw⟩

/-- A job without a change, put at its place, adds no change to the queue. -/
theorem changes_insertJob {j : JournalJob} (hj : j.change = none) (q : List JournalJob) :
    ((insertJob j q).filterMap fun k => k.change) = q.filterMap fun k => k.change := by
  induction q with
  | nil => simp [insertJob, hj]
  | cons k q ih =>
    unfold insertJob
    split_ifs
    · simp only [List.filterMap_cons, ih]
    · simp only [List.filterMap_cons, hj]

/-- A queue settled anew holds the same changes. -/
theorem changes_recount (ids : List Nat) (acc : List Ahead) (q : List JournalJob) :
    ((recount ids acc q).filterMap fun k => k.change) = q.filterMap fun k => k.change := by
  induction q generalizing acc with
  | nil => rfl
  | cons k q ih => simp only [recount, List.filterMap_cons, ih]

namespace Dev

theorem changes_formJob_none (d : Dev) (l : LaneId) (origin : Nat) (body : List Byte) (write : Option (Nat × List Byte))
    (reserve : Bool) (ahead : List Ahead) (seen : Option Seen) :
    ((d.formJob l origin body write none reserve ahead seen).wr.queue.filterMap fun k => k.change) =
      d.wr.queue.filterMap fun k => k.change :=
  (changes_recount ..).trans (changes_insertJob rfl _)

/-- A refusal is recorded by an entry without a change, or in 0x1300.0A. -/
theorem recordRefusal_changes_objs (d : Dev) (c : Ctx) (l : LaneId) (key : Nat) (raw : List Byte) (res : Res) :
    let u := d.recordRefusal c l key raw res
    ((u.wr.queue.filterMap fun k => k.change) = d.wr.queue.filterMap fun k => k.change) ∧
    ∀ k, k ≠ objKey 0x1300 0xA → u.objs.get k = d.objs.get k := by
  unfold recordRefusal
  dsimp only
  split_ifs
  · exact ⟨rfl, fun k hk => ObjStore.get_put_ne _ _ _ _ hk⟩
  · exact ⟨changes_formJob_none .., fun _ _ => rfl⟩
  · exact ⟨rfl, fun _ _ => rfl⟩

/-- A refused write leaves the queue's changes and every object but 0x1300.0A. -/
theorem refuseWrite_changes_objs (d : Dev) (l : LaneId) (c : Ctx) (y : Reply) (key : Nat) (raw : List Byte) (res : Res) :
    let u := d.refuseWrite l c y key raw res
    ((u.wr.queue.filterMap fun k => k.change) = d.wr.queue.filterMap fun k => k.change) ∧
    ∀ k, k ≠ objKey 0x1300 0xA → u.objs.get k = d.objs.get k := by
  unfold refuseWrite
  dsimp only
  rw [wr_respond, objs_respond]
  split_ifs
  · exact recordRefusal_changes_objs ..
  · exact ⟨rfl, fun _ _ => rfl⟩

end Dev

/-- What a write refused in its service slot leaves. -/
theorem answers_write_refused_keeps {s : State} {o : Origin} {vpp i : Nat} {r : Request} {c : Ctx} (hs : s.dev.frozen = false)
    (hch : s.dev.chosen o = some (i, r)) (hwf : r.wellFormed = true) (hc : (s.dev.taken o i r).reqCtx o r = some c)
    (hhome : (s.dev.taken o i r).atHome ((s.dev.taken o i r).serveLane o) r.key) (hrow : r.row = 2)
    (hres : (s.dev.taken o i r).judge c vpp r.key (r.payload.drop 4) ≠ .ok) : Answers (.write o vpp) s fun u =>
      (∀ k, k ≠ objKey 0x1300 0xA → u.dev.objs.get k = (s.dev.taken o i r).objs.get k) ∧
      (u.dev.wr.queue.filterMap fun j => j.change) = (s.dev.wr.queue.filterMap fun j => j.change) := by
  refine answers_of_awake hs rfl fun u hu => ?_
  rw [hu, writeStep, Dev.serve_atHome hch hwf hc hhome hrow, Dev.objectRequest_write hrow, Dev.write_refused hres]
  obtain ⟨hchanges, hobjs⟩ := Dev.refuseWrite_changes_objs (s.dev.taken o i r) ((s.dev.taken o i r).serveLane o) c
    (s.dev.replyNow o r) r.key (r.payload.drop 4) ((s.dev.taken o i r).judge c vpp r.key (r.payload.drop 4))
  rw [Dev.wr_taken] at hchanges
  exact ⟨hobjs, hchanges⟩

end Sys2Proof.Machine
end

section
/-! PROOF. R99: a write to the over-current level or the hard level is judged against the other, and refused where it would leave
the hard level below (R99, R105, R361). -/

namespace Sys2Proof.Machine

/-! ### The two levels' rows -/

/-- The values that a level may be given (R105). -/
def levelSpans (sub : Nat) : List Span := if sub = 8 then [⟨1000, 8191, 1⟩] else [⟨0, 0, 1⟩, ⟨1000, 8192, 1⟩]

/-- The table row of a level (R105). -/
def levelRow (sub : Nat) : ObjRow :=
  ⟨0x3030, sub, sub, .u16, .rws, .i, .config, .num (if sub = 8 then 7372 else 0), levelSpans sub, ⟨0, 0⟩⟩

/-- The index of a port's levels (R6). -/
theorem pidx_level (p : PortId) : (0x3000 ≤ pidx p 0x30 ∧ pidx p 0x30 < 0x3400) ∧ pidx p 0x30 % 256 = 0x30 ∧
    pidx p 0x30 / 256 * 256 + 0x30 = pidx p 0x30 ∧ normIdx (pidx p 0x30) = 0x3030 := by
  cases p <;> decide

namespace Dev

variable {d e : Dev} {raw : List Byte} {l : LaneId} {role vpp : Nat} {locks : Bool}

/-- The number of an object written at a port. -/
theorem pnum_putVal (d : Dev) (p : PortId) (v : ObjVal) {blk i j : Nat} (hi : i < 256) (hj : j < 256) :
    (d.putVal (pidx p blk) i v).pnum p blk j = if j = i then v.toInt else d.pnum p blk j := by
  split_ifs with h
  · subst h
    simp [pnum, num, putVal]
  · exact num_putVal_ne _ _ _ _ _ _ fun hk => h ((objKey_inj _ _ _ _ hj hi).mp hk).2

/-- Where the head of a judgement refuses, the judgement does, with the same result. -/
theorem judgeOn_of_head {key : Nat} (h : d.headRes role (key / 256) (key % 256) ≠ .ok) :
    d.judgeOn e l role vpp locks key raw = d.headRes role (key / 256) (key % 256) := by
  unfold judgeOn
  dsimp only
  split
  next hok => exact absurd hok h
  next => rfl

/-- A session's judgement adds a rule of its own to the snapshot list alone. -/
theorem judgeAs_eq {c : Ctx} {key : Nat} (hkey : key ≠ 0x200501) :
    d.judgeAs e c vpp key raw = d.judgeOn e (d.serveLane (originOf c.origin)) c.role vpp true key raw := by
  unfold judgeAs
  rw [if_neg hkey]
  split
  next hok => exact hok.symm
  next => rfl

/-- A level's range depends on no other object (R105). -/
theorem extraRange_level (e : Dev) (p : PortId) (i v : Nat) : e.extraRange (pidx p 0x30) i v = true := by
  obtain ⟨hport, hblk, -, hnorm⟩ := pidx_level p
  rw [extraRange, hnorm, if_neg (by omega), if_pos hport, hblk]
  rfl

/-- The hard level and the over-current level as a write of raw to one of them leaves them. -/
def levelsAfter (e : Dev) (p : PortId) (sub : Nat) (raw : List Byte) : Int × Int :=
  let v := (decodeVal .u16 raw).toInt
  (if sub = 0xA then v else e.pnum p 0x30 0xA, if sub = 8 then v else e.pnum p 0x30 8)

/-- Whether a write of raw to a level leaves the hard level at work and below the over-current level. -/
def levelsCross (e : Dev) (p : PortId) (sub : Nat) (raw : List Byte) : Prop :=
  (e.levelsAfter p sub raw).1 ≠ 0 ∧ (e.levelsAfter p sub raw).1 < (e.levelsAfter p sub raw).2

end Dev

section
variable {sub : Nat} (hsub : sub = 8 ∨ sub = 0xA)
include hsub

theorem objKey_level (p : PortId) :
    objKey (pidx p 0x30) sub / 256 = pidx p 0x30 ∧ objKey (pidx p 0x30) sub % 256 = sub := by
  unfold objKey
  omega

theorem objRow_level (p : PortId) : objRow (pidx p 0x30) sub = some (levelRow sub) := by
  obtain ⟨-, -, -, hnorm⟩ := pidx_level p
  rw [objRow, hnorm]
  rcases hsub with rfl | rfl <;> decide +kernel

/-- A value in the range of its level is permitted. -/
theorem valueOk_level {raw : List Byte}
    (h8 : sub = 8 → 1000 ≤ (decodeVal .u16 raw).toInt ∧ (decodeVal .u16 raw).toInt ≤ 8191)
    (hA : sub = 0xA → 1000 ≤ (decodeVal .u16 raw).toInt ∧ (decodeVal .u16 raw).toInt ≤ 8192) :
    valueOk (levelRow sub) raw = true := by
  rcases hsub with rfl | rfl
  · obtain ⟨hlo, hhi⟩ := h8 rfl
    simp [valueOk, valueOk.rangeOk, levelRow, levelSpans, Span.holds, hlo, hhi]
  · obtain ⟨hlo, hhi⟩ := hA rfl
    simp [valueOk, valueOk.rangeOk, levelRow, levelSpans, Span.holds, hlo, hhi]

namespace Dev

variable {d e : Dev} {p : PortId} {raw : List Byte} {l : LaneId} {role vpp : Nat} {locks : Bool}

/-! ### The rule that joins the levels -/

theorem crossOk_level (d : Dev) (p : PortId) : d.crossOk (pidx p 0x30) sub =
    (decide (d.pnum p 0x30 0xA = 0) || decide (d.pnum p 0x30 8 ≤ d.pnum p 0x30 0xA)) := by
  obtain ⟨hport, hblk, hbase, -⟩ := pidx_level p
  have hnum : ∀ j, d.num (pidx p 0x30 / 256 * 256 + 0x30) j = d.pnum p 0x30 j := fun j => congrArg (d.num · j) hbase
  rw [crossOk, if_pos hport]
  dsimp only
  rw [if_pos ⟨hblk, hsub⟩]
  simp only [hnum]

theorem crossOk_written (h : e.levelsCross p sub raw) :
    (e.putVal (pidx p 0x30) sub (decodeVal .u16 raw)).crossOk (pidx p 0x30) sub = false := by
  obtain ⟨hnz, hlt⟩ := h
  have hs : sub < 256 := by omega
  unfold levelsAfter at hnz hlt
  dsimp only at hnz hlt
  rw [crossOk_level hsub, pnum_putVal _ _ _ hs (by decide), pnum_putVal _ _ _ hs (by decide)]
  simp only [eq_comm (a := sub)] at hnz hlt
  simp only [hnz, not_le.mpr hlt, decide_false, Bool.or_false]

/-! ### The judgement -/

/-- Of its chapter's rules, a write to a level that crosses the other meets at most the wait for an operation on flash before
that rule. -/
theorem chapterRes_level (h : e.levelsCross p sub raw) :
    e.chapterRes role vpp (levelRow sub) (pidx p 0x30) sub raw = if e.flashBusy then .refusedBusy else .inconsistent := by
  have hcross := crossOk_written hsub h
  obtain ⟨⟨hlo, -⟩, hblk, -, hnorm⟩ := pidx_level p
  have hother : ∀ k, k < 0x3000 → pidx p 0x30 ≠ k := fun k hk => by omega
  have hheld : profileHeld (levelRow sub) (objKey (pidx p 0x30) sub) = true := by
    have hkey : ∀ k, k < 0x300000 → objKey (pidx p 0x30) sub ≠ k := fun k hk => by unfold objKey; omega
    simp [profileHeld, levelRow, hkey]
  have htype : (levelRow sub).type = .u16 := rfl
  unfold chapterRes
  simp [hother, hnorm, hblk, hheld, htype, hcross]

/-- Steps 5 to 9 of a write to a level (R361). -/
theorem judgeOn_level (hhead : d.headRes role (pidx p 0x30) sub = .ok) :
    d.judgeOn e l role vpp locks (objKey (pidx p 0x30) sub) raw =
      if accessOk .rws e.mode = false ∨ d.homeLost (pidx p 0x30) = true then .wrongMode
      else if lengthOk (levelRow sub) raw = false then .typeLength
      else if valueOk (levelRow sub) raw = false then .outOfRange
      else if locks = true ∧ d.mappedBy none (objKey (pidx p 0x30) sub) = true then .locked
      else e.chapterRes role vpp (levelRow sub) (pidx p 0x30) sub raw := by
  obtain ⟨hidx, hrest⟩ := objKey_level hsub p
  have hentry : pidx p 0x30 ≠ 0x2130 := by cases p <;> decide
  unfold judgeOn
  dsimp only
  rw [hidx, hrest, hhead, objRow_level hsub]
  dsimp only
  rw [if_neg hentry, extraRange_level]
  simp only [Bool.true_eq_false, or_false]
  rfl

section
variable {c : Ctx} (h : (d.committed c.origin).levelsCross p sub raw)
include h

/-- A write that leaves the levels crossed is refused. -/
theorem judge_level_ne_ok : d.judge c vpp (objKey (pidx p 0x30) sub) raw ≠ .ok := by
  obtain ⟨hidx, hrest⟩ := objKey_level hsub p
  have hkey : objKey (pidx p 0x30) sub ≠ 0x200501 := by unfold objKey pidx; omega
  rw [judge, judgeAs_eq hkey]
  by_cases hhead : d.headRes c.role (pidx p 0x30) sub = .ok
  · rw [judgeOn_level hsub hhead, chapterRes_level hsub h]
    split_ifs <;> decide
  · have hkeyHead : d.headRes c.role (objKey (pidx p 0x30) sub / 256) (objKey (pidx p 0x30) sub % 256) ≠ .ok := by
      rwa [hidx, hrest]
    rwa [judgeOn_of_head hkeyHead]

/-- Where no earlier check refuses it, it is refused with INCONSISTENT. -/
theorem judge_level_inconsistent (hhead : d.headRes c.role (pidx p 0x30) sub = .ok)
    (hmode : (d.committed c.origin).mode = 2 ∨ (d.committed c.origin).mode = 3) (hhome : d.homeLost (pidx p 0x30) = false)
    (hlen : raw.length = 2) (hval : valueOk (levelRow sub) raw = true)
    (hmap : d.mappedBy none (objKey (pidx p 0x30) sub) = false) (hbusy : (d.committed c.origin).flashBusy = false) :
    d.judge c vpp (objKey (pidx p 0x30) sub) raw = .inconsistent := by
  have hkey : objKey (pidx p 0x30) sub ≠ 0x200501 := by unfold objKey pidx; omega
  have haccess : accessOk .rws (d.committed c.origin).mode = true := by simpa [accessOk] using hmode
  have hlength : lengthOk (levelRow sub) raw = true := by simp [lengthOk, levelRow, ObjType.size, hlen]
  rw [judge, judgeAs_eq hkey, judgeOn_level hsub hhead, chapterRes_level hsub h]
  simp [haccess, hhome, hlength, hval, hmap, hbusy]

end
end Dev
end

/-- Settles O57: the judgement of a write to either level reads both levels as the write leaves them, so a write that crosses them
gets no further than that rule, and a refused write leaves every change and every object but the count of refusals. -/
theorem hardLevelBelowTheTripLevelIsRefused : Obligations.HardLevelBelowTheTripLevelIsRefused := by
  intro s o vpp i r c p sub hs hch hwf hrow hsub hkey d e raw v level hard hc hhome hnz hlt
  have hcross : e.levelsCross p sub raw := ⟨hnz, hlt⟩
  have hres : d.judge c vpp r.key raw ≠ .ok := hkey ▸ Dev.judge_level_ne_ok hsub hcross
  refine ⟨d.judge c vpp r.key raw, hres, fun hhead hmode hlost hlen h8 hA hmap hbusy => ?_, ?_⟩
  · rw [hkey] at hmap ⊢
    exact Dev.judge_level_inconsistent hsub hcross hhead hmode hlost hlen (valueOk_level hsub h8 hA) hmap hbusy
  · obtain ⟨u, hu, ⟨htx, hprocs⟩, hobjs, hchanges⟩ := (answers_write_refused hs hch hwf hc hhome hrow hres).and
      (answers_write_refused_keeps hs hch hwf hc hhome hrow hres)
    exact ⟨u, hu, htx, hobjs, hchanges, hprocs⟩

end Sys2Proof.Machine
end

section
/-! PROOF. The modulation kernels and K_DUTY_OUT: the vector limited and corrected, the duties formed, and the cell written (R18,
R39, R75, R111 to R116, R153). -/

namespace Sys2Proof.Machine

/-! ### Arithmetic -/

theorem q16_pos_iff {v : Int} : 0 < q16 v ↔ 0 < v := by unfold q16; omega

theorem roundHA_of_nonneg {n b : Int} (hn : 0 ≤ n) (hb : 0 < b) : roundHA n b = (2 * n + b) / (2 * b) := by
  unfold roundHA
  dsimp only
  rw [if_neg hb.ne', if_neg hb.not_gt, if_neg hb.not_gt, if_pos hn]

/-- A quotient without remainder is not rounded (R145). -/
theorem roundHA_mul_self {k b : Int} (hk : 0 ≤ k) (hb : 0 < b) : roundHA (k * b) b = k := by
  have hnum : 2 * (k * b) + b = b + 2 * b * k := by ring
  rw [roundHA_of_nonneg (mul_nonneg hk hb.le) hb, hnum, Int.add_mul_ediv_left _ _ (by omega),
    Int.ediv_eq_zero_of_lt hb.le (by omega), zero_add]

/-- The middle of the duty range is rounded away from zero (R111). -/
theorem roundHA_middle {b : Int} (hb : 0 < b) : roundHA (65535 * b) (2 * b) = 32768 := by
  have hnum : 2 * (65535 * b) + 2 * b = 32768 * (2 * (2 * b)) := by ring
  rw [roundHA_of_nonneg (by omega) (by omega), hnum]
  exact Int.mul_ediv_cancel _ (by omega)

@[simp] theorem narrow_zero {n : Int} (hn : n ≠ 0) : narrow 0 n = 0 := by simp [narrow, hn]

/-- The zero vector has zero phase references (R111). -/
theorem phaseRefs_zero : phaseRefs 0 0 = (0, 0, 0) := by simp [phaseRefs, mulSqrt3]

/-! ### The duties -/

theorem svm7Duty_noBus {va vb vbus : Int} {ovm : Bool} (h : vbus ≤ 0) : svm7Duty va vb vbus ovm = zvvDuty :=
  if_pos (not_lt.mp (q16_pos_iff.not.mpr h.not_gt))

theorem svm5Duty_noBus {m va vb vbus : Int} {ovm : Bool} (h : vbus ≤ 0) : svm5Duty m va vb vbus ovm = zvvDuty :=
  if_pos (not_lt.mp (q16_pos_iff.not.mpr h.not_gt))

/-- The middle duty (R111). -/
theorem dutyCode_zero {b : Int} (hb : 0 < b) : dutyCode 0 0 b = 32768 := by
  simp [dutyCode, roundHA_middle hb, clampI]

theorem svm7Duty_zero {vbus : Int} {ovm : Bool} (h : 0 < vbus) :
    svm7Duty 0 0 vbus ovm = ⟨32768, 32768, 32768, patternByte ovm 0 (sectorOf 0 0)⟩ := by
  have hb : 0 < q16 vbus := q16_pos_iff.mpr h
  simp [svm7Duty, hb.not_ge, phaseRefs_zero, max3, min3, dutyCode_zero hb]

/-- The duty code of K_SVM5 for a phase reference and twice the offset (R113). -/
def svm5Code (b off v : Int) : Nat := (clampI 0 65535 (roundHA (65535 * (b + 2 * v + off)) (2 * b))).toNat

/-- The phase that the offset takes to the upper end of the range (R113). -/
theorem svm5Code_upper {b v : Int} (hb : 0 < b) : svm5Code b (b - 2 * v) v = 65535 := by
  have hnum : 65535 * (b + 2 * v + (b - 2 * v)) = 65535 * (2 * b) := by ring
  rw [svm5Code, hnum, roundHA_mul_self (by decide) (by omega)]
  rfl

/-- The phase that the offset takes to the lower end (R113). -/
theorem svm5Code_lower {b v : Int} (hb : 0 < b) : svm5Code b (-b - 2 * v) v = 0 := by
  have hnum : 65535 * (b + 2 * v + (-b - 2 * v)) = 0 * (2 * b) := by ring
  rw [svm5Code, hnum, roundHA_mul_self (by decide) (by omega)]
  rfl

/-- The duties of K_SVM5 on a bus (R113). -/
theorem svm5Duty_bus {m va vb vbus : Int} {ovm : Bool} (h : 0 < vbus) : svm5Duty m va vb vbus ovm =
    let r := phaseRefs va vb
    let code := svm5Code (q16 vbus)
      (if m = 0 ∧ absI (min3 r) ≤ absI (max3 r) then q16 vbus - 2 * max3 r else -q16 vbus - 2 * min3 r)
    ⟨code r.1, code r.2.1, code r.2.2, patternByte ovm 1 (sectorOf va vb)⟩ :=
  if_neg (q16_pos_iff.mpr h).not_ge

/-- K_SVM5 clamps one phase: the largest to the upper end of the range or the smallest to the lower (R113). -/
theorem svm5Duty_clamps {m va vb vbus : Int} {ovm : Bool} (h : 0 < vbus) :
    let r := phaseRefs va vb
    let v := svm5Duty m va vb vbus ovm
    if m = 0 ∧ absI (min3 r) ≤ absI (max3 r) then
      (r.1 = max3 r → v.du = 65535) ∧ (r.2.1 = max3 r → v.dv = 65535) ∧ (r.2.2 = max3 r → v.dw = 65535)
    else (r.1 = min3 r → v.du = 0) ∧ (r.2.1 = min3 r → v.dv = 0) ∧ (r.2.2 = min3 r → v.dw = 0) := by
  have hb : 0 < q16 vbus := q16_pos_iff.mpr h
  have hupper : ∀ {v mx : Int}, v = mx → svm5Code (q16 vbus) (q16 vbus - 2 * mx) v = 65535 := fun he =>
    he ▸ svm5Code_upper hb
  have hlower : ∀ {v mn : Int}, v = mn → svm5Code (q16 vbus) (-q16 vbus - 2 * mn) v = 0 := fun he => he ▸ svm5Code_lower hb
  intro r v
  simp only [v, svm5Duty_bus h]
  split_ifs
  · exact ⟨hupper, hupper, hupper⟩
  · exact ⟨hlower, hlower, hlower⟩

/-! ### The bodies of the kernels -/

section
variable {d : Dev} {p : PortId}

/-- K_OVM where the vector lies beyond the hexagon (R115). -/
theorem kOvmBody_beyond (hbus : 0 < (d.port p).e0.fr.vbus)
    (h : let r := phaseRefs (d.port p).e0.fr.valpha (d.port p).e0.fr.vbeta
      q16 (d.port p).e0.fr.vbus < max3 r - min3 r) :
    let f := (d.port p).e0.fr
    let r := phaseRefs f.valpha f.vbeta
    kOvmBody p d = (d.onE0 p fun e => { e with
      fr := { e.fr with
        valpha := narrow (f.valpha * q16 f.vbus) (max3 r - min3 r), vbeta := narrow (f.vbeta * q16 f.vbus) (max3 r - min3 r) }
      fl := { e.fl with ovm := true } }).pinc p 0x40 0x14 :=
  if_pos ⟨q16_pos_iff.mpr hbus, h⟩

/-- K_OVM where the vector lies within the hexagon, or there is no bus voltage (R115). -/
theorem kOvmBody_within (h : let r := phaseRefs (d.port p).e0.fr.valpha (d.port p).e0.fr.vbeta
      (d.port p).e0.fr.vbus ≤ 0 ∨ max3 r - min3 r ≤ q16 (d.port p).e0.fr.vbus) : kOvmBody p d = d := by
  refine if_neg fun hlimit => ?_
  obtain ⟨hbus, hspan⟩ := hlimit
  rcases h with h | h
  · exact absurd (q16_pos_iff.mp hbus) h.not_gt
  · exact absurd hspan h.not_gt

theorem kDtcompBody_off (h : d.pnum p 0x40 3 = 0) : kDtcompBody p d = d := if_neg (by omega)

/-- K_DTCOMP turned on adds its term (R116). -/
theorem kDtcompBody_on (h : d.pnum p 0x40 3 = 1) :
    let f := (d.port p).e0.fr
    let i := ipark f.id f.iq f.thetaApply
    ((kDtcompBody p d).port p).e0.fr.valpha = satV (f.valpha + (d.deadTerm p i.1 i.2 f.vbus).1) := by
  dsimp only
  rw [kDtcompBody, if_pos h, Dev.port_onE0]
  rfl

@[simp] theorem Dev.duty_setDuty (d : Dev) (p : PortId) (v : DutyVal) : ((d.setDuty p v).port p).e0.fr.duty = v := by
  rw [setDuty, port_onE0]
  rfl

/-- The value of the duty cell (R112, R153). -/
theorem E0.dutyOut_eq (e : E0) : e.dutyOut =
    let v : DutyVal := if e.fl.coast then ⟨0, 0, 0, 24⟩ else if e.fl.zvv then ⟨32768, 32768, 32768, 16⟩ else e.fr.duty
    { v with pattern := v.pattern % 32 + (if e.fl.ovm then 32 else 0) } := by
  have hpattern : ∀ (b : Bool) (n : Nat), patternByte b 0 n = n + if b then 32 else 0 := fun b n => by
    cases b <;> simp [patternByte, b2n, Nat.add_comm]
  unfold dutyOut
  simp only [hpattern]
  rfl

/-- K_DUTY_OUT writes the cell at offset 30 (R39, R75). -/
theorem kDutyOutBody_eq (p : PortId) (t : Nat) (d : Dev) : kDutyOutBody p t d = d.onPort p fun x => { x with
    cells := { x.cells with
      duty := x.cells.duty.write (d.slotOf p + writeSlots t 30 + 1) (d.slotOf p + writeSlots t 30)
        (d.port p).e0.fl.fallback (d.port p).e0.dutyOut } } := rfl

end

/-! ### The commands -/

/-- A kernel of engine 0 that the image places acts on the block as earlier kernels have left it. -/
theorem exec_kernel0 {c : Instr} {s : State} {p : PortId} {id t : Nat} {f : Dev → Dev}
    (hr : s.dev.runs p .e0 id t = true) (hc : exec c s = .next (s.awake (kernel0 p id t f))) :
    exec c s = .next (s.upd fun d => f (d.begin0 p)) := by
  have hdev : s.awake (kernel0 p id t f) = s.upd fun d => f (d.begin0 p) := by
    rw [State.awake, State.upd, State.upd, if_neg (by simp [Dev.runs_awake hr]), kernel0, kernel, if_pos hr]
  rw [hc, hdev]

/-- A kernel that leaves the block as earlier kernels have left it. -/
theorem exec_kernel0_of_fixed {c : Instr} {s : State} {p : PortId} {id t : Nat} {f : Dev → Dev}
    (hr : s.dev.runs p .e0 id t = true) (hc : exec c s = .next (s.awake (kernel0 p id t f)))
    (hf : f (s.dev.begin0 p) = s.dev.begin0 p) : exec c s = .next (s.upd fun d => d.begin0 p) := by
  rw [exec_kernel0 hr hc, State.upd, State.upd, hf]

/-- A kernel that forms duties answers with what holds of the duties formed. -/
theorem answers_setDuty {c : Instr} {s : State} {p : PortId} {id t : Nat} {f : Dev → Dev} {v : DutyVal} {P : State → Prop}
    (hr : s.dev.runs p .e0 id t = true) (hc : exec c s = .next (s.awake (kernel0 p id t f)))
    (hf : f (s.dev.begin0 p) = (s.dev.begin0 p).setDuty p v)
    (h : ∀ u : State, (u.dev.port p).e0.fr.duty = v → P u) : Answers c s P :=
  answers_kernel0 hr hc fun u hu => h u (by rw [hu, hf, Dev.duty_setDuty])

theorem modulationKernelsFormDuties : Says.ModulationKernelsFormDuties := by
  intro s p t
  refine ⟨fun hr hbus hspan => answers_kernel0 hr rfl fun u hu => ?_, fun hr h => exec_kernel0_of_fixed hr rfl (kOvmBody_within h),
    fun hr h => exec_kernel0_of_fixed hr rfl (kDtcompBody_off h), fun hr h => answers_kernel0 hr rfl fun u hu => ?_,
    fun hr hbus => answers_setDuty hr rfl rfl fun u hv => hv.trans (svm7Duty_noBus hbus),
    fun hr hbus ha hb => answers_setDuty hr rfl rfl fun u hv => ?_,
    fun hr hbus => answers_setDuty hr rfl rfl fun u hv => hv.trans (svm5Duty_noBus hbus),
    fun hr hbus => answers_setDuty hr rfl rfl fun u hv => ?_,
    fun hr => answers_setDuty hr rfl rfl fun u hv => hv⟩
  · rw [hu, kOvmBody_beyond hbus hspan, Dev.pinc_port, Dev.port_onE0, Dev.pnum_pinc]
    exact ⟨rfl, rfl, rfl, rfl⟩
  · rw [hu]
    exact kDtcompBody_on h
  · rw [hv, ha, hb, svm7Duty_zero hbus]
    exact ⟨rfl, rfl, rfl⟩
  · rw [hv]
    exact ⟨congrArg DutyVal.pattern (svm5Duty_bus hbus), svm5Duty_clamps hbus⟩

theorem dutyOutWritesTheDutyCell : Says.DutyOutWritesTheDutyCell := by
  intro s p t hr
  rw [exec_kernel0 hr rfl]
  refine congrArg Host.Outcome.next (congrArg (State.mk · s.pending) (?_ : kDutyOutBody p t (s.dev.begin0 p) = _))
  rw [kDutyOutBody_eq, Dev.slotOf_begin0, E0.dutyOut_eq]

/-- Settles O7: each kernel acts on engine 0's frame alone, K_OVM and K_DTCOMP on the vector and the others on the duties, whose
code at the clamped end and at the middle is an exact quotient; K_DUTY_OUT then writes the frame's duties or their replacement. -/
theorem dutiesAreFormedAndWritten : Obligations.DutiesAreFormedAndWritten :=
  ⟨modulationKernelsFormDuties, dutyOutWritesTheDutyCell⟩

end Sys2Proof.Machine
end

section
/-! PROOF. The carrier grid's measurement: what it shows of phase error and trim, and the lock states that it leaves (R117, R118). -/

namespace Sys2Proof.Machine

theorem pidx_ne_grid (p : PortId) (blk : Nat) : pidx p blk ≠ 0x2150 := by unfold pidx; omega

namespace Dev

/-! ### The grid's objects -/

theorem num_grid_put (d : Dev) (v : Int) {j k : Nat} (hj : j < 256) (hk : k < 256) :
    (d.put 0x2150 j v).num 0x2150 k = if k = j then v else d.num 0x2150 k := by
  split_ifs with h
  · rw [h, num_put]
  · exact num_put_ne _ _ _ _ _ _ fun he => h ((objKey_inj _ _ _ _ hk hj).mp he).2

theorem num_grid_inc (d : Dev) {j k : Nat} (hj : j < 256) (hk : k < 256) : (d.inc 0x2150 j).num 0x2150 k =
    if k = j then min (d.num 0x2150 j + 1) 4294967295 else d.num 0x2150 k := num_grid_put d _ hj hk

/-- CARRIER_UNLOCKED changes nothing that its bits do not touch. -/
theorem carrierUnlocked_keeps {β : Type} {g : Dev → β} {b : Bool}
    (h : ∀ (d : Dev) p, g (d.putBit (pidx p 0x40) 0x16 0 b) = g d) (d : Dev) : g (d.carrierUnlocked b) = g d :=
  foldl_keeps g (fun p _ d => h d p) d

@[simp] theorem ports_carrierUnlocked (d : Dev) (b : Bool) : (d.carrierUnlocked b).ports = d.ports :=
  carrierUnlocked_keeps (g := Dev.ports) (fun _ _ => rfl) d

@[simp] theorem grid_carrierUnlocked (d : Dev) (b : Bool) : (d.carrierUnlocked b).grid = d.grid :=
  carrierUnlocked_keeps (g := Dev.grid) (fun _ _ => rfl) d

theorem num_grid_carrierUnlocked (d : Dev) (b : Bool) {k : Nat} (hk : k < 256) :
    (d.carrierUnlocked b).num 0x2150 k = d.num 0x2150 k :=
  carrierUnlocked_keeps (g := fun d => d.num 0x2150 k)
    (fun d p => num_putVal_of_idx_ne d _ (pidx_ne_grid p 0x40) (by decide) hk) d

@[simp] theorem ports_putPhase (d : Dev) (e : Option Int) : (d.putPhase e).ports = d.ports :=
  foldl_keeps Dev.ports (fun p _ d => pput_ports d p 0x40 0x15 _) d

@[simp] theorem grid_putPhase (d : Dev) (e : Option Int) : (d.putPhase e).grid = d.grid :=
  foldl_keeps Dev.grid (fun p _ d => pput_grid d p 0x40 0x15 _) d

theorem num_grid_putPhase (d : Dev) (e : Option Int) {k : Nat} (hk : k < 256) :
    (d.putPhase e).num 0x2150 k = d.num 0x2150 k :=
  foldl_keeps (fun d => d.num 0x2150 k)
    (fun p _ d => num_pput_of_idx_ne d _ (pidx_ne_grid p 0x40).symm (by decide) hk) d

/-! ### The changes of state that need no measurement -/

variable {d : Dev}

/-- The block with its grid FREE, before the runs of measurements end. -/
def gridFreed (d : Dev) : Dev := (((d.put 0x2150 0x10 0).put 0x2150 0x12 0).carrierUnlocked true).putPhase none

theorem num_state_gridFreed (d : Dev) : d.gridFreed.num 0x2150 0x10 = 0 := by
  rw [gridFreed, num_grid_putPhase _ _ (by decide), num_grid_carrierUnlocked _ _ (by decide),
    num_grid_put _ _ (by decide) (by decide), if_neg (by decide), num_put]

theorem slot_gridFreed (d : Dev) : d.gridFreed.grid.slot = d.grid.slot := by
  rw [gridFreed, grid_putPhase, grid_carrierUnlocked, put_grid, put_grid]

/-- A grid that is no longer disciplined is FREE (R117). -/
theorem gridCheck_free (h : d.disciplined = false) :
    d.gridCheck.nat 0x2150 0x10 = 0 ∧ d.gridCheck.grid.slot = d.grid.slot := by
  unfold gridCheck
  dsimp only
  rw [if_pos (by simp [h])]
  split_ifs with hst
  · exact ⟨hst, rfl⟩
  · exact ⟨congrArg Int.toNat d.num_state_gridFreed, d.slot_gridFreed⟩

section
variable (h : d.disciplined = true) (hst : d.nat 0x2150 0x10 = 1 ∨ d.nat 0x2150 0x10 = 2)
include h hst

/-- An invalid source leaves a grid that acquires or holds its lock in HOLDOVER, with the mean of its trims (R118). -/
theorem gridCheck_holdover (hv : d.lockValid = false) :
    d.gridCheck.num 0x2150 0x10 = 3 ∧ d.gridCheck.num 0x2150 0x12 = d.holdTrim := by
  have hcheck : d.gridCheck = ((d.put 0x2150 0x10 3).put 0x2150 0x12 d.holdTrim).carrierUnlocked true := by
    unfold gridCheck
    dsimp only
    rw [if_neg (by simp [h]), if_neg (by omega), if_neg (by simp [hv])]
  rw [hcheck, num_grid_carrierUnlocked _ _ (by decide), num_grid_carrierUnlocked _ _ (by decide)]
  exact ⟨(num_grid_put _ _ (by decide) (by decide)).trans (num_put ..), num_put ..⟩

/-- A valid source leaves it as it is. -/
theorem gridCheck_valid (hv : d.lockValid = true) : d.gridCheck = d := by
  unfold gridCheck
  dsimp only
  rw [if_neg (by simp [h]), if_neg (by omega), if_pos hv]

end

/-! ### The lock state after a measurement -/

/-- The block with the runs of near and of far measurements, and the grid's instants as they stood at the last one. -/
def withRuns (d : Dev) (good bad : Nat) : Dev :=
  { d with grid := { d.grid with goodRun := good, badRun := bad, moved := false } }

@[simp] theorem ports_withRuns (d : Dev) (good bad : Nat) : (d.withRuns good bad).ports = d.ports := rfl

@[simp] theorem num_withRuns (d : Dev) (good bad i s : Nat) : (d.withRuns good bad).num i s = d.num i s := rfl

/-- The measurements within 20 ns in a row, with one more. -/
def goodAfter (d : Dev) (e : Int) : Nat := if absI e ≤ 20 * nsUnit then d.grid.goodRun + 1 else 0

/-- The measurements beyond 40 ns in a row, with one more. -/
def badAfter (d : Dev) (e : Int) : Nat := if 40 * nsUnit < absI e then d.grid.badRun + 1 else 0

variable {e : Int}

/-- In ACQUIRING 100 measurements within 20 ns lock the grid (R118). -/
theorem gridLock_acquiring (hst : d.nat 0x2150 0x10 ≠ 2) : d.gridLock e =
    if 100 ≤ d.goodAfter e then ((d.withRuns (d.goodAfter e) 0).put 0x2150 0x10 2).carrierUnlocked false
    else d.withRuns (d.goodAfter e) (d.badAfter e) := by
  simp only [gridLock, decide_eq_true_eq]
  exact if_neg hst

/-- In LOCKED a measurement beyond 40 ns unlocks the grid where its instants moved, and 10 unlock it otherwise (R118). -/
theorem gridLock_locked (hst : d.nat 0x2150 0x10 = 2) : d.gridLock e =
    if d.grid.moved && decide (40 * nsUnit < absI e) then (d.withRuns 0 0).put 0x2150 0x10 1
    else if 10 ≤ d.badAfter e then (((d.withRuns 0 0).put 0x2150 0x10 1).inc 0x2150 0x13).carrierUnlocked true
    else d.withRuns (d.goodAfter e) (d.badAfter e) := by
  simp only [gridLock, decide_eq_true_eq]
  exact if_pos hst

/-- The lock state's change leaves every port. -/
@[simp] theorem ports_gridLock (d : Dev) (e : Int) : (d.gridLock e).ports = d.ports := by
  by_cases hst : d.nat 0x2150 0x10 = 2
  · rw [gridLock_locked hst]
    split_ifs <;> simp
  · rw [gridLock_acquiring hst]
    split_ifs <;> simp

/-- Of the grid's objects, the lock state's change writes the state and the count of losses. -/
theorem num_gridLock_ne (d : Dev) (e : Int) {k : Nat} (hk : k < 256) (hstate : k ≠ 0x10) (hcount : k ≠ 0x13) :
    (d.gridLock e).num 0x2150 k = d.num 0x2150 k := by
  by_cases hst : d.nat 0x2150 0x10 = 2
  · rw [gridLock_locked hst]
    split_ifs <;> simp [num_grid_carrierUnlocked, num_grid_put, num_grid_inc, hk, hstate, hcount]
  · rw [gridLock_acquiring hst]
    split_ifs <;> simp [num_grid_carrierUnlocked, num_grid_put, hk, hstate]

theorem gridLock_locks (hst : d.nat 0x2150 0x10 = 1) (hnear : absI e ≤ 20 * nsUnit) (hrun : 99 ≤ d.grid.goodRun) :
    (d.gridLock e).num 0x2150 0x10 = 2 := by
  have hgood : 100 ≤ d.goodAfter e := by rw [goodAfter, if_pos hnear]; omega
  rw [gridLock_acquiring (by omega), if_pos hgood, num_grid_carrierUnlocked _ _ (by decide), num_put]

theorem gridLock_acquires (hst : d.nat 0x2150 0x10 = 1) (h : 20 * nsUnit < absI e ∨ d.grid.goodRun < 99) :
    (d.gridLock e).nat 0x2150 0x10 = 1 := by
  have hgood : ¬ 100 ≤ d.goodAfter e := by unfold goodAfter; split_ifs <;> omega
  rw [gridLock_acquiring (by omega), if_neg hgood]
  exact hst

theorem gridLock_unlocks (hst : d.nat 0x2150 0x10 = 2) (hmoved : d.grid.moved = false) (hfar : 40 * nsUnit < absI e)
    (hrun : 9 ≤ d.grid.badRun) : (d.gridLock e).num 0x2150 0x10 = 1 ∧
      (d.gridLock e).num 0x2150 0x13 = min (d.num 0x2150 0x13 + 1) 4294967295 := by
  have hbad : 10 ≤ d.badAfter e := by rw [badAfter, if_pos hfar]; omega
  rw [gridLock_locked hst, if_neg (by simp [hmoved]), if_pos hbad]
  simp [num_grid_carrierUnlocked, num_grid_put, num_grid_inc]

/-! ### The measurement -/

/-- The block with a measurement of the present slot. -/
def gridDue (d : Dev) : Dev := { d with grid := { d.grid with slot := d.slotNow } }

/-- The phase error of the present slot (R118). -/
def gridError (d : Dev) (im : Image) : Int := phaseError d.lockBase.val (d.num 0x2150 2) im.h (d.gridIndex im.h)

/-- Phase error and trim in the objects that show them (R117, R118). -/
def gridShown (d : Dev) (im : Image) : Dev :=
  let ns := satS 32 (roundHA (d.gridError im) nsUnit)
  ((d.put 0x2150 0x11 ns).put 0x2150 0x12 (gridTrim d.lockBase.incr (d.gridError im) (d.num 0x2150 3))).putPhase (some ns)

/-- A measurement in ACQUIRING and LOCKED; in FREE and HOLDOVER nothing is measured (R118). -/
def gridMeasured (d : Dev) : Dev :=
  if d.nat 0x2150 0x10 = 1 ∨ d.nat 0x2150 0x10 = 2 then
    match d.image with
    | none => d
    | some im => (d.gridShown im).gridLock (d.gridError im)
  else d

theorem gridMeasured_idle (h : d.nat 0x2150 0x10 = 0 ∨ d.nat 0x2150 0x10 = 3) : d.gridMeasured = d := if_neg (by omega)

theorem gridMeasured_image {im : Image} (h : d.nat 0x2150 0x10 = 1 ∨ d.nat 0x2150 0x10 = 2) (him : d.image = some im) :
    d.gridMeasured = (d.gridShown im).gridLock (d.gridError im) := by
  rw [gridMeasured, if_pos h, him]

/-- Of the grid's objects, a measurement shows phase error and trim. -/
theorem num_grid_gridShown (d : Dev) (im : Image) {k : Nat} (hk : k < 256) : (d.gridShown im).num 0x2150 k =
    if k = 0x12 then gridTrim d.lockBase.incr (d.gridError im) (d.num 0x2150 3)
    else if k = 0x11 then satS 32 (roundHA (d.gridError im) nsUnit) else d.num 0x2150 k := by
  rw [gridShown, num_grid_putPhase _ _ hk, num_grid_put _ _ (by decide) hk, num_grid_put _ _ (by decide) hk]

@[simp] theorem nat_state_gridShown (d : Dev) (im : Image) : (d.gridShown im).nat 0x2150 0x10 = d.nat 0x2150 0x10 := by
  rw [nat, num_grid_gridShown d im (by decide), if_neg (by decide), if_neg (by decide), nat]

@[simp] theorem grid_gridShown (d : Dev) (im : Image) : (d.gridShown im).grid = d.grid := by
  rw [gridShown, grid_putPhase, put_grid, put_grid]

@[simp] theorem ports_gridShown (d : Dev) (im : Image) : (d.gridShown im).ports = d.ports := by
  rw [gridShown, ports_putPhase, put_ports, put_ports]

section
variable {im : Image} (hst : d.nat 0x2150 0x10 = 1 ∨ d.nat 0x2150 0x10 = 2) (him : d.image = some im)
include hst him

theorem num_phase_gridMeasured : d.gridMeasured.num 0x2150 0x11 = satS 32 (roundHA (d.gridError im) nsUnit) := by
  rw [gridMeasured_image hst him, num_gridLock_ne _ _ (by decide) (by decide) (by decide), num_grid_gridShown _ _ (by decide),
    if_neg (by decide), if_pos rfl]

theorem num_trim_gridMeasured :
    d.gridMeasured.num 0x2150 0x12 = gridTrim d.lockBase.incr (d.gridError im) (d.num 0x2150 3) := by
  rw [gridMeasured_image hst him, num_gridLock_ne _ _ (by decide) (by decide) (by decide), num_grid_gridShown _ _ (by decide),
    if_pos rfl]

theorem ports_gridMeasured : d.gridMeasured.ports = d.ports := by
  rw [gridMeasured_image hst him, ports_gridLock, ports_gridShown]

theorem gridMeasured_locks (h : d.nat 0x2150 0x10 = 1) (hnear : absI (d.gridError im) ≤ 20 * nsUnit)
    (hrun : 99 ≤ d.grid.goodRun) : d.gridMeasured.num 0x2150 0x10 = 2 := by
  rw [gridMeasured_image hst him]
  exact gridLock_locks (by simpa using h) hnear (by simpa using hrun)

theorem gridMeasured_acquires (h : d.nat 0x2150 0x10 = 1)
    (hwait : 20 * nsUnit < absI (d.gridError im) ∨ d.grid.goodRun < 99) : d.gridMeasured.nat 0x2150 0x10 = 1 := by
  rw [gridMeasured_image hst him]
  exact gridLock_acquires (by simpa using h) (by simpa using hwait)

theorem gridMeasured_unlocks (h : d.nat 0x2150 0x10 = 2) (hmoved : d.grid.moved = false)
    (hfar : 40 * nsUnit < absI (d.gridError im)) (hrun : 9 ≤ d.grid.badRun) : d.gridMeasured.num 0x2150 0x10 = 1 ∧
      d.gridMeasured.num 0x2150 0x13 = min (d.num 0x2150 0x13 + 1) 4294967295 := by
  rw [gridMeasured_image hst him]
  obtain ⟨hlost, hcount⟩ := gridLock_unlocks (d := d.gridShown im) (by simpa using h) (by simpa using hmoved) hfar
    (by simpa using hrun)
  rw [num_grid_gridShown _ _ (by decide), if_neg (by decide), if_neg (by decide)] at hcount
  exact ⟨hlost, hcount⟩

end

/-! ### What the measurement leaves to read -/

@[simp] theorem num_keepTrim_show (d : Dev) (i s : Nat) : d.keepTrim.show.num i s = d.num i s := rfl

@[simp] theorem nat_keepTrim_show (d : Dev) (i s : Nat) : d.keepTrim.show.nat i s = d.nat i s := rfl

@[simp] theorem ports_keepTrim_show (d : Dev) : d.keepTrim.show.ports = d.ports := rfl

@[simp] theorem slot_keepTrim_show (d : Dev) : d.keepTrim.show.grid.slot = d.grid.slot := rfl

/-- When a measurement took place plays no part in the phase error. -/
theorem gridError_gridDue (d : Dev) (im : Image) :
    d.gridDue.gridError im = phaseError d.lockBase.val (d.num 0x2150 2) im.h (d.gridIndex im.h) := rfl

end Dev

/-- Every 200 slots the grid's state is brought up to date, the phase is measured, and the trim in force is kept. -/
theorem gridPhaseMeasurementStep_due {d : Dev} (hc : d.clocked d.clkLane = true) (hn : d.grid.slot + 200 ≤ d.slotNow) :
    gridPhaseMeasurementStep d = d.gridDue.gridCheck.gridMeasured.keepTrim.show :=
  if_pos (by simp [hc, hn])

/-- A measurement that is due answers with what holds of the block measured, whatever it keeps and shows then. -/
theorem answers_gridPhaseMeasurement {s : State} {P : State → Prop} (hs : s.dev.frozen = false)
    (hc : s.dev.clocked s.dev.clkLane = true) (hn : s.dev.grid.slot + 200 ≤ s.dev.slotNow)
    (h : ∀ u : State, u.dev = s.dev.gridDue.gridCheck.gridMeasured.keepTrim.show → P u) :
    Answers .gridPhaseMeasurement s P :=
  answers_of_awake hs rfl fun u hu => h u (hu.trans (gridPhaseMeasurementStep_due hc hn))

/-- Settles O32: the grid's state is judged before the measurement, so a grid that is free or held over is not measured, and one
whose source is valid shows its phase error and trim and then counts the measurement for its lock. -/
theorem gridMeasurementSteersTheCarriers : Obligations.GridMeasurementSteersTheCarriers := by
  intro s hs hc hn
  refine ⟨fun hfree => answers_gridPhaseMeasurement hs hc hn fun u hu => ?_,
    fun hdis hst hv => answers_gridPhaseMeasurement hs hc hn fun u hu => ?_,
    fun im hdis hst hv him => answers_gridPhaseMeasurement hs hc hn fun u hu => ?_⟩
  · obtain ⟨hstate, hslot⟩ := Dev.gridCheck_free (d := s.dev.gridDue) hfree
    rw [hu, Dev.gridMeasured_idle (.inl hstate), Dev.nat_keepTrim_show, Dev.slot_keepTrim_show]
    exact ⟨hstate, hslot⟩
  · obtain ⟨hstate, htrim⟩ := Dev.gridCheck_holdover (d := s.dev.gridDue) hdis hst hv
    rw [hu, Dev.gridMeasured_idle (.inr (congrArg Int.toNat hstate)), Dev.num_keepTrim_show, Dev.num_keepTrim_show]
    exact ⟨hstate, htrim⟩
  · rw [hu, Dev.gridCheck_valid (d := s.dev.gridDue) hdis hst hv, ← Dev.gridError_gridDue]
    simp only [Dev.num_keepTrim_show, Dev.nat_keepTrim_show, Dev.ports_keepTrim_show]
    have hstate : s.dev.gridDue.nat 0x2150 0x10 = 1 ∨ s.dev.gridDue.nat 0x2150 0x10 = 2 := hst
    have himage : s.dev.gridDue.image = some im := him
    exact ⟨Dev.num_phase_gridMeasured hstate himage, Dev.num_trim_gridMeasured hstate himage,
      Dev.gridMeasured_locks hstate himage, Dev.gridMeasured_acquires hstate himage, Dev.gridMeasured_unlocks hstate himage,
      Dev.ports_gridMeasured hstate himage⟩

end Sys2Proof.Machine
end

section
/-! SUPPORT. The safe-state units: commands that act in a freeze too, a unit's output, and how order 1 ends ASC (R131, R133). -/

namespace Sys2Proof.Machine

/-- A command that acts in a freeze too answers with what holds of the changed block. -/
theorem answers_of_upd {c : Instr} {s : State} {f : Dev → Dev} {P : State → Prop} (hc : exec c s = .next (s.upd f))
    (h : ∀ u : State, u.dev = f s.dev → P u) : Answers c s P :=
  ⟨_, hc, h _ (State.upd_dev s f)⟩

theorem State.upd_of_fixed {s : State} {f : Dev → Dev} (h : f s.dev = s.dev) : s.upd f = s := by
  rw [State.upd, h]

theorem pidx_inj {p q : PortId} {blk : Nat} : pidx p blk = pidx q blk ↔ p = q := by
  cases p <;> cases q <;> simp [pidx, PortId.num]

theorem portSibling_ne (p : PortId) : p.sibling ≠ p := by cases p <;> decide

/-- A lane has a port and its sibling. -/
theorem lanePorts_eq (p : PortId) : p.lane.ports = [p, p.sibling] ∨ p.lane.ports = [p.sibling, p] := by
  cases p <;> decide

theorem mem_lanePorts (p : PortId) : p ∈ p.lane.ports := by cases p <;> decide

theorem sibling_mem_lanePorts (p : PortId) : p.sibling ∈ p.lane.ports := by cases p <;> decide

namespace Dev

variable (d : Dev) (p q : PortId)

/-! ### The output -/

theorem safeOut_congr {d e : Dev} {p : PortId} (h : e.pnum p 0x22 1 = d.pnum p 0x22 1) : e.safeOut p = d.safeOut p :=
  congrArg Int.toNat h

@[simp] theorem safeOut_onPort (f : Port → Port) : (d.onPort q f).safeOut p = d.safeOut p := rfl

theorem safeOut_pput (n : Nat) : (d.pput p 0x22 1 n).safeOut p = n := congrArg Int.toNat (num_pput d p 0x22 1 n)

/-- The output is the port's object 0x3x22.01; the others of the block are not the output. -/
theorem safeOut_pput_of_sub_ne {k : Nat} (v : Int) (hk : k < 256) (h : k ≠ 1) : (d.pput p 0x22 k v).safeOut p = d.safeOut p :=
  safeOut_congr (pnum_pput_ne d p v hk (by decide) h.symm)

theorem safeOut_pinc_of_sub_ne {k : Nat} (hk : k < 256) (h : k ≠ 1) : (d.pinc p 0x22 k).safeOut p = d.safeOut p :=
  safeOut_pput_of_sub_ne d p _ hk h

theorem safeOut_pput_of_port_ne (v : Int) {k : Nat} (hk : k < 256) (h : q ≠ p) :
    (d.pput p 0x22 k v).safeOut q = d.safeOut q :=
  congrArg Int.toNat (num_pput_of_idx_ne d v (mt pidx_inj.mp h) hk (by decide))

theorem safeOut_trip (f : FaultId) (n : Nat) : (d.trip p f n).safeOut p = d.safeOut p :=
  safeOut_congr (pnum_trip_ne d p f n (by decide) (by decide))

/-! ### Order 1 -/

/-- ASC ended by order 1, with the modulator seeing its gates off. -/
def coasted (d : Dev) (p : PortId) : Dev :=
  (d.onPort p fun x => { x with mod := { x.mod with offSeen := true } }).pput p 0x22 1 1

theorem order1Arises_asc {d : Dev} {p : PortId} (hout : d.safeOut p = 2) (h1 : d.order1 p = true) :
    d.order1Arises p = d.coasted p :=
  if_pos (by simp [hout, h1])

theorem order1Arises_other {d : Dev} {p : PortId} (hout : d.safeOut p ≠ 2) : d.order1Arises p = d :=
  if_neg (by simp [hout])

/-- Whatever order 1 does, it keeps what the coast keeps. -/
theorem order1Arises_keeps {β : Type} {g : Dev → β} {d : Dev} {p : PortId} (h : g (d.coasted p) = g d) :
    g (d.order1Arises p) = g d := by
  unfold order1Arises
  split_ifs
  · exact h
  · rfl

@[simp] theorem lanes_order1Arises : (d.order1Arises p).lanes = d.lanes := order1Arises_keeps rfl

@[simp] theorem unit_order1Arises : ((d.order1Arises p).port p).unit = (d.port p).unit :=
  order1Arises_keeps (g := fun e => (e.port p).unit) (by rw [coasted, pput_port, port_onPort])

@[simp] theorem faulted_order1Arises (f : FaultId) : (d.order1Arises p).faulted p f = d.faulted p f :=
  order1Arises_keeps (g := fun e => e.faulted p f) (by rw [faulted, coasted, pput_port, port_onPort, faulted])

/-- Order 1 writes the output alone. -/
theorem pnum_order1Arises {k : Nat} (hk : k < 256) (h : k ≠ 1) : (d.order1Arises p).pnum p 0x22 k = d.pnum p 0x22 k :=
  order1Arises_keeps (g := fun e => e.pnum p 0x22 k) (pnum_pput_ne _ p 1 (by decide) hk h)

theorem safeOut_order1Arises {d : Dev} {p : PortId} (hout : d.safeOut p = 2) (h1 : d.order1 p = true) :
    (d.order1Arises p).safeOut p = 1 := by
  rw [order1Arises_asc hout h1]
  exact safeOut_pput _ p 1

/-- Order 1 takes no unit into ASC. -/
theorem safeOut_order1Arises_ne_two (h : d.safeOut q ≠ 2) : (d.order1Arises p).safeOut q ≠ 2 := by
  by_cases hq : q = p
  · rw [← hq, order1Arises_other h]
    exact h
  · rwa [order1Arises_keeps (g := fun e => e.safeOut q) (safeOut_pput_of_port_ne _ p q 1 (by decide) hq)]

/-! ### ASC_INHIBIT -/

/-- ASC_INHIBIT set, which is an order 1 (R128, R130, R133). -/
def inhibited (d : Dev) (p : PortId) : Dev := (d.pput p 0x22 3 1).order1Arises p

@[simp] theorem unit_inhibited : ((d.inhibited p).port p).unit = (d.port p).unit := by
  rw [inhibited, unit_order1Arises, pput_port]

@[simp] theorem faulted_inhibited (f : FaultId) : (d.inhibited p).faulted p f = d.faulted p f := by
  rw [inhibited, faulted_order1Arises, faulted, pput_port, faulted]

theorem pnum_inhibit_inhibited : (d.inhibited p).pnum p 0x22 3 = 1 := by
  rw [inhibited, pnum_order1Arises _ _ (by decide) (by decide), num_pput]

theorem pnum_inhibited_ne {k : Nat} (hk : k < 256) (hout : k ≠ 1) (hinh : k ≠ 3) :
    (d.inhibited p).pnum p 0x22 k = d.pnum p 0x22 k := by
  rw [inhibited, pnum_order1Arises _ _ hk hout, pnum_pput_ne _ _ _ (by decide) hk hinh]

/-- Inhibited ASC is coast. -/
theorem safeOut_inhibited {d : Dev} {p : PortId} (h : d.safeOut p = 2) : (d.inhibited p).safeOut p = 1 :=
  safeOut_order1Arises (by rwa [safeOut_pput_of_sub_ne _ _ _ (by decide) (by decide)]) (by simp [order1])

end Dev
end Sys2Proof.Machine
end

section
/-! SUPPORT. A lane's fault and the command to its ports: what they set on both ports and what they leave (R127, R131, R252). -/

namespace Sys2Proof.Machine

/-- A port with a command of a source, where it is not OFF. -/
def Port.commanded (x : Port) (n : Nat) : Port :=
  if x.reg.state == .off then x
  else { x with unit := { x.unit with arriving := x.unit.arriving ++ [⟨n, none, false, false⟩] } }

theorem Port.commanded_on {x : Port} (n : Nat) (h : x.reg.state ≠ .off) :
    (x.commanded n).unit.arriving = x.unit.arriving ++ [⟨n, none, false, false⟩] := by
  rw [commanded, if_neg (by simpa using h)]

theorem Port.commanded_off {x : Port} (n : Nat) (h : x.reg.state = .off) : x.commanded n = x := if_pos (by simpa using h)

namespace Dev

variable (d : Dev) (p q : PortId) (l : LaneId) (f : FaultId)

theorem port_noteFault_ne (h : q ≠ p) : (d.noteFault p f).port q = d.port q := by
  rw [noteFault_eq, stamped_port, pinc_port, pput_port, pput_port, port_noteFirst]
  exact port_onPort_ne d p q (fun x => { x with faults := d.faultsWith p f }) h

/-- What of a port is not its faults, a noted fault leaves. -/
theorem noteFault_keeps {β : Type} {g : Port → β} (hg : ∀ x fs, g (x.guarded fs x.unit) = g x) :
    g ((d.noteFault p f).port q) = g (d.port q) := by
  by_cases h : q = p
  · rw [h, port_noteFault]
    exact hg ..
  · rw [port_noteFault_ne d p q f h]

/-- A fault that is active stays active while others are noted. -/
theorem faulted_noteFault (h : q = p ∨ d.faulted q f = true) : (d.noteFault p f).faulted q f = true := by
  by_cases hq : q = p
  · rw [hq, faulted, port_noteFault]
    exact contains_faultsWith d p f
  · rw [faulted, port_noteFault_ne d p q f hq]
    exact h.resolve_left hq

theorem faulted_foldl_noteFault {ps : List PortId} {d : Dev} (h : q ∈ ps ∨ d.faulted q f = true) :
    (ps.foldl (fun d p => d.noteFault p f) d).faulted q f = true := by
  induction ps generalizing d with
  | nil => exact h.resolve_left List.not_mem_nil
  | cons p ps ih =>
    refine ih ?_
    rw [List.mem_cons] at h
    rcases h with (hq | hq) | hq
    · exact .inr (faulted_noteFault d p q f (.inl hq))
    · exact .inl hq
    · exact .inr (faulted_noteFault d p q f (.inr hq))

/-- A lane's fault is active on each of its ports. -/
theorem faulted_recordLaneFault (h : q ∈ l.ports) : (d.recordLaneFault l f).faulted q f = true :=
  faulted_foldl_noteFault q f (.inl h)

theorem recordLaneFault_keeps {β : Type} {g : Port → β} (hg : ∀ x fs, g (x.guarded fs x.unit) = g x) :
    g ((d.recordLaneFault l f).port q) = g (d.port q) :=
  (foldl_keeps (fun e => g (e.port q)) (fun p _ e => noteFault_keeps e p q f hg) _).trans
    (congrArg g (port_queueTrace ..))

/-- A lane's fault is recorded in its ports' 0x3xB0 and in 0x2721.02 alone. -/
theorem num_recordLaneFault_ne {i s : Nat} (hi : ∀ p, i ≠ pidx p 0xB0) (hs : s < 256) (ht : objKey i s ≠ objKey 0x2721 2) :
    (d.recordLaneFault l f).num i s = d.num i s :=
  (foldl_keeps (fun e => e.num i s) (fun p _ e => num_noteFault_of_idx_ne e f (hi p) hs) _).trans
    (num_queueTrace_ne d _ ht)

theorem laneLost_recordLaneFault (m : LaneId) : (d.recordLaneFault l f).laneLost m = d.laneLost m :=
  congrArg (· == (1 : Int)) (num_recordLaneFault_ne d l f (fun p => by unfold pidx; omega) (by cases m <;> decide)
    (by cases m <;> decide))

/-! ### The command to a lane -/

/-- A command to a port that is not OFF. -/
def commandOn (d : Dev) (n : Nat) (p : PortId) : Dev := if d.pstate p == .off then d else d.command p n

theorem commandLane_eq (n : Nat) : d.commandLane l n = l.ports.foldl (fun d p => d.commandOn n p) d := rfl

theorem commandOn_keeps {β : Type} {g : Dev → β} {n : Nat} (h : ∀ d p, g (command d p n) = g d) :
    g (d.commandOn n p) = g d := by
  unfold commandOn
  split_ifs
  · rfl
  · exact h d p

theorem commandLane_keeps {β : Type} {g : Dev → β} {n : Nat} (h : ∀ d p, g (command d p n) = g d) :
    g (d.commandLane l n) = g d :=
  foldl_keeps g (fun p _ d => commandOn_keeps d p h) d

theorem port_commandOn_ne (n : Nat) (h : q ≠ p) : (d.commandOn n p).port q = d.port q := by
  unfold commandOn
  split_ifs
  · rfl
  · exact port_onPort_ne d p q _ h

theorem port_commandOn (n : Nat) : (d.commandOn n p).port p = (d.port p).commanded n := by
  unfold commandOn Port.commanded pstate
  split_ifs
  · rfl
  · exact port_onPort ..

/-- A port's own command, with the sibling's before or after it. -/
theorem port_commandLane (n : Nat) : (d.commandLane p.lane n).port p = (d.port p).commanded n := by
  have hp := (portSibling_ne p).symm
  rw [commandLane_eq]
  rcases lanePorts_eq p with h | h <;> rw [h, List.foldl_cons, List.foldl_cons, List.foldl_nil]
  · rw [port_commandOn_ne _ _ _ n hp, port_commandOn]
  · rw [port_commandOn, port_commandOn_ne _ _ _ n hp]

@[simp] theorem faulted_commandLane (n : Nat) : (d.commandLane l n).faulted q f = d.faulted q f := by
  refine commandLane_keeps d l (g := fun e => e.faulted q f) fun e p => ?_
  by_cases h : q = p
  · rw [h, faulted, command, commandUnit, port_onPort, faulted]
  · rw [faulted, command, commandUnit, port_onPort_ne e p q _ h, faulted]

@[simp] theorem laneLost_commandLane (n : Nat) (m : LaneId) : (d.commandLane l n).laneLost m = d.laneLost m :=
  commandLane_keeps d l (g := fun e => e.laneLost m) fun _ _ => rfl

end Dev
end Sys2Proof.Machine
end

section
/-! PROOF. The gate-driver protections (R126 to R128, R130, R131, R133, R283, R297, R431). -/

namespace Sys2Proof.Machine

@[simp] theorem Tri.get_set_same {α : Type} (q : Tri α) (x : Phase) (a : α) : (q.set x a).get x = a := by cases x <;> rfl

namespace Dev

variable {d : Dev} {p : PortId}

/-! ### Bootstrap supplies -/

/-- The counts of withheld pulses at zero. -/
def bootCleared (d : Dev) (p : PortId) : Dev :=
  d.onPort p fun x => { x with unit := { x.unit with bootWithheld := ⟨0, 0, 0⟩ } }

theorem bootUvFaultStep_withheld (h : 2 ≤ (d.port p).unit.bootWithheld.v) :
    bootUvFaultStep p d = (d.bootCleared p).trip p .gdBootUv 4 := if_pos (.inr (.inl h))

/-- A pulse withheld for its bootstrap voltage turns no gate on. -/
theorem gateOn_withheld {boot : Nat} (g : Gate) (hboot : boot < 7500) (hout : d.safeOut p = 0) :
    d.gateOn p g (some boot) = false := by
  have hpulse : pulseWithheld (some boot) = true := decide_eq_true hboot
  simp [gateOn, hpulse, hout]

/-! ### Desaturation -/

/-- A gate held off, with FLT_GD_DESAT, the gate reported and the detection counted. -/
def desatRecorded (d : Dev) (p : PortId) (g : Gate) : Dev :=
  (((d.onPort p fun x => { x with unit := { x.unit with heldOff := x.unit.heldOff ++ [gateNum g] } }).trip p .gdDesat 2).pput p
    0x22 6 (gateNum g)).pinc p 0x22 5

theorem desaturationStep_found {g : Gate} {x : DrainSense} {on above : Nat} (ha : (d.lane p.lane).alive = true)
    (hg : d.gateOn p g x.bootMv = true) (hd : d.desaturated p x.vdsMv on above = true) :
    desaturationStep p g x on above d = if g.high then d.desatRecorded p g else (d.desatRecorded p g).inhibited p :=
  if_pos (by simp [ha, hg, hd])

section
variable (d : Dev) (p : PortId) (g : Gate)

theorem unit_desatRecorded : ((d.desatRecorded p g).port p).unit = { (d.port p).unit with
    heldOff := (d.port p).unit.heldOff ++ [gateNum g]
    arriving := (d.port p).unit.arriving ++ [⟨2, none, false, false⟩] } := by
  rw [desatRecorded, pinc_port, pput_port, port_trip, port_onPort]

theorem faulted_desatRecorded : (d.desatRecorded p g).faulted p .gdDesat = true := by
  rw [faulted, desatRecorded, pinc_port, pput_port]
  exact faulted_trip ..

theorem pnum_desatRecorded : (d.desatRecorded p g).pnum p 0x22 6 = gateNum g :=
  (pnum_pput_ne _ p _ (by decide) (by decide) (by decide)).trans (num_pput ..)

theorem safeOut_desatRecorded : (d.desatRecorded p g).safeOut p = d.safeOut p := by
  rw [desatRecorded, safeOut_pinc_of_sub_ne _ _ (by decide) (by decide), safeOut_pput_of_sub_ne _ _ _ (by decide) (by decide),
    safeOut_trip, safeOut_onPort]

end

/-! ### Phase nodes -/

/-- The counts of mismatching check points at zero. -/
def nodesCleared (d : Dev) (p : PortId) : Dev := d.onPort p fun x => { x with unit := { x.unit with nodeMiss := ⟨0, 0, 0⟩ } }

/-- Two mismatches of phase W, the last finding HIGH under its low side. -/
theorem gdFeedbackFaultStep_short (hmiss : 2 ≤ (d.port p).unit.nodeMiss.w) (hhigh : (d.port p).unit.nodeHighLow.w = true) :
    gdFeedbackFaultStep p d = ((d.nodesCleared p).trip p .gdFeedback 3).inhibited p := by
  have hshort : (d.port p).unit.nodeShort = true := by simp [SafeUnit.nodeShort, hmiss, hhigh]
  exact (if_pos (.inr (.inr hmiss))).trans (if_pos hshort)

/-- The consecutive mismatches of a phase, counted in the unit. -/
def nodeCounted (d : Dev) (p : PortId) (f : SafeUnit → SafeUnit) : Dev := d.onPort p fun x => { x with unit := f x.unit }

theorem phaseNodeCheckStep_judged {f : Phase} {high : Bool} {c : NodeCheck} (ha : (d.lane p.lane).alive = true)
    (hg : d.gateOn p ⟨f, high⟩ c.bootMv = true) (hc : d.checkPoint p c.onNs c.boundary = true) :
    phaseNodeCheckStep p f high c d =
      if nodeMismatch high c.level then
        (d.nodeCounted p fun u => { u with
          nodeMiss := u.nodeMiss.set f (u.nodeMiss.get f + 1)
          nodeHighLow := u.nodeHighLow.set f (!high && c.level == .high) }).pinc p 0x22 7
      else d.nodeCounted p fun u => { u with nodeMiss := u.nodeMiss.set f 0 } :=
  if_pos (by simp [ha, hg, hc])

/-- A gate that is at no check point is not judged. -/
theorem phaseNodeCheckStep_unchecked {f : Phase} {high : Bool} {c : NodeCheck} (hc : d.checkPoint p c.onNs c.boundary = false) :
    phaseNodeCheckStep p f high c d = d := if_neg (by simp [hc])

/-! ### The gate-driver supply -/

theorem gdSupplyFaultStep_low {l : LaneId} {mv held : Nat} (ha : (d.lane l).alive = true) (hmv : mv < 9000)
    (hheld : 2000 ≤ held) : gdSupplyFaultStep l mv held d =
      let e := (d.recordLaneFault l .gdSupply).commandLane l 5
      if d.laneLost l then e else e.put (0x2800 + l.num) 8 6 := by
  have hlost : ((d.recordLaneFault l .gdSupply).commandLane l 5).laneLost l = d.laneLost l := by
    rw [laneLost_commandLane, laneLost_recordLaneFault]
  rw [← hlost]
  exact if_pos (by simp [ha, hmv, hheld])

/-- Whatever the cause shown, ports and faults are those after the commands. -/
theorem port_gdSupplyFaultStep {l : LaneId} {mv held : Nat} (ha : (d.lane l).alive = true) (hmv : mv < 9000)
    (hheld : 2000 ≤ held) (q : PortId) :
    (gdSupplyFaultStep l mv held d).port q = ((d.recordLaneFault l .gdSupply).commandLane l 5).port q := by
  rw [gdSupplyFaultStep_low ha hmv hheld]
  dsimp only
  split_ifs
  · rfl
  · exact put_port ..

/-- A low supply holds the lane's gates off. -/
def vgdLowered (d : Dev) (l : LaneId) (low : Bool) : Dev := d.onLane l fun x => { x with vgdLow := low }

theorem vgdBelow7vStep_eq (l : LaneId) (mv : Nat) (d : Dev) : vgdBelow7vStep l mv d =
    l.ports.foldl (fun d p => d.order1Arises p) (d.vgdLowered l (decide (mv < 7000))) := rfl

theorem order1_of_vgdLow (h : (d.lane p.lane).vgdLow = true) : d.order1 p = true := by simp [order1, h]

/-- Once order 1 has been looked at on a port of a lane whose supply is low, its unit is not in ASC. -/
theorem safeOut_foldl_order1Arises {ps : List PortId} (hvgd : (d.lane p.lane).vgdLow = true) (h : p ∈ ps ∨ d.safeOut p ≠ 2) :
    (ps.foldl (fun d p => d.order1Arises p) d).safeOut p ≠ 2 := by
  induction ps generalizing d with
  | nil => exact h.resolve_left List.not_mem_nil
  | cons q ps ih =>
    refine ih (by rwa [lane, lanes_order1Arises]) ?_
    by_cases hout : d.safeOut p = 2
    · rcases List.mem_cons.mp (h.resolve_right (not_not_intro hout)) with rfl | hmem
      · exact .inr (by rw [safeOut_order1Arises hout (order1_of_vgdLow hvgd)]; decide)
      · exact .inl hmem
    · exact .inr (safeOut_order1Arises_ne_two d q p hout)

end Dev

/-- Settles O19, protection by protection. -/
theorem gateDriverProtectionsTrip : Obligations.GateDriverProtectionsTrip := by
  intro s p x
  refine ⟨fun hs hv => answers_of_awake hs rfl fun u hu => ?_, fun g boot => Dev.gateOn_withheld g,
    fun g vds boot on above ha hg hd => answers_of_upd rfl fun u hu => ?_,
    fun hmiss hhigh => answers_of_upd rfl fun u hu => ?_,
    fun f high l on boundary boot ha hg hc hl => answers_of_upd rfl fun u hu => ?_,
    fun f high on boundary boot ha hg hc => answers_of_upd rfl fun u hu => ?_,
    fun f high l on boot => ⟨fun hon => ?_, fun hon => ?_⟩,
    fun mv held ha hmv hheld => answers_of_upd rfl fun u hu => ?_,
    fun mv hmv => answers_of_upd rfl fun u hu => ?_⟩
  · rw [hu, Dev.bootUvFaultStep_withheld hv, Dev.port_trip, Dev.bootCleared, Dev.port_onPort]
    exact ⟨Dev.faulted_trip .., rfl, rfl⟩
  · have hstep := Dev.desaturationStep_found (x := ⟨vds, boot⟩) ha hg hd
    cases hh : g.high
    · rw [hu, hstep, hh, if_neg Bool.false_ne_true, Dev.faulted_inhibited, Dev.unit_inhibited, Dev.unit_desatRecorded,
        Dev.pnum_inhibited_ne _ _ (by decide) (by decide) (by decide)]
      exact ⟨Dev.faulted_desatRecorded .., Dev.pnum_desatRecorded .., rfl, rfl, fun _ => ⟨Dev.pnum_inhibit_inhibited ..,
        fun hout => Dev.safeOut_inhibited ((Dev.safeOut_desatRecorded ..).trans hout)⟩⟩
    · rw [hu, hstep, hh, if_pos rfl, Dev.unit_desatRecorded]
      exact ⟨Dev.faulted_desatRecorded .., Dev.pnum_desatRecorded .., rfl, rfl, fun hlow => absurd hlow (by decide)⟩
  · rw [hu, Dev.gdFeedbackFaultStep_short hmiss hhigh, Dev.faulted_inhibited, Dev.unit_inhibited, Dev.port_trip,
      Dev.nodesCleared, Dev.port_onPort]
    exact ⟨Dev.faulted_trip .., Dev.pnum_inhibit_inhibited .., rfl, rfl⟩
  · have hmis : nodeMismatch high l = true := decide_eq_true hl
    rw [hu, Dev.phaseNodeCheckStep_judged ha hg hc, if_pos hmis, Dev.pinc_port, Dev.nodeCounted, Dev.port_onPort]
    exact ⟨Tri.get_set_same .., Dev.pnum_pinc ..⟩
  · have hmatch : nodeMismatch high (if high then .high else .low) = false := by cases high <;> rfl
    rw [hu, Dev.phaseNodeCheckStep_judged ha hg hc, hmatch, if_neg Bool.false_ne_true, Dev.nodeCounted, Dev.port_onPort]
    exact ⟨Tri.get_set_same .., rfl⟩
  · exact congrArg Host.Outcome.next (State.upd_of_fixed
      (Dev.phaseNodeCheckStep_unchecked (by simpa [Dev.checkPoint] using hon)))
  · exact congrArg Host.Outcome.next (State.upd_of_fixed
      (Dev.phaseNodeCheckStep_unchecked (by simpa [Dev.checkPoint] using hon)))
  · have hport := Dev.port_gdSupplyFaultStep ha hmv hheld
    have hunit : ((s.dev.recordLaneFault p.lane .gdSupply).port p).unit = x.unit :=
      Dev.recordLaneFault_keeps _ _ _ _ (g := Port.unit) fun _ _ => rfl
    have hstate : ((s.dev.recordLaneFault p.lane .gdSupply).port p).reg.state = s.dev.pstate p :=
      Dev.recordLaneFault_keeps _ _ _ _ (g := fun x => x.reg.state) fun _ _ => rfl
    have hfault : ∀ q ∈ p.lane.ports, u.dev.faulted q .gdSupply = true := fun q hq => by
      rw [hu, Dev.faulted, hport]
      exact (Dev.faulted_commandLane ..).trans (Dev.faulted_recordLaneFault _ _ _ _ hq)
    refine ⟨hfault _ (mem_lanePorts p), hfault _ (sibling_mem_lanePorts p), fun hlost => ?_, fun hon => ?_, fun hoff => ?_⟩
    · rw [hu, Dev.gdSupplyFaultStep_low ha hmv hheld, hlost]
      exact Dev.num_put ..
    · rw [hu, hport, Dev.port_commandLane, Port.commanded_on _ (hstate ▸ hon), hunit]
    · rw [hu, hport, Dev.port_commandLane, Port.commanded_off _ (hstate ▸ hoff), hunit]
  · have hvgd : ((s.dev.vgdLowered p.lane (decide (mv < 7000))).lane p.lane).vgdLow = true := by
      rw [Dev.vgdLowered, Dev.lane_onLane]
      exact decide_eq_true hmv
    have hlow : (u.dev.lane p.lane).vgdLow = true := by
      rw [hu, Dev.vgdBelow7vStep_eq, Dev.lane, foldl_keeps Dev.lanes fun q _ d => Dev.lanes_order1Arises d q]
      exact hvgd
    refine ⟨hlow, Dev.order1_of_vgdLow hlow, ?_⟩
    rw [hu, Dev.vgdBelow7vStep_eq]
    exact Dev.safeOut_foldl_order1Arises hvgd (.inl (mem_lanePorts p))

end Sys2Proof.Machine
end

section
/-! SUPPORT. What the evaluation of a unit's commands writes beside the port: output, cause, count and pair (R131, R142, R239). -/

namespace Sys2Proof.Machine

namespace Dev

variable (d : Dev) (p q : PortId)

/-! ### The pair register -/

@[simp] theorem port_pairObjects : (d.pairObjects p).port q = d.port q := by
  unfold pairObjects
  dsimp only
  split_ifs <;> rfl

/-- The pair registers are shown in 0x3xB0 and 0x251y. -/
theorem num_pairObjects_ne {i s : Nat} (hport : ∀ r, i ≠ pidx r 0xB0) (hpair : pairIdx p.pair ≠ i) (hs : s < 256) :
    (d.pairObjects p).num i s = d.num i s := by
  unfold pairObjects
  dsimp only
  rw [putBit, put, num_putVal_of_idx_ne _ _ hpair (by decide) hs, put, num_putVal_of_idx_ne _ _ hpair (by decide) hs]
  split_ifs
  · rw [num_pput_of_idx_ne _ _ (hport _) (by decide) hs, num_pput_of_idx_ne _ _ (hport _) (by decide) hs]
  · rw [num_pput_of_idx_ne _ _ (hport _) (by decide) hs]

/-- A port commanded into TRIPPED or SHORTED writes its pair register alone. -/
theorem port_pairCommanded : ∃ u, (d.pairCommanded p).port p = { d.port p with pair := u } := by
  unfold pairCommanded
  split_ifs
  · exact ⟨_, (port_pairObjects ..).trans (port_onPort ..)⟩
  · exact ⟨_, rfl⟩

theorem port_pairCommanded_ne (h : q ≠ p) : (d.pairCommanded p).port q = d.port q := by
  unfold pairCommanded
  split_ifs
  · exact (port_pairObjects ..).trans (port_onPort_ne _ _ _ _ h)
  · rfl

theorem pnum_pairCommanded {k : Nat} (hk : k < 256) : (d.pairCommanded p).pnum p 0x22 k = d.pnum p 0x22 k := by
  unfold pairCommanded
  split_ifs
  · refine num_pairObjects_ne _ p (fun r => ?_) ?_ hk <;> unfold pidx
    · omega
    · unfold pairIdx
      have hy : p.pair.num < 2 := by cases p <;> decide
      omega
  · rfl

/-! ### Output, count and line -/

/-- The output shown with its cause, where it changes. -/
def outputShown (d : Dev) (p : PortId) (was out code : Nat) : Dev :=
  if was = out then d else (d.pput p 0x22 1 out).pput p 0x22 2 code

/-- An entry into a safe state counted in 0x3x22.0A. -/
def entryCounted (d : Dev) (p : PortId) (was : Nat) : Dev := if was = 0 then d.pinc p 0x22 0xA else d

/-- The lane's fault line asserted, where the state asked for does so. -/
def lineDriven (d : Dev) (p : PortId) (t : Option PortState) : Dev := if assertsLine t then d.pairCommanded p else d

section
variable (was out code : Nat) (t : Option PortState)

@[simp] theorem port_outputShown : (d.outputShown p was out code).port q = d.port q := by
  unfold outputShown; split_ifs <;> rfl

theorem safeOut_outputShown (h : d.safeOut p = was) : (d.outputShown p was out code).safeOut p = out := by
  unfold outputShown
  split_ifs with hsame
  · exact h.trans hsame
  · rw [safeOut_pput_of_sub_ne _ _ _ (by decide) (by decide), safeOut_pput]

theorem pnum_count_outputShown : (d.outputShown p was out code).pnum p 0x22 0xA = d.pnum p 0x22 0xA := by
  unfold outputShown
  split_ifs
  · rfl
  · rw [pnum_pput_ne _ _ _ (by decide) (by decide) (by decide), pnum_pput_ne _ _ _ (by decide) (by decide) (by decide)]

@[simp] theorem port_entryCounted : (d.entryCounted p was).port q = d.port q := by
  unfold entryCounted; split_ifs <;> rfl

theorem safeOut_entryCounted : (d.entryCounted p was).safeOut p = d.safeOut p := by
  unfold entryCounted
  split_ifs
  · exact safeOut_pinc_of_sub_ne _ _ (by decide) (by decide)
  · rfl

theorem pnum_count_entryCounted : (d.entryCounted p 0).pnum p 0x22 0xA = min (d.pnum p 0x22 0xA + 1) 4294967295 := pnum_pinc ..

theorem port_lineDriven : ∃ u, (d.lineDriven p t).port p = { d.port p with pair := u } := by
  unfold lineDriven
  split_ifs
  · exact port_pairCommanded d p
  · exact ⟨_, rfl⟩

theorem port_lineDriven_ne (h : q ≠ p) : (d.lineDriven p t).port q = d.port q := by
  unfold lineDriven
  split_ifs
  · exact port_pairCommanded_ne d p q h
  · rfl

theorem pnum_lineDriven {k : Nat} (hk : k < 256) : (d.lineDriven p t).pnum p 0x22 k = d.pnum p 0x22 k := by
  unfold lineDriven
  split_ifs
  · exact pnum_pairCommanded d p hk
  · rfl

end
end Dev
end Sys2Proof.Machine
end

section
/-! PROOF. The commands of a safe-state unit evaluated (R131, R133, R135). -/

namespace Sys2Proof.Machine

/-! ### Requests of the unit -/

/-- A request of the unit replaces what waits, but not a request for TRIPPED by another. -/
theorem PortReg.reqUnit_ask {r : PortReg} {q : StateReq}
    (h : q.target = .tripped ∨ ∀ o, r.reqUnit = some o → o.target ≠ .tripped) :
    ∃ k, (k = true → q.keepArm = true) ∧ (r.ask q).reqUnit = some { q with keepArm := k } := by
  unfold ask
  split
  next o ho =>
    have hgives : ¬ (o.target == .tripped && q.target ≠ .tripped) = true := by
      rcases h with h | h
      · simp [h]
      · simp [h o ho]
    rw [if_neg hgives]
    exact ⟨_, fun hk => (Bool.and_eq_true _ _ ▸ hk).1, rfl⟩
  next => exact ⟨_, id, rfl⟩

theorem PortReg.ask_of_tripped {r : PortReg} {o q : StateReq} (ho : r.reqUnit = some o) (hw : o.target = .tripped)
    (hq : q.target ≠ .tripped) : r.ask q = r := by
  simp [ask, ho, hw, hq]

namespace Dev

variable {d : Dev} {p : PortId} {cs : List SafeCmd}

/-! ### The choice -/

/-- Order 1 leaves coast only. -/
theorem nextOut_of_order1 (h : d.order1 p = true) (cs : List SafeCmd) : d.nextOut p cs = 1 := by
  have hchoose : d.choose p cs = 1 := if_pos h
  have hlate : d.shortsLate p cs = false := by simp [shortsLate, hchoose]
  unfold nextOut
  split_ifs with hoff hnone hasc hshort
  · rfl
  · exact hchoose
  · rfl
  · simp [hlate, h] at hshort
  · rfl

/-- A fault command asks for TRIPPED. -/
theorem askedState_of_trips (out : Nat) (hon : d.pstate p ≠ .off) (h : (cs.any fun c => tripsCode c.code) = true) :
    d.askedState p cs out = some .tripped := by
  rw [askedState, if_neg (by simpa using hon), if_pos h]

/-- The commands taken together: none is left waiting, the state they ask for is requested in this slot, and the rest shows the
output that the orders choose. -/
theorem exists_safeStateCommandStep (step : Nat) (h : (d.port p).unit.arriving ≠ []) :
    let cs := (d.port p).unit.arriving
    let out := d.nextOut p cs
    ∃ f : Port → Port, safeStateCommandStep p step d =
        (((d.onPort p f).outputShown p (d.safeOut p) out (d.decidingCode p cs)).entryCounted p (d.safeOut p)).lineDriven p
          (d.askedState p cs out) ∧
      (f (d.port p)).unit.arriving = [] ∧
      ∀ t, d.askedState p cs out = some t → ∃ k e, (f (d.port p)).reg = (d.port p).reg.ask ⟨d.slotOf p, t, k, e⟩ := by
  intro cs out
  refine ⟨_, if_neg h, rfl, fun t ht =>
    ⟨cs.all fun c => c.keepArm, cs.any fun c => c.ov3Chop || c.named == some true, ?_⟩⟩
  dsimp only
  rw [ht]

end Dev

theorem safeStateUnitAppliesTheChosenState : Says.SafeStateUnitAppliesTheChosenState := by
  intro s p hcs cs step
  refine answers_of_upd rfl fun u hu => ?_
  obtain ⟨f, hstep, harriving, hasked⟩ := Dev.exists_safeStateCommandStep step hcs
  rw [hstep] at hu
  obtain ⟨pair, hport⟩ := Dev.port_lineDriven _ p _
  rw [← hu, Dev.port_entryCounted, Dev.port_outputShown, Dev.port_onPort] at hport
  have hout : u.dev.safeOut p = s.dev.nextOut p cs := by
    rw [hu, Dev.safeOut_congr (Dev.pnum_lineDriven _ _ _ (by decide)), Dev.safeOut_entryCounted]
    exact Dev.safeOut_outputShown _ _ _ _ _ rfl
  refine ⟨hout, by rw [hport]; exact harriving, fun h1 => hout.trans (Dev.nextOut_of_order1 h1 cs), fun hon htrips => ?_,
    fun hnone => ?_, fun q hq => ?_⟩
  · obtain ⟨k, e, hreg⟩ := hasked _ (Dev.askedState_of_trips _ hon htrips)
    obtain ⟨k', -, hreq⟩ := PortReg.reqUnit_ask (r := (s.dev.port p).reg) (q := ⟨s.dev.slotOf p, .tripped, k, e⟩) (.inl rfl)
    refine ⟨k', e, ?_⟩
    rw [hport, hreg, hreq]
  · rw [hu, Dev.pnum_lineDriven _ _ _ (by decide), hnone, Dev.pnum_count_entryCounted, Dev.pnum_count_outputShown,
      Dev.pnum_onPort]
  · rw [hu, Dev.port_lineDriven_ne _ _ _ _ hq, Dev.port_entryCounted, Dev.port_outputShown, Dev.port_onPort_ne _ _ _ _ hq]

end Sys2Proof.Machine
end

section
/-! PROOF. Release from a safe state, and standstill (R131, R134, R170 to R172, R462). -/

namespace Sys2Proof.Machine

/-- A waking command whose change is another's on this block. -/
theorem State.awake_eq_upd {s : State} {f g : Dev → Dev} (hs : s.dev.frozen = false) (h : f s.dev = g s.dev) :
    s.awake f = s.upd g := by
  rw [awake, upd, upd, hs, if_neg Bool.false_ne_true, h]

namespace Dev

variable {d : Dev} {p : PortId} {codes : List Nat}

/-- The unit after the samples of its watch. -/
def ascWatched (d : Dev) (p : PortId) (codes : List Nat) : SafeUnit :=
  ascRun (d.pnum p 0x20 0xC) (d.pnat p 0x20 0xB) codes (d.port p).unit

/-- The block after the samples of a unit's watch. -/
def watched (d : Dev) (p : PortId) (codes : List Nat) : Dev := d.onPort p fun x => { x with unit := d.ascWatched p codes }

theorem reg_watched (d : Dev) (p : PortId) (codes : List Nat) : ((d.watched p codes).port p).reg = (d.port p).reg := by
  rw [watched, port_onPort]

/-- The release: coast, and COAST asked for a port that is SHORTED. -/
def ascReleased (d : Dev) (p : PortId) : Dev :=
  (d.onPort p fun x => { x with
    mod := { x.mod with offSeen := true }
    reg := if x.reg.state == .shorted then x.reg.ask ⟨d.slotOf p, .coast, false, false⟩ else x.reg }).pput p 0x22 1 1

theorem ascReleaseStep_elapsed (hout : d.safeOut p = 2)
    (h : ascQuietLong (d.ascWatched p codes).ascQuiet (d.pnat p 0x20 0xB) = true) :
    ascReleaseStep p codes d = (d.watched p codes).ascReleased p := by
  rw [ascReleaseStep, if_pos hout]
  exact if_pos (by rw [port_onPort]; exact h)

theorem ascReleaseStep_idle (hout : d.safeOut p ≠ 2) : ascReleaseStep p codes d = d := if_neg hout

theorem safeOut_ascReleased (d : Dev) (p : PortId) : (d.ascReleased p).safeOut p = 1 := safeOut_pput _ p 1

theorem reg_ascReleased (h : (d.port p).reg.state = .shorted) :
    ((d.ascReleased p).port p).reg = (d.port p).reg.ask ⟨d.slotOf p, .coast, false, false⟩ := by
  rw [ascReleased, pput_port, port_onPort]
  exact if_pos (by simp [h])

/-- Under EXTEST, HIGHZ and CLAMP the unit coasts on. -/
theorem safeStateReleaseOffStep_scan (h : d.tap.bscan = true) : safeStateReleaseOffStep p d = d := if_neg (by simp [h])

theorem safeStateReleaseOffStep_free (hoff : (d.port p).reg.state = .off) (hf : (d.port p).faults = [])
    (hc : (d.port p).unit.arriving = []) (hout : d.safeOut p ≠ 0) (h : d.tap.bscan = false) :
    safeStateReleaseOffStep p d = d.releaseGates p := if_pos (by simp [hoff, hf, hc, hout, h])

theorem releaseGates_releases (h : d.tap.bscan = false) : (d.releaseGates p).safeOut p = 0 ∧
    (d.releaseGates p).pnum p 0x22 2 = 0 ∧ ((d.releaseGates p).port p).unit.heldOff = [] := by
  rw [releaseGates, h]
  refine ⟨?_, num_pput .., ?_⟩
  · rw [safeOut_pput_of_sub_ne _ _ _ (by decide) (by decide)]
    exact safeOut_pput _ p 0
  · rw [pput_port, pput_port, port_onPort]

end Dev

theorem safeStatesAreReleased : Says.SafeStatesAreReleased := by
  intro s p hs x
  refine ⟨fun codes hout hshort hq => answers_of_awake hs rfl fun u hu => ?_,
    fun codes hout => congrArg Host.Outcome.next (State.awake_of_fixed (Dev.ascReleaseStep_idle hout)),
    fun _ _ _ _ hscan => congrArg Host.Outcome.next (State.awake_of_fixed (Dev.safeStateReleaseOffStep_scan hscan)),
    fun hoff hf hc hout hscan => answers_of_awake hs rfl fun u hu => ?_⟩
  · have hreg : ((s.dev.watched p codes).port p).reg = x.reg := Dev.reg_watched ..
    rw [hu, Dev.ascReleaseStep_elapsed hout hq, Dev.reg_ascReleased (hreg ▸ hshort), hreg]
    refine ⟨Dev.safeOut_ascReleased .., fun hfree => ?_, fun q hreq htrip => ?_⟩
    · obtain ⟨k, hk, hreq⟩ := PortReg.reqUnit_ask (q := ⟨s.dev.slotOf p, .coast, false, false⟩) (.inr hfree)
      obtain rfl : k = false := Bool.eq_false_iff.mpr fun h => Bool.false_ne_true (hk h)
      exact hreq
    · rw [PortReg.ask_of_tripped hreq htrip PortState.noConfusion, hreq]
  · rw [hu, Dev.safeStateReleaseOffStep_free hoff hf hc hout hscan]
    exact Dev.releaseGates_releases hscan

theorem standstillIsFoundInCoast : Says.StandstillIsFoundInCoast := by
  intro s p hs hcoast
  refine ⟨fun hlate => congrArg Host.Outcome.next (State.awake_eq_upd hs (if_pos ?_)),
    fun hslow => congrArg Host.Outcome.next (State.awake_eq_upd hs (if_pos ?_))⟩
  · have hstate : (s.dev.port p).reg.state = .coast := hcoast
    simp [hstate, hlate]
  · simp [hcoast, hslow]

end Sys2Proof.Machine
end

section
/-! PROOF. FAULT_CLEAR (R201, R252, R253, R256). -/

namespace Sys2Proof.Machine

namespace Dev

variable (d : Dev) (p q : PortId) (fs : List Nat)

theorem faults_removeFaults : ((d.removeFaults p fs).port p).faults = (d.port p).faults.filter fun f => !fs.contains f := by
  unfold removeFaults
  dsimp only
  split_ifs with h
  · exact h.symm
  · rw [port_setFaults]

theorem port_removeFaults_ne (h : q ≠ p) : (d.removeFaults p fs).port q = d.port q := by
  unfold removeFaults
  dsimp only
  split_ifs
  · rfl
  · exact port_onPort_ne d p q (fun x => { x with faults := _ }) h

/-- The removal is shown in 0x3xB0 alone. -/
theorem num_removeFaults_ne {i s : Nat} (hi : pidx p 0xB0 ≠ i) (hs : s < 256) : (d.removeFaults p fs).num i s = d.num i s := by
  unfold removeFaults
  dsimp only
  split_ifs
  · rfl
  · exact num_putVal_of_idx_ne _ _ hi (by decide) hs

/-- The first fault and its time start anew. -/
def recordAnew (d : Dev) (p : PortId) : Dev := (d.pput p 0xB0 2 0).pput p 0xB0 3 0

theorem clearFaults_eq : d.clearFaults p fs =
    if ((d.removeFaults p fs).port p).faults = [] && (d.port p).faults ≠ [] then (d.removeFaults p fs).recordAnew p
    else d.removeFaults p fs := rfl

@[simp] theorem port_clearFaults : (d.clearFaults p fs).port q = (d.removeFaults p fs).port q := by
  rw [clearFaults_eq]
  split_ifs <;> rfl

theorem num_clearFaults_ne {i s : Nat} (hi : i ≠ pidx p 0xB0) (hs : s < 256) : (d.clearFaults p fs).num i s = d.num i s := by
  rw [clearFaults_eq]
  split_ifs
  · rw [recordAnew, num_pput_of_idx_ne _ _ hi (by decide) hs, num_pput_of_idx_ne _ _ hi (by decide) hs,
      num_removeFaults_ne _ _ _ hi.symm hs]
  · exact num_removeFaults_ne _ _ _ hi.symm hs

/-- With no fault left, no first fault is shown. -/
theorem pnum_first_clearFaults (hnone : ((d.clearFaults p fs).port p).faults = []) (hhad : (d.port p).faults ≠ []) :
    (d.clearFaults p fs).pnum p 0xB0 2 = 0 := by
  rw [port_clearFaults] at hnone
  rw [clearFaults_eq, if_pos (by simp [hnone, hhad]), recordAnew, pnum_pput_ne _ _ _ (by decide) (by decide) (by decide), num_pput]

/-! ### The lane's faults -/

/-- The chopper usable again changes units alone among the ports. -/
theorem chopperCleared_keeps {β : Type} {g : Port → β} (hg : ∀ x u, g { x with unit := u } = g x) (l : LaneId) :
    g ((d.chopperCleared l).port q) = g (d.port q) := by
  refine foldl_keeps (fun e : Dev => g (e.port q)) (fun r _ e => ?_) _
  dsimp only
  split_ifs
  · rfl
  · by_cases h : q = r
    · rw [h, port_onPort, hg]
    · rw [port_onPort_ne _ _ _ _ h]

theorem num_chopperCleared_ne (l : LaneId) {i s : Nat} (hi : chopIdx l ≠ i) (hs : s < 256) :
    (d.chopperCleared l).num i s = d.num i s :=
  (foldl_keeps (fun e : Dev => e.num i s) (fun _ _ _ => by dsimp only; split_ifs <;> rfl) _).trans
    (num_putVal_of_idx_ne _ _ hi (by decide) hs)

/-- The faults of lane scope among those cleared, cleared on the other port of the lane too. -/
def laneCleared (d : Dev) (p : PortId) (fs : List Nat) : Dev :=
  let lane := fs.filter fun f => laneScope.contains f
  if lane.contains 0x0305 then (d.clearFaults p.sibling lane).chopperCleared p.lane else d.clearFaults p.sibling lane

theorem laneCleared_keeps {β : Type} {g : Port → β} (hg : ∀ x u, g { x with unit := u } = g x) :
    g ((d.laneCleared p fs).port p) = g (d.port p) := by
  have hport : ∀ xs, (d.clearFaults p.sibling xs).port p = d.port p := fun xs => by
    rw [port_clearFaults, port_removeFaults_ne _ _ _ _ (portSibling_ne p).symm]
  unfold laneCleared
  dsimp only
  split_ifs
  · rw [chopperCleared_keeps _ _ hg, hport]
  · rw [hport]

theorem pnum_laneCleared {k : Nat} (hk : k < 256) : (d.laneCleared p fs).pnum p 0xB0 k = d.pnum p 0xB0 k := by
  have hchop : chopIdx p.lane ≠ pidx p 0xB0 := by cases p <;> decide
  have hsib : pidx p 0xB0 ≠ pidx p.sibling 0xB0 := mt pidx_inj.mp (portSibling_ne p).symm
  unfold laneCleared pnum
  dsimp only
  split_ifs
  · rw [num_chopperCleared_ne _ _ hchop hk, num_clearFaults_ne _ _ _ hsib hk]
  · exact num_clearFaults_ne _ _ _ hsib hk

/-! ### The command -/

/-- FAULT_CLEAR seen at 1. -/
def clearSeen (d : Dev) (p : PortId) : Dev :=
  d.onPort p fun x => { x with e2 := { x.e2 with cmd := { x.e2.cmd with lastClear := true } } }

/-- The port's own faults cleared. -/
def portCleared (d : Dev) (p : PortId) (o : ClearObs) : Dev := (d.clearSeen p).clearFaults p (d.clearable p o)

variable {d p} {o : ClearObs}

theorem faultClearStep_rises (ha : (d.lane p.lane).alive = true) (hb : d.bit (pidx p 0x61) 1 3 = true)
    (hl : (d.port p).e2.cmd.lastClear = false) : faultClearStep p o d =
      ((d.portCleared p o).laneCleared p (d.clearable p o)).syncFbFault p :=
  if_pos (by simp [ha, hb, hl])

/-- The clearable faults are the active ones of class C whose condition has ended. -/
theorem mem_faults_portCleared {f : Nat} : f ∈ ((d.portCleared p o).port p).faults ↔
    f ∈ (d.port p).faults ∧ ¬ (f ∈ classC ∧ d.ended p o f = true) := by
  rw [portCleared, port_clearFaults, faults_removeFaults, clearSeen, port_onPort]
  simp only [List.mem_filter, clearable, List.contains_eq_mem, Bool.not_eq_true', decide_eq_false_iff_not,
    Bool.and_eq_true, decide_eq_true_eq]
  tauto

theorem lastClear_portCleared : ((d.portCleared p o).port p).e2.cmd.lastClear = true := by
  obtain ⟨rest, hrest⟩ := (d.clearSeen p).port_removeFaults p (d.clearable p o)
  rw [portCleared, port_clearFaults, hrest, clearSeen, port_onPort]
  rfl

theorem pnum_first_portCleared (hnone : ((d.portCleared p o).port p).faults = []) (hhad : (d.port p).faults ≠ []) :
    (d.portCleared p o).pnum p 0xB0 2 = 0 :=
  pnum_first_clearFaults _ p _ hnone (by rwa [clearSeen, port_onPort])

/-- What a port keeps with its unit, the clearing of the lane's faults keeps. -/
theorem faultClear_keeps {β : Type} {g : Port → β} (hunit : ∀ x u, g { x with unit := u } = g x)
    (hfb : ∀ x b, g { x with fb := b } = g x) (fs : List Nat) :
    g ((((d.portCleared p o).laneCleared p fs).syncFbFault p).port p) = g ((d.portCleared p o).port p) := by
  rw [syncFbFault, port_onPort, hfb, laneCleared_keeps _ _ _ hunit]

end Dev

theorem faultClearRemovesEndedFaults : Says.FaultClearRemovesEndedFaults := by
  intro s p o hs ha hb hl
  refine answers_of_awake hs rfl fun u hu => ?_
  rw [hu, Dev.faultClearStep_rises ha hb hl, Dev.faultClear_keeps (g := Port.faults) (fun _ _ => rfl) fun _ _ => rfl,
    Dev.faultClear_keeps (g := fun x => x.e2.cmd.lastClear) (fun _ _ => rfl) fun _ _ => rfl]
  refine ⟨fun f => Dev.mem_faults_portCleared, Dev.lastClear_portCleared, fun hnone hhad => ?_⟩
  rw [Dev.syncFbFault, Dev.pnum_onPort, Dev.pnum_laneCleared _ _ _ (by decide)]
  exact Dev.pnum_first_portCleared hnone hhad

/-- Settles O18: the commands evaluated together, the release, the standstill and the clearing. -/
theorem safeStatesAreAppliedAndLeft : Obligations.SafeStatesAreAppliedAndLeft :=
  ⟨safeStateUnitAppliesTheChosenState, safeStatesAreReleased, standstillIsFoundInCoast, faultClearRemovesEndedFaults⟩

end Sys2Proof.Machine
end

section
/-! REFUTATION. Under EXTEST, HIGHZ and CLAMP the brake gates are held off, so a member port's OV2 engages no chopper (R138,
R462). -/

namespace Sys2Proof.Machine

/-- Under boundary scan a sample is taken and nothing is engaged. -/
theorem Dev.chopperEngageStep_scan {d : Dev} (p : PortId) (t mv : Nat) (h : d.tap.bscan = true) :
    chopperEngageStep p t mv d = d.setBus p mv := by
  have hscan : (d.setBus p mv).tap.bscan = true := h
  unfold chopperEngageStep
  dsimp only
  rw [if_neg (by simp [hscan])]

/-- M1 a member of lane A's chopper, which has never been engaged, with HIGHZ in the TAP. -/
def memberUnderScan : State :=
  ⟨highzStep (({ Dev.atReset with
      lanes := ⟨Lane.counted 5, Lane.atReset⟩
      boot := { Boot.atReset with phase := .up } }.pput .m1 0x20 0x11 1).put (chopIdx .a) 1 1), []⟩

theorem memberUnderScan_scans : memberUnderScan.dev.tap.bscan = true ∧ memberUnderScan.dev.num (chopIdx .a) 0x10 = 0 := by
  decide +kernel

/-- A sample of 90 V meets all that the statement asks for. -/
theorem memberUnderScan_overVoltage : memberUnderScan.dev.frozen = false ∧ (memberUnderScan.dev.lane .a).alive = true ∧
    memberUnderScan.dev.member .m1 = true ∧ memberUnderScan.dev.ov2Mv .m1 ≤ 90000 ∧
    (memberUnderScan.dev.lane .a).chop.faultAt = none ∧ (memberUnderScan.dev.lane .a).chop.gateTick = 0 := by
  decide +kernel

theorem not_chopperEngagesAndReleases : ¬ Says.ChopperEngagesAndReleases := by
  intro h
  obtain ⟨hscan, hoff⟩ := memberUnderScan_scans
  obtain ⟨hawake, halive, hmember, hov2, hfault, hgate⟩ := memberUnderScan_overVoltage
  obtain ⟨hengages, -⟩ := h memberUnderScan hawake
  obtain ⟨u, hu, hon, -⟩ := hengages .m1 0 90000 halive hmember hov2 hoff hfault (.inl hgate)
  have hdev : u.dev = memberUnderScan.dev.setBus .m1 90000 :=
    (State.dev_of_exec_awake hawake rfl hu).trans (Dev.chopperEngageStep_scan .m1 0 90000 hscan)
  have hstays : u.dev.num (chopIdx .a) 0x10 = 0 := by
    rw [hdev]
    exact hoff
  exact absurd (hon.symm.trans hstays) (by decide)

/-- Refutes O20: with HIGHZ in the TAP a member port's sample at its OV2 leaves the chopper as it was, as R462 holds the brake
gates off, where the statement has it engaged. -/
theorem not_chopperAndOverVoltage : ¬ Obligations.ChopperAndOverVoltage :=
  fun ⟨h, _⟩ => not_chopperEngagesAndReleases h

end Sys2Proof.Machine
end

section
/-! SUPPORT. Arithmetic of the current control: exact quotients, the unrotated frame, currents without sum, and the range of
voltage codes (R144, R145, R147, R149). -/

namespace Sys2Proof.Machine

/-- A quotient without remainder is not narrowed (R145). -/
theorem narrow_mul_self (k : Int) {b : Int} (hb : b ≠ 0) : narrow (k * b) b = k := by simp [narrow, hb]

theorem sinQ_zero : sinQ 0 = 0 := rfl

/-- The series of the cosine is exact at angle 0. -/
theorem cosQ_zero : cosQ 0 = 65536 := by
  have hcos : sin40 (0 + 2 ^ 28) = 65536 * 2 ^ 24 := by rfl
  rw [cosQ, sinQ, if_neg (by decide), hcos, narrow_mul_self _ (by decide)]

/-- A product with 1. -/
theorem mulQ_one (a : Int) : mulQ a 65536 = a := narrow_mul_self a (by decide)

theorem mulQ_zero (a : Int) : mulQ a 0 = 0 := by rw [mulQ, mul_zero, narrow_zero (by decide)]

/-- At angle 0 the rotating frame is the stator's (R149). -/
theorem park_zero (a b : Int) : park a b 0 = (a, b) := by
  simp only [park, sinQ_zero, cosQ_zero, mulQ_one, mulQ_zero, add_zero, sub_zero]

/-- At angle 0 the rotating frame is the stator's (R149). -/
theorem ipark_zero (a b : Int) : ipark a b 0 = (a, b) := by
  simp only [ipark, sinQ_zero, cosQ_zero, mulQ_one, mulQ_zero, zero_add, sub_zero]

/-- The α component of currents without sum is the U current (R147). -/
theorem clarke_of_noSum {u v w : Int} (h : u + v + w = 0) : clarke u v w = (u * 65536, divSqrt3 ((v - w) * 65536)) := by
  have hthree : q16 (2 * u - v - w) = u * 65536 * 3 := by unfold q16; omega
  rw [clarke, hthree, narrow_mul_self _ (by decide)]
  rfl

theorem clampI_bounds {lo hi : Int} (h : lo ≤ hi) (v : Int) : lo ≤ clampI lo hi v ∧ clampI lo hi v ≤ hi := by
  unfold clampI
  split_ifs <;> omega

/-- A voltage stays within the code range (R144). -/
theorem satV_bounds (v : Int) : -(8191 * 65536) ≤ satV v ∧ satV v ≤ 8191 * 65536 := clampI_bounds (by decide) v

end Sys2Proof.Machine
end

section
/-! PROOF. The transformations of engine 0 (R147, R149). -/

namespace Sys2Proof.Machine

namespace Dev

/-- A change of engine 0 is what it makes of the engine as it stands. -/
theorem onE0_congr {d : Dev} {p : PortId} {f g : E0 → E0} (h : f (d.port p).e0 = g (d.port p).e0) : d.onE0 p f = d.onE0 p g :=
  congrArg (fun e => d.setPort p { d.port p with e0 := e }) h

theorem resume0_of_due {d : Dev} {p : PortId} {w : FwLate} (hw : (d.port p).e0.late = some w) (hdue : w.due ≤ d.slotOf p) :
    d.resume0 p = kFwVlimCalc p w d := by
  unfold resume0
  rw [hw]
  exact if_pos hdue

theorem resume0_of_notLate {d : Dev} {p : PortId} (h : (d.port p).e0.late = none) : d.resume0 p = d := by
  unfold resume0
  rw [h]

end Dev

/-- A kernel whose body changes engine 0 alone. -/
theorem exec_kernel0_onE0 {c : Instr} {s : State} {p : PortId} {id t : Nat} {f : Dev → Dev} {g h : E0 → E0}
    (hr : s.dev.runs p .e0 id t = true) (hc : exec c s = .next (s.awake (kernel0 p id t f)))
    (hf : f (s.dev.begin0 p) = (s.dev.begin0 p).onE0 p g)
    (hg : g ((s.dev.begin0 p).port p).e0 = h ((s.dev.begin0 p).port p).e0) :
    exec c s = .next (s.upd fun d => (d.begin0 p).onE0 p h) := by
  rw [exec_kernel0 hr hc, State.upd, State.upd, hf, Dev.onE0_congr hg]

theorem clarkeAndParkTransformTheFrame : Says.ClarkeAndParkTransformTheFrame := by
  intro s p t
  refine ⟨fun hr hsum => exec_kernel0_onE0 hr rfl rfl ?_, fun hr => exec_kernel0_onE0 hr rfl rfl rfl,
    fun hr => exec_kernel0_onE0 hr rfl rfl rfl, fun w => Dev.resume0_of_due, Dev.resume0_of_notLate,
    fun a b => ⟨park_zero a b, ipark_zero a b⟩⟩
  rw [E0.onFr, clarke_of_noSum hsum]

end Sys2Proof.Machine
end

section
/-! PROOF. The current controllers, in a port that drives and in one that does not (R150, R151, R153, R234). -/

namespace Sys2Proof.Machine

section
variable {d : Dev} {p : PortId}

/-- K_PI_DQ in a port that drives: the references in force, and outputs and integrators that are voltages (R150, R151, R234). -/
theorem kPiDqBody_driving (h : flagDriving (d.port p).e0.fl.sp.flags = true) :
    let e := ((kPiDqBody p d).port p).e0
    (e.st.idS, e.st.iqS) = d.scaledRefs p (d.share p) ∧ e.st.gLast = d.share p ∧ e.fl = (d.port p).e0.fl ∧
    ∃ xd xq ud uq, e.st.xd = satV xd ∧ e.st.xq = satV xq ∧ e.fr.ud = satV ud ∧ e.fr.uq = satV uq := by
  dsimp only
  rw [kPiDqBody, if_pos h, Dev.port_onE0]
  exact ⟨rfl, rfl, rfl, _, _, _, _, rfl, rfl, rfl, rfl⟩

/-- K_PI_DQ in a port that does not drive: proportional outputs, and every state zero (R153). -/
theorem kPiDqBody_notDriving (h : flagDriving (d.port p).e0.fl.sp.flags = false) :
    let e := ((kPiDqBody p d).port p).e0
    e.fr.ud = (d.piAxis p (d.port p).e0.gains.kpD ⟨0, 1⟩ (-(d.port p).e0.fr.id) 0 0).1 ∧ e.fl = (d.port p).e0.fl ∧
    e.st.xd = 0 ∧ e.st.xq = 0 ∧ e.st.idRef = 0 ∧ e.st.iqRef = 0 ∧ e.st.idFw = 0 := by
  dsimp only
  rw [kPiDqBody, if_neg (Bool.eq_false_iff.mp h), Dev.port_onE0]
  exact ⟨rfl, rfl, rfl, rfl, rfl, rfl, rfl⟩

end

theorem currentControllersFollowTheReferences : Says.CurrentControllersFollowTheReferences := by
  intro s p t hr
  refine ⟨fun hdrive => answers_kernel0 hr rfl fun u hu => ?_, fun hdrive => answers_kernel0 hr rfl fun u hu => ?_⟩
  · obtain ⟨hrefs, hshare, hfl, xd, xq, ud, uq, hxd, hxq, hud, huq⟩ := kPiDqBody_driving hdrive
    rw [hu]
    dsimp only
    rw [hxd, hxq, hud, huq]
    exact ⟨congrArg Prod.fst hrefs, congrArg Prod.snd hrefs, hshare, (satV_bounds xd).1, (satV_bounds xd).2, (satV_bounds xq).1,
      (satV_bounds xq).2, (satV_bounds ud).1, (satV_bounds ud).2, (satV_bounds uq).1, (satV_bounds uq).2, hfl⟩
  · rw [hu]
    exact kPiDqBody_notDriving hdrive

end Sys2Proof.Machine
end

section
/-! PROOF. The kernels that form the voltage command before its limit: K_DECOUPLE, K_MTPA and K_HFI_INJ (R152, R157, R212). -/

namespace Sys2Proof.Machine

@[simp] theorem Dev.placed_begin0 (d : Dev) (p : PortId) (r : EngineRole) (id t : Nat) :
    (d.begin0 p).placed p r id t = d.placed p r id t :=
  begin0_keeps (g := fun d => d.placed p r id t) (fun _ _ => rfl) d

section
variable {d : Dev} {p : PortId}

/-- K_DECOUPLE in mode 0 adds no term (R152). -/
theorem kDecoupleBody_off (h : d.pnum p 0x50 7 = 0) :
    let f := (d.port p).e0.fr
    ((kDecoupleBody p d).port p).e0.fr.vdCmd = satV f.ud ∧ ((kDecoupleBody p d).port p).e0.fr.vqCmd = satV f.uq := by
  simp [kDecoupleBody, E0.onFr, h]

/-- K_MTPA with a table of the length bound (R157). -/
theorem kMtpaBody_bound {n : Nat} (h : (pairsQ (d.arr (pidx p 0x50) 0x10)).length = n) :
    kMtpaBody p n d = d.onE0 p fun e => { e with
      st := { e.st with idMtpa := interp 0 0 (pairsQ (d.arr (pidx p 0x50) 0x10)) (absI (d.iqInForce p)) }
      fl := { e.fl with mtpaMis := false } } := by
  simp [kMtpaBody, h]

/-- K_MTPA with a table of another length (R157). -/
theorem kMtpaBody_mismatch {n : Nat} (h : (pairsQ (d.arr (pidx p 0x50) 0x10)).length ≠ n) :
    kMtpaBody p n d = d.onE0 p fun e => { e with st := { e.st with idMtpa := 0 }, fl := { e.fl with mtpaMis := true } } := by
  simp [kMtpaBody, h]

/-- K_HFI_INJ under an angle of the injection (R212). -/
theorem kHfiInjBody_injecting (h : (d.port p).e0.fl.angHeld.source = 2 ∨ (d.port p).e0.fl.angHeld.source = 3) :
    let x := d.port p
    let y := (kHfiInjBody p d).port p
    y.e0.fr.vdCmd = satV (x.e0.fr.vdCmd + d.mvCode p (d.pnum p 0x80 0x12) * x.e1.hfi.s) ∧ y.e1.hfi.s = -x.e1.hfi.s := by
  dsimp only
  rw [kHfiInjBody, if_pos h, Dev.port_onPort]
  exact ⟨rfl, rfl⟩

/-- K_HFI_INJ under an angle of another source (R212). -/
theorem kHfiInjBody_silent (h2 : (d.port p).e0.fl.angHeld.source ≠ 2) (h3 : (d.port p).e0.fl.angHeld.source ≠ 3) :
    kHfiInjBody p d = d :=
  if_neg (not_or.mpr ⟨h2, h3⟩)

end

/-- K_MTPA's body is applied with the number of points that the image binds (R157). -/
theorem exec_kMtpa {s : State} {p : PortId} {t : Nat} {i : Instance} (hr : s.dev.runs p .e0 0x08 t = true)
    (hi : s.dev.placed p .e0 0x08 t = some i) :
    exec (.kMtpa p t) s = .next (s.upd fun d => kMtpaBody p i.formula (d.begin0 p)) := by
  rw [exec_kernel0 hr rfl, State.upd, State.upd]
  simp only [Dev.placed_begin0, hi, Option.map_some, Option.getD_some]

end Sys2Proof.Machine
end

section
/-! PROOF. K_FW_VLIM: the setpoint cell taken, and the limited vector, the references and the stores formed once the radius is
loaded (R37, R114, R153, R154, R158, R475). -/

namespace Sys2Proof.Machine

@[simp] theorem Dev.lane_begin0 (d : Dev) (p : PortId) (l : LaneId) : (d.begin0 p).lane l = d.lane l :=
  begin0_keeps (g := fun d => d.lane l) (fun _ _ => rfl) d

/-! ### The setpoint cell taken -/

/-- Whether a frame with the command flags `new` behind one with `old` starts the integrators from zero (R153). -/
def startsFromZero (old new : Nat) : Bool := !flagDriving new || (flagState new == 4 && flagState old ≠ 4)

theorem startsFromZero_of_notDriving {old new : Nat} (h : flagDriving new = false) : startsFromZero old new = true := by
  simp [startsFromZero, h]

theorem startsFromZero_of_entry {old new : Nat} (hnew : flagState new = 4) (hold : flagState old ≠ 4) :
    startsFromZero old new = true := by
  simp [startsFromZero, hnew, hold]

/-- Engine 0 with a fresh setpoint cell taken, before the load of the radius (R153). -/
def E0.withSetpoint (e : E0) (start : Bool) (sp : SpVal) (w : FwLate) : E0 :=
  { (e.withFlags { e.fl with sp := sp }).fromZero start with late := some w }

section
variable (e : E0) (start : Bool) (sp : SpVal) (w : FwLate)

theorem E0.late_withSetpoint : (e.withSetpoint start sp w).late = some w := rfl

@[simp] theorem E0.fl_withSetpoint : (e.withSetpoint start sp w).fl = { e.fl with sp := sp } := by cases start <;> rfl

@[simp] theorem E0.fr_withSetpoint : (e.withSetpoint start sp w).fr = e.fr := by cases start <;> rfl

theorem E0.integrators_withSetpoint_fromZero :
    (e.withSetpoint true sp w).st.xd = 0 ∧ (e.withSetpoint true sp w).st.xq = 0 := ⟨rfl, rfl⟩

end

/-- What a K_FW_VLIM that starts at tick t keeps of a fresh setpoint cell until its load of the radius (R37, R153). -/
def fwLateOf (d : Dev) (p : PortId) (t : Nat) : FwLate :=
  let sp := (d.port p).cells.setpoint.cur.val
  ⟨d.slotOf p + (t + 18) / 200, (d.lane p.lane).tick t, q16 sp.id, q16 sp.iq⟩

/-- The block once a K_FW_VLIM that starts at tick t has read a fresh setpoint cell (R153). -/
def takeSetpoint (d : Dev) (p : PortId) (t : Nat) : Dev :=
  let y := d.port p
  let r := y.cells.setpoint.cur
  d.judgedRead p (fun x => { x with
    cons := { x.cons with sp0 := y.cons.sp0.after r (d.slotOf p) }
    e0 := x.e0.withSetpoint (startsFromZero y.e0.fl.sp.flags r.val.flags) r.val (fwLateOf d p t) })
    6 (y.cons.sp0.skipped r) false false

theorem e0_takeSetpoint (d : Dev) (p : PortId) (t : Nat) : ((takeSetpoint d p t).port p).e0 =
    (d.port p).e0.withSetpoint (startsFromZero (d.port p).e0.fl.sp.flags (d.port p).cells.setpoint.cur.val.flags)
      (d.port p).cells.setpoint.cur.val (fwLateOf d p t) := by
  rw [takeSetpoint, Dev.port_judgedRead_fresh]

/-- The read of the setpoint cell leaves the radius (R114). -/
theorem radius_takeSetpoint (d : Dev) (p : PortId) (t : Nat) : (takeSetpoint d p t).pnum p 0x40 0x12 = d.pnum p 0x40 0x12 := by
  refine Dev.num_judgedRead _ _ _ _ _ _ _ ?_ ?_ (by decide) ?_ (by decide) <;> simp only [pidx, objKey] <;> omega

/-! ### The rest, with the radius -/

section
variable {d : Dev} {p : PortId}

/-- The rest of K_FW_VLIM leaves the integrators. -/
theorem integrators_kFwVlimCalc (w : FwLate) (d : Dev) :
    ((kFwVlimCalc p w d).port p).e0.st.xd = (d.port p).e0.st.xd ∧ ((kFwVlimCalc p w d).port p).e0.st.xq = (d.port p).e0.st.xq := by
  unfold kFwVlimCalc
  simp only [Dev.port_onE0, and_self]

/-- A port that does not drive gets zero references (R153, R158). -/
theorem references_kFwVlimCalc_notDriving (w : FwLate) (h : flagDriving (d.port p).e0.fl.sp.flags = false) :
    let v := ((kFwVlimCalc p w d).port p).e0.st
    v.idRef = 0 ∧ v.iqRef = 0 ∧ v.idFw = 0 := by
  simp [kFwVlimCalc, h]

theorem limitVector_within {rule vd vq mag mx : Int} (h : mag ≤ mx) : limitVector rule vd vq mag mx = (vd, vq) := if_pos h

/-- The rest of K_FW_VLIM for a vector within V_max: the vector passes, and the check words are stored at their offsets (R154, R158,
R475). -/
theorem kFwVlimCalc_within (w : FwLate)
    (h : norm2 (d.port p).e0.fr.vdCmd (d.port p).e0.fr.vqCmd ≤ vMax (d.pnum p 0x40 0x12) (d.port p).e0.fr.vbus) :
    let f := (d.port p).e0.fr
    let e := ((kFwVlimCalc p w d).port p).e0
    e.fr.vd = f.vdCmd ∧ e.fr.vq = f.vqCmd ∧ e.fl.volLim = false ∧ e.fl.sp = (d.port p).e0.fl.sp ∧
    (⟨w.tick + 30, 1, twoS14 f.id f.iq⟩ : WordStore) ∈ e.fl.stores ∧
    (⟨w.tick + 36, 2, twoS14 f.vdCmd f.vqCmd⟩ : WordStore) ∈ e.fl.stores ∧
    (⟨w.tick + 42, 3, unsignedOf 16 f.vbus⟩ : WordStore) ∈ e.fl.stores := by
  simp [kFwVlimCalc, Dev.fieldWeak, limitVector_within h, h]

/-! ### The body of the kernel -/

section
variable {t : Nat} (hst : (d.port p).cons.sp0.stale (d.port p).cells.setpoint.cur (d.slotOf p) = false)
include hst

/-- K_FW_VLIM with a fresh setpoint cell: the cell is taken, and the rest follows in this slot or waits for that of the load (R37,
R114, R153). -/
theorem kFwVlimBody_fresh : kFwVlimBody p t d =
    if t + 18 < 200 then kFwVlimCalc p (fwLateOf d p t) (takeSetpoint d p t) else takeSetpoint d p t := by
  unfold kFwVlimBody
  dsimp only
  rw [hst, Consumer.after_fresh hst]
  simp only [useSetpoint, Bool.false_and, Bool.or_false, takeSetpoint, Dev.judgedRead, Dev.tripIf, Bool.false_eq_true, if_false]
  rfl

/-- K_FW_VLIM in a port that does not drive, with a vector within V_max (R153, R154, R158, R475). -/
theorem kFwVlimBody_notDriving_within (ht : t + 18 < 200)
    (hdrive : flagDriving (d.port p).cells.setpoint.cur.val.flags = false)
    (hwithin : norm2 (d.port p).e0.fr.vdCmd (d.port p).e0.fr.vqCmd ≤ vMax (d.pnum p 0x40 0x12) (d.port p).e0.fr.vbus) :
    let f := (d.port p).e0.fr
    let T := (d.lane p.lane).tick t
    let e := ((kFwVlimBody p t d).port p).e0
    e.fr.vd = f.vdCmd ∧ e.fr.vq = f.vqCmd ∧ e.fl.volLim = false ∧ e.st.idRef = 0 ∧ e.st.iqRef = 0 ∧ e.st.idFw = 0 ∧
    e.st.xd = 0 ∧ e.st.xq = 0 ∧ e.fl.sp = (d.port p).cells.setpoint.cur.val ∧
    (⟨T + 30, 1, twoS14 f.id f.iq⟩ : WordStore) ∈ e.fl.stores ∧
    (⟨T + 36, 2, twoS14 f.vdCmd f.vqCmd⟩ : WordStore) ∈ e.fl.stores ∧
    (⟨T + 42, 3, unsignedOf 16 f.vbus⟩ : WordStore) ∈ e.fl.stores := by
  have he := e0_takeSetpoint d p t
  rw [startsFromZero_of_notDriving hdrive] at he
  rw [kFwVlimBody_fresh hst, if_pos ht]
  obtain ⟨hxd, hxq⟩ := integrators_kFwVlimCalc (p := p) (fwLateOf d p t) (takeSetpoint d p t)
  obtain ⟨hid, hiq, hfw⟩ := references_kFwVlimCalc_notDriving (p := p) (d := takeSetpoint d p t) (fwLateOf d p t)
    (by rwa [he, E0.fl_withSetpoint])
  obtain ⟨hvd, hvq, hvol, hsp, hchkI, hchkV, hchkB⟩ := kFwVlimCalc_within (p := p) (d := takeSetpoint d p t) (fwLateOf d p t)
    (by rwa [he, E0.fr_withSetpoint, radius_takeSetpoint])
  simp only [he, E0.fr_withSetpoint, E0.fl_withSetpoint] at hxd hxq hvd hvq hsp hchkI hchkV hchkB
  exact ⟨hvd, hvq, hvol, hid, hiq, hfw, hxd, hxq, hsp, hchkI, hchkV, hchkB⟩

/-- K_FW_VLIM where the flags enter CLOSED (R153). -/
theorem kFwVlimBody_entersClosed (hnew : flagState (d.port p).cells.setpoint.cur.val.flags = 4)
    (hold : flagState (d.port p).e0.fl.sp.flags ≠ 4) :
    ((kFwVlimBody p t d).port p).e0.st.xd = 0 ∧ ((kFwVlimBody p t d).port p).e0.st.xq = 0 := by
  have he := e0_takeSetpoint d p t
  rw [startsFromZero_of_entry hnew hold] at he
  rw [kFwVlimBody_fresh hst]
  split_ifs
  · obtain ⟨hxd, hxq⟩ := integrators_kFwVlimCalc (p := p) (fwLateOf d p t) (takeSetpoint d p t)
    rw [hxd, hxq, he]
    exact E0.integrators_withSetpoint_fromZero ..
  · rw [he]
    exact E0.integrators_withSetpoint_fromZero ..

/-- A K_FW_VLIM whose load is performed in a later slot waits for it (R37, R114). -/
theorem kFwVlimBody_waits (ht : 200 ≤ t + 18) :
    let e := ((kFwVlimBody p t d).port p).e0
    e.late = some (fwLateOf d p t) ∧ e.fl.stores = (d.port p).e0.fl.stores ∧
    e.fl.sp = (d.port p).cells.setpoint.cur.val := by
  rw [kFwVlimBody_fresh hst, if_neg (by omega), e0_takeSetpoint]
  dsimp only
  rw [E0.late_withSetpoint, E0.fl_withSetpoint]
  exact ⟨rfl, rfl, rfl⟩

end
end

theorem voltageCommandIsFormedAndLimited : Says.VoltageCommandIsFormedAndLimited := by
  intro s p t
  have hslot := Dev.slotOf_begin0 s.dev p
  refine ⟨fun hr hoff => answers_kernel0 hr rfl fun u hu => ?_, fun i hr hi => ⟨fun hn => ?_, fun hn => ?_⟩,
    fun hr hsrc => answers_kernel0 hr rfl fun u hu => ?_,
    fun hr h2 h3 => exec_kernel0_of_fixed hr rfl (kHfiInjBody_silent h2 h3),
    fun hr ht hdrive hst hwithin => answers_kernel0 hr rfl fun u hu => ?_,
    fun hr hnew hold hst => answers_kernel0 hr rfl fun u hu => ?_,
    fun hr ht hst => answers_kernel0 hr rfl fun u hu => ?_⟩
  · rw [hu]
    exact kDecoupleBody_off hoff
  · rw [exec_kMtpa hr hi, State.upd, kMtpaBody_bound hn]
    rfl
  · rw [exec_kMtpa hr hi, State.upd, kMtpaBody_mismatch hn]
    rfl
  · rw [hu]
    exact kHfiInjBody_injecting hsrc
  · rw [hu, ← Dev.lane_begin0 s.dev p]
    exact kFwVlimBody_notDriving_within (hslot ▸ hst) ht hdrive hwithin
  · rw [hu]
    exact kFwVlimBody_entersClosed (hslot ▸ hst) hnew hold
  · rw [hu, ← hslot, ← Dev.lane_begin0 s.dev p]
    exact kFwVlimBody_waits (hslot ▸ hst) ht

/-- Settles O6: each kernel changes engine 0 as earlier kernels have left it, and the formula of its body is exact where the statement
gives a value; K_FW_VLIM with a fresh setpoint cell takes it first, and what follows its load of the radius leaves the integrators. -/
theorem currentControlFormsTheVoltage : Obligations.CurrentControlFormsTheVoltage :=
  ⟨clarkeAndParkTransformTheFrame, currentControllersFollowTheReferences, voltageCommandIsFormedAndLimited⟩

end Sys2Proof.Machine
end

section
/-! PROOF. The start-up kernels of engine 1, and K_ANG_OUT's write of the angle cell (R39, R171, R200, R216, R218 to R220, R472). -/

namespace Sys2Proof.Machine

variable {d : Dev} {p : PortId} {t : Nat}

/-- A kernel that the image places answers with its body's effect. -/
theorem answers_kernel {c : Instr} {s : State} {r : EngineRole} {id : Nat} {f : Dev → Dev} {P : State → Prop}
    (hr : s.dev.runs p r id t = true) (hc : exec c s = .next (s.awake (kernel p r id t f)))
    (h : ∀ u : State, u.dev = f s.dev → P u) : Answers c s P :=
  answers_of_awake (Dev.runs_awake hr) hc fun u hu => h u (hu.trans (if_pos hr))

/-! ### The start-up kernels -/

theorem kAlignBody_aligning (hm : d.pnum p 0x80 1 = 0) (h : (d.port p).e1.start.phase = 1) :
    kAlignBody p d = d.onE1 p fun e => { e with start := { e.start with
      theta := q16 (d.pnum p 0x80 2), freq := 0, refSlot := (d.slotOf p : Nat) } } :=
  if_pos ⟨hm, .inl h⟩

/-- A due request for RAMP is made, and none is due behind it. -/
theorem Dev.port_rampRequest (d : Dev) (p : PortId) (t : Nat) :
    ((d.rampRequest p t).port p).e1.start.rampDue = false ∧
    ((d.rampRequest p t).port p).reg.reqE1 = if (d.port p).e1.start.rampDue then
      some ⟨d.slotOf p + lastSlots t 72, .ramp, false, false⟩ else (d.port p).reg.reqE1 := by
  unfold rampRequest
  split_ifs with hdue
  · rw [port_onPort]
    exact ⟨rfl, rfl⟩
  · exact ⟨Bool.eq_false_iff.mpr hdue, rfl⟩

/-- In the slot in which the ramp phase begins no time has run: the ramp stands at its start. -/
theorem kIfRampBody_begins (hphase : (d.port p).e1.start.phase = 2) (hslot : (d.port p).e1.start.phaseSlot = d.slotOf p) :
    kIfRampBody p t d = (d.rampRequest p t).onE1 p fun e => { e with start := { e.start with
      theta := wrapAngQ (q16 (d.pnum p 0x80 2)), freq := q16 (d.pnum p 0x80 7), refSlot := (d.slotOf p : Nat) } } := by
  rw [kIfRampBody]
  dsimp only
  rw [if_pos hphase, hslot]
  simp

/-- A handover that runs outside a hold frame counts by the blend. -/
theorem handCount_kHandoverBody {b : Blend} (hrun : d.handoverRuns p = true) (hhold : (d.port p).e1.bemf.hold = false)
    (hm : d.pnum p 0x80 1 = 0) (hb : d.blendOf p = some b) :
    ((kHandoverBody p t d).port p).e1.start.handCount =
      if pllSpeed (d.pnum p 0x80 0xA) 1 ≤ (d.port p).e1.start.dir * b.w ∧ d.pnat p 0x80 0xB ≤ b.conf then
        (d.port p).e1.start.handCount + 1 else 0 := by
  rw [kHandoverBody]
  dsimp only
  rw [if_pos (by rw [hrun, hhold]; rfl), Dev.onE1, Dev.port_onPort, if_pos hm, hb]
  rfl

theorem startUpKernelsFollowThePhases : Says.StartUpKernelsFollowThePhases := by
  intro s p t e
  refine ⟨fun hr hm hphase => answers_kernel hr rfl fun u hu => ?_, fun hr hphase hslot => answers_kernel hr rfl fun u hu => ?_,
    fun hr hrun hhold hm b hb => answers_kernel hr rfl fun u hu => ?_⟩
  · rw [hu, kAlignBody_aligning hm hphase, Dev.onE1, Dev.port_onPort]
    exact ⟨rfl, rfl, rfl⟩
  · obtain ⟨hdue, hreq⟩ := s.dev.port_rampRequest p t
    rw [hu, kIfRampBody_begins hphase hslot, Dev.onE1, Dev.port_onPort]
    exact ⟨rfl, rfl, hdue, hreq⟩
  · rw [hu]
    exact handCount_kHandoverBody hrun hhold hm hb

/-! ### The angle cell -/

/-- K_ANG_OUT of a port with a feedback interface. -/
theorem cells_kAngOutBody_feedback (h : d.sensorless p = false) :
    ((kAngOutBody p t d).port p).cells = { (d.port p).cells with
      angle := (d.port p).cells.angle.write (d.slotOf p + writeSlots t 22 + 1) (d.slotOf p + writeSlots t 22) false
        ⟨wrapAng (ofQ (d.port p).e1.fb.theta), satS 32 (ofQ (d.port p).e1.fb.wf), d.fbConf p, 0⟩ } := by
  rw [kAngOutBody, Dev.port_onPort, h]
  rfl

/-- K_ANG_OUT of a sensorless port. -/
theorem angle_kAngOutBody_sensorless (h : d.sensorless p = true) :
    let n := d.slotOf p + writeSlots t 22
    let r := d.sensorlessAngle p (n : Nat)
    ((kAngOutBody p t d).port p).cells.angle = (d.port p).cells.angle.write (n + 1) n false
      ⟨wrapAng (ofQ r.1), satS 32 (ofQ r.2.1), r.2.2.1, r.2.2.2⟩ := by
  dsimp only
  rw [kAngOutBody, Dev.port_onPort, h]
  rfl

theorem Dev.fbConf_of_fault (h : (d.port p).e1.fb.flags.fault = true) : d.fbConf p = 0 := by
  simp [fbConf, h]

/-- In OFF a sensorless port holds its angle (R216). -/
theorem Dev.sensorlessAngle_off (h : d.pstate p = .off) (W : Int) :
    d.sensorlessAngle p W = (q16 (d.port p).e1.angle, 0, 0, 1) := by
  have hrow : d.angleRow p = .held := by
    rw [angleRow]
    rw [h]
  rw [sensorlessAngle]
  dsimp only
  rw [hrow]

/-- An angle of one turn carried in Q16 is written as it is. -/
theorem wrapAng_ofQ_q16 {a : Int} (h0 : 0 ≤ a) (h1 : a < 16384) : wrapAng (ofQ (q16 a)) = a := by
  rw [ofQ, q16, roundHA_mul_self h0 (by decide), wrapAng, Int.emod_eq_of_lt h0 h1]

theorem angOutWritesTheAngleCell : Says.AngOutWritesTheAngleCell := by
  intro s p t hr e n
  refine ⟨fun h => answers_kernel hr rfl fun u hu => ?_, Dev.fbConf_of_fault,
    fun h hoff => answers_kernel hr rfl fun u hu => ?_⟩
  · rw [hu]
    exact cells_kAngOutBody_feedback h
  · rw [hu, angle_kAngOutBody_sensorless h]
    rw [Dev.sensorlessAngle_off hoff]
    exact ⟨_, rfl, wrapAng_ofQ_q16⟩

/-- Settles O10: each start-up kernel writes what its phase gives, the ramp at its beginning with no time run; K_ANG_OUT writes the
row of R216 for OFF, or the feedback's angle and confidence. -/
theorem startKernelsRunAndTheAngleIsWritten : Obligations.StartKernelsRunAndTheAngleIsWritten :=
  ⟨startUpKernelsFollowThePhases, angOutWritesTheAngleCell⟩

end Sys2Proof.Machine
end

section
/-! SUPPORT. Changes of engine 2's motion states and outputs, and the kernels that act once in a speed frame (R169, R173, R174). -/

namespace Sys2Proof.Machine

namespace Dev

/-! ### Changes of engine 2 -/

section
variable (d : Dev) (p : PortId) (f : E2Motion → E2Motion) (o : E2Out → E2Out)

@[simp] theorem port_onMo : (d.onMo p f).port p =
    { d.port p with e2 := { (d.port p).e2 with mo := f (d.port p).e2.mo } } := port_onPort ..

@[simp] theorem port_onOut : (d.onOut p o).port p =
    { d.port p with e2 := { (d.port p).e2 with out := o (d.port p).e2.out } } := port_onPort ..

@[simp] theorem pstate_onMo : (d.onMo p f).pstate p = d.pstate p := by rw [pstate, port_onMo, pstate]

@[simp] theorem torqueMode_onMo (q : PortId) : (d.onMo p f).torqueMode q = d.torqueMode q := rfl

@[simp] theorem paired_onMo (q : PortId) : (d.onMo p f).paired q = d.paired q := rfl

@[simp] theorem target_onMo : (d.onMo p f).target p = d.target p := by
  rw [target, speedSetpoint, port_onMo]
  rfl

/-- Engine 2's read of the port state changes what it shows alone. -/
theorem readState_eq_onMo : ∃ v, d.readState p = d.onMo p fun m => { m with view := v } := by
  by_cases h : (d.port p).reg.reqE2.isSome = true
  · exact ⟨(d.port p).e2.mo.view, congrArg (d.setPort p) (if_pos h)⟩
  · exact ⟨(d.port p).reg.state, congrArg (d.setPort p) (if_neg h)⟩

end

/-! ### Once in a speed frame -/

section
variable {d : Dev} {p : PortId} {id : Nat} {f : Dev → Dev}

/-- The block with an occurrence of a kernel in the present speed frame noted. -/
def frameNoted (d : Dev) (p : PortId) (id : Nat) : Dev :=
  d.onMo p fun m => { m with acted := mapInsert id (d.speedStart p) m.acted }

theorem oncePerFrame_first (h : mapFind id (d.port p).e2.mo.acted ≠ some (d.speedStart p)) :
    d.oncePerFrame p id f = f (d.frameNoted p id) := if_neg h

theorem oncePerFrame_again (h : mapFind id (d.port p).e2.mo.acted = some (d.speedStart p)) :
    d.oncePerFrame p id f = d := if_pos h

end
end Dev
end Sys2Proof.Machine
end

section
/-! PROOF. Ramps, speed controller and torque setpoint (R173, R174, R177 to R179). -/

namespace Sys2Proof.Machine

variable {d : Dev} {p : PortId}

/-! ### Ramps -/

namespace Dev

section
variable {id : Nat} {f : Dev → Int → Int → Int → Bool → Int × Int × Bool}

/-- Outside CLOSED the ramp follows the filtered speed. -/
theorem mo_rampOnce_notClosed (hfirst : mapFind id (d.port p).e2.mo.acted ≠ some (d.speedStart p)) (h : d.pstate p ≠ .closed) :
    let m := ((d.oncePerFrame p id fun d => d.rampFrame p (f d)).port p).e2.mo
    m.r = (d.port p).e2.mo.wf ∧ m.a = 0 ∧ m.held = false := by
  rw [oncePerFrame_first hfirst, rampFrame]
  obtain ⟨v, hv⟩ := (d.frameNoted p id).readState_eq_onMo p
  dsimp only
  rw [hv, frameNoted, if_pos (by rwa [pstate_onMo, pstate_onMo]), port_onMo, port_onMo, port_onMo]
  exact ⟨rfl, rfl, rfl⟩

/-- In CLOSED a ramp that is not held takes its step. -/
theorem mo_rampOnce_closed (hf : ∀ m, f (d.onMo p m) = f d)
    (hfirst : mapFind id (d.port p).e2.mo.acted ≠ some (d.speedStart p)) (h : d.pstate p = .closed)
    (hheld : (d.port p).e2.mo.held = false) :
    let m := ((d.oncePerFrame p id fun d => d.rampFrame p (f d)).port p).e2.mo
    let m₀ := (d.port p).e2.mo
    let q := f d m₀.r m₀.a (d.target p * 65536) m₀.endZero
    m.r = q.1 ∧ m.a = q.2.1 ∧ m.endZero = q.2.2 := by
  rw [oncePerFrame_first hfirst, frameNoted, hf, ← frameNoted, rampFrame]
  obtain ⟨v, hv⟩ := (d.frameNoted p id).readState_eq_onMo p
  dsimp only
  rw [hv, frameNoted, if_neg (by rw [pstate_onMo, pstate_onMo, h]; decide), port_onMo, port_onMo, if_neg (by rw [hheld]; decide),
    port_onMo, port_onMo, port_onMo, target_onMo, target_onMo]
  exact ⟨rfl, rfl, rfl⟩

end
end Dev

theorem rampsStepOncePerSpeedFrame : Says.RampsStepOncePerSpeedFrame := by
  intro s p t d m goal
  refine ⟨fun hr hfirst hst => answers_kernel2 hr rfl fun u hu => ?_,
    fun hr hfirst hst hheld => answers_kernel2 hr rfl fun u hu => ?_,
    fun hr hfirst hst hheld => answers_kernel2 hr rfl fun u hu => ?_, fun hr hagain => ?_, fun hr hagain => ?_⟩
  · rw [hu]
    exact Dev.mo_rampOnce_notClosed hfirst hst
  · rw [hu]
    exact (Dev.mo_rampOnce_closed (fun _ => rfl) hfirst hst hheld).1
  · rw [hu]
    exact Dev.mo_rampOnce_closed (f := fun d => d.sStep p) (fun _ => rfl) hfirst hst hheld
  · rw [exec_kernel2 (f := kRampBody p) hr rfl, kRampBody, Dev.oncePerFrame_again hagain]
  · rw [exec_kernel2 (f := kScurveBody p) hr rfl, kScurveBody, Dev.oncePerFrame_again hagain]

/-! ### Speed controller -/

namespace Dev

section
variable (d : Dev) (p : PortId)

@[simp] theorem lanes_readAng2 : (d.readAng2 p).lanes = d.lanes := by rw [readAng2_eq, lanes_judgedRead]

@[simp] theorem image_readAng2 : (d.readAng2 p).image = d.image := by
  rw [readAng2_eq, judgedRead, tripIf_keeps (g := image) fun d => image_trip d p _ _]
  unfold countRead
  split_ifs <;> rfl

@[simp] theorem speedStart_readAng2 : (d.readAng2 p).speedStart p = d.speedStart p := by
  simp only [speedStart, slotEntry, image_readAng2, slotOf_readAng2, lane, lanes_readAng2]

@[simp] theorem paired_readAng2 : (d.readAng2 p).paired p = d.paired p := by
  rw [paired, pairDeclared, image_readAng2]
  rfl

@[simp] theorem torqueMode_readAng2 : (d.readAng2 p).torqueMode p = d.torqueMode p := by
  have hmode : (d.readAng2 p).pnum p 0x60 1 = d.pnum p 0x60 1 := by
    rw [readAng2_eq]
    exact num_judgedRead _ _ _ _ _ _ _ (by unfold pidx; omega) (by unfold pidx; omega) (by decide)
      (by unfold objKey pidx; omega) (by decide)
  rw [torqueMode, hmode, torqueMode]

/-- The read leaves of a port what the consumer, engine 2's copy of the speed, the faults and the unit do not hold. -/
theorem readAng2_keeps {β : Type} {g : Port → β} (hg : ∀ x fs u, g (x.guarded fs u) = g x)
    (hread : ∀ x c w, g { x with cons := c, e2 := { x.e2 with mo := { x.e2.mo with wCell := w } } } = g x) :
    g ((d.readAng2 p).port p) = g (d.port p) := by
  rw [readAng2_eq, judgedRead_keeps _ _ _ _ _ _ _ hg]
  exact hread ..

@[simp] theorem pstate_readAng2 : (d.readAng2 p).pstate p = d.pstate p :=
  d.readAng2_keeps p (g := fun x => x.reg.state) (fun _ _ _ => rfl) fun _ _ _ => rfl

@[simp] theorem acted_readAng2 : ((d.readAng2 p).port p).e2.mo.acted = (d.port p).e2.mo.acted :=
  d.readAng2_keeps p (g := fun x => x.e2.mo.acted) (fun _ _ _ => rfl) fun _ _ _ => rfl

@[simp] theorem out_readAng2 : ((d.readAng2 p).port p).e2.out = (d.port p).e2.out :=
  d.readAng2_keeps p (g := fun x => x.e2.out) (fun _ _ _ => rfl) fun _ _ _ => rfl

/-- The block as K_SPD_PI acts on it in the first occurrence of a speed frame: the angle cell and the port state read, the
occurrence noted. -/
def spdBase : Dev := ((d.readAng2 p).frameNoted p 0x43).readState p

theorem spdBase_keeps : (d.spdBase p).pstate p = d.pstate p ∧ (d.spdBase p).torqueMode p = d.torqueMode p ∧
    (d.spdBase p).paired p = d.paired p ∧ ((d.spdBase p).port p).e2.out = (d.port p).e2.out := by
  obtain ⟨v, hv⟩ := ((d.readAng2 p).frameNoted p 0x43).readState_eq_onMo p
  rw [spdBase, hv]
  simp [frameNoted]

end
end Dev

/-- In OFF the filtered speed and the integrator are zero. -/
theorem mo_kSpdPiBody_off (hfirst : mapFind 0x43 (d.port p).e2.mo.acted ≠ some (d.speedStart p)) (h : d.pstate p = .off) :
    let m := ((kSpdPiBody p d).port p).e2.mo
    m.wf = 0 ∧ m.x = 0 ∧ m.sat = false := by
  obtain ⟨hstate, -, -, -⟩ := d.spdBase_keeps p
  have hoff := hstate.trans h
  have hwf : (d.spdBase p).filteredSpeed p = 0 := if_pos (by rw [hoff]; rfl)
  rw [kSpdPiBody, Dev.oncePerFrame_first (by rwa [Dev.acted_readAng2, Dev.speedStart_readAng2])]
  dsimp only
  rw [← Dev.spdBase, if_pos (by rw [Dev.pstate_onMo, hoff]; decide), hwf]
  split_ifs
  · rw [Dev.port_onMo, Dev.port_onMo]
    exact ⟨rfl, rfl, rfl⟩
  · rw [Dev.port_onOut, Dev.port_onMo, Dev.port_onMo]
    exact ⟨rfl, rfl, rfl⟩

/-- In CLOSED in speed mode the Iq setpoint is the controller's output within the current limit. -/
theorem out_kSpdPiBody_closed (hfirst : mapFind 0x43 (d.port p).e2.mo.acted ≠ some (d.speedStart p))
    (h : d.pstate p = .closed) (hm : d.torqueMode p = false) (hp : d.paired p = false) :
    ∃ v, ((kSpdPiBody p d).port p).e2.out =
      { (d.port p).e2.out with idSp := 0, iqSp := clampAbs (d.port p).e2.out.iLim v } := by
  obtain ⟨hstate, hmode, hpaired, hout⟩ := d.spdBase_keeps p
  rw [kSpdPiBody, Dev.oncePerFrame_first (by rwa [Dev.acted_readAng2, Dev.speedStart_readAng2])]
  dsimp only
  rw [← Dev.spdBase, if_neg (by rw [Dev.pstate_onMo, hstate, h]; decide),
    if_neg (by rw [Dev.torqueMode_onMo, hmode, hm]; decide), if_neg (by rw [Dev.paired_onMo, hpaired, hp]; decide),
    Dev.port_onOut, Dev.port_onMo, Dev.port_onMo, hout]
  exact ⟨_, rfl⟩

theorem clampAbs_bounds {m : Int} (h : 0 ≤ m) (v : Int) : -m ≤ clampAbs m v ∧ clampAbs m v ≤ m :=
  clampI_bounds (by omega) v

theorem speedControllerStaysWithinTheLimit : Says.SpeedControllerStaysWithinTheLimit := by
  intro s p t hr d e hfirst
  refine ⟨fun hoff => answers_kernel2 hr rfl fun u hu => ?_,
    fun hst hspeed halone hlim => answers_kernel2 hr rfl fun u hu => ?_⟩
  · rw [hu]
    exact mo_kSpdPiBody_off hfirst hoff
  · obtain ⟨v, hv⟩ := out_kSpdPiBody_closed hfirst hst hspeed halone
    obtain ⟨hlow, hhigh⟩ := clampAbs_bounds hlim v
    rw [hu, hv]
    exact ⟨rfl, hlow, hhigh, rfl⟩

/-! ### Torque setpoint -/

/-- Whether the torque setpoint's current would drive further a speed beyond the speed limit (R179). -/
def Dev.drivesBeyond (d : Dev) (p : PortId) : Prop :=
  let iq := d.torqueCurrent p (d.port p).e2.cmd.trq
  let wf := (d.port p).e2.mo.wf
  d.pnum p 0x60 8 * 65536 < absI wf ∧ iq ≠ 0 ∧ sgn iq = sgn wf

/-- In CLOSED in torque mode Iq is the torque setpoint's, cut where it would drive beyond the limit. -/
theorem port_kTrqSetBody_closed (hm : d.torqueMode p = true) (h : d.pstate p = .closed) :
    let e := ((kTrqSetBody p d).port p).e2
    e.out.idSp = 0 ∧
    (d.drivesBeyond p → e.out.iqSp = 0 ∧ e.mo.limited = true) ∧
    (¬ d.drivesBeyond p → e.out.iqSp = d.torqueCurrent p (d.port p).e2.cmd.trq ∧ e.mo.limited = false) := by
  obtain ⟨v, hv⟩ := d.readState_eq_onMo p
  rw [kTrqSetBody, if_pos hm, hv]
  dsimp only
  rw [if_pos (by rw [Dev.pstate_onMo, h]; rfl), Dev.port_onOut, Dev.port_onMo, Dev.port_onMo]
  exact ⟨rfl, fun hfast => ⟨if_pos hfast, decide_eq_true hfast⟩, fun hslow => ⟨if_neg hslow, decide_eq_false hslow⟩⟩

theorem kTrqSetBody_speedMode (h : d.torqueMode p = false) : kTrqSetBody p d = d := if_neg (by simp [h])

theorem torqueSetpointIsCutBeyondTheSpeedLimit : Says.TorqueSetpointIsCutBeyondTheSpeedLimit := by
  intro s p t d e iq
  refine ⟨fun hr hm hst => answers_kernel2 hr rfl fun u hu => ?_, fun hr hm => ?_⟩
  · obtain ⟨hid, hfast, hslow⟩ := port_kTrqSetBody_closed hm hst
    rw [hu]
    exact ⟨hfast, hslow, hid⟩
  · rw [exec_kernel2 (f := kTrqSetBody p) hr rfl, kTrqSetBody_speedMode hm]

/-- Settles O12: the kernels that act once in a speed frame note the frame and read the port state, which leaves what they work on;
the ramps then take their step, the speed controller's output is limited last, and K_TRQ_SET's current is cut last. -/
theorem speedLoopFormsTheSetpoints : Obligations.SpeedLoopFormsTheSetpoints :=
  ⟨rampsStepOncePerSpeedFrame, speedControllerStaysWithinTheLimit, torqueSetpointIsCutBeyondTheSpeedLimit⟩

end Sys2Proof.Machine
end

section
/-! PROOF. Requests to the port state register: which one prevails, and what an entry into a state leaves of the register and of
the other ports (R170, R171, R183, R275). -/

namespace Sys2Proof.Machine

variable {d e e' : Dev} {p : PortId} {q : StateReq} {n : Nat}

/-! ### The request that prevails -/

theorem PortReg.winner_of_unit {r : PortReg} (hq : r.reqUnit = some q) (hslot : q.slot < n) :
    r.winner n = some (q, unitMay r.state q.target q.short) := by
  simp [winner, hq, hslot, Option.filter]

theorem PortReg.winner_of_engine2 {r : PortReg} (hnone : r.reqUnit = none) (hq : r.reqE2 = some q) (hslot : q.slot < n) :
    r.winner n = some (q, e2May r.state q.target) := by
  simp [winner, hnone, hq, hslot, Option.filter]

theorem PortReg.reqE2_cleared {r : PortReg} (hq : r.reqE2 = some q) (hslot : q.slot < n) : (r.cleared n).reqE2 = none := by
  simp [cleared, hq, hslot, Option.filter]

/-- Engine 2 may request no state that stands. -/
theorem e2May_self (a : PortState) : e2May a a = false := by cases a <;> rfl

/-! ### What an entry leaves -/

/-- One port alone has changed, and not its register. -/
structure Dev.RegKept (p : PortId) (d e : Dev) : Prop where
  reg : (e.port p).reg = (d.port p).reg
  others : ∀ x, x ≠ p → e.port x = d.port x

namespace Dev.RegKept

theorem refl (d : Dev) : RegKept p d d := ⟨rfl, fun _ _ => rfl⟩

theorem onPort {f : Port → Port} (h : RegKept p d e) (hf : ∀ x, (f x).reg = x.reg := by exact fun _ => rfl) :
    RegKept p d (e.onPort p f) :=
  ⟨by rw [port_onPort, hf, h.reg], fun x hx => (port_onPort_ne _ _ _ _ hx).trans (h.others x hx)⟩

theorem pput {blk k : Nat} {v : Int} (h : RegKept p d e) : RegKept p d (e.pput p blk k v) := ⟨h.reg, h.others⟩

theorem pinc {blk k : Nat} (h : RegKept p d e) : RegKept p d (e.pinc p blk k) := ⟨h.reg, h.others⟩

theorem ite {c : Prop} [Decidable c] (h : RegKept p d e) (h' : RegKept p d e') : RegKept p d (if c then e else e') := by
  split_ifs
  · exact h
  · exact h'

theorem abandonPass (h : RegKept p d e) : RegKept p d (e.abandonPass p) := by
  unfold Dev.abandonPass
  split
  · exact h.onPort.pput.pinc
  · exact h

theorem startPass (h : RegKept p d e) : RegKept p d (e.startPass p) := .ite h.onPort h.onPort.pput

theorem stopModulator (h : RegKept p d e) : RegKept p d (e.stopModulator p) := by
  unfold Dev.stopModulator
  exact h.onPort

theorem releaseGates (h : RegKept p d e) : RegKept p d (e.releaseGates p) := h.onPort.pput.pput

theorem forgetCatch {src : PortState} (h : RegKept p d e) : RegKept p d (e.forgetCatch p src) := .ite h h.onPort

theorem enterAlign (h : RegKept p d e) : RegKept p d (e.enterAlign p) := by
  unfold Dev.enterAlign
  exact h.onPort

theorem enterClosed {src : PortState} (h : RegKept p d e) : RegKept p d (e.enterClosed p src) :=
  .ite h.onPort.onPort h.onPort

theorem offRelease {src dst : PortState} (h : RegKept p d e) : RegKept p d (e.offRelease p src dst) := .ite h.releaseGates h

end Dev.RegKept

/-- What an entry does before the entered state's own part: a pass abandoned, the modulator stopped, the start phase ended. -/
def Dev.leaving (d : Dev) (p : PortId) (src dst : PortState) : Dev :=
  let d := if src == .armed then d.abandonPass p else d
  let d := if src.driving && !dst.driving then d.stopModulator p else d
  if dst == .align || dst == .ramp then d
  else d.onPort p fun x => { x with e1 := { x.e1 with start := { x.e1.start with phase := 0 } } }

theorem Dev.RegKept.leaving {src dst : PortState} (h : RegKept p d e) : RegKept p d (e.leaving p src dst) := by
  have hpass : RegKept p d (if src == .armed then e.abandonPass p else e) := .ite h.abandonPass h
  have hstop : RegKept p d (if src.driving && !dst.driving then
      (if src == .armed then e.abandonPass p else e).stopModulator p
    else if src == .armed then e.abandonPass p else e) := .ite hpass.stopModulator hpass
  exact .ite hstop hstop.onPort

theorem Dev.RegKept.entered {src : PortState} (h : RegKept p d e) : RegKept p d (e.entered p src q) := by
  have hleft := h.leaving (src := src) (dst := q.target)
  unfold Dev.entered
  dsimp only
  rw [← Dev.leaving]
  split
  · exact hleft.onPort
  · exact hleft.forgetCatch.releaseGates.startPass
  · exact hleft.releaseGates.enterAlign
  · exact hleft
  · exact hleft.releaseGates.enterClosed
  · exact hleft.forgetCatch.onPort
  · exact hleft
  · exact hleft.onPort

/-- An entry into TRIPPED withdraws the re-arming of RUN (R175). -/
theorem Dev.rearmed_entered_tripped {src : PortState} (h : q.target = .tripped) :
    ((d.entered p src q).port p).e2.cmd.rearmed = false := by
  unfold Dev.entered
  rw [h]
  dsimp only
  rw [port_onPort]

/-! ### The transition -/

/-- The register without the requests of the slots before. -/
def Dev.requestsTaken (d : Dev) (p : PortId) : Dev := d.onPort p fun x => { x with reg := x.reg.cleared (d.slotOf p) }

/-- The register with the state entered. -/
def Dev.stateEntered (d : Dev) (p : PortId) (a : PortState) : Dev :=
  (d.requestsTaken p).onPort p fun x => { x with reg := { x.reg with state := a, entrySlot := d.slotOf p } }

theorem Dev.reg_stateEntered (d : Dev) (p : PortId) (a : PortState) : ((d.stateEntered p a).port p).reg =
    { (d.port p).reg.cleared (d.slotOf p) with state := a, entrySlot := d.slotOf p } := by
  rw [stateEntered, requestsTaken, port_onPort, port_onPort]

theorem Dev.port_stateEntered_ne {x : PortId} (a : PortState) (h : x ≠ p) : (d.stateEntered p a).port x = d.port x := by
  rw [stateEntered, requestsTaken, port_onPort_ne _ _ _ _ h, port_onPort_ne _ _ _ _ h]

/-- Whether the register refuses every transition out of OFF (R275). -/
def Dev.heldOff (d : Dev) (p : PortId) : Bool := (d.port p).reg.state == .off && (d.mode == 2 || d.mode == 3)

theorem Dev.heldOff_eq_false (h : (d.port p).reg.state ≠ .off ∨ (d.mode ≠ 2 ∧ d.mode ≠ 3)) : d.heldOff p = false := by
  rcases h with h | ⟨h2, h3⟩
  · simp [heldOff, h]
  · simp [heldOff, h2, h3]

theorem Dev.heldOff_eq_true (hmode : d.mode = 2 ∨ d.mode = 3) (h : (d.port p).reg.state = .off) : d.heldOff p = true := by
  simpa [heldOff, h] using hmode

section
variable {ok : Bool}

theorem portStateTransitionStep_held (hw : (d.port p).reg.winner (d.slotOf p) = some (q, ok)) (h : d.heldOff p = true) :
    portStateTransitionStep p d = d.requestsTaken p := by
  rw [portStateTransitionStep]
  dsimp only
  rw [hw]
  exact if_pos h

theorem portStateTransitionStep_permitted (hw : (d.port p).reg.winner (d.slotOf p) = some (q, true)) (h : d.heldOff p = false)
    (hne : (d.port p).reg.state ≠ q.target) : portStateTransitionStep p d =
      ((d.stateEntered p q.target).entered p (d.port p).reg.state q).offRelease p (d.port p).reg.state q.target := by
  rw [portStateTransitionStep]
  dsimp only
  rw [hw]
  dsimp only
  rw [if_neg (by simpa [Dev.heldOff] using h), if_neg (by simp [hne]), if_pos rfl]
  rfl

theorem portStateTransitionStep_refused (hw : (d.port p).reg.winner (d.slotOf p) = some (q, false)) (h : d.heldOff p = false) :
    portStateTransitionStep p d = (d.requestsTaken p).pinc p 0xA0 5 := by
  rw [portStateTransitionStep]
  dsimp only
  rw [hw]
  dsimp only
  rw [if_neg (by simpa [Dev.heldOff] using h)]
  rfl

end

theorem Dev.port_requestsTaken (d : Dev) (p : PortId) :
    (d.requestsTaken p).port p = { d.port p with reg := (d.port p).reg.cleared (d.slotOf p) } := port_onPort ..

/-- A permitted transition leaves the register with the state entered, and the other ports. -/
theorem regKept_portStateTransitionStep (hw : (d.port p).reg.winner (d.slotOf p) = some (q, true)) (h : d.heldOff p = false)
    (hne : (d.port p).reg.state ≠ q.target) : Dev.RegKept p (d.stateEntered p q.target) (portStateTransitionStep p d) := by
  rw [portStateTransitionStep_permitted hw h hne]
  exact (Dev.RegKept.refl _).entered.offRelease

/-- A refused transition is counted; register and unit stay. -/
theorem portStateTransitionStep_counts (hw : (d.port p).reg.winner (d.slotOf p) = some (q, false)) (h : d.heldOff p = false) :
    let u := portStateTransitionStep p d
    u.pstate p = (d.port p).reg.state ∧ u.pnum p 0xA0 5 = min (d.pnum p 0xA0 5 + 1) 4294967295 ∧
    (u.port p).unit = (d.port p).unit := by
  dsimp only
  rw [portStateTransitionStep_refused hw h, Dev.pnum_pinc, Dev.pstate, Dev.pinc_port, Dev.port_requestsTaken]
  exact ⟨rfl, rfl, rfl⟩

theorem portStateRequestsTakeEffectInTheNextSlot : Says.PortStateRequestsTakeEffectInTheNextSlot := by
  intro s p q hs r n
  refine ⟨fun hunit hq hslot hfree hmay => answers_of_awake hs rfl fun u hu => ?_,
    fun hunit hq hslot hfree hmay => answers_of_awake hs rfl fun u hu => ?_,
    fun hq hslot htrip hoff htripped => answers_of_awake hs rfl fun u hu => ?_,
    fun hq hslot hsame htripped => answers_of_awake hs rfl fun u hu => ?_,
    fun hmode hunit hq hslot hoff => answers_of_awake hs rfl fun u hu => ?_⟩
  · have hw := PortReg.winner_of_engine2 hunit hq hslot
    have hne : r.state ≠ q.target := fun h => by rw [← h, e2May_self] at hmay; exact Bool.false_ne_true hmay
    obtain ⟨hreg, hothers⟩ := regKept_portStateTransitionStep (hmay ▸ hw) (Dev.heldOff_eq_false hfree) hne
    rw [Dev.reg_stateEntered] at hreg
    rw [hu, Dev.pstate, hreg]
    exact ⟨rfl, rfl, PortReg.reqE2_cleared hq hslot, fun x hx => (hothers x hx).trans (Dev.port_stateEntered_ne _ hx)⟩
  · have hw := PortReg.winner_of_engine2 hunit hq hslot
    rw [hu]
    exact portStateTransitionStep_counts (hmay ▸ hw) (Dev.heldOff_eq_false hfree)
  · have hmay : unitMay r.state q.target q.short = true := by simp [htrip, unitMay, hoff, htripped]
    have hw := PortReg.winner_of_unit hq hslot
    have hheld := Dev.heldOff_eq_false (d := s.dev) (.inl hoff)
    have hne : r.state ≠ q.target := htrip ▸ htripped
    have hreg := (regKept_portStateTransitionStep (hmay ▸ hw) hheld hne).reg
    rw [Dev.reg_stateEntered] at hreg
    rw [hu, Dev.pstate, hreg]
    refine ⟨htrip, ?_⟩
    rw [portStateTransitionStep_permitted (hmay ▸ hw) hheld hne, Dev.offRelease, if_neg (by simp [htrip])]
    exact Dev.rearmed_entered_tripped htrip
  · have hmay : unitMay r.state q.target q.short = false := by simp [hsame, htripped, unitMay]
    have hw := PortReg.winner_of_unit hq hslot
    obtain ⟨hstate, hcount, -⟩ := portStateTransitionStep_counts (hmay ▸ hw)
      (Dev.heldOff_eq_false (.inl (by rw [htripped]; decide)))
    rw [hu]
    exact ⟨hstate.trans htripped, hcount⟩
  · rw [hu, portStateTransitionStep_held (PortReg.winner_of_engine2 hunit hq hslot) (Dev.heldOff_eq_true hmode hoff), Dev.pstate,
      Dev.port_requestsTaken]
    exact ⟨hoff, rfl⟩

end Sys2Proof.Machine
end

section
/-! PROOF. A carrier period that starts: the cells of the period that ends, and the new period's beginning (R45, R93, R136). -/

namespace Sys2Proof.Machine

variable {d : Dev} {p : PortId} {o : PeriodIn}

namespace Dev

theorem carrierDue_awake (h : d.carrierDue p = true) : d.frozen = false := by
  unfold carrierDue at h
  split at h
  · exact absurd h Bool.false_ne_true
  · simp only [clocked, Bool.and_eq_true, Bool.not_eq_true'] at h
    obtain ⟨⟨⟨⟨⟨-, hawake⟩, -⟩, -⟩, -⟩, -⟩ := h
    exact hawake

/-! ### The period that ends -/

/-- The drivers' checks change of a port its unit alone. -/
theorem port_driverPeriod (d : Dev) (p : PortId) (o : PeriodIn) :
    ∃ u, (d.driverPeriod p o).port p = { d.port p with unit := u } := by
  unfold driverPeriod
  dsimp only
  rw [incBy_port, incBy_port, port_onPort]
  exact ⟨_, rfl⟩

@[simp] theorem slotOf_driverPeriod (q : PortId) : (d.driverPeriod p o).slotOf q = d.slotOf q := rfl

@[simp] theorem port_countPeriod (q : PortId) (ss : List CurSample) (v : CurVal) : (d.countPeriod p ss v).port q = d.port q := by
  unfold countPeriod
  dsimp only
  split_ifs <;> rfl

@[simp] theorem lanes_countPeriod (ss : List CurSample) (v : CurVal) : (d.countPeriod p ss v).lanes = d.lanes := by
  unfold countPeriod
  dsimp only
  split_ifs <;> rfl

section
variable (d : Dev) (p : PortId) (next : Tri (List Trans)) (k : Nat) (o : PeriodIn)

/-- The ended period writes the current and the bus-voltage cell, and leaves the other cells and the modulator. -/
theorem port_finishPeriod :
    let y := (d.finishPeriod p next k o).port p
    y.cells = { (d.port p).cells with
      current := (d.port p).cells.current.write (d.slotOf p + 1) (d.slotOf p) false (d.currentValue p next k o.cur)
      bus := (d.port p).cells.bus.write (d.slotOf p + 1) (d.slotOf p) false (d.busValue p o.bus) } ∧
    y.mod = (d.port p).mod := by
  unfold finishPeriod
  dsimp only
  split_ifs
  · rw [port_countPeriod, port_onPort]
    exact ⟨rfl, rfl⟩
  · rw [pput_port, port_countPeriod, port_onPort]
    exact ⟨rfl, rfl⟩

@[simp] theorem lanes_finishPeriod : (d.finishPeriod p next k o).lanes = d.lanes := by
  unfold finishPeriod
  dsimp only
  split_ifs
  · rw [lanes_countPeriod, onPort_lanes]
  · rw [pput_lanes, lanes_countPeriod, onPort_lanes]

end

/-- The block with the ended period's cells written, where a period ran. -/
def periodEnded (d : Dev) (p : PortId) (o : PeriodIn) : Dev :=
  if (d.port p).mod.running then
    (d.driverPeriod p o).finishPeriod p (nextTrans (400 * d.frame p) (d.plans p (d.chooseDrive p))) (d.frame p) o
  else d

theorem periodEnded_idle (h : (d.port p).mod.running = false) : d.periodEnded p o = d := if_neg (by simp [h])

@[simp] theorem lanes_periodEnded : (d.periodEnded p o).lanes = d.lanes := by
  unfold periodEnded
  split_ifs
  · rw [lanes_finishPeriod]
    rfl
  · rfl

/-! ### The period that begins -/

theorem judgeDuty_eq_judgedRead (h : (d.port p).reg.state.driving = true) : d.judgeDuty p =
    (let c := (d.port p).cons.dutyM
    let r := (d.port p).cells.duty.cur
    let n := d.slotOf p - 1
    d.judgedRead p (fun x => { x with cons := { x.cons with dutyM := c.after r n } }) 7 (c.skipped r) (c.stale r n)
      (c.rule == .trip)) := if_pos h

/-- The judgement of the duty cell leaves of a port what consumers, faults and unit do not hold. -/
theorem judgeDuty_keeps {β : Type} {g : Port → β} (hg : ∀ x fs u, g (x.guarded fs u) = g x)
    (hread : ∀ x c, g { x with cons := c } = g x) (d : Dev) (p : PortId) : g ((d.judgeDuty p).port p) = g (d.port p) := by
  by_cases h : (d.port p).reg.state.driving = true
  · rw [judgeDuty_eq_judgedRead h, judgedRead_keeps _ _ _ _ _ _ _ hg]
    exact hread ..
  · exact congrArg (fun e : Dev => g (e.port p)) (if_neg h)

/-- The new period begun in slot n with the duties v. -/
def periodBegun (d : Dev) (p : PortId) (n k : Nat) (v : Drive) (q : Tri PhasePlan) : Dev :=
  let d := (d.judgeDuty p).openPeriod p q
  let safe := d.safeOut p
  (d.onPort p fun x => { x with mod := x.mod.begin n v q (400 * k) safe }).incBy (pidx p 0x40) 0x13 (clampCount q)

/-- A period that begins leaves the cells and counts one more. -/
theorem port_periodBegun (d : Dev) (p : PortId) (n k : Nat) (v : Drive) (q : Tri PhasePlan) :
    let y := (d.periodBegun p n k v q).port p
    y.cells = (d.port p).cells ∧ y.mod.startSlot = n ∧ y.mod.periods = (d.port p).mod.periods + 1 ∧ y.mod.running = true := by
  have hcells : ((d.judgeDuty p).port p).cells = (d.port p).cells :=
    judgeDuty_keeps (g := Port.cells) (fun _ _ _ => rfl) (fun _ _ => rfl) d p
  have hmod : ((d.judgeDuty p).port p).mod = (d.port p).mod :=
    judgeDuty_keeps (g := Port.mod) (fun _ _ _ => rfl) (fun _ _ => rfl) d p
  unfold periodBegun
  dsimp only
  rw [incBy_port, port_onPort, openPeriod, port_onPort, ← hcells, ← hmod]
  exact ⟨rfl, rfl, rfl, rfl⟩

end Dev

theorem carrierPeriodStartStep_due (h : d.carrierDue p = true) : carrierPeriodStartStep p o d =
    (d.periodEnded p o).periodBegun p (d.slotOf p) (d.frame p) (d.chooseDrive p) (d.plans p (d.chooseDrive p)) := by
  have hslot : (d.periodEnded p o).slotOf p = d.slotOf p := by
    rw [Dev.slotOf, Dev.lane, Dev.lanes_periodEnded]
    rfl
  rw [← hslot]
  exact if_pos h

theorem carrierPeriodsStartOnTheirGrid : Says.CarrierPeriodsStartOnTheirGrid := by
  intro s p o n x
  refine ⟨fun hdue hrun => answers_of_awake (Dev.carrierDue_awake hdue) rfl fun u hu => ?_,
    fun hdue hrun => answers_of_awake (Dev.carrierDue_awake hdue) rfl fun u hu => ?_, fun hdue => ?_⟩
  · obtain ⟨v, hv⟩ := s.dev.port_driverPeriod p o
    obtain ⟨kcells, kmod⟩ := (s.dev.driverPeriod p o).port_finishPeriod p
      (nextTrans (400 * s.dev.frame p) (s.dev.plans p (s.dev.chooseDrive p))) (s.dev.frame p) o
    obtain ⟨hcells, hslot, hperiods, -⟩ := (s.dev.periodEnded p o).port_periodBegun p n (s.dev.frame p) (s.dev.chooseDrive p)
      (s.dev.plans p (s.dev.chooseDrive p))
    rw [Dev.periodEnded, if_pos hrun] at hcells hslot hperiods
    rw [kcells, Dev.slotOf_driverPeriod] at hcells
    rw [kmod] at hperiods
    rw [hu, carrierPeriodStartStep_due hdue, Dev.periodEnded, if_pos hrun, hcells, hperiods, hslot, hv]
    exact ⟨rfl, rfl, rfl, rfl, rfl, rfl⟩
  · obtain ⟨hcells, hslot, -, hrunning⟩ := s.dev.port_periodBegun p n (s.dev.frame p) (s.dev.chooseDrive p)
      (s.dev.plans p (s.dev.chooseDrive p))
    rw [hu, carrierPeriodStartStep_due hdue, Dev.periodEnded_idle hrun]
    exact ⟨hrunning, hslot, hcells⟩
  · exact congrArg Host.Outcome.next (State.awake_of_fixed (if_neg (by simp [hdue])))

/-- Settles O15: the prevailing request either enters its state, which touches neither the register again nor another port, or
is counted, or is dropped out of OFF; a carrier period writes the ended period's cells first, and what begins the new one leaves
them. -/
theorem portStatesAndCarrierPeriods : Obligations.PortStatesAndCarrierPeriods :=
  ⟨portStateRequestsTakeEffectInTheNextSlot, carrierPeriodsStartOnTheirGrid⟩

end Sys2Proof.Machine
end

section
/-! SUPPORT. Changes of a port's feedback interface and of engine 1's feedback path, a feedback fault with its command, and
commands whose change leaves the block or is a kernel's body (R131, R184, R201). -/

namespace Sys2Proof.Machine

namespace Dev

variable (d : Dev) (p : PortId) (f : FaultId)

@[simp] theorem port_onFb (g : Feedback → Feedback) :
    (d.onFb p g).port p = { d.port p with fb := g (d.port p).fb } := port_onPort ..

@[simp] theorem port_onE1Fb (g : E1Fb → E1Fb) :
    (d.onE1Fb p g).port p = { d.port p with e1 := { (d.port p).e1 with fb := g (d.port p).e1.fb } } := port_onPort ..

/-- A feedback fault sets FB_FAULT, adds to the list of active faults, and arrives at the unit with source 16. -/
theorem port_raiseFb : (d.raiseFb p f).port p = { d.port p with
    faults := d.faultsWith p f
    unit := { (d.port p).unit with arriving := (d.port p).unit.arriving ++ [⟨16, none, false, false⟩] }
    fb := { (d.port p).fb with flags := { (d.port p).fb.flags with fault := true } } } := by
  rw [raiseFb, port_onFb, port_trip]

theorem faulted_onFb (g : Feedback → Feedback) : (d.onFb p g).faulted p f = d.faulted p f := by
  rw [faulted, port_onFb, faulted]

theorem faulted_raiseFb : (d.raiseFb p f).faulted p f = true := (faulted_onFb ..).trans (faulted_trip ..)

/-- 0x3xB0.04 shows the feedback fault raised last (R256). -/
theorem pnum_last_raiseFb : (d.raiseFb p f).pnum p 0xB0 4 = f.code := pnum_last_trip d p f 16

end Dev

/-- A waking command whose change leaves the block leaves the state. -/
theorem exec_of_fixed {c : Instr} {s : State} {f : Dev → Dev} (hc : exec c s = .next (s.awake f)) (h : f s.dev = s.dev) :
    exec c s = .next s :=
  hc.trans (congrArg Host.Outcome.next (State.awake_of_fixed h))

section
variable {c : Instr} {s : State} {p : PortId} {r : EngineRole} {id t : Nat} {f g : Dev → Dev}

/-- A kernel that the image places does what its body does. -/
theorem exec_kernel (hr : s.dev.runs p r id t = true) (hc : exec c s = .next (s.awake (kernel p r id t f)))
    (h : f s.dev = g s.dev) : exec c s = .next (s.upd g) :=
  hc.trans (congrArg Host.Outcome.next (State.awake_eq_upd (Dev.runs_awake hr) ((if_pos hr).trans h)))

/-- A kernel whose body leaves the block leaves the state. -/
theorem exec_kernel_of_fixed (hr : s.dev.runs p r id t = true) (hc : exec c s = .next (s.awake (kernel p r id t f)))
    (h : f s.dev = s.dev) : exec c s = .next s :=
  exec_of_fixed hc ((if_pos hr).trans h)

end

end Sys2Proof.Machine
end

section
/-! PROOF. Quadrature edges: one channel's edge counts, both channels' is illegal and counts nothing, none leaves the block (R185,
R188 to R190). -/

namespace Sys2Proof.Machine

/-- The interface after an illegal edge to the levels a and b: the bucket and the count of illegal edges fill. -/
def Feedback.illegalTo (f : Feedback) (a b : Bool) : Feedback :=
  { f with
    quad := { f.quad with prevA := a, prevB := b, bucket := f.quad.bucket + 1 }
    flags := { f.flags with illegalEdge := true }
    counts := { f.counts with illegal := sat32 (f.counts.illegal + 1) } }

/-- The interface after a counted edge to the levels a and b: a step of n in counts modulo c, stamped. -/
def Feedback.countedTo (f : Feedback) (a b : Bool) (c : Nat) (n : Int) (now : Nat) : Feedback :=
  { f with
    quad := { f.quad with
      prevA := a, prevB := b, edge := now
      q := (countStep c f.quad.q f.quad.p n).1, p := (countStep c f.quad.q f.quad.p n).2 }
    flags := { f.flags with direction := decide (n < 0), illegalEdge := false, motion := true } }

/-- A stamp is the time of the first sample at the level, on the 32-bit counter (R185). -/
theorem Lane.natCast_stamp (l : Lane) (cycle : Nat) {held : Nat} (h : held ≤ 2 ^ 32) :
    (l.stamp cycle held : Int) = ((l.clk cycle : Int) + 1 - held) % 2 ^ 32 := by
  unfold stamp
  omega

section
variable {d : Dev} {p : PortId} {ra rb : LineSample} {cycle : Nat}

/-- The filtered level of channel A with a sample (R185). -/
def Dev.levelA (d : Dev) (p : PortId) (ra : LineSample) : Bool := filtered (d.pnat p 0x70 2) (d.port p).fb.quad.prevA ra

/-- The filtered level of channel B with a sample (R185). -/
def Dev.levelB (d : Dev) (p : PortId) (rb : LineSample) : Bool := filtered (d.pnat p 0x70 2) (d.port p).fb.quad.prevB rb

theorem Dev.quadrature_iff : d.quadrature p = true ↔ d.fbMode p = 1 ∨ d.fbMode p = 2 := by
  simp [quadrature]

variable (ha : (d.lane p.lane).alive = true) (hm : d.fbMode p = 1 ∨ d.fbMode p = 2)
include ha hm

/-- A sample of a quadrature port, by how many channels change. -/
theorem quadratureEdgeStep_eq :
    let x := (d.port p).fb.quad
    let a := d.levelA p ra
    let b := d.levelB p rb
    quadratureEdgeStep p ra rb cycle d =
      if a = x.prevA ∧ b = x.prevB then d
      else if a = x.prevA ∨ b = x.prevB then
        d.onFb p fun f => f.countedTo a b (d.cpr p)
          (quadSign x.prevA x.prevB a b * (if d.pnum p 0x70 4 = 1 then -1 else 1))
          ((d.lane p.lane).stamp cycle (if a = x.prevA then rb.held else ra.held))
      else d.onFb p fun f => f.illegalTo a b :=
  if_pos (Bool.and_eq_true_iff.mpr ⟨ha, Dev.quadrature_iff.mpr hm⟩)

theorem quadratureEdgeStep_illegal (hA : d.levelA p ra ≠ (d.port p).fb.quad.prevA)
    (hB : d.levelB p rb ≠ (d.port p).fb.quad.prevB) :
    quadratureEdgeStep p ra rb cycle d = d.onFb p fun f => f.illegalTo (d.levelA p ra) (d.levelB p rb) := by
  rw [quadratureEdgeStep_eq ha hm, if_neg fun h => hA h.1, if_neg (not_or.mpr ⟨hA, hB⟩)]

theorem quadratureEdgeStep_counted
    (h : d.levelA p ra = (d.port p).fb.quad.prevA ↔ d.levelB p rb ≠ (d.port p).fb.quad.prevB) :
    let x := (d.port p).fb.quad
    quadratureEdgeStep p ra rb cycle d = d.onFb p fun f => f.countedTo (d.levelA p ra) (d.levelB p rb) (d.cpr p)
      (quadSign x.prevA x.prevB (d.levelA p ra) (d.levelB p rb) * (if d.pnum p 0x70 4 = 1 then -1 else 1))
      ((d.lane p.lane).stamp cycle (if d.levelA p ra = x.prevA then rb.held else ra.held)) := by
  have hone : d.levelA p ra = (d.port p).fb.quad.prevA ∨ d.levelB p rb = (d.port p).fb.quad.prevB := by
    by_cases hA : d.levelA p ra = (d.port p).fb.quad.prevA
    · exact .inl hA
    · exact .inr (not_not.mp (mt h.mpr hA))
  rw [quadratureEdgeStep_eq ha hm, if_neg fun hboth => h.mp hboth.1 hboth.2, if_pos hone]

theorem quadratureEdgeStep_none (hA : d.levelA p ra = (d.port p).fb.quad.prevA)
    (hB : d.levelB p rb = (d.port p).fb.quad.prevB) :
    quadratureEdgeStep p ra rb cycle d = d := by
  rw [quadratureEdgeStep_eq ha hm, if_pos ⟨hA, hB⟩]

end

/-- Settles O58: an illegal edge leaves what time stamps, speed and timeout read, and the pair becomes the sample's. -/
theorem illegalEdgesCountNothing : Obligations.IllegalEdgesCountNothing := by
  intro s p ra rb cycle hs ha hm f a b hA hB
  refine answers_of_awake hs rfl fun u hu => ?_
  rw [hu, quadratureEdgeStep_illegal ha hm hA hB, Dev.port_onFb]
  exact ⟨rfl, rfl, rfl, rfl, rfl, fun _ => rfl, rfl, rfl, rfl⟩

theorem quadratureEdgesCountOrFillTheBucket : Says.QuadratureEdgesCountOrFillTheBucket := by
  intro s p ra rb cycle hs ha hm f q n a b
  refine ⟨fun hA hB => answers_of_awake hs rfl fun u hu => ?_, fun h => answers_of_awake hs rfl fun u hu => ?_,
    fun hA hB => exec_of_fixed rfl (quadratureEdgeStep_none ha hm hA hB)⟩
  · rw [hu, quadratureEdgeStep_illegal ha hm hA hB, Dev.port_onFb]
    exact ⟨rfl, rfl, rfl, rfl, rfl, rfl, rfl, rfl⟩
  · rw [hu, quadratureEdgeStep_counted ha hm h, Dev.port_onFb]
    exact ⟨rfl, fun hheld => Lane.natCast_stamp _ _ hheld, rfl, rfl, rfl⟩

end Sys2Proof.Machine
end

section
/-! PROOF. The illegal bucket leaks and trips; index events and presets reference the counts (R131, R185, R190 to R192, R201). -/

namespace Sys2Proof.Machine

variable {d : Dev} {p : PortId}

/-! ### The illegal bucket -/

theorem illegalBucketLeakStep_due (ha : (d.lane p.lane).alive = true)
    (hdue : (d.port p).fb.quad.leakSlot + d.pnat p 0x70 9 * 2000 ≤ d.slotOf p) :
    illegalBucketLeakStep p d = d.onFb p fun f => { f with quad := { f.quad with
      bucket := f.quad.bucket - 1, leakSlot := f.quad.leakSlot + d.pnat p 0x70 9 * 2000 } } :=
  if_pos (by simp [ha, hdue])

theorem illegalBucketLimitStep_trips (hm : d.fbMode p ≠ 0) (hover : d.pnat p 0x70 8 < (d.port p).fb.quad.bucket)
    (hnew : d.faulted p .fbIllegal = false) : illegalBucketLimitStep p d = d.raiseFb p .fbIllegal :=
  if_pos (by simp [hm, hover, hnew])

theorem illegalBucketLimitStep_of_noMode (hm : d.fbMode p = 0) : illegalBucketLimitStep p d = d := if_neg (by simp [hm])

theorem illegalBucketLimitStep_of_faulted (h : d.faulted p .fbIllegal = true) : illegalBucketLimitStep p d = d :=
  if_neg (by simp [h])

theorem illegalBucketLeaksAndTrips : Says.IllegalBucketLeaksAndTrips := by
  intro s p hs q
  refine ⟨fun ha hdue => answers_of_awake hs rfl fun u hu => ?_,
    fun hm hover hnew => answers_of_awake hs rfl fun u hu => ?_,
    fun hm => exec_of_fixed rfl (illegalBucketLimitStep_of_noMode hm),
    fun h => exec_of_fixed rfl (illegalBucketLimitStep_of_faulted h)⟩
  · rw [hu, illegalBucketLeakStep_due ha hdue, Dev.port_onFb]
    exact ⟨rfl, rfl⟩
  · rw [hu, illegalBucketLimitStep_trips hm hover hnew, Dev.port_raiseFb]
    exact ⟨Dev.faulted_raiseFb .., Dev.pnum_last_raiseFb .., rfl, rfl⟩

/-! ### Index events -/

/-- The block with the filtered index line of a sample (R185). -/
def Dev.indexSampled (d : Dev) (p : PortId) (z : LineSample) : Dev :=
  d.onFb p fun f => { f with quad := { f.quad with z := filtered (d.pnat p 0x70 3) (d.port p).fb.quad.z z } }

/-- By how much the raw count misses the configured index value. -/
def Dev.indexDiff (d : Dev) (p : PortId) : Int := d.pnum p 0x70 6 - (d.port p).fb.quad.q

/-- A filtered line rises where it was low and has now been high for long enough. -/
theorem filtered_rises_iff (n : Nat) (was : Bool) (z : LineSample) :
    (filtered n was z && !was) = true ↔ was = false ∧ z.level = true ∧ n < z.held := by
  unfold filtered
  split_ifs with h
  · simp [h, and_comm]
  · simp [h]

section
variable {z : LineSample} (ha : (d.lane p.lane).alive = true) (hm : d.fbMode p = 1)
include ha hm

theorem indexEventStep_eq :
    indexEventStep p z d = if filtered (d.pnat p 0x70 3) (d.port p).fb.quad.z z && !(d.port p).fb.quad.z then
      (d.indexSampled p z).indexEvent p else d.indexSampled p z :=
  if_pos (by simp [ha, hm])

theorem indexEventStep_rises
    (hz : (d.port p).fb.quad.z = false ∧ z.level = true ∧ d.pnat p 0x70 3 < z.held) :
    indexEventStep p z d = (d.indexSampled p z).indexEvent p := by
  rw [indexEventStep_eq ha hm, if_pos ((filtered_rises_iff ..).mpr hz)]

theorem indexEventStep_no_rise
    (hz : ¬ ((d.port p).fb.quad.z = false ∧ z.level = true ∧ d.pnat p 0x70 3 < z.held)) :
    indexEventStep p z d = d.indexSampled p z := by
  rw [indexEventStep_eq ha hm, if_neg (mt (filtered_rises_iff ..).mp hz)]

end

/-- The interface after the first index event, with counts modulo c that miss the configured value by n. -/
def Feedback.indexFirst (f : Feedback) (c : Nat) (n : Int) : Feedback :=
  { f with
    quad := { f.quad with q := shiftBy c f.quad.q n, p := shiftBy c f.quad.p n }
    flags := { f.flags with referenced := true } }

/-- The interface after a later index event at the configured value. -/
def Feedback.indexMatch (f : Feedback) : Feedback :=
  { f with
    quad := { f.quad with missRun := 0 }
    flags := { f.flags with mismatch := false } }

/-- The interface after a later index event that misses the configured value by n, with or without correction. -/
def Feedback.indexMiss (f : Feedback) (c : Nat) (n : Int) (corrects : Bool) : Feedback :=
  { f with
    quad := { f.quad with
      missRun := f.quad.missRun + 1
      q := if corrects then shiftBy c f.quad.q n else f.quad.q
      p := if corrects then shiftBy c f.quad.p n else f.quad.p }
    flags := { f.flags with mismatch := true }
    counts := { f.counts with mismatches := sat32 (f.counts.mismatches + 1), lastDiff := reduceHalf c n } }

/-- An index event is the first, a match or a mismatch (R191). -/
theorem Dev.indexEvent_eq (d : Dev) (p : PortId) : d.indexEvent p =
    if !(d.port p).fb.flags.referenced then d.onFb p fun f => f.indexFirst (d.cpr p) (d.indexDiff p)
    else if d.indexDiff p = 0 then d.onFb p Feedback.indexMatch
    else d.onFb p fun f => f.indexMiss (d.cpr p) (d.indexDiff p) (d.pnum p 0x70 7 == 1) := rfl

/-- What an index event finds is what stood before the sample of its line, but for the line. -/
theorem Dev.fb_indexSampled (d : Dev) (p : PortId) (z : LineSample) : ((d.indexSampled p z).port p).fb =
    { (d.port p).fb with quad := { (d.port p).fb.quad with z := filtered (d.pnat p 0x70 3) (d.port p).fb.quad.z z } } := by
  rw [indexSampled, port_onFb]

theorem Dev.indexDiff_indexSampled (d : Dev) (p : PortId) (z : LineSample) :
    (d.indexSampled p z).indexDiff p = d.indexDiff p := by
  rw [indexDiff, fb_indexSampled]
  rfl

section
variable (z : LineSample)

theorem Dev.fb_indexEvent_first (h : (d.port p).fb.flags.referenced = false) :
    (((d.indexSampled p z).indexEvent p).port p).fb =
      ((d.indexSampled p z).port p).fb.indexFirst (d.cpr p) (d.indexDiff p) := by
  rw [indexEvent_eq, if_pos (by simp [fb_indexSampled, h]), port_onFb, indexDiff_indexSampled]
  rfl

theorem Dev.fb_indexEvent_match (h : (d.port p).fb.flags.referenced = true) (hd : d.indexDiff p = 0) :
    (((d.indexSampled p z).indexEvent p).port p).fb = ((d.indexSampled p z).port p).fb.indexMatch := by
  rw [indexEvent_eq, if_neg (by simp [fb_indexSampled, h]), indexDiff_indexSampled, if_pos hd, port_onFb]

theorem Dev.fb_indexEvent_miss (h : (d.port p).fb.flags.referenced = true) (hd : d.indexDiff p ≠ 0) :
    (((d.indexSampled p z).indexEvent p).port p).fb =
      ((d.indexSampled p z).port p).fb.indexMiss (d.cpr p) (d.indexDiff p) (d.pnum p 0x70 7 == 1) := by
  rw [indexEvent_eq, if_neg (by simp [fb_indexSampled, h]), indexDiff_indexSampled, if_neg hd, port_onFb]
  rfl

end

/-- The first index event shifts the raw count to the configured value, modulo the counts of a revolution. -/
theorem natCast_shiftBy_sub {c : Nat} (hc : 0 < c) (q : Nat) (v : Int) : (shiftBy c q (v - q) : Int) = v % c := by
  rw [shiftBy, Int.toNat_of_nonneg (Int.emod_nonneg _ (by omega)), add_sub_cancel]

/-! ### The third mismatch -/

theorem indexMismatchLimitStep_third (hm : d.fbMode p = 1) (h : 3 ≤ (d.port p).fb.quad.missRun) :
    indexMismatchLimitStep p d =
      (d.raiseFb p .fbIndex).onFb p fun f => { f with quad := { f.quad with missRun := 0 } } :=
  if_pos (by simp [hm, h])

theorem indexMismatchLimitStep_of_noMode (hm : d.fbMode p = 0) : indexMismatchLimitStep p d = d := if_neg (by simp [hm])

/-! ### Presets -/

@[simp] theorem Dev.port_showAt (d : Dev) (l : LaneId) (q : PortId) : (d.showAt l).port q = d.port q := rfl

@[simp] theorem Dev.published_showAt (d : Dev) (l : LaneId) : (d.showAt l).published = d.published := rfl

theorem presetCountStep_of_pub {x : Published} (h : d.pubOf (pidx p 0x72) 0 = some x) :
    let v := x.val.toInt.toNat
    presetCountStep p d = ((d.dropPub (pidx p 0x72) 0).onFb p fun f => { f with
      quad := { f.quad with q := v, p := v }
      flags := { f.flags with referenced := true } }).showAt p.lane := by
  rw [presetCountStep, h]

theorem indexAndPresetReferenceTheCount : Says.IndexAndPresetReferenceTheCount := by
  intro s p z hs f c diff rises
  refine ⟨fun hz ha hm => answers_of_awake hs rfl fun u hu => ?_,
    fun hz ha hm href hc => answers_of_awake hs rfl fun u hu => ?_,
    fun hz ha hm href hd => answers_of_awake hs rfl fun u hu => ?_,
    fun hz ha hm href hd => answers_of_awake hs rfl fun u hu => ?_,
    fun hm h3 => answers_of_awake hs rfl fun u hu => ?_,
    fun hm => exec_of_fixed rfl (indexMismatchLimitStep_of_noMode hm),
    fun v session origin rest hpub => answers_of_awake hs rfl fun u hu => ?_⟩
  · rw [hu, indexEventStep_no_rise ha hm hz]
    exact Dev.fb_indexSampled ..
  · rw [hu, indexEventStep_rises ha hm hz, Dev.fb_indexEvent_first z href, Dev.fb_indexSampled]
    exact ⟨rfl, natCast_shiftBy_sub hc _ _, rfl⟩
  · rw [hu, indexEventStep_rises ha hm hz, Dev.fb_indexEvent_match z href hd, Dev.fb_indexSampled]
    exact ⟨rfl, rfl, rfl⟩
  · rw [hu, indexEventStep_rises ha hm hz, Dev.fb_indexEvent_miss z href hd, Dev.fb_indexSampled]
    exact ⟨rfl, rfl, rfl, if_congr beq_iff_eq rfl rfl, rfl⟩
  · rw [hu, indexMismatchLimitStep_third hm h3, Dev.faulted_onFb, Dev.port_onFb, Dev.port_raiseFb]
    exact ⟨Dev.faulted_raiseFb .., rfl, rfl, rfl⟩
  · rw [hu, presetCountStep_of_pub (Dev.pubOf_head hpub)]
    rw [Dev.port_showAt, Dev.published_showAt, Dev.port_onFb]
    exact ⟨rfl, rfl, rfl, Dev.published_dropPub_head hpub⟩

/-- Settles O21: a sample of a quadrature port counts, is illegal or changes nothing; the bucket leaks and trips once; an index
event is the first, a match or a mismatch of the counts as they stood before its sample. -/
theorem quadratureCountsAndReferences : Obligations.QuadratureCountsAndReferences :=
  ⟨quadratureEdgesCountOrFillTheBucket, illegalBucketLeaksAndTrips, indexAndPresetReferenceTheCount⟩

end Sys2Proof.Machine
end

section
/-! PROOF. The feedback kernels take the latch (R184, R186, R194, R198, R199). -/

namespace Sys2Proof.Machine

variable {d : Dev} {p : PortId} {n t : Nat}

/-! ### Quadrature and Hall -/

theorem kQepInBody_quadrature (h : d.fbMode p = 1 ∨ d.fbMode p = 2) : kQepInBody p d =
    let l := d.fbLatch p
    d.onE1Fb p fun f => { f.takeFlags l with x := l.p, stamp := l.edge, refClk := l.clk } := by
  simp only [kQepInBody, if_pos (Dev.quadrature_iff.mpr h)]

theorem kQepInBody_other (h1 : d.fbMode p ≠ 1) (h2 : d.fbMode p ≠ 2) :
    kQepInBody p d = d.onE1Fb p fun f => f.takeFlags (d.fbLatch p) := by
  simp only [kQepInBody, if_neg (mt Dev.quadrature_iff.mp (not_or.mpr ⟨h1, h2⟩))]

theorem kHallInBody_hall (h : d.fbMode p = 3) : kHallInBody p d =
    let l := d.fbLatch p
    d.onE1Fb p fun f => { f.takeFlags l with hall := l.hall, stamp := l.hall.edgeAt, refClk := l.clk } := by
  simp only [kHallInBody, if_pos h]

theorem kHallInBody_other (h : d.fbMode p ≠ 3) : kHallInBody p d = d.onE1Fb p fun f => f.takeFlags (d.fbLatch p) := by
  simp only [kHallInBody, if_neg h]

/-! ### SENT -/

/-- The block with SENT_FORMAT_MISMATCH of a port as K_SENT_IN judges it (R198). -/
def Dev.formatJudged (d : Dev) (p : PortId) (bad : Bool) : Dev :=
  d.onFb p fun f => { f with flags := { f.flags with formatMis := bad } }

/-- The position of the latched frame: v1, or with direction invert what it lacks to a revolution (R199). -/
def Dev.sentX (d : Dev) (p : PortId) : Nat :=
  let v := (d.fbLatch p).sent.v1
  if d.pnum p 0x70 4 = 1 then (d.cpr p + 4096 * d.cpr p - v) % d.cpr p else v

theorem Dev.sentX_straight (h : d.pnum p 0x70 4 = 0) : d.sentX p = (d.fbLatch p).sent.v1 := if_neg (by simp [h])

theorem kSentInBody_mismatch (h : n ≠ formatNibbles (d.pnat p 0x70 0xF)) : kSentInBody p n d =
    (d.formatJudged p true).onE1Fb p fun f => { f with flags := { (d.fbLatch p).flags with formatMis := true } } := by
  rw [kSentInBody]
  dsimp only
  rw [if_pos h, decide_eq_true h]
  rfl

theorem kSentInBody_match (h : n = formatNibbles (d.pnat p 0x70 0xF)) : kSentInBody p n d =
    let l := d.fbLatch p
    (d.formatJudged p false).onE1Fb p fun f =>
      let f := { f with flags := { l.flags with formatMis := false } }
      if d.fbMode p = 4 then
        { f with
          x := d.sentX p, got := l.sent.got, stamp := l.sent.trx
          refClk := (l.sent.trx : Int) - d.pnum p 0x70 0x15 * 100 }
      else f := by
  have hok : ¬ n ≠ formatNibbles (d.pnat p 0x70 0xF) := not_not.mpr h
  rw [kSentInBody]
  dsimp only
  rw [if_neg hok, decide_eq_false hok]
  rfl

theorem Dev.formula_of_placed {r : EngineRole} {id : Nat} {i : Instance} (h : d.placed p r id t = some i) :
    d.formula p r id t = i.formula := by
  rw [formula, h]
  rfl

/-- K_SENT_IN, where the image places it, acts with the nibble count bound there. -/
theorem answers_kSentIn {s : State} {i : Instance} {P : State → Prop} (hr : s.dev.runs p .e1 0x23 t = true)
    (hi : s.dev.placed p .e1 0x23 t = some i) (h : ∀ u : State, u.dev = kSentInBody p i.formula s.dev → P u) :
    Answers (.kSentIn p t) s P :=
  answers_kernel hr rfl fun u hu => h u (by rw [hu, Dev.formula_of_placed hi])

theorem feedbackKernelsTakeTheLatch : Says.FeedbackKernelsTakeTheLatch := by
  intro s p t l m
  refine ⟨fun hr hm => exec_kernel hr rfl (kQepInBody_quadrature hm),
    fun hr h1 h2 => exec_kernel hr rfl (kQepInBody_other h1 h2),
    fun hr hm => exec_kernel hr rfl (kHallInBody_hall hm), fun hr hm => exec_kernel hr rfl (kHallInBody_other hm),
    fun i hr hi hn => answers_kSentIn hr hi fun u hu => ?_, fun i hr hi hn hdir hm => answers_kSentIn hr hi fun u hu => ?_,
    fun i hr hi hn hm => answers_kSentIn hr hi fun u hu => ?_⟩
  · rw [hu, kSentInBody_mismatch hn, Dev.port_onE1Fb, Dev.formatJudged, Dev.port_onFb]
    exact ⟨rfl, rfl, rfl⟩
  · rw [hu, kSentInBody_match hn, Dev.port_onE1Fb, if_pos hm, Dev.sentX_straight hdir]
    exact ⟨rfl, rfl, rfl, rfl⟩
  · rw [hu, kSentInBody_match hn, Dev.port_onE1Fb, if_neg hm, Dev.formatJudged, Dev.port_onFb]
    exact ⟨rfl, rfl⟩

end Sys2Proof.Machine
end

section
/-! PROOF. K_HALL_INTERP: the speed and the angle of a Hall port at the latch (R194, R200). -/

namespace Sys2Proof.Machine

variable {d : Dev} {p : PortId} {f : E1Fb}

namespace Dev

/-! ### Speed -/

theorem hallSpeed_still (h : d.still p f f.hall.edgeAt = true) : d.hallSpeed p f = 0 := if_pos (.inl h)

theorem hallSpeed_of_noInterval (h : f.hall.prev = 0) : d.hallSpeed p f = 0 := if_pos (.inr h)

/-- Between edges the arc runs over the last interval, or over the longer elapsed time. -/
theorem hallSpeed_running (h : d.still p f f.hall.edgeAt = false) (hprev : f.hall.prev ≠ 0) : d.hallSpeed p f =
    narrow (f.hall.arc * 2 ^ 32 * 50) (max (since f.refClk f.hall.edgeAt) f.hall.prev) := by
  rw [hallSpeed, if_neg (by simp [h, hprev]), speedOf, one_mul]

/-! ### Angle -/

theorem hallAngle_still (h : d.still p f f.hall.edgeAt = true) (h1 : 1 ≤ f.hall.last) (h6 : f.hall.last ≤ 6) :
    d.hallAngle p f = d.hallCentre p f.hall.last * 65536 := by
  rw [hallAngle]
  dsimp only
  rw [if_pos h, if_pos ⟨h1, h6⟩, q16]

theorem hallAngle_running (h : d.still p f f.hall.edgeAt = false) (hw : d.hallSpeed p f ≠ 0) :
    let x := f.hall
    let w := d.hallSpeed p f
    d.hallAngle p f = wrapAngQ (x.angle * 65536 +
      clampAbs (wrapAngQ (sgn w * (d.nextEdge p x.last (sgn w) - x.angle) * 65536))
        (narrow (w * since f.refClk x.base) (65536 * 50))) := by
  rw [hallAngle]
  dsimp only
  rw [if_neg (by simp [h]), if_neg hw, q16, q16]

theorem hallAngle_standing (h : d.still p f f.hall.edgeAt = false) (hw : d.hallSpeed p f = 0) :
    d.hallAngle p f = wrapAngQ (f.hall.angle * 65536) := by
  rw [hallAngle]
  dsimp only
  rw [if_neg (by simp [h]), if_pos hw, add_zero, q16]

end Dev

/-! ### The kernel -/

theorem kHallInterpBody_other (h : d.fbMode p ≠ 3) : kHallInterpBody p d = d := if_pos h

/-- The speed with its sign: direction invert turns it. -/
def Dev.hallSigned (d : Dev) (p : PortId) (f : E1Fb) : Int :=
  if d.pnum p 0x70 4 = 1 then -d.hallSpeed p f else d.hallSpeed p f

theorem Dev.hallSigned_zero (h : d.hallSpeed p f = 0) : d.hallSigned p f = 0 := by simp [hallSigned, h]

theorem fb_kHallInterpBody (h : d.fbMode p = 3) : ((kHallInterpBody p d).port p).e1.fb =
    let f := (d.port p).e1.fb
    { f with
      theta := d.hallAngle p f, thetaH := d.hallAngle p f, w := d.hallSigned p f, zero := d.still p f f.hall.edgeAt
      wf := if d.still p f f.hall.edgeAt then 0
        else if !d.places p .e1 0x25 then d.filterSpeed p f.wf (d.hallSigned p f) else f.wf } := by
  rw [kHallInterpBody, if_neg (not_not.mpr h), Dev.port_onE1Fb]
  rfl

theorem hallSpeedAndAngleFollowTheEdge : Says.HallSpeedAndAngleFollowTheEdge := by
  intro s p t hr f x age
  refine ⟨fun hm => exec_kernel_of_fixed hr rfl (kHallInterpBody_other hm), fun hm hz => answers_kernel hr rfl fun u hu => ?_,
    fun hm hz hprev => answers_kernel hr rfl fun u hu => ?_, fun hm hz hprev => answers_kernel hr rfl fun u hu => ?_⟩
  · rw [hu, fb_kHallInterpBody hm]
    exact ⟨Dev.hallSigned_zero (Dev.hallSpeed_still hz), if_pos hz, hz, Dev.hallAngle_still hz⟩
  · rw [hu, fb_kHallInterpBody hm]
    have hw := Dev.hallSpeed_running hz hprev
    refine ⟨?_, hz, fun hne => ?_, ?_⟩
    · rw [← hw]
      rfl
    · rw [← hw]
      exact Dev.hallAngle_running hz (hw ▸ hne)
    · refine (if_neg (Bool.eq_false_iff.mp hz)).trans ?_
      cases s.dev.places p .e1 0x25 <;> rfl
  · rw [hu, fb_kHallInterpBody hm]
    have hw := Dev.hallSpeed_of_noInterval (d := s.dev) (p := p) hprev
    exact ⟨Dev.hallSigned_zero hw, hz, Dev.hallAngle_standing hz hw⟩

end Sys2Proof.Machine
end

section
/-! PROOF. K_ANG_SCALE and K_SPD_EST: the angle carried to the write slot, and the speed from the positions held (R194, R199,
R200). -/

namespace Sys2Proof.Machine

variable {d : Dev} {p : PortId} {f : E1Fb}

/-! ### The angle -/

theorem fb_kAngScaleBody (d : Dev) (p : PortId) (t : Nat) : ((kAngScaleBody p t d).port p).e1.fb =
    let f := (d.port p).e1.fb
    let w : Int := (d.slotOf p + d.angleWriteSlots p t) * 50
    { f with theta := wrapAngQ (d.scaledAngle p f + narrow (f.wf * since w f.refClk) (65536 * 50)) } := by
  rw [kAngScaleBody, Dev.port_onE1Fb]
  rfl

/-! ### The positions held -/

/-- The positions held do not touch the filtered speed. -/
@[simp] theorem E1Fb.wf_held (f : E1Fb) : f.held.wf = f.wf := by
  unfold held
  split_ifs <;> rfl

@[simp] theorem E1Fb.wf_heldSent (f : E1Fb) : f.heldSent.wf = f.wf := by
  unfold heldSent
  split_ifs <;> rfl

/-! ### The speed -/

/-- The change between the two positions held, over a time. -/
def Dev.speedHeld (d : Dev) (p : PortId) (f : E1Fb) (time : Int) : Int :=
  speedOf (reduceHalf (d.cpr p) ((f.lastX : Int) - f.oldX) * d.pnum p 0x10 1 * 16384) (d.cpr p) time

/-- The feedback path with the speed over a time, or at rest. -/
def Dev.withSpeed (d : Dev) (p : PortId) (f : E1Fb) (rests : Bool) (time : Int) : E1Fb :=
  let w := if rests ∨ f.seen < 2 then 0 else d.speedHeld p f time
  { f with w := w, wf := if rests then 0 else d.filterSpeed p f.wf w, zero := rests }

theorem Dev.withSpeed_moving {time : Int} (h : f.seen = 2) : d.withSpeed p f false time =
    { f with w := d.speedHeld p f time, wf := d.filterSpeed p f.wf (d.speedHeld p f time), zero := false } := by
  simp [withSpeed, h]

theorem Dev.w_withSpeed_of_few {rests : Bool} {time : Int} (h : f.seen < 2) :
    (d.withSpeed p f rests time).w = 0 := if_pos (.inr h)

theorem kSpdEstBody_none (h : d.fbMode p = 0) : kSpdEstBody p d = d := if_pos h

theorem fb_kSpdEstBody_hall (h : d.fbMode p = 3) : ((kSpdEstBody p d).port p).e1.fb =
    let f := (d.port p).e1.fb
    { f with wf := if f.zero then 0 else d.filterSpeed p f.wf f.w } := by
  rw [kSpdEstBody]
  dsimp only
  rw [if_neg (by simp [h]), if_pos h, Dev.port_onE1Fb]

/-- A quadrature port's speed, which rests beyond the zero-speed timeout. -/
theorem fb_kSpdEstBody_quadrature {rests : Bool} (h : d.fbMode p = 1) (hf : f = (d.port p).e1.fb)
    (hrests : d.still p f.held f.held.lastStamp = rests) : ((kSpdEstBody p d).port p).e1.fb =
    d.withSpeed p f.held rests
      (max (since f.held.lastStamp f.held.oldStamp) (since f.held.refClk f.held.lastStamp)) := by
  rw [kSpdEstBody, h, if_neg (by decide), if_neg (by decide), Dev.port_onE1Fb, ← hrests, hf]
  rfl

/-- A SENT port's speed, which does not end by a timeout. -/
theorem fb_kSpdEstBody_sent (h : d.fbMode p = 4) (hf : f = (d.port p).e1.fb) : ((kSpdEstBody p d).port p).e1.fb =
    d.withSpeed p f.heldSent false (since f.heldSent.lastStamp f.heldSent.oldStamp) := by
  rw [kSpdEstBody, h, if_neg (by decide), if_neg (by decide), Dev.port_onE1Fb, hf]
  rfl

theorem feedbackAngleAndSpeedFollowTheEdges : Says.FeedbackAngleAndSpeedFollowTheEdges := by
  intro s p t f
  refine ⟨fun hr => answers_kernel hr rfl fun u hu => ?_, fun hr hm hz => answers_kernel hr rfl fun u hu => ?_,
    fun hr hm hz hseen => answers_kernel hr rfl fun u hu => ?_, fun hr hm hseen => answers_kernel hr rfl fun u hu => ?_,
    fun hr hm hseen => answers_kernel hr rfl fun u hu => ?_, fun hr hm hzero => answers_kernel hr rfl fun u hu => ?_,
    fun hr hm => exec_kernel_of_fixed hr rfl (kSpdEstBody_none hm)⟩
  · rw [hu, fb_kAngScaleBody]
    exact ⟨rfl, rfl, rfl⟩
  · rw [hu, fb_kSpdEstBody_quadrature hm rfl hz]
    exact ⟨rfl, rfl, rfl⟩
  · rw [hu, fb_kSpdEstBody_quadrature (f := f) hm rfl hz, Dev.withSpeed_moving hseen, E1Fb.wf_held]
    exact ⟨rfl, rfl⟩
  · rw [hu, fb_kSpdEstBody_sent (f := f) hm rfl, Dev.withSpeed_moving hseen, E1Fb.wf_heldSent]
    exact ⟨rfl, rfl⟩
  · rw [hu, fb_kSpdEstBody_sent hm rfl]
    exact Dev.w_withSpeed_of_few hseen
  · rw [hu, fb_kSpdEstBody_hall hm]
    exact if_neg (Bool.eq_false_iff.mp hzero)

/-- Settles O8: each input kernel takes the latch where the mode is its own; Hall angle and speed are those of a still, a running
or a standing rotor; a speed comes from the two positions held. -/
theorem feedbackKernelsFormAngleAndSpeed : Obligations.FeedbackKernelsFormAngleAndSpeed :=
  ⟨feedbackKernelsTakeTheLatch, hallSpeedAndAngleFollowTheEdge, feedbackAngleAndSpeedFollowTheEdges⟩

end Sys2Proof.Machine
end

section
/-! PROOF. The back-EMF observer, the injection observer and the PLLs in hold frames and outside them (R206, R208 to R211, R213 to
R215). -/

namespace Sys2Proof.Machine

variable {d : Dev} {p : PortId} {t : Nat}

@[simp] theorem Dev.port_onE1 (d : Dev) (p : PortId) (f : E1 → E1) :
    (d.onE1 p f).port p = { d.port p with e1 := f (d.port p).e1 } := port_onPort ..

/-! ### The back-EMF estimate -/

/-- One component of ê (R209) from those of the commanded voltage, the dead-time term and the current, which was `before`. -/
def Dev.emfEstimate (d : Dev) (p : PortId) (vo dv now before : Int) : Int :=
  satV (satV (vo - dv) - d.dropR p (d.pnum p 0x10 2) now -
    narrow (d.pnum p 0x10 4 * (now - before) * 250000) ((d.frame p : Int) * d.grv p))

/-- Engine 1's consumer of the current cell after its read. -/
def Dev.curRead1 (d : Dev) (p : PortId) : Consumer CurVal :=
  (d.port p).cons.cur1.after (d.port p).cells.current.cur (d.slotOf p)

/-- Whether engine 1 judges the current cell stale (R19). -/
def Dev.curStale1 (d : Dev) (p : PortId) : Bool := (d.port p).cons.cur1.stale (d.port p).cells.current.cur (d.slotOf p)

/-- Whether the frame is a hold frame of the observers (R208). -/
def Dev.holdFrame (d : Dev) (p : PortId) : Bool :=
  let v := (d.curRead1 p).held
  d.curStale1 p || d.poor p v.uValid v.uGap || d.poor p v.vValid v.vGap || (d.port p).e1.latch.gatesOff

/-- The back-EMF observer behind a frame that is no hold frame (R209). -/
def Dev.bemfEstimated (d : Dev) (p : PortId) : Bemf :=
  let e := (d.port p).e1
  let b := e.bemf
  let v := (d.curRead1 p).held
  let i := clarke v.iu v.iv (-(v.iu + v.iv))
  let vo := e.latch.clarke
  let dv := d.deadTerm p i.1 i.2 e.latch.vbus
  { b with
    pA := b.iA, pB := b.iB, iA := i.1, iB := i.2, hold := false, ref := ((d.port p).cells.current.cur.wslot : Int)
    eA := d.emfEstimate p vo.1 dv.1 i.1 b.iA
    eB := d.emfEstimate p vo.2 dv.2 i.2 b.iB }

/-- The back-EMF observer behind a frame (R208, R209). -/
def Dev.bemfObserved (d : Dev) (p : PortId) : Bemf :=
  let b := (d.port p).e1.bemf
  if d.holdFrame p then
    { b with
      hold := true
      ref := if d.curStale1 p then b.ref + (d.frame p : Int) else ((d.port p).cells.current.cur.wslot : Int) }
  else d.bemfEstimated p

/-- The block once K_OBS_BEMF has read the current cell and judged the frame (R19, R208). -/
def Dev.obsRead (d : Dev) (p : PortId) : Dev :=
  d.judgedRead p (fun x => { x with
    cons := { x.cons with cur1 := d.curRead1 p }
    e1 := { x.e1 with bemf := d.bemfObserved p } })
    2 ((d.port p).cons.cur1.skipped (d.port p).cells.current.cur) (d.curStale1 p) ((d.port p).cons.cur1.rule == .trip)

/-- K_OBS_BEMF is a judged read, behind which engine 1 may request COAST. -/
theorem kObsBemfBody_eq : kObsBemfBody p t d =
    if d.curStale1 p && (d.port p).cons.cur1.rule == .coast && ((d.obsRead p).pstate p).driving then
      (d.obsRead p).commandAt p (lastSlots t 248) ⟨11, some false, false, false⟩ 0
    else d.obsRead p := rfl

/-- What K_OBS_BEMF leaves of the observer, whether it commands the unit or not. -/
theorem bemf_kObsBemfBody : ((kObsBemfBody p t d).port p).e1.bemf = d.bemfObserved p := by
  have hread : ((d.obsRead p).port p).e1.bemf = d.bemfObserved p :=
    Dev.judgedRead_keeps (g := fun x => x.e1.bemf) _ _ _ _ _ _ _ fun _ _ _ => rfl
  rw [kObsBemfBody_eq]
  split_ifs
  · exact (Dev.commandAt_keeps (g := fun x => x.e1.bemf) (fun _ _ _ => rfl) ..).trans hread
  · exact hread

theorem Dev.bemfObserved_gatesOff (h : (d.port p).e1.latch.gatesOff = true) :
    ∃ r, d.bemfObserved p = { (d.port p).e1.bemf with hold := true, ref := r } :=
  ⟨_, if_pos (by simp [holdFrame, h])⟩

/-- A fresh current cell is read once, and nothing else of the port changes but the observer. -/
theorem port_kObsBemfBody_fresh (h : d.curStale1 p = false) : (kObsBemfBody p t d).port p = { d.port p with
    cons := { (d.port p).cons with cur1 := d.curRead1 p }
    e1 := { (d.port p).e1 with bemf := d.bemfObserved p } } := by
  rw [kObsBemfBody_eq, if_neg (by simp [h]), Dev.obsRead, h, Dev.port_judgedRead_fresh]

theorem Dev.holdFrame_eq_false (hst : d.curStale1 p = false)
    (hu : d.poor p (d.curRead1 p).held.uValid (d.curRead1 p).held.uGap = false)
    (hv : d.poor p (d.curRead1 p).held.vValid (d.curRead1 p).held.vGap = false)
    (hg : (d.port p).e1.latch.gatesOff = false) : d.holdFrame p = false := by
  simp [holdFrame, hst, hu, hv, hg]

/-! ### The PLLs -/

/-- An update without error leaves the speed, and the angle runs on at it (R208, R210). -/
theorem Pll.update_zero (q : Pll) (bw k : Int) : q.update bw k 0 = ⟨wrapAngQ (q.theta + narrow (q.w * k) 65536), q.w⟩ := by
  have hki : pllKi bw k 0 = 0 := by rw [pllKi, mul_zero, zero_mul, narrow_zero (by decide)]
  have hkp : pllKp bw k 0 = 0 := by rw [pllKp, mul_zero, narrow_zero (by decide)]
  rw [update, hki, hkp, add_zero, add_zero]

theorem kPllAngBody_hold (h : (d.port p).e1.bemf.hold = true) : kPllAngBody p d = d.onE1 p fun e => { e with
    bemf := { e.bemf with pll := (d.port p).e1.bemf.pll.update (d.pnum p 0x80 0x10) (d.frame p) 0 } } := if_pos h

/-- The error of a frame that is no hold frame (R210). -/
def Dev.pllError (d : Dev) (p : PortId) : Int :=
  let e := (d.port p).e1
  bemfError (signOr e.bemf.pll.w e.start.dir) e.bemf.eA e.bemf.eB e.bemf.pll.theta (norm2 e.bemf.eA e.bemf.eB) (d.eRef p)

theorem bemf_kPllAngBody (h : (d.port p).e1.bemf.hold = false) :
    let b := (d.port p).e1.bemf
    let ef := filter8 b.epsF (absI (d.pllError p))
    let i := park b.iA b.iB b.pll.theta
    ((kPllAngBody p d).port p).e1.bemf = { b with
      pll := b.pll.update (d.pnum p 0x80 0x10) (d.frame p) (d.pllError p)
      epsF := ef
      conf := (roundHA (255 * min (norm2 b.eA b.eB) (d.eRef p) * plausFactor ef) (d.eRef p * 65536)).toNat
      idM := i.1, iqM := i.2 } := by
  rw [kPllAngBody]
  dsimp only
  rw [if_neg (Bool.eq_false_iff.mp h), Dev.port_onE1]
  rfl

/-! ### The injection observer -/

section
variable {resp dmin eps : Int}

theorem hfiConf_of_lt {r : Bool} (h : resp < dmin) : hfiConf resp dmin eps r = 0 := by simp [hfiConf, h]

theorem hfiConf_resolved {r : Bool} (hr : r = true) (h : dmin ≤ resp) :
    hfiConf resp dmin eps r = (roundHA (255 * max 0 (65536 - 4 * absI eps)) 65536).toNat := by
  simp [hfiConf, hr, h.not_gt]

theorem hfiConf_unresolved {r : Bool} (hr : r = false) (h : dmin ≤ resp) :
    hfiConf resp dmin eps r = min (roundHA (255 * max 0 (65536 - 4 * absI eps)) 65536).toNat 127 := by
  simp [hfiConf, hr, h.not_gt]

end

theorem hfi_kObsHfiBody_hold {taps : Nat} (h : (d.port p).e1.bemf.hold = true) (hw : (d.port p).e1.blend.weight ≠ 65536) :
    let f := (d.port p).e1.hfi
    ((kObsHfiBody p taps d).port p).e1.hfi =
      { f with
        pll := f.pll.update (d.pnum p 0x80 0x13) (d.frame p) 0
        conf := if f.resolved then f.conf else min f.conf 127 } := by
  rw [kObsHfiBody]
  dsimp only
  rw [Dev.port_onE1, if_pos h, if_neg hw]

/-- K_OBS_HFI outside hold frames: the window with the frame's response, its sums divided, and the PLL (R213, R215). -/
theorem hfi_kObsHfiBody_window {taps : Nat} (h : (d.port p).e1.bemf.hold = false) :
    let e := (d.port p).e1
    let g := ((kObsHfiBody p taps d).port p).e1.hfi
    let di := park (e.bemf.iA - e.bemf.pA) (e.bemf.iB - e.bemf.pB) e.hfi.pll.theta
    let dmin := q16 (d.pnum p 0x80 0x14)
    let sd := sumI (g.hist.map Prod.fst)
    let eps := clampAbs 65536 (narrow (sumI (g.hist.map Prod.snd) * 65536) (max sd (dmin * g.hist.length)))
    g.hist = ((absI di.1, if di.1 < 0 then -di.2 else di.2) :: e.hfi.hist).take taps ∧
    g.resp = narrow sd g.hist.length ∧ g.conf = hfiConf g.resp dmin eps e.hfi.resolved ∧
    g.pll = if e.blend.weight = 65536 then e.bemf.pll else e.hfi.pll.update (d.pnum p 0x80 0x13) (d.frame p) eps := by
  rw [kObsHfiBody]
  dsimp only
  rw [Dev.port_onE1, if_neg (Bool.eq_false_iff.mp h)]
  exact ⟨rfl, rfl, rfl, rfl⟩

/-- K_OBS_HFI, where the image places it, acts with the L bound there. -/
theorem answers_kObsHfi {s : State} {i : Instance} {P : State → Prop} (hr : s.dev.runs p .e1 0x27 t = true)
    (hi : s.dev.placed p .e1 0x27 t = some i) (h : ∀ u : State, u.dev = kObsHfiBody p i.formula s.dev → P u) :
    Answers (.kObsHfi p t) s P :=
  answers_kernel hr rfl fun u hu => h u (by rw [hu, Dev.formula_of_placed hi])

theorem holdFramesKeepTheObservers : Says.HoldFramesKeepTheObservers := by
  intro s p t
  refine ⟨fun hr hoff => answers_kernel hr rfl fun u hu => ?_, fun hr hhold => answers_kernel hr rfl fun u hu => ?_,
    fun hr hhold => answers_kernel hr rfl fun u hu => ?_, fun hr hhold hw => answers_kernel hr rfl fun u hu => ?_⟩
  · obtain ⟨r, hb⟩ := Dev.bemfObserved_gatesOff hoff
    rw [hu, bemf_kObsBemfBody, hb]
    exact ⟨rfl, rfl, rfl, rfl, rfl, rfl⟩
  · rw [hu, kPllAngBody_hold hhold, Dev.port_onE1, Pll.update_zero]
    exact ⟨rfl, rfl, rfl, rfl⟩
  · rw [hu, bemf_kPllAngBody hhold]
    exact ⟨rfl, rfl, rfl, rfl, rfl, rfl, hhold⟩
  · rw [hu, hfi_kObsHfiBody_hold hhold hw, Pll.update_zero]
    exact ⟨rfl, rfl, rfl, rfl⟩

theorem observersEstimateFromTheFrame : Says.ObserversEstimateFromTheFrame := by
  intro s p t
  refine ⟨fun hr hst hpu hpv hoff => answers_kernel hr rfl fun u hu => ?_,
    fun i hr hi hhold => answers_kObsHfi hr hi fun u hu => ?_⟩
  · have hframe : s.dev.bemfObserved p = s.dev.bemfEstimated p :=
      if_neg (Bool.eq_false_iff.mp (Dev.holdFrame_eq_false hst hpu hpv hoff))
    rw [hu, port_kObsBemfBody_fresh hst, hframe]
    exact ⟨rfl, rfl, rfl, rfl, rfl, rfl, rfl, rfl, rfl, rfl⟩
  · obtain ⟨hhist, hresp, hconf, hpll⟩ := hfi_kObsHfiBody_window (taps := i.formula) hhold
    rw [hu]
    exact ⟨hhist, hresp, fun hlow => hconf.trans (hfiConf_of_lt hlow),
      fun hhigh hres => hconf.trans (hfiConf_resolved hres hhigh),
      fun hhigh hres => hconf.trans (hfiConf_unresolved hres hhigh),
      fun hw => hpll.trans (if_neg hw), fun hw => hpll.trans (if_pos hw)⟩

end Sys2Proof.Machine
end

section
/-! PROOF. The blend of the two observers, the catch loop and the counts of rotor loss (R215, R224, R226, R227). -/

namespace Sys2Proof.Machine

variable {d : Dev} {p : PortId} {t : Nat}

/-! ### The blend -/

theorem one_mulQ (a : Int) : mulQ 65536 a = a := by rw [mulQ, mul_comm]; exact mulQ_one a

theorem Dev.blendWeight_of_noInjection (h : d.places p .e1 0x27 = false) (w : Int) : d.blendWeight p w = 65536 :=
  if_neg (Bool.eq_false_iff.mp h)

theorem Dev.blendWeight_of_injection (h : d.places p .e1 0x27 = true) (w : Int) : d.blendWeight p w =
    let lo := pllSpeed (d.pnum p 0x80 0x15) 1
    let hi := pllSpeed (d.pnum p 0x80 0x16) 1
    clampI 0 65536 (narrow ((absI w - lo) * 65536) (hi - lo)) := if_pos h

/-- The blend of the two estimates with a weight (R215). -/
def E1.blended (e : E1) (w : Int) : Blend where
  weight := w
  theta := wrapAngQ (e.hfi.pll.theta + mulQ w (wrapDiffQ (e.bemf.pll.theta - e.hfi.pll.theta)))
  w := e.hfi.pll.w + mulQ w (e.bemf.pll.w - e.hfi.pll.w)
  conf := (roundHA ((65536 - w) * e.hfi.conf + w * e.bemf.conf) 65536).toNat
  src := if w = 0 then 2 else if w = 65536 then 1 else 3

theorem blend_kObsBlendBody : ((kObsBlendBody p d).port p).e1.blend =
    (d.port p).e1.blended (d.blendWeight p (d.port p).e1.bemf.pll.w) := by
  rw [kObsBlendBody, Dev.port_onE1]
  rfl

/-- The blend with full weight is the back-EMF estimate (R215). -/
theorem E1.blended_full (e : E1) : (e.blended 65536).src = 1 ∧ (e.blended 65536).conf = e.bemf.conf ∧
    (e.blended 65536).w = e.bemf.pll.w := by
  refine ⟨rfl, ?_, ?_⟩
  · have hnum : (65536 - 65536 : Int) * e.hfi.conf + 65536 * e.bemf.conf = e.bemf.conf * 65536 := by ring
    rw [blended, hnum, roundHA_mul_self (Int.natCast_nonneg _) (by decide), Int.toNat_natCast]
  · exact (congrArg (e.hfi.pll.w + ·) (one_mulQ _)).trans (add_sub_cancel _ _)

theorem blendLiesBetweenTheEstimates : Says.BlendLiesBetweenTheEstimates := by
  intro s p t hr m h
  refine ⟨fun hno => answers_kernel hr rfl fun u hu => ?_, fun hinj => answers_kernel hr rfl fun u hu => ?_⟩
  · rw [hu, blend_kObsBlendBody, Dev.blendWeight_of_noInjection hno]
    exact ⟨rfl, (s.dev.port p).e1.blended_full⟩
  · rw [hu, blend_kObsBlendBody, Dev.blendWeight_of_injection hinj]
    exact ⟨rfl, rfl, rfl, rfl, rfl⟩

/-! ### Kernels that leave the block in other states -/

/-- A kernel whose body leaves the block leaves the state, placed or not. -/
theorem exec_kernel_idle {c : Instr} {s : State} {r : EngineRole} {id : Nat} {f : Dev → Dev}
    (hc : exec c s = .next (s.awake (kernel p r id t f))) (h : f s.dev = s.dev) : exec c s = .next s :=
  exec_of_fixed hc (by rw [kernel, h, ite_self])

/-! ### The catch loop -/

theorem kFlyCatchBody_idle {eu ev ew cyc : Nat} (ha : d.pstate p ≠ .armed) (hc : d.pstate p ≠ .coast) :
    kFlyCatchBody p eu ev ew cyc d = d :=
  if_neg (not_or.mpr ⟨ha, hc⟩)

theorem catchLoopRefusesSkewedRecords : Says.CatchLoopRefusesSkewedRecords := by
  intro s p t r
  refine ⟨fun hr hst hskew => answers_kernel hr rfl fun u hu => ?_,
    fun ha hc => exec_kernel_idle rfl (kFlyCatchBody_idle ha hc)⟩
  rw [hu, kFlyCatchBody]
  dsimp only
  rw [if_pos hst, if_pos (.inl hskew), Dev.port_onE1, Pll.update_zero, decide_eq_true hskew]
  exact ⟨rfl, rfl, rfl, rfl, rfl⟩

theorem catchLoopFollowsTheTerminalVoltage : Says.CatchLoopFollowsTheTerminalVoltage := by
  intro s p t r n c0 k lsb a b sq thr vb hr hst hspread hage hclamp
  have hskew : ¬ (200 < spread3 (recClk (r 0) n) (recClk (r 1) n) (recClk (r 2) n) ∨
      min (recClk (r 0) n) (min (recClk (r 1) n) (recClk (r 2) n)) < ((t / 4 : Nat) : Int) - 50 * k) :=
    not_or.mpr ⟨hspread.not_gt, hage.not_gt⟩
  have hlow : ¬ 27075 * vb * vb ≤ 40000 * sq * 8192 * 8192 := hclamp.not_ge
  refine ⟨fun hstand => answers_kernel hr rfl fun u hu => ?_, fun hturn => answers_kernel hr rfl fun u hu => ?_⟩
  · rw [hu, kFlyCatchBody]
    dsimp only
    rw [if_pos hst, if_neg (not_or.mpr ⟨hskew, hlow⟩), if_pos hstand, Dev.port_onE1, decide_eq_false hskew,
      decide_eq_false hlow]
    exact ⟨rfl, rfl, rfl, rfl, rfl, rfl, rfl⟩
  · rw [hu, kFlyCatchBody]
    dsimp only
    rw [if_pos hst, if_neg (not_or.mpr ⟨hskew, hlow⟩), if_neg hturn.not_gt, Dev.port_onE1, decide_eq_false hskew,
      decide_eq_false hlow]
    exact ⟨rfl, rfl, rfl, rfl, rfl, rfl, rfl, rfl⟩

/-! ### Rotor loss -/

theorem loss_kRotorLossBody (hst : d.pstate p = .closed) (hhold : (d.port p).e1.bemf.hold = false)
    (hspeed : pllSpeed (d.pnum p 0x80 0x1F) 1 ≤ absI (d.port p).e1.bemf.pll.w) :
    let l := (d.port p).e1.loss
    let g := ((kRotorLossBody p t d).port p).e1.loss
    g.conf = runCount l.conf (d.lossConditions p).1 ∧ g.bemf = runCount l.bemf (d.lossConditions p).2.1 ∧
    g.qsat = runCount l.qsat (d.lossConditions p).2.2 := by
  rw [kRotorLossBody]
  dsimp only
  rw [if_pos ⟨hst, hhold, hspeed⟩, Dev.port_onE1]
  exact ⟨rfl, rfl, rfl⟩

theorem kRotorLossBody_idle (h : d.pstate p ≠ .closed) : kRotorLossBody p t d = d := if_neg fun hc => h hc.1

theorem rotorLossConditionsAreCountedApart : Says.RotorLossConditionsAreCountedApart := by
  intro s p t
  refine ⟨fun hr hst hhold hspeed => answers_kernel hr rfl fun u hu => ?_,
    fun h => exec_kernel_idle rfl (kRotorLossBody_idle h)⟩
  rw [hu]
  exact loss_kRotorLossBody hst hhold hspeed

/-- Settles O9: a frame is judged before the estimate, so a hold frame's PLL steps with no error and the others' with that of the
estimate; a blend of full weight is the back-EMF estimate; the catch loop trusts records that are neither skewed nor clamped; each
condition of rotor loss has a count of its own. -/
theorem observersHoldBlendAndCount : Obligations.ObserversHoldBlendAndCount :=
  ⟨holdFramesKeepTheObservers, observersEstimateFromTheFrame, blendLiesBetweenTheEstimates, catchLoopRefusesSkewedRecords,
    catchLoopFollowsTheTerminalVoltage, rotorLossConditionsAreCountedApart⟩

end Sys2Proof.Machine
end

section
/-! PROOF. The events of a sensorless start: phases, a failed attempt, and the handover (R218 to R221, R223, R472). -/

namespace Sys2Proof.Machine

variable {d : Dev} {p : PortId}

/-- A port with a request of engine 2 for COAST, which its motion states follow. -/
def Port.coastAsked (x : Port) (slot : Nat) : Port := { x with
  reg := { x.reg with reqE2 := some ⟨slot, .coast, false, false⟩ }
  e2 := { x.e2 with mo := { x.e2.mo with view := .coast } } }

namespace Dev

@[simp] theorem pstate_onE1 (d : Dev) (p : PortId) (f : E1 → E1) : (d.onE1 p f).pstate p = d.pstate p := by
  rw [pstate, port_onE1, pstate]

/-! ### The start of a phase -/

/-- The ramp phase: engine 1 is to request RAMP where it is entered in ALIGN, and the register is left (R219, R472). -/
theorem port_beginPhase_ramp (d : Dev) (p : PortId) :
    let y := (d.beginPhase p 2).port p
    y.e1.start.phase = 2 ∧ y.e1.start.phaseSlot = d.slotOf p ∧ y.e1.start.rampDue = (d.pstate p == .align) ∧
    y.reg = (d.port p).reg := by
  rw [beginPhase]
  dsimp only
  rw [if_pos rfl]
  simp only [port_onE1, pstate_onE1, and_self]

theorem start_beginPhase_pause (d : Dev) (p : PortId) :
    let g := ((d.beginPhase p 3).port p).e1.start
    g.phase = 3 ∧ g.failed = (d.port p).e1.start.failed := by
  rw [beginPhase]
  dsimp only
  rw [if_neg (by decide), port_onE1]
  exact ⟨rfl, rfl⟩

/-- In method 0 the ramp follows the alignment (R218). -/
theorem nextPhase_align (h : d.pnum p 0x80 1 = 0) : nextPhase 1 (d.startPhases p) = 2 := by
  rw [startPhases]
  dsimp only
  rw [if_pos h]
  rfl

/-! ### Requests for COAST -/

theorem requestIn_coast (d : Dev) (p : PortId) (n : Nat) : d.requestIn p n .coast false =
    (d.onPort p (·.coastAsked (d.slotOf p + n))).commandAt p n ⟨11, some false, false, false⟩ 0 := by
  rw [requestIn, if_pos rfl]
  rfl

/-- A kernel's command of this slot without a fault reaches the unit. -/
theorem commandAt_now (d : Dev) (p : PortId) (c : SafeCmd) : d.commandAt p 0 c 0 = d.commandUnit p c := by
  have hcode : d.recordCode p 0 = d := rfl
  rw [commandAt, if_pos rfl, hcode]

section
variable {due : Nat}

/-- A request for COAST of this slot comes with its command. -/
theorem port_requestIn_coast_now (d : Dev) (h : due ≤ d.slotOf p) : (d.requestIn p (due - d.slotOf p) .coast false).port p =
    let x := (d.port p).coastAsked (d.slotOf p)
    { x with unit := { x.unit with arriving := x.unit.arriving ++ [⟨11, some false, false, false⟩] } } := by
  rw [requestIn_coast, Nat.sub_eq_zero_of_le h, commandAt_now, commandUnit, port_onPort, port_onPort, Nat.add_zero]

/-- A request for COAST of a later slot waits for it, and so does its command. -/
theorem port_requestIn_coast_later (d : Dev) (h : d.slotOf p < due) : (d.requestIn p (due - d.slotOf p) .coast false).port p =
    let x := (d.port p).coastAsked due
    { x with unit := { x.unit with later := x.unit.later ++ [⟨due, ⟨11, some false, false, false⟩, 0, false⟩] } } := by
  rw [requestIn_coast, Nat.add_sub_cancel' h.le]
  exact (port_commandAt_later (d.onPort p (·.coastAsked due)) p _ _ h).trans (by rw [port_onPort])

end

/-! ### A failed attempt -/

/-- The block with START_FAILED and one start failure more. -/
def startFailed (d : Dev) (p : PortId) : Dev := d.onE1 p fun e => { e with
  start := { e.start with failed := true, phase := 0 }
  loss := { e.loss with failures := min (e.loss.failures + 1) 4294967295 } }

end Dev

/-- The end of a ramp without handover is a failed attempt, the last one or not (R221). -/
theorem startAttemptFailureStep_failed (hover : d.phaseOver p = true) (hphase : (d.port p).e1.start.phase = 2)
    (hhand : (d.port p).e1.start.handed = false) (hcount : (d.port p).e1.start.handCount < d.pnat p 0x80 0xC) :
    startAttemptFailureStep p d =
      if (d.port p).e1.start.attempt < d.pnat p 0x80 0xD then d.beginPhase p 3
      else (d.startFailed p).requestIn p ((d.port p).e2.mo.seqSlot - (d.startFailed p).slotOf p) .coast false := by
  rw [startAttemptFailureStep]
  dsimp only
  rw [if_pos (by simp [hover, hphase, hhand, hcount]), Dev.startFailed, Dev.port_onE1]

/-! ### The commands -/

theorem startPhaseBoundaryStep_align (hover : d.phaseOver p = true) (hphase : (d.port p).e1.start.phase = 1)
    (hm : d.pnum p 0x80 1 = 0) : startPhaseBoundaryStep p d = d.beginPhase p 2 := by
  rw [startPhaseBoundaryStep]
  dsimp only
  rw [if_pos (by simp [hover, hphase]), hphase, if_neg (by decide), Dev.nextPhase_align hm]

theorem handoverReachedStep_reached (hst : d.pstate p = .ramp) (hhand : (d.port p).e1.start.handed = false)
    (hcount : d.pnat p 0x80 0xC ≤ (d.port p).e1.start.handCount) : handoverReachedStep p d = d.onPort p fun x => { x with
      reg := { x.reg with reqE1 := some ⟨max (d.slotOf p) (d.port p).e1.start.handSlot, .closed, false, false⟩ }
      e1 := { x.e1 with start := { x.e1.start with handed := true, phase := 0 } } } :=
  if_pos (by simp [hst, hhand, hcount])

theorem startSequenceAdvancesOrFails : Says.StartSequenceAdvancesOrFails := by
  intro s p hs
  refine ⟨fun hover hphase hm hst => answers_of_awake hs rfl fun u hu => ?_,
    fun hover hphase hhand hcount hmore => answers_of_awake hs rfl fun u hu => ?_,
    fun hover hphase hhand hcount hlast => answers_of_awake hs rfl fun u hu => ?_,
    fun hst hhand hcount => answers_of_awake hs rfl fun u hu => ?_⟩
  · obtain ⟨hramp, hslot, hdue, hreg⟩ := s.dev.port_beginPhase_ramp p
    rw [hu, startPhaseBoundaryStep_align hover hphase hm]
    exact ⟨hramp, hslot, hdue.trans (by rw [hst]; rfl), hreg⟩
  · rw [hu, startAttemptFailureStep_failed hover hphase hhand hcount, if_pos hmore]
    exact s.dev.start_beginPhase_pause p
  · rw [hu, startAttemptFailureStep_failed hover hphase hhand hcount, if_neg hlast.not_gt]
    dsimp only
    rcases Nat.lt_or_ge (s.dev.slotOf p) (s.dev.port p).e2.mo.seqSlot with hlater | hnow
    · have hreq := (s.dev.startFailed p).port_requestIn_coast_later (p := p) hlater
      rw [Nat.max_eq_right hlater.le, if_neg hlater.ne', hreq, Dev.startFailed, Dev.port_onE1]
      exact ⟨rfl, rfl, rfl, rfl⟩
    · have hreq := (s.dev.startFailed p).port_requestIn_coast_now (p := p) hnow
      rw [Nat.max_eq_left hnow, if_pos rfl, hreq, Dev.startFailed, Dev.port_onE1]
      exact ⟨rfl, rfl, rfl, rfl⟩
  · rw [hu, handoverReachedStep_reached hst hhand hcount, Dev.port_onPort]
    exact ⟨rfl, rfl⟩

end Sys2Proof.Machine
end

section
/-! PROOF. The decisions of the observers: polarity, rotor loss and the catch (R214, R224 to R226, R472). -/

namespace Sys2Proof.Machine

variable {d : Dev} {p : PortId}

/-! ### Polarity -/

/-- A decision on the polarity: it is resolved by the margin, one way or the other, or it is ambiguous (R214). -/
theorem polarityDecisionStep_due (hP : 16 ≤ (d.port p).e1.hfi.cntP) (hN : 16 ≤ (d.port p).e1.hfi.cntN)
    (hres : (d.port p).e1.hfi.resolved = false) (hamb : (d.port p).e1.hfi.ambiguous = false) :
    let h := (d.port p).e1.hfi
    let mg := 1000 + d.pnum p 0x80 0x1A
    ((polarityDecisionStep p d).port p).e1.hfi =
      if h.sumP * h.cntN * mg < h.sumN * h.cntP * 1000 then
        { h with resolved := true, pll := { h.pll with theta := wrapAngQ (h.pll.theta + q16 8192) } }
      else if h.sumN * h.cntP * mg < h.sumP * h.cntN * 1000 then { h with resolved := true }
      else { h with ambiguous := true } := by
  rw [polarityDecisionStep]
  dsimp only
  rw [if_pos (by simp [hP, hN, hres, hamb])]
  split_ifs <;> rw [Dev.port_onE1]

/-! ### Rotor loss -/

section
variable {slot : Nat} (c : SafeCmd)

/-- An unpaired port's request of this slot reaches the unit. -/
theorem Dev.lossRequest_now (hpair : d.paired p = false) (h : slot ≤ d.slotOf p) :
    d.lossRequest p slot c = d.commandUnit p c := by
  have hunpaired : (d.commandUnit p c).paired p = false := hpair
  rw [lossRequest, if_pos h]
  dsimp only
  rw [if_neg (Bool.eq_false_iff.mp hunpaired)]

/-- A request of a later slot waits for it. -/
theorem Dev.lossRequest_later (h : d.slotOf p < slot) : d.lossRequest p slot c =
    d.onPort p fun x => { x with unit := { x.unit with later := x.unit.later ++ [⟨slot, c, 0, true⟩] } } :=
  if_neg h.not_ge

end

/-- The block with ROTOR_LOST, the causes and one loss more. -/
def Dev.rotorLost (d : Dev) (p : PortId) : Dev := d.onE1 p fun e => { e with loss := { e.loss with
  lost := true, cause := (d.port p).e1.loss.causes, losses := min (e.loss.losses + 1) 4294967295 } }

/-- The command of a rotor loss: ASC where the back-EMF at the last good speed would drive current into the bus (R225). -/
def Dev.lossCommand (d : Dev) (p : PortId) : SafeCmd :=
  ⟨11, some (shortsAt (d.port p).e1.loss.wL (d.pnum p 0x10 5) (d.pnum p 0x80 0x20) (d.port p).e1.latch.vbus
    (d.pnum p 0x50 1)), false, false⟩

theorem rotorLossDetectedStep_conf (hst : d.pstate p = .closed) (hlost : (d.port p).e1.loss.lost = false)
    (hcount : d.pnat p 0x80 0x1C ≤ (d.port p).e1.loss.conf) : rotorLossDetectedStep p d =
      (d.rotorLost p).lossRequest p (d.port p).e1.loss.slot (d.lossCommand p) :=
  if_pos (by simp [hst, hlost, hcount])

/-! ### The catch -/

theorem catchConfirmedStep_armed (hst : d.pstate p = .armed) (hcaught : (d.port p).e1.fly.caught = false)
    (hcount : d.pnat p 0x80 0xC ≤ (d.port p).e1.fly.count) : catchConfirmedStep p d =
      d.onE1 p fun e => { e with fly := { e.fly with caught := true } } :=
  if_pos (by simp [hst, hcaught, hcount])

theorem observerDecisionsSetTheirFlags : Says.ObserverDecisionsSetTheirFlags := by
  intro s p hs
  refine ⟨fun hP hN hres hamb => answers_of_awake hs rfl fun u hu => ?_,
    fun hst hlost hcount hpair => answers_of_awake hs rfl fun u hu => ?_,
    fun hst hcaught hcount => congrArg Host.Outcome.next (State.awake_eq_upd hs (catchConfirmedStep_armed hst hcaught hcount))⟩
  · rw [hu, polarityDecisionStep_due hP hN hres hamb]
    refine ⟨fun hneg => ?_, fun hneg hpos => ?_, fun hneg hpos => ?_⟩
    · rw [if_pos hneg]
      exact ⟨rfl, rfl⟩
    · rw [if_neg hneg.not_gt, if_pos hpos]
      exact ⟨rfl, rfl, hamb⟩
    · rw [if_neg hneg.not_gt, if_neg hpos.not_gt]
      exact ⟨rfl, hres⟩
  · rw [hu, rotorLossDetectedStep_conf hst hlost hcount]
    rcases Nat.lt_or_ge (s.dev.slotOf p) (s.dev.port p).e1.loss.slot with hlater | hnow
    · rw [Dev.lossRequest_later (d := s.dev.rotorLost p) _ hlater, Dev.port_onPort, Dev.rotorLost, Dev.port_onE1]
      exact ⟨rfl, rfl, fun hle => absurd hlater hle.not_gt, fun _ => ⟨rfl, rfl⟩⟩
    · rw [Dev.lossRequest_now (d := s.dev.rotorLost p) _ hpair hnow, Dev.commandUnit, Dev.port_onPort, Dev.rotorLost,
        Dev.port_onE1]
      exact ⟨rfl, rfl, fun _ => rfl, fun hlt => absurd hlt hnow.not_gt⟩

/-- Settles O17: the step of each event is read off the block; a request of K_STOP_SEQ or of K_ROTOR_LOSS reaches the unit at once
where the slot of the kernel's last tick has come, and waits for it otherwise. -/
theorem startsAndObserversDecide : Obligations.StartsAndObserversDecide :=
  ⟨startSequenceAdvancesOrFails, observerDecisionsSetTheirFlags⟩

end Sys2Proof.Machine
end

section
/-! PROOF. A step, and where the frame of the commands fails (R239, R241). -/

namespace Sys2Proof.Machine

/-- Settles O49: the step is defined by the queue's head. -/
theorem stepRunsTheFrontCommand : Obligations.StepRunsTheFrontCommand := fun s =>
  ⟨fun c rest h => by rw [step, h], fun h => by rw [step, h]⟩

/-- M1 and M2 paired, and a write that takes M1's pair register into LOST with the slot. -/
def bothPairsM1Lost : State :=
  ⟨{ Dev.atReset.onPort .m1 fun x => { x with pair := { x.pair with writes := [⟨0, 0, 3, false, false⟩] } } with
      lanes := ⟨Lane.counted 1, Lane.counted 1⟩
      image := some { factoryMinimal with pairFlags := 3 } }, []⟩

/-- The register of M2 reads 0 before, and with the line of lane A asserted after. -/
theorem bothPairsM1Lost_words :
    bothPairsM1Lost.dev.objs.get (objKey (pidx .m2 0xB0) 7) = .num 0 ∧
    (pairStateTransitionStep .m1 bothPairsM1Lost.dev).objs.get (objKey (pidx .m2 0xB0) 7) = .num 32 := by
  decide +kernel

/-- Refutes O51: where M1's pair is lost, lane A asserts the one line it has towards lane B, and the pair register of the lane's
other port, which shows that line, changes with it. -/
theorem not_commandsChangeOnlyTheirParts : ¬ Obligations.CommandsChangeOnlyTheirParts := by
  intro h
  obtain ⟨-, hport⟩ := h (.pairStateTransition .m1) bothPairsM1Lost _ rfl
  obtain ⟨-, hobjs⟩ := hport .m1 rfl
  have hkept := hobjs (pidx .m2 0xB0) 7 (by decide) (by decide)
  obtain ⟨hbefore, hafter⟩ := bothPairsM1Lost_words
  rw [State.awake_dev _ _ (by rfl), hafter, hbefore] at hkept
  exact absurd hkept (by decide)

end Sys2Proof.Machine
end

section
/-! PROOF. Triggers of the freeze (R429 to R431, R440, R441). -/

namespace Sys2Proof.Machine

namespace Dev

variable {d : Dev}

@[simp] theorem flash_queueTrace (d : Dev) (r : TraceRec) : (d.queueTrace r).flash = d.flash := by
  unfold queueTrace; split_ifs <;> rfl

@[simp] theorem published_queueTrace (d : Dev) (r : TraceRec) : (d.queueTrace r).published = d.published := by
  unfold queueTrace; split_ifs <;> rfl

@[simp] theorem tap_queueTrace (d : Dev) (r : TraceRec) : (d.queueTrace r).tap = d.tap := by
  unfold queueTrace; split_ifs <;> rfl

/-- A port of the part gets a command for every present port once, and no other port gets one. -/
theorem port_foldl_command (e : Dev) (d : Dev) (n : Nat) {p : PortId} (hp : p ∈ d.portsPresent) :
    (d.portsPresent.foldl (fun e p => e.command p n) e).port p =
      { e.port p with unit := { (e.port p).unit with
        arriving := (e.port p).unit.arriving ++ [⟨n, none, false, false⟩] } } := by
  revert hp
  unfold portsPresent lanesPresent
  split_ifs <;> cases p <;> first | exact fun _ => rfl | exact fun hp => absurd hp (by decide)

/-- What a freeze sets, and what it leaves (R431, R440). -/
theorem enterFreeze_leaves (d : Dev) (k : Nat) :
    (d.enterFreeze k).frz.resumable = d.resumableNow ∧ (d.enterFreeze k).flash = d.flash ∧
    (d.enterFreeze k).lanes = d.lanes ∧ (d.enterFreeze k).published = d.published ∧ (d.enterFreeze k).tap = d.tap := by
  unfold enterFreeze
  dsimp only
  refine ⟨?_, ?_, ?_, ?_, ?_⟩
  · rw [foldl_keeps frz fun p _ d => command_frz d p 12]
  · rw [foldl_keeps flash fun p _ d => command_flash d p 12]
    exact flash_queueTrace ..
  · rw [foldl_keeps lanes fun p _ d => command_lanes d p 12]
    exact lanes_queueTrace ..
  · rw [foldl_keeps published fun p _ d => command_published d p 12]
    exact published_queueTrace ..
  · rw [foldl_keeps tap fun p _ d => command_tap d p 12]
    exact tap_queueTrace ..

/-- A freeze counts in no object but that of the dropped traces. -/
theorem num_enterFreeze_ne (d : Dev) (k : Nat) {i s : Nat} (h : objKey i s ≠ objKey 0x2721 2) :
    (d.enterFreeze k).num i s = d.num i s := by
  unfold enterFreeze
  dsimp only
  rw [foldl_keeps (fun d => d.num i s) fun p _ d => command_num d p 12 i s]
  exact num_queueTrace_ne d _ h

theorem port_enterFreeze (d : Dev) (k : Nat) {p : PortId} (hp : p ∈ d.portsPresent) :
    ((d.enterFreeze k).port p).unit.arriving = (d.port p).unit.arriving ++ [⟨12, none, false, false⟩] := by
  unfold enterFreeze
  dsimp only
  have hsame : ((d.queueTrace (d.wideTrace d.clkLane 0x20 0xFFFF)).stamped).portsPresent = d.portsPresent := by
    unfold portsPresent lanesPresent
    rw [stamped_boot, boot_queueTrace]
  rw [← hsame] at hp
  exact (congrArg (fun x : Port => x.unit.arriving) (port_foldl_command _ _ 12 hp)).trans
    (congrArg (fun x : Port => x.unit.arriving ++ _) (port_queueTrace d _ p))

/-! ### Triggers -/

/-- Whether a trigger is permitted in the device's mode (R430). -/
def mayFreeze (d : Dev) : Prop := (d.mode ≠ 4 ∧ d.mode ≠ 5) ∨ d.num 0x2700 1 = 1

theorem trigger_frozen (k : Nat) (h : d.frozen = true) : d.trigger k = d := if_pos (.inr h)

theorem trigger_may (k : Nat) (hf : d.frozen = false) (hp : d.powered = true) (h : d.mayFreeze) :
    d.trigger k = d.enterFreeze k := by
  rw [trigger, if_neg (by simp [hf, hp])]
  rcases h with ⟨h4, h5⟩ | h
  · rw [if_neg (by simp [h4, h5])]
  · rw [if_pos h, ite_self]

theorem trigger_ignored (k : Nat) (hf : d.frozen = false) (hp : d.powered = true) (h : ¬ d.mayFreeze) :
    d.trigger k = d.inc 0x2700 2 := by
  unfold mayFreeze at h
  rw [trigger, if_neg (by simp [hf, hp]), if_pos (by omega), if_neg fun h1 => h (.inr h1)]

end Dev

/-! ### The pin -/

/-- The level of LULL_N kept. -/
def Dev.withLull (d : Dev) (low : Bool) : Dev := { d with boot := { d.boot with lullLow := low } }

theorem lullNTriggerStep_falls {d : Dev} {x : LullLow} (hwas : d.boot.lullLow = false) (h : x.stays = true ∨ 1000 ≤ x.ns) :
    lullNTriggerStep x d = (d.withLull x.stays).trigger 1 := if_pos ⟨hwas, h⟩

theorem lullNTriggerStep_quiet {d : Dev} {x : LullLow}
    (h : d.boot.lullLow = true ∨ (x.stays = false ∧ x.ns < 1000)) : lullNTriggerStep x d = d.withLull x.stays := by
  refine if_neg fun ⟨hwas, hlow⟩ => ?_
  rcases h with h | ⟨hs, hn⟩
  · exact absurd (h.symm.trans hwas) (by decide)
  · rcases hlow with hlow | hlow
    · exact absurd (hlow.symm.trans hs) (by decide)
    · omega

theorem lullNTriggerStep_frozen {d : Dev} {x : LullLow} (h : d.frozen = true) : lullNTriggerStep x d = d.withLull x.stays := by
  have hkept : (d.withLull x.stays).trigger 1 = d.withLull x.stays := Dev.trigger_frozen 1 h
  unfold lullNTriggerStep
  dsimp only
  split_ifs
  · exact hkept
  · rfl

theorem freezeCommandStep_of_pub {d : Dev} {x : Published} (h : d.pubOf 0x2701 0 = some x) :
    freezeCommandStep d = ((d.dropPub 0x2701 0).trigger 3).show := by
  rw [freezeCommandStep, h]

theorem freezeStep_on {d : Dev} (h : d.boot.phase ≠ .low) : freezeStep d = (d.tapInstr 0x40 false [false]).trigger 2 :=
  if_pos (by simpa [Dev.tapOn] using h)

/-! ### The statements -/

/-- A freeze as R431 has it, seen against the block before: no count of R430, every present port commanded, and flash and
lanes as they were. -/
def Dev.Froze (d e : Dev) : Prop :=
  e.frozen = true ∧ e.num 0x2700 2 = d.num 0x2700 2 ∧
  (∀ p, p ∈ d.portsPresent → (e.port p).unit.arriving = (d.port p).unit.arriving ++ [⟨12, none, false, false⟩]) ∧
  e.frz.resumable = d.resumableNow ∧ e.flash = d.flash ∧ e.lanes = d.lanes

theorem Dev.froze_enterFreeze (d : Dev) (k : Nat) : d.Froze (d.enterFreeze k) := by
  obtain ⟨hresumable, hflash, hlanes, -, -⟩ := d.enterFreeze_leaves k
  obtain ⟨-, -, -, hfrozen⟩ := d.enterFreeze_keeps k
  exact ⟨hfrozen, d.num_enterFreeze_ne k (by decide), fun p => d.port_enterFreeze k, hresumable, hflash, hlanes⟩

theorem triggersFreezeTheDevice : Says.TriggersFreezeTheDevice := by
  intro s hs hp froze may pin
  refine ⟨fun x hwas hlow => ⟨fun hmay => ?_, fun hmay => ?_⟩, fun x hquiet => ?_, fun v session origin rest hpub hmay => ?_,
    fun hphase hmay => ?_⟩
  · refine answers_of_upd rfl fun u hu => ?_
    rw [lullNTriggerStep_falls hwas hlow, Dev.trigger_may (d := s.dev.withLull x.stays) 1 hs hp hmay] at hu
    obtain ⟨-, hboot, -, -⟩ := (s.dev.withLull x.stays).enterFreeze_keeps 1
    have hfroze : s.dev.Froze u.dev := hu ▸ (s.dev.withLull x.stays).froze_enterFreeze 1
    exact ⟨hfroze, (congrArg (fun d : Dev => d.boot.lullLow) hu).trans (congrArg Boot.lullLow hboot)⟩
  · refine congrArg Host.Outcome.next (congrArg (fun d => { s with dev := d }) ?_)
    exact (lullNTriggerStep_falls hwas hlow).trans (Dev.trigger_ignored (d := s.dev.withLull x.stays) 1 hs hp hmay)
  · exact congrArg Host.Outcome.next (congrArg (fun d => { s with dev := d }) (lullNTriggerStep_quiet hquiet))
  · refine answers_of_awake hs rfl fun u hu => ?_
    rw [freezeCommandStep_of_pub (Dev.pubOf_head hpub), Dev.trigger_may (d := s.dev.dropPub 0x2701 0) 3 hs hp hmay] at hu
    obtain ⟨-, -, -, hpublished, -⟩ := (s.dev.dropPub 0x2701 0).enterFreeze_leaves 3
    have hfroze : s.dev.Froze u.dev := hu ▸ (s.dev.dropPub 0x2701 0).froze_enterFreeze 3
    exact ⟨hfroze, (congrArg Dev.published hu).trans (hpublished.trans (Dev.published_dropPub_head hpub))⟩
  · refine answers_of_upd rfl fun u hu => ?_
    rw [freezeStep_on hphase, Dev.trigger_may (d := s.dev.tapInstr 0x40 false [false]) 2 hs hp hmay] at hu
    obtain ⟨-, -, -, -, htap⟩ := (s.dev.tapInstr 0x40 false [false]).enterFreeze_leaves 2
    have hfroze : s.dev.Froze u.dev := hu ▸ (s.dev.tapInstr 0x40 false [false]).froze_enterFreeze 2
    exact ⟨hfroze, (congrArg (fun d : Dev => d.tap.ir) hu).trans (congrArg Tap.ir htap)⟩

/-- RUN as R430 has it: 0x2700.01 alone permits. -/
theorem Dev.mayFreeze_run {d : Dev} (h : d.mode = 4) : d.mayFreeze ↔ d.num 0x2700 1 = 1 := by
  unfold mayFreeze
  omega

/-- What an ignored trigger leaves (R430). -/
theorem Dev.trigger_run_refused {d : Dev} (k : Nat) (hf : d.frozen = false) (hp : d.powered = true) (hm : d.mode = 4)
    (h : d.num 0x2700 1 ≠ 1) : (d.trigger k).frozen = false ∧ (d.trigger k).ports = d.ports := by
  rw [trigger_ignored k hf hp fun hmay => h ((mayFreeze_run hm).mp hmay)]
  exact ⟨hf, rfl⟩

/-- A write of the permission is refused in RUN, whatever its bytes (R10, R430). -/
theorem Dev.judge_freezePermission {d : Dev} {c : Ctx} (vpp : Nat) (raw : List Byte) (hm : (d.committed c.origin).mode = 4)
    (hhead : d.headRes c.role 0x2700 1 = .ok) : d.judge c vpp (objKey 0x2700 1) raw = .wrongMode := by
  have hkey : objKey 0x2700 1 / 256 = 0x2700 ∧ objKey 0x2700 1 % 256 = 1 := by decide
  obtain ⟨r, hr, hrws⟩ : ∃ r, objRow 0x2700 1 = some r ∧ r.access = .rws := by decide +kernel
  rw [judge, judgeAs_eq (by decide), judgeOn]
  rw [hkey.1, hkey.2, hhead, hr]
  exact if_pos (.inl (by rw [hrws, hm]; rfl))

/-- Settles O59: the access of 0x2700.01 refuses its writing in RUN, a frozen block's trigger is none, and in RUN the published
permission alone decides. -/
theorem freezeInRunNeedsItsPermission : Obligations.FreezeInRunNeedsItsPermission := by
  refine ⟨by decide +kernel, fun d c vpp raw hm hhead => Dev.judge_freezePermission vpp raw hm hhead,
    fun s hs => ⟨fun x => ?_, ?_, fun hphase => ?_⟩, fun s x v session origin rest hs hp hm hwas hlow =>
    ⟨fun hnum => ?_, fun hnum => ?_, fun hnum => ?_, fun hpub hnum => ?_⟩⟩
  · refine congrArg Host.Outcome.next (congrArg (fun d => { s with dev := d }) ?_)
    exact lullNTriggerStep_frozen hs
  · exact congrArg Host.Outcome.next (State.awake_frozen s _ hs)
  · refine answers_of_upd rfl fun u hu => ?_
    rw [hu, freezeStep_on hphase, Dev.trigger_frozen (d := s.dev.tapInstr 0x40 false [false]) 2 hs]
    exact ⟨hs, rfl, rfl, rfl, rfl⟩
  · refine answers_of_upd rfl fun u hu => ?_
    rw [hu, lullNTriggerStep_falls hwas hlow,
      Dev.trigger_may (d := s.dev.withLull x.stays) 1 hs hp ((Dev.mayFreeze_run hm).mpr hnum)]
    exact ((s.dev.withLull x.stays).froze_enterFreeze 1).1
  · refine answers_of_upd rfl fun u hu => ?_
    rw [hu, lullNTriggerStep_falls hwas hlow]
    exact Dev.trigger_run_refused (d := s.dev.withLull x.stays) 1 hs hp hm hnum
  · have hphase : s.dev.boot.phase = .up := by simpa [Dev.powered] using hp
    refine answers_of_upd rfl fun u hu => ?_
    rw [hu, freezeStep_on (by rw [hphase]; decide)]
    exact Dev.trigger_run_refused (d := s.dev.tapInstr 0x40 false [false]) 2 hs hp hm hnum
  · refine answers_of_awake hs rfl fun u hu => ?_
    rw [hu, freezeCommandStep_of_pub (Dev.pubOf_head hpub)]
    exact Dev.trigger_run_refused (d := s.dev.dropPub 0x2701 0) 3 hs hp hm hnum

end Sys2Proof.Machine
end

section
/-! PROOF. Self-dumps and captures (R439, R444). -/

namespace Sys2Proof.Machine

/-- A capture slot that flash has reads as set. -/
theorem Flash.capture_setCapture (f : Flash) {n : Nat} (c : Capture) (h : n - 1 < f.captures.length) :
    (f.setCapture n c).captures[n - 1]? = some c := by
  simp [setCapture, h]

/-- The slot that a self-dump takes is one that flash has. -/
theorem Flash.lt_of_captureFor {f : Flash} {n : Nat} (h : f.captureFor = some n) : n - 1 < f.captures.length := by
  have hlt : ∀ {p : Capture → Bool} {i : Nat}, f.captures.findIdx? p = some i → i < f.captures.length :=
    fun hi => (List.findIdx?_eq_some_iff_findIdx_eq.mp hi).1
  unfold captureFor at h
  split at h
  next i hi => exact Option.some.inj h ▸ hlt hi
  next =>
    obtain ⟨i, hi, rfl⟩ := Option.map_eq_some_iff.mp h
    exact hlt hi

/-- The first microsecond of quiet in a freeze whose dump nobody has read (R439). -/
theorem selfDumpStartStep_due {us : Nat} {d : Dev} (hf : d.frozen = true) (hus : 1000000 ≤ us) (hread : d.frz.readDone = false)
    (hrun : d.frz.running = false) (hdone : d.frz.done = false) (hfull : d.frz.full = false)
    (hfault : d.devFaulted .commonFlash = false) : selfDumpStartStep us d =
      match d.flash.captureFor with
      | none => { d with frz := { d.frz with full := true } }
      | some n => { d with
          frz := { d.frz with running := true, slot := n }
          wr := { d.wr with erasing := d.wr.erasing.filter fun k => k ≠ n }
          flash := d.flash.setCapture n
            ⟨1, d.captureInfo ((List.range 4).map fun i => Config.openByte d.frz.ix (0x4E5000 + i)), []⟩ } := by
  unfold selfDumpStartStep
  dsimp only
  rw [if_pos (by simp [hf, hus, hread, hrun, hdone, hfull, hfault])] <;> rfl

theorem selfDumpStartStep_early {us : Nat} (h : us < 1000000) (d : Dev) : selfDumpStartStep us d = d :=
  if_neg (by simp [h])

theorem releaseCaptureStep_of_pub {d : Dev} {x : Published} {c : Capture} (h : d.pubOf 0x2712 0 = some x)
    (hc : d.flash.captures[x.val.toInt.toNat - 1]? = some c) : releaseCaptureStep d =
      ({ d.dropPub 0x2712 0 with
        wr := { d.wr with erasing := d.wr.erasing ++ [x.val.toInt.toNat] }
        flash := d.flash.setCapture x.val.toInt.toNat { c with state := 4 } } : Dev).show := by
  unfold releaseCaptureStep
  rw [h]
  dsimp only [Dev.dropPub_flash]
  rw [hc]
  rfl

theorem captureEraseCompleteStep_due {d : Dev} {n : Nat} {rest : List Nat} (he : d.wr.erasing = n :: rest)
    (hp : d.powered = true) (hf : d.frozen = false) : captureEraseCompleteStep d =
      { d with wr := { d.wr with erasing := rest }, flash := d.flash.setCapture n Capture.atReset } := by
  unfold captureEraseCompleteStep
  rw [he]
  exact if_pos (by simp [hp, hf])

theorem capturesAreWrittenAndErased : Says.CapturesAreWrittenAndErased := by
  intro s z
  refine ⟨fun us hf hus hread hrun hdone hfull hfault => ?_, fun us hus => ?_, fun hf hrun hslot => ?_,
    fun v session origin rest c hs hpub hc => ?_, fun n rest hs hp he hslot => ?_⟩
  · have hdue := selfDumpStartStep_due hf hus hread hrun hdone hfull hfault
    refine ⟨fun n hn => answers_of_upd rfl fun u hu => ?_, fun hn => answers_of_upd rfl fun u hu => ?_⟩ <;>
      rw [hn] at hdue <;> rw [hu, hdue]
    · exact ⟨rfl, rfl, _, Flash.capture_setCapture _ _ (Flash.lt_of_captureFor hn), rfl⟩
    · exact ⟨rfl, rfl⟩
  · exact congrArg Host.Outcome.next (State.upd_of_fixed (selfDumpStartStep_early hus _))
  · refine answers_of_upd rfl fun u hu => ?_
    rw [hu, selfDumpCompleteStep, if_pos (by simp [hf, z, hrun])]
    exact ⟨rfl, rfl, _, Flash.capture_setCapture _ _ hslot, rfl, rfl⟩
  · refine answers_of_awake hs rfl fun u hu => ?_
    rw [hu, releaseCaptureStep_of_pub (Dev.pubOf_head hpub) hc]
    exact ⟨Flash.capture_setCapture _ _ (List.getElem?_eq_some_iff.mp hc).1, rfl, Dev.published_dropPub_head hpub⟩
  · refine answers_of_awake hs rfl fun u hu => ?_
    rw [hu, captureEraseCompleteStep_due he hp hs]
    exact ⟨Flash.capture_setCapture _ _ hslot, rfl⟩

/-- Settles O47: a trigger freezes where R430 permits it and is otherwise counted, and each step of a capture writes its slot. -/
theorem freezesAndCaptures : Obligations.FreezesAndCaptures := ⟨triggersFreezeTheDevice, capturesAreWrittenAndErased⟩

end Sys2Proof.Machine
end

section
/-! SUPPORT. What a reset keeps, and what it leaves at the reset values (R281, R292, R462). -/

namespace Sys2Proof.Machine

/-! ### Flash and fuses -/

/-- A cut-off programming leaves the device records, the profiles and the traces. -/
theorem Flash.cutOff_keeps (f : Flash) (torn : Bool) (ix : Nat) :
    (f.cutOff torn ix).recA = f.recA ∧ (f.cutOff torn ix).halves = f.halves ∧ (f.cutOff torn ix).traces = f.traces := by
  cases torn <;> exact ⟨rfl, rfl, rfl⟩

/-- The traces that a freeze held are appended beside the device records and the profiles. -/
theorem Flash.foldl_addTrace_keeps (ts : List TraceRec) (f : Flash) :
    (ts.foldl Flash.addTrace f).recA = f.recA ∧ (ts.foldl Flash.addTrace f).halves = f.halves :=
  ⟨foldl_keeps (f := Flash.addTrace) Flash.recA (fun _ _ _ => rfl) f,
    foldl_keeps (f := Flash.addTrace) Flash.halves (fun _ _ _ => rfl) f⟩

theorem length_putRow (w : Nat) (v : Word) (r : List (Nat × Word)) : (putRow w v r).length = r.length := by
  induction r with
  | nil => rfl
  | cons e r ih =>
    unfold putRow
    split_ifs
    · rfl
    · exact congrArg (· + 1) ih

@[simp] theorem Fuses.spares_put (f : Fuses) (w : Nat) (v : Word) : (f.put w v).spares = f.spares := by
  unfold put spares
  split_ifs
  · exact length_putRow ..
  · rfl

@[simp] theorem Fuses.spares_pulseChecks (f : Fuses) (w : Nat) (v mask : Word) : (f.pulseChecks w v mask).spares = f.spares := by
  unfold pulseChecks; split_ifs <;> rfl

@[simp] theorem Fuses.spares_close (f : Fuses) (w : Nat) : (f.close w).spares = f.spares := by
  unfold close; split_ifs <;> rfl

/-- A cut-off programming uses no spare row. -/
theorem Fuses.spares_cutOff (f : Fuses) (op : Option OtpOp) (ix : Nat) : (f.cutOff op ix).spares = f.spares := by
  cases op with
  | none => rfl
  | some op =>
    cases op <;>
    · dsimp only [cutOff]
      split_ifs <;> simp

namespace Dev

variable {d : Dev}

/-- A reset's flash has the device records and the profiles of before, and outside a freeze the traces. -/
theorem flash_keep (d : Dev) : (Dev.atReset.keep d).flash.recA = d.flash.recA ∧
    (Dev.atReset.keep d).flash.halves = d.flash.halves ∧
    (d.frozen = false → (Dev.atReset.keep d).flash.traces = d.flash.traces) := by
  obtain ⟨hrec, hhalves, htraces⟩ := d.flash.cutOff_keeps d.wr.running.isSome d.freeIx
  unfold keep
  dsimp only
  split_ifs with hc
  · obtain ⟨hrec', hhalves'⟩ := Flash.foldl_addTrace_keeps d.wr.traceQ (d.flash.cutOff d.wr.running.isSome d.freeIx)
    exact ⟨hrec'.trans hrec, hhalves'.trans hhalves, fun hf => absurd hc (by simp [hf])⟩
  · exact ⟨hrec, hhalves, fun _ => htraces⟩

theorem spares_keep (d : Dev) : (Dev.atReset.keep d).fuses.spares = d.fuses.spares := Fuses.spares_cutOff ..

/-! ### The units that coast -/

theorem num_unitsCoast_ne (d : Dev) {i s : Nat} (hi : ∀ p, i ≠ pidx p 0x22) (hs : s < 256) : d.unitsCoast.num i s = d.num i s := by
  unfold unitsCoast
  refine foldl_keeps (fun d => d.num i s) (fun p _ d => ?_) d
  exact (num_pput_of_idx_ne _ _ (hi p) (by decide) hs).trans (onPort_num ..)

/-- One unit that coasts under boundary scan (R462). -/
def unitCoasts (d : Dev) (p : PortId) : Dev :=
  (d.onPort p fun x => { x with mod := { x.mod with offSeen := true } }).pput p 0x22 1 1

theorem unitsCoast_eq (d : Dev) : d.unitsCoast =
    (((d.unitCoasts .m1).unitCoasts .m2).unitCoasts .m3).unitCoasts .m4 := rfl

theorem safeOut_unitCoasts (d : Dev) (p q : PortId) : (d.unitCoasts q).safeOut p = if p = q then 1 else d.safeOut p := by
  unfold unitCoasts
  split_ifs with h
  · subst h
    exact safeOut_pput _ p 1
  · exact (safeOut_pput_of_port_ne _ q p 1 (by decide) h).trans (safeOut_onPort ..)

/-- Every unit coasts, and its port state register stays (R462). -/
theorem unitsCoast_coasts (d : Dev) (p : PortId) : d.unitsCoast.safeOut p = 1 ∧
    (d.unitsCoast.port p).mod.offSeen = true ∧ (d.unitsCoast.port p).reg = (d.port p).reg := by
  refine ⟨?_, by cases p <;> rfl, by cases p <;> rfl⟩
  rw [unitsCoast_eq]
  simp only [safeOut_unitCoasts]
  cases p <;> simp

/-! ### The reset -/

/-- The block at a reset, before what the TAP does to it. -/
def resetTo (d : Dev) (cause wake : Nat) : Dev :=
  let e := ((Dev.atReset.keep d).put 0x2000 3 cause).put 0x2000 4 wake
  if cause = 4 ∨ cause = 5 then { e with boot := { e.boot with island := d.boot.island } } else e

theorem resetWith_eq (h : d.boot.phase ≠ .held) (cause wake : Nat) : d.resetWith cause wake =
    if cause = 1 then { d.resetTo cause wake with tap := Tap.atReset }
    else if (d.resetTo cause wake).tap.bscan then (d.resetTo cause wake).unitsCoast else d.resetTo cause wake := by
  unfold resetWith
  rw [if_neg h]
  rfl

theorem num_resetTo (d : Dev) (cause wake : Nat) :
    (d.resetTo cause wake).num 0x2000 3 = cause ∧ (d.resetTo cause wake).num 0x2000 4 = wake := by
  unfold resetTo
  dsimp only
  split_ifs <;> exact ⟨(num_put_ne _ _ _ _ _ _ (by decide)).trans (num_put ..), num_put ..⟩

/-- What a reset leaves beside objects, TAP and start-up. -/
theorem resetTo_leaves (d : Dev) (cause wake : Nat) :
    (d.resetTo cause wake).ports = Dev.atReset.ports ∧ (d.resetTo cause wake).tap.bscan = d.tap.bscan ∧
    (d.resetTo cause wake).lanes = Dev.atReset.lanes ∧ (d.resetTo cause wake).image = none ∧
    (d.resetTo cause wake).frozen = false ∧ (d.resetTo cause wake).published = [] ∧
    (d.resetTo cause wake).flash = (Dev.atReset.keep d).flash ∧
    (d.resetTo cause wake).fuses = (Dev.atReset.keep d).fuses := by
  unfold resetTo
  dsimp only
  split_ifs <;> exact ⟨rfl, rfl, rfl, rfl, rfl, rfl, rfl, rfl⟩

theorem ports_unitCoasts_congr {d e : Dev} (p : PortId) (h : d.ports = e.ports) :
    (d.unitCoasts p).ports = (e.unitCoasts p).ports :=
  congrArg (fun q : Quad Port => q.set p { q.get p with mod := { (q.get p).mod with offSeen := true } }) h

theorem ports_unitsCoast_congr {d e : Dev} (h : d.ports = e.ports) : d.unitsCoast.ports = e.unitsCoast.ports := by
  rw [unitsCoast_eq, unitsCoast_eq]
  exact ports_unitCoasts_congr _ (ports_unitCoasts_congr _ (ports_unitCoasts_congr _ (ports_unitCoasts_congr _ h)))

/-- What a reset of a device that is not held already leaves: everything at reset but its cause, the wake source, the flash and
the fuses, and the units where boundary scan goes on. -/
theorem resetWith_leaves (h : d.boot.phase ≠ .held) (cause wake : Nat) :
    (d.resetWith cause wake).num 0x2000 3 = cause ∧ (d.resetWith cause wake).num 0x2000 4 = wake ∧
    (d.resetWith cause wake).ports =
      (if cause ≠ 1 ∧ d.tap.bscan = true then Dev.atReset.unitsCoast else Dev.atReset).ports ∧
    (d.resetWith cause wake).lanes = Dev.atReset.lanes ∧ (d.resetWith cause wake).image = none ∧
    (d.resetWith cause wake).frozen = false ∧ (d.resetWith cause wake).published = [] ∧
    (d.resetWith cause wake).flash = (Dev.atReset.keep d).flash ∧
    (d.resetWith cause wake).fuses = (Dev.atReset.keep d).fuses := by
  have hport : ∀ p, 0x2000 ≠ pidx p 0x22 := fun p => by unfold pidx; omega
  obtain ⟨hcause, hwake⟩ := d.num_resetTo cause wake
  obtain ⟨hports, hscan, hlanes, himage, hfrozen, hpub, hflash, hfuses⟩ := d.resetTo_leaves cause wake
  rw [resetWith_eq h, hscan]
  by_cases h1 : cause = 1
  · rw [if_pos h1, if_neg fun hc => hc.1 h1]
    exact ⟨hcause, hwake, hports, hlanes, himage, hfrozen, hpub, hflash, hfuses⟩
  · rw [if_neg h1]
    by_cases hb : d.tap.bscan = true
    · rw [if_pos hb, if_pos ⟨h1, hb⟩]
      exact ⟨(num_unitsCoast_ne _ hport (by decide)).trans hcause, (num_unitsCoast_ne _ hport (by decide)).trans hwake,
        ports_unitsCoast_congr hports, hlanes, himage, hfrozen, hpub, hflash, hfuses⟩
    · rw [if_neg hb, if_neg fun hc => hb hc.2]
      exact ⟨hcause, hwake, hports, hlanes, himage, hfrozen, hpub, hflash, hfuses⟩

/-- A reset that ends no low-power mode leaves start-up as after power-on but for LULL_N and lane B. -/
theorem boot_resetWith {cause : Nat} (wake : Nat) (h4 : cause ≠ 4) (h5 : cause ≠ 5) : (d.resetWith cause wake).boot =
    { Dev.atReset.boot with lullLow := d.boot.lullLow, laneB := d.boot.laneB } := by
  unfold resetWith
  dsimp only
  rw [if_neg (c := cause = 4 ∨ cause = 5) (by simp [h4, h5])]
  split_ifs <;> rfl

/-- A wake keeps the island (R282). -/
theorem boot_resetWith_wake {cause : Nat} (wake : Nat) (h : cause = 4 ∨ cause = 5) : (d.resetWith cause wake).boot =
    { Dev.atReset.boot with lullLow := d.boot.lullLow, laneB := d.boot.laneB, island := d.boot.island } := by
  unfold resetWith
  dsimp only
  rw [if_pos h, if_neg (by omega)]
  split_ifs <;> rfl

/-- A reset other than power-on keeps the TAP but for its unit link. -/
theorem tap_resetWith {cause : Nat} (wake : Nat) (h : cause ≠ 1) :
    (d.resetWith cause wake).tap = { d.tap with link := UnitLink.atReset } := by
  unfold resetWith
  dsimp only
  rw [if_neg h]
  split_ifs <;> rfl

end Dev

end Sys2Proof.Machine
end

section
/-! SUPPORT. What the TAP's instructions do and leave (R434, R440, R462, R463). -/

namespace Sys2Proof.Machine
namespace Dev

variable {d : Dev} {l : LaneId} {p : PortId}

theorem tapOn_of_ne (h : d.boot.phase ≠ .low) : d.tapOn = true := by simp [tapOn, h]

theorem tapOn_of_eq (h : d.boot.phase = .low) : d.tapOn = false := by simp [tapOn, h]

/-- A write leaves the numbers of every other index. -/
theorem num_put_of_idx_ne (d : Dev) {i s j t : Nat} (v : Int) (hij : i ≠ j) (hs : s < 256) (ht : t < 256) :
    (d.put i s v).num j t = d.num j t := num_putVal_of_idx_ne d _ hij hs ht

/-! ### The dump -/

theorem tdo_shiftWord (d : Dev) : d.shiftWord.tap.tdo =
    d.tap.tdo ++ bitsOfBytes (if d.frozen then d.dumpWord d.tap.dumpAddr else [0, 0, 0, 0]) := rfl

theorem bits_zero_word : bitsOfBytes [0, 0, 0, 0] = List.replicate 32 false := by decide

/-- Outside a freeze DUMP_DATA shifts out zeros (R434). -/
theorem tdo_foldl_shiftWord (h : d.frozen = false) (n : Nat) :
    ((List.range n).foldl (fun d _ => d.shiftWord) d).tap.tdo = d.tap.tdo ++ List.replicate (32 * n) false := by
  induction n with
  | zero => exact (List.append_nil _).symm
  | succ n ih =>
    have hf : ((List.range n).foldl (fun d _ => d.shiftWord) d).frozen = false :=
      (foldl_keeps (f := fun d _ => shiftWord d) frozen (fun _ _ _ => rfl) d).trans h
    rw [List.range_succ, List.foldl_append, List.foldl_cons, List.foldl_nil, tdo_shiftWord, hf,
      if_neg Bool.false_ne_true, bits_zero_word, ih, List.append_assoc, List.replicate_append_replicate, Nat.mul_succ]

/-! ### The freeze withdrawn -/

theorem num_releaseGates_ne {i s : Nat} (hi : i ≠ pidx p 0x22) (hs : s < 256) : (d.releaseGates p).num i s = d.num i s := by
  unfold releaseGates
  rw [num_pput_of_idx_ne _ _ hi (by decide) hs, num_pput_of_idx_ne _ _ hi (by decide) hs, onPort_num]

theorem withdrawFreeze_leaves (d : Dev) (p : PortId) : (d.withdrawFreeze p).lanes = d.lanes ∧
    (d.withdrawFreeze p).flash = d.flash ∧ (d.withdrawFreeze p).frz = d.frz ∧ (d.withdrawFreeze p).frozen = d.frozen ∧
    (d.withdrawFreeze p).num 0x2700 3 = d.num 0x2700 3 := by
  have hp : 0x2700 ≠ pidx p 0x22 := by unfold pidx; omega
  unfold withdrawFreeze
  dsimp only
  split_ifs
  · exact ⟨rfl, rfl, rfl, rfl, (num_releaseGates_ne hp (by decide)).trans (onPort_num ..)⟩
  · exact ⟨rfl, rfl, rfl, rfl, onPort_num ..⟩

/-- The freeze command withdrawn from several ports (R440). -/
def withdrawn (d : Dev) (ps : List PortId) : Dev := ps.foldl (fun d p => d.withdrawFreeze p) d

theorem withdrawn_leaves (d : Dev) (ps : List PortId) : (d.withdrawn ps).lanes = d.lanes ∧
    (d.withdrawn ps).flash = d.flash ∧ (d.withdrawn ps).frz = d.frz ∧ (d.withdrawn ps).frozen = d.frozen ∧
    (d.withdrawn ps).num 0x2700 3 = d.num 0x2700 3 := by
  unfold withdrawn
  induction ps generalizing d with
  | nil => exact ⟨rfl, rfl, rfl, rfl, rfl⟩
  | cons p ps ih =>
    obtain ⟨hlanes, hflash, hfrz, hfrozen, hnum⟩ := d.withdrawFreeze_leaves p
    obtain ⟨hlanes', hflash', hfrz', hfrozen', hnum'⟩ := ih (d.withdrawFreeze p)
    exact ⟨hlanes'.trans hlanes, hflash'.trans hflash, hfrz'.trans hfrz, hfrozen'.trans hfrozen, hnum'.trans hnum⟩

theorem mendCommit_of_whole (h : d.frz.torn = false) : d.mendCommit = d := by
  unfold mendCommit
  rw [h]

/-- RESUME of a freeze that left no commit torn (R440). -/
theorem resumeStep_of_resumable (hon : d.boot.phase ≠ .low) (hf : d.frozen = true) (hr : d.frz.resumable = true)
    (hrun : d.frz.running = false) (ht : d.frz.torn = false) : resumeStep d =
    let e := ({ d.tapInstr 0x44 false [false] with frozen := false } : Dev).withdrawn d.portsPresent
    { e with frz := Freeze.atReset }.inc 0x2700 3 := by
  set e := ({ d.tapInstr 0x44 false [false] with frozen := false } : Dev).withdrawn d.portsPresent with he
  have hwhole : e.frz.torn = false := (congrArg Freeze.torn (withdrawn_leaves _ _).2.2.1).trans ht
  have hstep : resumeStep d = { e.mendCommit with frz := Freeze.atReset }.inc 0x2700 3 := by
    unfold resumeStep
    dsimp only
    rw [if_pos (tapOn_of_ne hon), if_neg (by simp [tapInstr, hf]), if_neg (by simp [tapInstr, hr, hrun])]
    rfl
  rw [hstep, mendCommit_of_whole hwhole]

/-- RESUME of a freeze that may not end is refused (R440). -/
theorem resumeStep_of_refused (hon : d.boot.phase ≠ .low) (hf : d.frozen = true)
    (h : d.frz.resumable = false ∨ d.frz.running = true) :
    resumeStep d = { d.tapInstr 0x44 false [false] with frz := { d.frz with refused := true } } := by
  unfold resumeStep
  dsimp only
  rw [if_pos (tapOn_of_ne hon), if_neg (by simp [tapInstr, hf]), if_pos (by exact h)]
  rfl

/-! ### Boundary scan -/

theorem chopIdx_ne_pidx (l : LaneId) (p : PortId) : pidx p 0x22 ≠ chopIdx l := by cases l <;> cases p <;> decide

theorem chopperOff_leaves (d : Dev) (l : LaneId) (n : Nat) : (d.chopperOff l n).ports = d.ports ∧
    (d.chopperOff l n).tap = d.tap ∧ ∀ i s, i ≠ chopIdx l → s < 256 → (d.chopperOff l n).num i s = d.num i s := by
  unfold chopperOff
  split_ifs
  · refine ⟨rfl, rfl, fun i s hi hs => ?_⟩
    dsimp only
    rw [num_put_of_idx_ne _ _ hi.symm (by decide) hs, onLane_num]
    exact num_put_of_idx_ne _ _ hi.symm (by decide) hs
  · exact ⟨rfl, rfl, fun _ _ _ _ => rfl⟩

theorem num_chopperOff (d : Dev) (l : LaneId) (n : Nat) : (d.chopperOff l n).num (chopIdx l) 0x10 ≠ 1 := by
  unfold chopperOff
  split_ifs with h
  · exact (num_put ..).trans_ne (by decide)
  · simpa using h

theorem bscanCoast_eq (d : Dev) : d.bscanCoast =
    (d.unitsCoast.chopperOff .a ((d.unitsCoast.lane .a).tick 0)).chopperOff .b
      (((d.unitsCoast.chopperOff .a ((d.unitsCoast.lane .a).tick 0)).lane .b).tick 0) := rfl

/-- Under EXTEST, HIGHZ and CLAMP no brake output is on and every unit coasts (R462). -/
theorem bscanCoast_coasts (d : Dev) : (∀ l, d.bscanCoast.num (chopIdx l) 0x10 ≠ 1) ∧
    (∀ p, d.bscanCoast.safeOut p = 1 ∧ (d.bscanCoast.port p).mod.offSeen = true ∧
      (d.bscanCoast.port p).reg = (d.port p).reg) ∧ d.bscanCoast.tap = d.tap := by
  rw [bscanCoast_eq]
  set e := d.unitsCoast.chopperOff .a ((d.unitsCoast.lane .a).tick 0) with he
  obtain ⟨hports, htap, hnum⟩ := d.unitsCoast.chopperOff_leaves .a ((d.unitsCoast.lane .a).tick 0)
  obtain ⟨hports', htap', hnum'⟩ := e.chopperOff_leaves .b ((e.lane .b).tick 0)
  rw [← he] at hports htap hnum
  refine ⟨fun l => ?_, fun p => ?_, htap'.trans htap⟩
  · cases l
    · rw [hnum' _ _ (by decide) (by decide)]
      exact num_chopperOff _ _ _
    · exact num_chopperOff _ _ _
  · have hport : (e.chopperOff .b ((e.lane .b).tick 0)).port p = d.unitsCoast.port p :=
      congrArg (fun q : Quad Port => q.get p) (hports'.trans hports)
    have hsafe : (e.chopperOff .b ((e.lane .b).tick 0)).safeOut p = d.unitsCoast.safeOut p :=
      safeOut_congr ((hnum' _ _ (chopIdx_ne_pidx _ _) (by decide)).trans (hnum _ _ (chopIdx_ne_pidx _ _) (by decide)))
    rw [hport, hsafe]
    exact d.unitsCoast_coasts p

/-! ### Object requests -/

theorem loadUnit_tap (d : Dev) (cap : Nat) : ∃ k out, d.loadUnit .tap cap =
    d.setLink .tap { d.tap.link with loaded := k, out := out } := by
  unfold loadUnit
  dsimp only
  cases d.outResponse .tap <;> exact ⟨_, _, rfl⟩

/-- The outbound unit consumed leaves the assembly and the mark. -/
theorem consumeUnit_tap (d : Dev) : (d.consumeUnit .tap).tap.link.asm = d.tap.link.asm ∧
    (d.consumeUnit .tap).tap.link.mark = d.tap.link.mark ∧ (d.consumeUnit .tap).tap.ir = d.tap.ir := by
  unfold consumeUnit
  dsimp only
  cases (d.reqPort .tap).tx with
  | nil => exact ⟨rfl, rfl, rfl⟩
  | cons f rest =>
    dsimp only
    split_ifs <;> exact ⟨rfl, rfl, rfl⟩

/-- Three bytes at most open an assembly. -/
theorem assembled_tap_of_short {b : List Byte} (h : b.length ≤ 3) :
    d.assembled .tap b = d.setLink .tap { d.tap.link with asm := some b } := by
  unfold assembled
  rw [if_neg (by omega), if_neg (by omega)]
  rfl

/-- A start unit opens an assembly with its bytes (R406). -/
theorem takeUnit_tap_of_start {u : List Byte} (hbad : unitBad u = false) (hkind : leNat (u.take 1) / 64 = 2) :
    d.takeUnit .tap u = d.setLink .tap { d.tap.link with asm := some ((u.drop 1).take (leNat (u.take 1) / 16 % 4)) } := by
  unfold takeUnit
  dsimp only
  rw [if_neg (by simp [hbad]), if_pos hkind, ← assembled_tap_of_short]
  · split_ifs <;> rfl
  · exact (List.length_take_le ..).trans (by omega)

/-- An OBJ whose unit did not have 32 cycles takes nothing and marks the next outbound unit (R463). -/
theorem objStep_of_cycles (hp : d.powered = true) (hf : d.frozen = false) {cycles : Nat} (word : Nat) (h : cycles ≠ 32) :
    (objStep cycles word d).tap.link.mark = true ∧ (objStep cycles word d).tap.link.asm = none ∧
    (objStep cycles word d).net = d.net := by
  obtain ⟨k, out, hload⟩ := d.loadUnit_tap 3
  unfold objStep
  rw [if_neg (by simp [hp, hf]), hload]
  dsimp only
  rw [if_pos h]
  exact ⟨rfl, rfl, rfl⟩

/-- An OBJ of 32 cycles takes its unit with the mark cleared (R463). -/
theorem objStep_of_unit (hp : d.powered = true) (hf : d.frozen = false) (word : Nat) : ∃ e : Dev,
    objStep 32 word d = e.takeUnit .tap (toLE 4 word).reverse ∧ e.tap.ir = 0x46 ∧ e.tap.link.mark = false := by
  obtain ⟨k, out, hload⟩ := d.loadUnit_tap 3
  unfold objStep
  rw [if_neg (by simp [hp, hf]), hload]
  dsimp only
  rw [if_neg (by decide)]
  exact ⟨_, rfl, (consumeUnit_tap _).2.2, (consumeUnit_tap _).2.1⟩

end Dev
end Sys2Proof.Machine
end

section
/-! PROOF. O48: the TAP's debug and boundary-scan instructions (R292, R434, R435, R440, R462, R463). -/

namespace Sys2Proof.Machine

/-- A change that leaves the block leaves the state. -/
theorem next_upd_of_fixed {s : State} {f : Dev → Dev} (h : f s.dev = s.dev) :
    (Host.Outcome.next (s.upd f) : Host.Outcome State Fault Refusal) = .next s :=
  congrArg Host.Outcome.next (State.upd_of_fixed h)

/-- A change of one block to another that gives the same. -/
theorem next_upd_congr {s : State} {f g : Dev → Dev} (h : f s.dev = g s.dev) :
    (Host.Outcome.next (s.upd f) : Host.Outcome State Fault Refusal) = .next (s.upd g) :=
  congrArg Host.Outcome.next (congrArg (fun d => { s with dev := d }) h)

theorem debugInstructionsActOnTheFreeze : Says.DebugInstructionsActOnTheFreeze := by
  constructor
  · intro s v words h
    have hoff : ¬ s.dev.tapOn = true := by simp [Dev.tapOn_of_eq h]
    exact ⟨next_upd_of_fixed (if_neg hoff), next_upd_of_fixed (if_neg hoff), next_upd_of_fixed (if_neg hoff),
      next_upd_of_fixed (if_neg hoff), next_upd_of_fixed (if_neg hoff), next_upd_of_fixed (if_neg hoff)⟩
  · intro s h
    have hon := Dev.tapOn_of_ne h
    refine ⟨next_upd_congr (if_pos hon), fun v hv => ?_, fun v hv => ?_, fun words hf => ?_, fun hf ha => ?_,
      fun hf hr hrun ht => ?_, fun hf hr => ?_, fun hh => ?_⟩
    · refine answers_of_upd rfl fun u hu => ?_
      rw [hu, dumpAddrStep, if_pos hon, if_pos hv]
      exact ⟨rfl, rfl⟩
    · refine answers_of_upd rfl fun u hu => ?_
      rw [hu, dumpAddrStep, if_pos hon, if_neg hv]
      exact ⟨rfl, rfl⟩
    · refine answers_of_upd rfl fun u hu => ?_
      rw [hu, dumpDataStep, if_pos hon]
      exact (Dev.tdo_foldl_shiftWord (d := s.dev.tapInstr 0x43 false []) hf words).trans (List.nil_append _)
    · refine answers_of_upd rfl fun u hu => ?_
      rw [hu, dumpDataStep, if_pos hon]
      refine ⟨?_, Nat.mod_eq_of_lt ha, rfl⟩
      calc _ = [] ++ bitsOfBytes (if s.dev.frozen then s.dev.dumpWord s.dev.tap.dumpAddr else [0, 0, 0, 0]) := rfl
        _ = _ := by rw [if_pos hf, List.nil_append]
    · refine answers_of_upd rfl fun u hu => ?_
      rw [hu, Dev.resumeStep_of_resumable h hf hr hrun ht]
      obtain ⟨hlanes, hflash, -, hfrozen, hnum⟩ := Dev.withdrawn_leaves
        ({ s.dev.tapInstr 0x44 false [false] with frozen := false } : Dev) s.dev.portsPresent
      exact ⟨hfrozen, rfl, (Dev.num_inc ..).trans (congrArg (fun n => min (n + 1) 4294967295) hnum), hlanes, hflash⟩
    · refine answers_of_upd rfl fun u hu => ?_
      rw [hu, Dev.resumeStep_of_refused h hf hr]
      exact ⟨hf, rfl, rfl⟩
    · refine answers_of_upd rfl fun u hu => ?_
      rw [hu, sysresetStep, if_pos hon]
      have hh' : (s.dev.tapInstr 0x45 false [false]).boot.phase ≠ .held := hh
      obtain ⟨hcause, -, hports, -, -, hfrozen, -, hflash, -⟩ := Dev.resetWith_leaves hh' 6 0
      exact ⟨Dev.boot_resetWith 0 (by decide) (by decide), hcause, hfrozen,
        congrArg Tap.ir (Dev.tap_resetWith 0 (by decide)), hports,
        (congrArg Flash.recA hflash).trans (Dev.flash_keep _).1⟩

/-- What EXTEST, HIGHZ and CLAMP make of the ports and the choppers. -/
def CoastsUnder (ir : Nat) (d e : Dev) : Prop :=
  e.tap.ir = ir ∧ e.tap.bscan = true ∧ (∀ l, l ∈ d.lanesPresent → e.num (chopIdx l) 0x10 ≠ 1) ∧
    ∀ p, p ∈ d.portsPresent → e.safeOut p = 1 ∧ (e.port p).mod.offSeen = true ∧ (e.port p).reg = (d.port p).reg

theorem coastsUnder_bscanCoast (d : Dev) (ir : Nat) (out : List Bool) :
    CoastsUnder ir d (d.tapInstr ir true out).bscanCoast := by
  obtain ⟨hchop, hport, htap⟩ := (d.tapInstr ir true out).bscanCoast_coasts
  exact ⟨congrArg Tap.ir htap, congrArg Tap.bscan htap, fun l _ => hchop l, fun p _ => hport p⟩

theorem scanInstructionsActOnTheRegisters : Says.ScanInstructionsActOnTheRegisters := by
  refine ⟨fun s b x code tdi h => ?_, fun s cycles word h => next_upd_congr (if_pos h), fun s h => ?_⟩
  · have hoff : ¬ s.dev.tapOn = true := by simp [Dev.tapOn_of_eq h]
    exact ⟨next_upd_of_fixed (if_neg hoff), next_upd_of_fixed (if_neg hoff), next_upd_of_fixed (if_neg hoff),
      next_upd_of_fixed (if_neg hoff), next_upd_of_fixed (if_neg hoff),
      next_upd_of_fixed (if_neg (by simp [Dev.tapOn_of_eq h]))⟩
  · have hon := Dev.tapOn_of_ne h
    dsimp only
    refine ⟨next_upd_congr (if_pos hon), fun pins drive => ?_, fun pins pre => ?_, ?_, ?_, fun code tdi hc => ?_,
      fun code tdi hc => ?_, fun cycles word hp hf hne => ?_, fun word hp hf hbad hkind => ?_, ?_⟩
    · refine answers_of_upd rfl fun u hu => ?_
      rw [hu, extestStep, if_pos hon]
      exact ⟨coastsUnder_bscanCoast s.dev 0x02 (cells74 pins), rfl,
        congrArg Tap.tdo (s.dev.tapInstr 0x02 true (cells74 pins)).bscanCoast_coasts.2.2⟩
    · refine answers_of_upd rfl fun u hu => ?_
      rw [hu, samplePreloadStep, if_pos hon]
      exact ⟨rfl, rfl, rfl, rfl⟩
    · refine answers_of_upd rfl fun u hu => ?_
      rw [hu, highzStep, if_pos hon]
      exact coastsUnder_bscanCoast s.dev 0x04 [false]
    · refine answers_of_upd rfl fun u hu => ?_
      rw [hu, clampStep, if_pos hon]
      exact coastsUnder_bscanCoast s.dev 0x05 [false]
    · exact next_upd_congr (if_pos (by rw [hon, hc]; rfl))
    · exact next_upd_of_fixed (if_neg (by rw [hc]; simp))
    · exact answers_of_upd rfl fun u hu => hu ▸ Dev.objStep_of_cycles hp hf word hne
    · refine answers_of_upd rfl fun u hu => ?_
      obtain ⟨e, he, hir, hmark⟩ := Dev.objStep_of_unit hp hf word
      rw [hu, he, Dev.takeUnit_tap_of_start hbad hkind]
      exact ⟨hir, hmark, rfl⟩
    · exact answers_of_upd rfl fun u hu => hu ▸ ⟨rfl, rfl, rfl, rfl, rfl⟩

/-- Settles O48. -/
theorem theTapActsOnFreezeAndPins : Obligations.TheTapActsOnFreezeAndPins :=
  ⟨debugInstructionsActOnTheFreeze, scanInstructionsActOnTheRegisters⟩

end Sys2Proof.Machine
end

section
/-! SUPPORT. The fuse array through the block's operations: what neither programs nor reads it leaves it (R413). -/

namespace Sys2Proof.Machine.Dev

variable (d : Dev)

@[simp] theorem fuses_foldl {α : Type} {f : Dev → α → Dev} {xs : List α} (h : ∀ d x, (f d x).fuses = d.fuses) :
    (xs.foldl f d).fuses = d.fuses := foldl_keeps fuses (fun x _ d => h d x) d

/-! ### Ops -/

@[simp] theorem fuses_degradeEvent (code) : (d.degradeEvent code).fuses = d.fuses := by simp [degradeEvent, apply_ite fuses]
@[simp] theorem fuses_showLanes (ls) : (d.showLanes ls).fuses = d.fuses := rfl
@[simp] theorem fuses_showAt (l) : (d.showAt l).fuses = d.fuses := rfl
@[simp] theorem fuses_show : (d.show).fuses = d.fuses := rfl
@[simp] theorem fuses_queueTrace (r) : (d.queueTrace r).fuses = d.fuses := by simp [queueTrace, apply_ite fuses]
@[simp] theorem fuses_setFaults (p fs) : (d.setFaults p fs).fuses = d.fuses := rfl
@[simp] theorem fuses_noteFault (p f) : (d.noteFault p f).fuses = d.fuses := by simp [noteFault, apply_ite fuses]
@[simp] theorem fuses_recordFault (p f) : (d.recordFault p f).fuses = d.fuses := by simp [recordFault]
@[simp] theorem fuses_recordLaneFault (l f) : (d.recordLaneFault l f).fuses = d.fuses := by simp [recordLaneFault]
@[simp] theorem fuses_recordDeviceFault (f) : (d.recordDeviceFault f).fuses = d.fuses := by simp [recordDeviceFault]
@[simp] theorem fuses_deviceFault (f) : (d.deviceFault f).fuses = d.fuses := by simp [deviceFault, apply_ite fuses]
@[simp] theorem fuses_trip (p f code) : (d.trip p f code).fuses = d.fuses := by simp [trip]
@[simp] theorem fuses_countRead (p c stale skipped) : (d.countRead p c stale skipped).fuses = d.fuses :=
  by simp [countRead, apply_ite fuses]
@[simp] theorem fuses_tripIf (p b) : (d.tripIf p b).fuses = d.fuses := by simp [tripIf, apply_ite fuses]
@[simp] theorem fuses_recordCode (p code) : (d.recordCode p code).fuses = d.fuses := by simp [recordCode, apply_ite fuses]
@[simp] theorem fuses_commandAt (p n c fault) : (d.commandAt p n c fault).fuses = d.fuses :=
  by simp [commandAt, apply_ite fuses]
@[simp] theorem fuses_releaseLate (p) : (d.releaseLate p).fuses = d.fuses := by simp [releaseLate]
@[simp] theorem fuses_chainSettings : (d.chainSettings).fuses = d.fuses := rfl
@[simp] theorem fuses_unitsCoast : (d.unitsCoast).fuses = d.fuses := rfl

/-! ### Sensing -/

@[simp] theorem fuses_putLsb (p) : (d.putLsb p).fuses = d.fuses := rfl
@[simp] theorem fuses_countPeriod (p ss v) : (d.countPeriod p ss v).fuses = d.fuses := by simp [countPeriod, apply_ite fuses]
@[simp] theorem fuses_bothPoorLimitStep (p) : (bothPoorLimitStep p d).fuses = d.fuses :=
  by simp [bothPoorLimitStep, apply_ite fuses]
@[simp] theorem fuses_startPass (p) : (d.startPass p).fuses = d.fuses := by simp [startPass, apply_ite fuses]
@[simp] theorem fuses_abandonPass (p) : (d.abandonPass p).fuses = d.fuses := by unfold abandonPass; split <;> simp
@[simp] theorem fuses_calibrationIntervalStep (p) : (calibrationIntervalStep p d).fuses = d.fuses :=
  by simp [calibrationIntervalStep, apply_ite fuses]
@[simp] theorem fuses_csCalibrationEndStep (p c) : (csCalibrationEndStep p c d).fuses = d.fuses :=
  by unfold csCalibrationEndStep; split <;> simp [apply_ite fuses]

/-! ### General -/

@[simp] theorem fuses_onGc (g f) : (d.onGc g f).fuses = d.fuses := rfl
@[simp] theorem fuses_gcJob (g j) : (d.gcJob g j).fuses = d.fuses := rfl
@[simp] theorem fuses_gcStartPass (g clk) : (d.gcStartPass g clk).fuses = d.fuses := rfl
@[simp] theorem fuses_gcCopy (g) : (d.gcCopy g).fuses = d.fuses := rfl
@[simp] theorem fuses_gcRestart (g clk) : (d.gcRestart g clk).fuses = d.fuses := by simp [gcRestart, apply_ite fuses]
@[simp] theorem fuses_gcPause (g) : (d.gcPause g).fuses = d.fuses := rfl
@[simp] theorem fuses_gcStop (g) : (d.gcStop g).fuses = d.fuses := rfl
@[simp] theorem fuses_gcLost (l) : (d.gcLost l).fuses = d.fuses := by simp -implicitDefEqProofs [gcLost]
@[simp] theorem fuses_gcBeginCal (g clk) : (d.gcBeginCal g clk).fuses = d.fuses := rfl
@[simp] theorem fuses_gcBeginInject (g i clk) : (d.gcBeginInject g i clk).fuses = d.fuses := rfl
@[simp] theorem fuses_gcNext (g next clk) : (d.gcNext g next clk).fuses = d.fuses :=
  by unfold gcNext; dsimp only; (repeat' split) <;> simp
@[simp] theorem fuses_gcStart (g clk) : (d.gcStart g clk).fuses = d.fuses :=
  by unfold gcStart; dsimp only; split <;> simp [apply_ite fuses]
@[simp] theorem fuses_gcConversionCompleteStep (g x) : (gcConversionCompleteStep g x d).fuses = d.fuses :=
  by unfold gcConversionCompleteStep; dsimp only; (repeat' split) <;> simp
@[simp] theorem fuses_restartSequenceStep (g) : (restartSequenceStep g d).fuses = d.fuses :=
  by unfold restartSequenceStep; split <;> simp [apply_ite fuses]
@[simp] theorem fuses_gcRestartTakesEffectStep (g) : (gcRestartTakesEffectStep g d).fuses = d.fuses :=
  by unfold gcRestartTakesEffectStep; split <;> simp [apply_ite fuses]
@[simp] theorem fuses_injectedRequestStep (g) : (injectedRequestStep g d).fuses = d.fuses :=
  by unfold injectedRequestStep; split <;> simp [apply_ite fuses]
@[simp] theorem fuses_gcStartCalibrationStep (g) : (gcStartCalibrationStep g d).fuses = d.fuses :=
  by unfold gcStartCalibrationStep; split <;> simp [apply_ite fuses]
@[simp] theorem fuses_gcFinishCal (g q) : (d.gcFinishCal g q).fuses = d.fuses := by simp [gcFinishCal, apply_ite fuses]
@[simp] theorem fuses_gcCalibrationEndStep (g q) : (gcCalibrationEndStep g q d).fuses = d.fuses :=
  by unfold gcCalibrationEndStep; split <;> simp [apply_ite fuses]

/-! ### Journal -/

@[simp] theorem fuses_settleQueue (gone) : (d.settleQueue gone).fuses = d.fuses := rfl
@[simp] theorem fuses_formJob (l origin body write change reserve ahead seen) :
    (d.formJob l origin body write change reserve ahead seen).fuses = d.fuses := rfl
@[simp] theorem fuses_takeJobs (ls) : (d.takeJobs ls).fuses = d.fuses := by simp [takeJobs, apply_ite fuses]
@[simp] theorem fuses_journalEvent (c code key new) : (d.journalEvent c code key new).fuses = d.fuses :=
  by simp [journalEvent, apply_ite fuses]
@[simp] theorem fuses_journalObjects : (d.journalObjects).fuses = d.fuses := rfl
@[simp] theorem fuses_program (j) : (d.program j).fuses = d.fuses := rfl
@[simp] theorem fuses_commitEvents : (d.commitEvents).fuses = d.fuses := by simp [commitEvents, apply_ite fuses]
@[simp] theorem fuses_onSession (id f) : (d.onSession id f).fuses = d.fuses := rfl
@[simp] theorem fuses_onReqPort (o f) : (d.onReqPort o f).fuses = d.fuses := rfl
@[simp] theorem fuses_transmit (o f) : (d.transmit o f).fuses = d.fuses := rfl
@[simp] theorem fuses_respond (r res payload) : (d.respond r res payload).fuses = d.fuses :=
  by simp [respond, apply_ite fuses]
@[simp] theorem fuses_release (c res) : (d.release c res).fuses = d.fuses := by unfold release; split <;> simp
@[simp] theorem fuses_countSessions : (d.countSessions).fuses = d.fuses := rfl
@[simp] theorem fuses_streamEvent (s code) : (d.streamEvent s code).fuses = d.fuses := by simp [streamEvent]
@[simp] theorem fuses_detach (s) : (d.detach s).fuses = d.fuses := by simp [detach, apply_ite fuses]
@[simp] theorem fuses_dropSession (id) : (d.dropSession id).fuses = d.fuses := rfl
@[simp] theorem fuses_closeSession (id cause) : (d.closeSession id cause).fuses = d.fuses :=
  by simp [closeSession, apply_ite fuses]

/-! ### Gains -/

@[simp] theorem fuses_convert (p) : (d.convert p).fuses = d.fuses := rfl

/-! ### PortState -/

@[simp] theorem fuses_requestIn (p n goal keepArm) : (d.requestIn p n goal keepArm).fuses = d.fuses :=
  by simp [requestIn, apply_ite fuses]
@[simp] theorem fuses_enterClosed (p src) : (d.enterClosed p src).fuses = d.fuses := by simp [enterClosed, apply_ite fuses]
@[simp] theorem fuses_enterAlign (p) : (d.enterAlign p).fuses = d.fuses := rfl
@[simp] theorem fuses_releaseGates (p) : (d.releaseGates p).fuses = d.fuses := rfl
@[simp] theorem fuses_stopModulator (p) : (d.stopModulator p).fuses = d.fuses := rfl
@[simp] theorem fuses_forgetCatch (p src) : (d.forgetCatch p src).fuses = d.fuses := by simp [forgetCatch, apply_ite fuses]
@[simp] theorem fuses_entered (p src q) : (d.entered p src q).fuses = d.fuses :=
  by unfold entered; dsimp only; split <;> simp [apply_ite fuses]
@[simp] theorem fuses_offRelease (p src dst) : (d.offRelease p src dst).fuses = d.fuses :=
  by simp [offRelease, apply_ite fuses]
@[simp] theorem fuses_portStateTransitionStep (p) : (portStateTransitionStep p d).fuses = d.fuses :=
  by unfold portStateTransitionStep; dsimp only; split <;> simp [apply_ite fuses]

/-! ### Power -/

@[simp] theorem fuses_pairObjects (p) : (d.pairObjects p).fuses = d.fuses := by simp [pairObjects, apply_ite fuses]
@[simp] theorem fuses_pairCommanded (p) : (d.pairCommanded p).fuses = d.fuses := by simp [pairCommanded, apply_ite fuses]
@[simp] theorem fuses_safeStateCommandStep (p step) : (safeStateCommandStep p step d).fuses = d.fuses :=
  by simp [safeStateCommandStep, apply_ite fuses]
@[simp] theorem fuses_order1Arises (p) : (d.order1Arises p).fuses = d.fuses := by simp [order1Arises, apply_ite fuses]
@[simp] theorem fuses_ascReleaseStep (p codes) : (ascReleaseStep p codes d).fuses = d.fuses :=
  by simp [ascReleaseStep, apply_ite fuses]
@[simp] theorem fuses_safeStateReleaseOffStep (p) : (safeStateReleaseOffStep p d).fuses = d.fuses :=
  by simp [safeStateReleaseOffStep, apply_ite fuses]
@[simp] theorem fuses_bootUvFaultStep (p) : (bootUvFaultStep p d).fuses = d.fuses :=
  by simp [bootUvFaultStep, apply_ite fuses]
@[simp] theorem fuses_commandLane (l code) : (d.commandLane l code).fuses = d.fuses := by simp [commandLane, apply_ite fuses]
@[simp] theorem fuses_gdSupplyFaultStep (l vgdMv heldNs) : (gdSupplyFaultStep l vgdMv heldNs d).fuses = d.fuses :=
  by simp [gdSupplyFaultStep, apply_ite fuses]
@[simp] theorem fuses_vgdBelow7vStep (l vgdMv) : (vgdBelow7vStep l vgdMv d).fuses = d.fuses := by simp [vgdBelow7vStep]
@[simp] theorem fuses_desaturationStep (p g x onNs aboveNs) : (desaturationStep p g x onNs aboveNs d).fuses = d.fuses :=
  by simp [desaturationStep, apply_ite fuses]
@[simp] theorem fuses_phaseNodeCheckStep (p x high c) : (phaseNodeCheckStep p x high c d).fuses = d.fuses :=
  by simp [phaseNodeCheckStep, apply_ite fuses]
@[simp] theorem fuses_gdFeedbackFaultStep (p) : (gdFeedbackFaultStep p d).fuses = d.fuses :=
  by simp [gdFeedbackFaultStep, apply_ite fuses]
@[simp] theorem fuses_setBus (p mv) : (d.setBus p mv).fuses = d.fuses := rfl
@[simp] theorem fuses_setBusBoth (l mv1 mv2) : (d.setBusBoth l mv1 mv2).fuses = d.fuses :=
  by unfold setBusBoth; split <;> simp
@[simp] theorem fuses_chopperEngageStep (p t mv) : (chopperEngageStep p t mv d).fuses = d.fuses :=
  by simp [chopperEngageStep, apply_ite fuses]
@[simp] theorem fuses_putEngaged (l T) : (d.putEngaged l T).fuses = d.fuses := rfl
@[simp] theorem fuses_chopperOff (l T) : (d.chopperOff l T).fuses = d.fuses := by simp [chopperOff, apply_ite fuses]
@[simp] theorem fuses_chopperReleaseStep (l t mv1 mv2) : (chopperReleaseStep l t mv1 mv2 d).fuses = d.fuses :=
  by simp [chopperReleaseStep, apply_ite fuses]
@[simp] theorem fuses_chopperFault (l T cause active) : (d.chopperFault l T cause active).fuses = d.fuses :=
  by simp -implicitDefEqProofs [chopperFault, apply_ite fuses]
@[simp] theorem fuses_chopperDrainCheckStep (l t brksMv) : (chopperDrainCheckStep l t brksMv d).fuses = d.fuses :=
  by simp [chopperDrainCheckStep, apply_ite fuses]
@[simp] theorem fuses_chopperEffectCheckStep (l t mv1 mv2) : (chopperEffectCheckStep l t mv1 mv2 d).fuses = d.fuses :=
  by simp [chopperEffectCheckStep, apply_ite fuses]
@[simp] theorem fuses_nonmemberOv2Step (p t mv) : (nonmemberOv2Step p t mv d).fuses = d.fuses :=
  by simp [nonmemberOv2Step, apply_ite fuses]
@[simp] theorem fuses_nonmemberOv2WithdrawStep (p t mv) : (nonmemberOv2WithdrawStep p t mv d).fuses = d.fuses :=
  by simp [nonmemberOv2WithdrawStep, apply_ite fuses]
@[simp] theorem fuses_escalationDelayStep (p t mv) : (escalationDelayStep p t mv d).fuses = d.fuses :=
  by unfold escalationDelayStep; dsimp only; split <;> simp [apply_ite fuses]
@[simp] theorem fuses_busOv3Step (p mv aboveNs) : (busOv3Step p mv aboveNs d).fuses = d.fuses :=
  by simp [busOv3Step, apply_ite fuses]
@[simp] theorem fuses_coastTimeoutStep (p) : (coastTimeoutStep p d).fuses = d.fuses :=
  by simp [coastTimeoutStep, apply_ite fuses]
@[simp] theorem fuses_standstillStep (p) : (standstillStep p d).fuses = d.fuses := by simp [standstillStep, apply_ite fuses]
@[simp] theorem fuses_removeFaults (p fs) : (d.removeFaults p fs).fuses = d.fuses := by simp [removeFaults, apply_ite fuses]
@[simp] theorem fuses_clearFaults (p fs) : (d.clearFaults p fs).fuses = d.fuses := by simp [clearFaults, apply_ite fuses]
@[simp] theorem fuses_chopperCleared (l) : (d.chopperCleared l).fuses = d.fuses := by simp [chopperCleared, apply_ite fuses]
@[simp] theorem fuses_syncFbFault (p) : (d.syncFbFault p).fuses = d.fuses := rfl
@[simp] theorem fuses_faultClearStep (p o) : (faultClearStep p o d).fuses = d.fuses :=
  by simp [faultClearStep, apply_ite fuses]

/-! ### Pairs -/

@[simp] theorem fuses_crosswindRecordArrivalStep (p t) : (crosswindRecordArrivalStep p t d).fuses = d.fuses :=
  by unfold crosswindRecordArrivalStep; split <;> simp [apply_ite fuses]
@[simp] theorem fuses_faultLineReceivedStep (p) : (faultLineReceivedStep p d).fuses = d.fuses :=
  by simp [faultLineReceivedStep, apply_ite fuses]
@[simp] theorem fuses_pairStateTransitionStep (p) : (pairStateTransitionStep p d).fuses = d.fuses :=
  by unfold pairStateTransitionStep; dsimp only; split <;> simp [apply_ite fuses]
@[simp] theorem fuses_xwLineFaultStep (p) : (xwLineFaultStep p d).fuses = d.fuses :=
  by simp [xwLineFaultStep, apply_ite fuses]
@[simp] theorem fuses_blamedPartnerDrivingStep (p) : (blamedPartnerDrivingStep p d).fuses = d.fuses :=
  by simp [blamedPartnerDrivingStep, apply_ite fuses]
@[simp] theorem fuses_overloadTimeExpiryStep (p) : (overloadTimeExpiryStep p d).fuses = d.fuses :=
  by unfold overloadTimeExpiryStep; dsimp only; split <;> simp [apply_ite fuses]
@[simp] theorem fuses_serialLost (l) : (d.serialLost l).fuses = d.fuses := by unfold serialLost; split <;> simp
@[simp] theorem fuses_losePort (p) : (d.losePort p).fuses = d.fuses := rfl
@[simp] theorem fuses_loseLane (l f) : (d.loseLane l f).fuses = d.fuses := by simp -implicitDefEqProofs [loseLane]
@[simp] theorem fuses_partnerLaneLostStep (l) : (partnerLaneLostStep l d).fuses = d.fuses :=
  by simp [partnerLaneLostStep, apply_ite fuses]
@[simp] theorem fuses_degradedEntryStep : (degradedEntryStep d).fuses = d.fuses :=
  by simp [degradedEntryStep, apply_ite fuses]

/-! ### Modes -/

@[simp] theorem fuses_modeStep (idx v) {f : Dev → Dev} (hf : ∀ d, (f d).fuses = d.fuses) :
    (d.modeStep idx v f).fuses = d.fuses := by unfold modeStep; split <;> simp [apply_ite fuses, hf]
@[simp] theorem fuses_discardActions : (d.discardActions).fuses = d.fuses := by simp [discardActions]
@[simp] theorem fuses_closeAll : (d.closeAll).fuses = d.fuses := by simp [closeAll, apply_ite fuses]
@[simp] theorem fuses_powerDown (target) : (d.powerDown target).fuses = d.fuses := by simp [powerDown]
@[simp] theorem fuses_modeRequestSleepStep : (modeRequestSleepStep d).fuses = d.fuses := by simp [modeRequestSleepStep]
@[simp] theorem fuses_privilegedRequestStorageStep : (privilegedRequestStorageStep d).fuses = d.fuses :=
  by simp [privilegedRequestStorageStep]
@[simp] theorem fuses_privilegedRequestConfigureStep : (privilegedRequestConfigureStep d).fuses = d.fuses :=
  by simp -implicitDefEqProofs [privilegedRequestConfigureStep]
@[simp] theorem fuses_disarm (p) : (d.disarm p).fuses = d.fuses := by simp [disarm, apply_ite fuses]
@[simp] theorem fuses_modeRequestStandbyStep :
    (modeRequestStandbyStep d).fuses = d.fuses := 
  fuses_modeStep d _ _ fun d => by simp -implicitDefEqProofs [apply_ite fuses]
@[simp] theorem fuses_enterRun : (d.enterRun).fuses = d.fuses := rfl
@[simp] theorem fuses_modeRequestRunStep : (modeRequestRunStep d).fuses = d.fuses :=
  by simp -implicitDefEqProofs [modeRequestRunStep]
@[simp] theorem fuses_islandUnpoweredStep : (islandUnpoweredStep d).fuses = d.fuses :=
  by simp [islandUnpoweredStep, apply_ite fuses]
@[simp] theorem fuses_supplyUvStep (l rail mv heldNs) : (supplyUvStep l rail mv heldNs d).fuses = d.fuses :=
  by simp [supplyUvStep, apply_ite fuses]
@[simp] theorem fuses_sensorSupplyFaultStep (l mv loadMa heldNs) :
    (sensorSupplyFaultStep l mv loadMa heldNs d).fuses = d.fuses := by simp [sensorSupplyFaultStep, apply_ite fuses]
@[simp] theorem fuses_laneSupplyReturnStep (l vbatMv) : (laneSupplyReturnStep l vbatMv d).fuses = d.fuses :=
  by simp [laneSupplyReturnStep, apply_ite fuses]
@[simp] theorem fuses_laneNotReadyStep (l) : (laneNotReadyStep l d).fuses = d.fuses :=
  by simp [laneNotReadyStep, apply_ite fuses]
@[simp] theorem fuses_noteWindow : (d.noteWindow).fuses = d.fuses := rfl
@[simp] theorem fuses_thermalMeasurementStep (l o) : (thermalMeasurementStep l o d).fuses = d.fuses :=
  by simp [thermalMeasurementStep, apply_ite fuses]
@[simp] theorem fuses_overtempStep (l decidegrees heldNs) : (overtempStep l decidegrees heldNs d).fuses = d.fuses :=
  by simp [overtempStep, apply_ite fuses]

/-! ### Time -/

@[simp] theorem fuses_onDom (x f) : (d.onDom x f).fuses = d.fuses := rfl
@[simp] theorem fuses_setDomState (x v) : (d.setDomState x v).fuses = d.fuses := rfl
@[simp] theorem fuses_retune : (d.retune).fuses = d.fuses := rfl
@[simp] theorem fuses_setAt (st src) : (d.setAt st src).fuses = d.fuses := rfl
@[simp] theorem fuses_atSwitch (x) : (d.atSwitch x).fuses = d.fuses := by simp [atSwitch, apply_ite fuses]
@[simp] theorem fuses_atSelect : (d.atSelect).fuses = d.fuses :=
  by unfold atSelect; dsimp only; (repeat' split) <;> simp
@[simp] theorem fuses_advanceTime (ticks) : (d.advanceTime ticks).fuses = d.fuses := rfl
@[simp] theorem fuses_timeObjects : (d.timeObjects).fuses = d.fuses := rfl
@[simp] theorem fuses_onPeer (n f) : (d.onPeer n f).fuses = d.fuses := rfl
@[simp] theorem fuses_pdelayReqSendStep (n tx) : (pdelayReqSendStep n tx d).fuses = d.fuses :=
  by simp [pdelayReqSendStep, apply_ite fuses]
@[simp] theorem fuses_pdelayRespReceivedStep (n m rx) : (pdelayRespReceivedStep n m rx d).fuses = d.fuses :=
  by unfold pdelayRespReceivedStep; dsimp only; split <;> simp [apply_ite fuses]
@[simp] theorem fuses_pdelayReqReceivedStep (n requester seq rx tx) :
    (pdelayReqReceivedStep n requester seq rx tx d).fuses = d.fuses := by simp [pdelayReqReceivedStep, apply_ite fuses]
@[simp] theorem fuses_selectSlave (x) : (d.selectSlave x).fuses = d.fuses := by simp [selectSlave, apply_ite fuses]
@[simp] theorem fuses_noteOffset (x o oY delay) : (d.noteOffset x o oY delay).fuses = d.fuses := rfl
@[simp] theorem fuses_syncUpdate (x o r) : (d.syncUpdate x o r).fuses = d.fuses := by simp [syncUpdate, apply_ite fuses]
@[simp] theorem fuses_crossCheck (x o oY) : (d.crossCheck x o oY).2.fuses = d.fuses := by
  unfold crossCheck; dsimp only; split_ifs <;> simp
@[simp] theorem fuses_syncAccepted (x n origin correction rateOfs rx) :
    (d.syncAccepted x n origin correction rateOfs rx).fuses = d.fuses := by
  unfold syncAccepted; dsimp only; split_ifs <;> simp
@[simp] theorem fuses_onMaster (x n f) : (d.onMaster x n f).fuses = d.fuses := rfl
@[simp] theorem fuses_syncReceivedStep (n m rx) : (syncReceivedStep n m rx d).fuses = d.fuses :=
  by unfold syncReceivedStep; split <;> simp [apply_ite fuses]
@[simp] theorem fuses_followUpReceivedStep (n m) : (followUpReceivedStep n m d).fuses = d.fuses :=
  by unfold followUpReceivedStep; (repeat' split) <;> simp [apply_ite fuses]
@[simp] theorem fuses_judgeGm (x) : (d.judgeGm x).fuses = d.fuses := by unfold judgeGm; split <;> simp [apply_ite fuses]
@[simp] theorem fuses_announceReceivedStep (n m) : (announceReceivedStep n m d).fuses = d.fuses :=
  by unfold announceReceivedStep; split <;> simp [apply_ite fuses]
@[simp] theorem fuses_receiptLost (x n) : (d.receiptLost x n).fuses = d.fuses := by simp [receiptLost, apply_ite fuses]
@[simp] theorem fuses_syncReceiptTimeoutStep (x n) : (syncReceiptTimeoutStep x n d).fuses = d.fuses :=
  by simp [syncReceiptTimeoutStep, apply_ite fuses]
@[simp] theorem fuses_announceReceiptTimeoutStep (x n) : (announceReceiptTimeoutStep x n d).fuses = d.fuses :=
  by simp [announceReceiptTimeoutStep, apply_ite fuses]
@[simp] theorem fuses_atSwitchCompleteStep : (atSwitchCompleteStep d).fuses = d.fuses :=
  by simp [atSwitchCompleteStep, apply_ite fuses]
@[simp] theorem fuses_atRevertStep : (atRevertStep d).fuses = d.fuses :=
  by unfold atRevertStep; dsimp only; split <;> simp [apply_ite fuses]
@[simp] theorem fuses_domainEnableStep (x) : (domainEnableStep x d).fuses = d.fuses :=
  by unfold domainEnableStep; split <;> simp [apply_ite fuses]
@[simp] theorem fuses_setDtStep : (setDtStep d).fuses = d.fuses := by unfold setDtStep; split <;> simp [apply_ite fuses]

/-! ### Clocks -/

@[simp] theorem fuses_rootClockLossStep (l o) : (rootClockLossStep l o d).fuses = d.fuses :=
  by unfold rootClockLossStep; split <;> simp [apply_ite fuses]
@[simp] theorem fuses_backupTrimAdjustStep (l dev) : (backupTrimAdjustStep l dev d).fuses = d.fuses :=
  by simp [backupTrimAdjustStep, apply_ite fuses]
@[simp] theorem fuses_backupSteeringStepStep (l devPpm) : (backupSteeringStepStep l devPpm d).fuses = d.fuses :=
  by simp [backupSteeringStepStep, apply_ite fuses]
@[simp] theorem fuses_checkSteered : (d.checkSteered).fuses = d.fuses := by simp [checkSteered, apply_ite fuses]
@[simp] theorem fuses_laneClockComparisonStep (l w count) : (laneClockComparisonStep l w count d).fuses = d.fuses :=
  by unfold laneClockComparisonStep; split <;> simp [apply_ite fuses]
@[simp] theorem fuses_laneClockFaultStep (l) : (laneClockFaultStep l d).fuses = d.fuses :=
  by simp [laneClockFaultStep, apply_ite fuses]
@[simp] theorem fuses_commonTimeFaultStep : (commonTimeFaultStep d).fuses = d.fuses := by simp [commonTimeFaultStep]

/-! ### FeedbackHw -/

@[simp] theorem fuses_onFb (p f) : (d.onFb p f).fuses = d.fuses := rfl
@[simp] theorem fuses_raiseFb (p f) : (d.raiseFb p f).fuses = d.fuses := by simp [raiseFb]
@[simp] theorem fuses_quadratureEdgeStep (p rawA rawB cycle) : (quadratureEdgeStep p rawA rawB cycle d).fuses = d.fuses :=
  by simp [quadratureEdgeStep, apply_ite fuses]
@[simp] theorem fuses_illegalBucketLeakStep (p) : (illegalBucketLeakStep p d).fuses = d.fuses :=
  by simp [illegalBucketLeakStep, apply_ite fuses]
@[simp] theorem fuses_illegalBucketLimitStep (p) : (illegalBucketLimitStep p d).fuses = d.fuses :=
  by simp [illegalBucketLimitStep, apply_ite fuses]
@[simp] theorem fuses_indexEvent (p) : (d.indexEvent p).fuses = d.fuses := by simp [indexEvent, apply_ite fuses]
@[simp] theorem fuses_indexEventStep (p raw) : (indexEventStep p raw d).fuses = d.fuses :=
  by simp [indexEventStep, apply_ite fuses]
@[simp] theorem fuses_indexMismatchLimitStep (p) : (indexMismatchLimitStep p d).fuses = d.fuses :=
  by simp [indexMismatchLimitStep, apply_ite fuses]
@[simp] theorem fuses_presetCountStep (p) : (presetCountStep p d).fuses = d.fuses :=
  by unfold presetCountStep; split <;> simp
@[simp] theorem fuses_hallStateChangeStep (p r1 r2 r3 cycle) : (hallStateChangeStep p r1 r2 r3 cycle d).fuses = d.fuses :=
  by simp [hallStateChangeStep, apply_ite fuses]
@[simp] theorem fuses_hallInvalidTimeoutStep (p) : (hallInvalidTimeoutStep p d).fuses = d.fuses :=
  by unfold hallInvalidTimeoutStep; dsimp only; split <;> simp [apply_ite fuses]
@[simp] theorem fuses_zeroSpeedTimeoutStep (p) : (zeroSpeedTimeoutStep p d).fuses = d.fuses :=
  by simp [zeroSpeedTimeoutStep, apply_ite fuses]
@[simp] theorem fuses_sentFrameReceivedStep (p f) : (sentFrameReceivedStep p f d).fuses = d.fuses :=
  by simp [sentFrameReceivedStep, apply_ite fuses]
@[simp] theorem fuses_sentTimeoutStep (p) : (sentTimeoutStep p d).fuses = d.fuses :=
  by simp [sentTimeoutStep, apply_ite fuses]

/-! ### Judge -/

@[simp] theorem fuses_assume (key val) : (d.assume key val).fuses = d.fuses :=
  by unfold assume; dsimp only; split <;> simp [apply_ite fuses]
@[simp] theorem fuses_assumeAll (cs) : (d.assumeAll cs).fuses = d.fuses := by simp [assumeAll]
@[simp] theorem fuses_committed (origin) : (d.committed origin).fuses = d.fuses := by simp [committed]

/-! ### Changes -/

@[simp] theorem fuses_onStream (s f) : (d.onStream s f).fuses = d.fuses := rfl
@[simp] theorem fuses_streamEnabled (s) : (d.streamEnabled s).fuses = d.fuses := by simp [streamEnabled, apply_ite fuses]
@[simp] theorem fuses_comparePairs : (d.comparePairs).fuses = d.fuses := by simp [comparePairs, apply_ite fuses]
@[simp] theorem fuses_putRadius (p) : (d.putRadius p).fuses = d.fuses := rfl
@[simp] theorem fuses_bankErases : (d.bankErases).fuses = d.fuses := rfl
@[simp] theorem fuses_bufferLoaded : (d.bufferLoaded).fuses = d.fuses := rfl
@[simp] theorem fuses_putIpv4 (idx) : (d.putIpv4 idx).fuses = d.fuses := rfl
@[simp] theorem fuses_ringErase : (d.ringErase).fuses = d.fuses := by unfold ringErase; split <;> simp [apply_ite fuses]
@[simp] theorem fuses_bankWritten : (d.bankWritten).fuses = d.fuses := rfl
@[simp] theorem fuses_afterPublish (idx sub more) : (d.afterPublish idx sub more).fuses = d.fuses :=
  by simp [afterPublish, apply_ite fuses]
@[simp] theorem fuses_noteApplied (key) : (d.noteApplied key).fuses = d.fuses := rfl
@[simp] theorem fuses_publish (key raw session origin more) : (d.publish key raw session origin more).fuses = d.fuses :=
  by unfold publish; dsimp only; split <;> simp -implicitDefEqProofs [apply_ite fuses]
@[simp] theorem fuses_procWrite (l c key raw more) : (d.procWrite l c key raw more).fuses = d.fuses := rfl
@[simp] theorem fuses_eraseAhead : (d.eraseAhead).fuses = d.fuses := rfl
@[simp] theorem fuses_recordRefusal (c l key raw res) : (d.recordRefusal c l key raw res).fuses = d.fuses :=
  by simp [recordRefusal, apply_ite fuses]
@[simp] theorem fuses_refuseWrite (l c r key raw res) : (d.refuseWrite l c r key raw res).fuses = d.fuses :=
  by simp [refuseWrite, apply_ite fuses]
@[simp] theorem fuses_formChange (l c slot vpp key raw r) : (d.formChange l c slot vpp key raw r).fuses = d.fuses := rfl
@[simp] theorem fuses_write (l c r vpp key raw) : (d.write l c r vpp key raw).fuses = d.fuses :=
  by unfold write; split <;> simp [apply_ite fuses]
@[simp] theorem fuses_autoRefused (c) : (d.autoRefused c).fuses = d.fuses := by simp [autoRefused, apply_ite fuses]
@[simp] theorem fuses_dropJob (j res) : (d.dropJob j res).fuses = d.fuses :=
  by unfold dropJob; split <;> simp [apply_ite fuses]
@[simp] theorem fuses_journalCommitStartStep : (journalCommitStartStep d).fuses = d.fuses :=
  by unfold journalCommitStartStep; dsimp only; (repeat' split) <;> simp
@[simp] theorem fuses_voidUnit : (d.voidUnit).fuses = d.fuses := by simp [voidUnit, apply_ite fuses]
@[simp] theorem fuses_markOp (key) : (d.markOp key).fuses = d.fuses := by simp [markOp, apply_ite fuses]
@[simp] theorem fuses_committedJob (j) : (d.committedJob j).fuses = d.fuses :=
  by unfold committedJob; split <;> simp [apply_ite fuses]
@[simp] theorem fuses_journalCommitCompleteStep (first second) :
    (journalCommitCompleteStep first second d).fuses = d.fuses :=
  by unfold journalCommitCompleteStep; split <;> simp [apply_ite fuses]
@[simp] theorem fuses_journalBlockEraseCompleteStep : (journalBlockEraseCompleteStep d).fuses = d.fuses :=
  by unfold journalBlockEraseCompleteStep; dsimp only; (repeat' split) <;> simp
@[simp] theorem fuses_acknowledgeStep : (acknowledgeStep d).fuses = d.fuses := by unfold acknowledgeStep; split <;> simp
@[simp] theorem fuses_publishJob (j) : (d.publishJob j).fuses = d.fuses := by unfold publishJob; split <;> simp
@[simp] theorem fuses_publishDue : (d.publishDue).fuses = d.fuses := by simp [publishDue]
@[simp] theorem fuses_putSnapshot (slot session vals) : (d.putSnapshot slot session vals).fuses = d.fuses := rfl
@[simp] theorem fuses_takeSnapshotStep : (takeSnapshotStep d).fuses = d.fuses :=
  by unfold takeSnapshotStep; dsimp only; (repeat' split) <;> simp
@[simp] theorem fuses_finishSnapshot (l) : (d.finishSnapshot l).fuses = d.fuses :=
  by unfold finishSnapshot; split <;> simp [apply_ite fuses]

/-! ### Timed -/

@[simp] theorem fuses_putTimed (e x) : (d.putTimed e x).fuses = d.fuses := rfl
@[simp] theorem fuses_timedActionArmStep (e) : (timedActionArmStep e d).fuses = d.fuses :=
  by unfold timedActionArmStep; split <;> simp [apply_ite fuses]
@[simp] theorem fuses_timedActionCancelStep (e) : (timedActionCancelStep e d).fuses = d.fuses :=
  by unfold timedActionCancelStep; split <;> simp [apply_ite fuses]
@[simp] theorem fuses_occurred (e res) : (d.occurred e res).fuses = d.fuses := rfl
@[simp] theorem fuses_syncPulseStep (e) : (syncPulseStep e d).fuses = d.fuses :=
  by unfold syncPulseStep; dsimp only; (repeat' split) <;> simp
@[simp] theorem fuses_syncPulseEndStep (out) : (syncPulseEndStep out d).fuses = d.fuses :=
  by simp [syncPulseEndStep, apply_ite fuses]
@[simp] theorem fuses_applyEntry (e raw) : (d.applyEntry e raw).fuses = d.fuses :=
  by unfold applyEntry; dsimp only; split <;> simp
@[simp] theorem fuses_applyValueStep (e) : (applyValueStep e d).fuses = d.fuses := by simp [applyValueStep, apply_ite fuses]
@[simp] theorem fuses_reanchorCarrierGridStep (e) : (reanchorCarrierGridStep e d).fuses = d.fuses :=
  by simp [reanchorCarrierGridStep, apply_ite fuses]
@[simp] theorem fuses_timedModeRequestStep (e) : (timedModeRequestStep e d).fuses = d.fuses :=
  by unfold timedModeRequestStep; dsimp only; (repeat' split) <;> simp
@[simp] theorem fuses_cancelUnclaimed : (d.cancelUnclaimed).fuses = d.fuses := by simp [cancelUnclaimed, apply_ite fuses]

/-! ### Loader -/

@[simp] theorem fuses_putVerdict (v keep) : (d.putVerdict v keep).fuses = d.fuses :=
  by unfold putVerdict; split <;> simp [apply_ite fuses]
@[simp] theorem fuses_putTopology (im p) : (d.putTopology im p).fuses = d.fuses := rfl
@[simp] theorem fuses_putCarrier (im p) : (d.putCarrier im p).fuses = d.fuses := rfl
@[simp] theorem fuses_putImage (im source) : (d.putImage im source).fuses = d.fuses :=
  by simp -implicitDefEqProofs [putImage]
@[simp] theorem fuses_unboundStatus (im p) : (d.unboundStatus im p).fuses = d.fuses :=
  by simp [unboundStatus, apply_ite fuses]
@[simp] theorem fuses_gcHold (g) : (d.gcHold g).fuses = d.fuses := by simp [gcHold, apply_ite fuses]
@[simp] theorem fuses_putPhase (e) : (d.putPhase e).fuses = d.fuses := rfl
@[simp] theorem fuses_activate (im source) : (d.activate im source).fuses = d.fuses :=
  by simp -implicitDefEqProofs [activate]
@[simp] theorem fuses_verifyStagedImageStep : (verifyStagedImageStep d).fuses = d.fuses :=
  by unfold verifyStagedImageStep; split <;> simp
@[simp] theorem fuses_imageVerificationCompleteStep : (imageVerificationCompleteStep d).fuses = d.fuses :=
  by simp [imageVerificationCompleteStep, apply_ite fuses]
@[simp] theorem fuses_activateStagedImageStep : (activateStagedImageStep d).fuses = d.fuses :=
  by unfold activateStagedImageStep; split <;> simp
@[simp] theorem fuses_startPort (im p) : (d.startPort im p).fuses = d.fuses := rfl
@[simp] theorem fuses_gcRelease (g) : (d.gcRelease g).fuses = d.fuses := by simp [gcRelease, apply_ite fuses]
@[simp] theorem fuses_enterStandby : (d.enterStandby).fuses = d.fuses := rfl

/-! ### Net -/

@[simp] theorem fuses_countReq (o net chain) : (d.countReq o net chain).fuses = d.fuses :=
  by unfold countReq; split <;> simp [apply_ite fuses]
@[simp] theorem fuses_reply (o who back pdu) : (d.reply o who back pdu).fuses = d.fuses := rfl
@[simp] theorem fuses_answer (o r session key res) : (d.answer o r session key res).fuses = d.fuses := rfl
@[simp] theorem fuses_refuseBusy (o r key) : (d.refuseBusy o r key).fuses = d.fuses := by simp [refuseBusy, apply_ite fuses]
@[simp] theorem fuses_requestChecked (o a) : (d.requestChecked o a).fuses = d.fuses :=
  by unfold requestChecked; dsimp only; (repeat' split) <;> simp
@[simp] theorem fuses_requestArrives (o who back b) : (d.requestArrives o who back b).fuses = d.fuses := rfl
@[simp] theorem fuses_sampled (o) : (d.sampled o).fuses = d.fuses := by simp [sampled]
@[simp] theorem fuses_sampledAll : (d.sampledAll).fuses = d.fuses := by simp [sampledAll]
@[simp] theorem fuses_changePublicationStep : (changePublicationStep d).fuses = d.fuses :=
  by simp -implicitDefEqProofs [changePublicationStep, apply_ite fuses]
@[simp] theorem fuses_requestArrivalStep (o h canId pdu) : (requestArrivalStep o h canId pdu d).fuses = d.fuses :=
  by simp [requestArrivalStep, apply_ite fuses]
@[simp] theorem fuses_take (o i delay) : (d.take o i delay).fuses = d.fuses :=
  by unfold take; dsimp only; split <;> simp [apply_ite fuses]
@[simp] theorem fuses_serve (o row) {f : LaneId → Ctx → Reply → Request → Dev → Dev}
    (hf : ∀ l c y r d, (f l c y r d).fuses = d.fuses) :
    (d.serve o row f).fuses = d.fuses := by unfold serve; dsimp only; (repeat' split) <;> simp [hf]
@[simp] theorem fuses_doRead (l c y key) : (d.doRead l c y key).fuses = d.fuses :=
  by unfold doRead; dsimp only; (repeat' split) <;> simp
@[simp] theorem fuses_doReadSegment (l c y key off maxLen) : (d.doReadSegment l c y key off maxLen).fuses = d.fuses :=
  by unfold doReadSegment; dsimp only; (repeat' split) <;> simp
@[simp] theorem fuses_doWriteSegment (l c y vpp key flags off data) :
    (d.doWriteSegment l c y vpp key flags off data).fuses = d.fuses :=
  by unfold doWriteSegment; split <;> simp [apply_ite fuses]
@[simp] theorem fuses_doDirect (l c y key flags off data) : (d.doDirect l c y key flags off data).fuses = d.fuses :=
  by unfold doDirect; dsimp only; split <;> simp [apply_ite fuses]
@[simp] theorem fuses_objectRequest (l c y vpp r) : (d.objectRequest l c y vpp r).fuses = d.fuses :=
  by unfold objectRequest; split <;> simp
@[simp] theorem fuses_objectService (vpp l c y r) : (Dev.objectService vpp l c y r d).fuses = d.fuses :=
  by unfold objectService; split <;> simp [apply_ite fuses]
@[simp] theorem fuses_readStep (o) : (readStep o d).fuses = d.fuses := by simp [readStep]
@[simp] theorem fuses_writeStep (o vpp) : (writeStep o vpp d).fuses = d.fuses := by simp [writeStep]
@[simp] theorem fuses_readSegmentStep (o) : (readSegmentStep o d).fuses = d.fuses := by simp [readSegmentStep]
@[simp] theorem fuses_writeSegmentStep (o vpp) : (writeSegmentStep o vpp d).fuses = d.fuses := by simp [writeSegmentStep]
@[simp] theorem fuses_stagingBufferWriteStep (o) : (stagingBufferWriteStep o d).fuses = d.fuses :=
  by simp [stagingBufferWriteStep]
@[simp] theorem fuses_bankStagingStep (o) : (bankStagingStep o d).fuses = d.fuses := by simp [bankStagingStep]
@[simp] theorem fuses_bridgeExecutionStep (o) : (bridgeExecutionStep o d).fuses = d.fuses :=
  by unfold bridgeExecutionStep; dsimp only; (repeat' split) <;> simp
@[simp] theorem fuses_doOpen (c y r) : (Dev.doOpen c y r d).fuses = d.fuses := by simp [doOpen, apply_ite fuses]
@[simp] theorem fuses_openSessionStep (o) : (openSessionStep o d).fuses = d.fuses := by simp [openSessionStep]
@[simp] theorem fuses_authFails (s y) : (d.authFails s y).fuses = d.fuses := by simp [authFails]
@[simp] theorem fuses_doAuth (l c y r) : (Dev.doAuth l c y r d).fuses = d.fuses :=
  by unfold doAuth; dsimp only; (repeat' split) <;> simp
@[simp] theorem fuses_authStep (o) : (authStep o d).fuses = d.fuses := by simp [authStep]
@[simp] theorem fuses_closeStep (o) :
    (closeStep o d).fuses = d.fuses := 
  fuses_serve d _ _ fun _ _ _ _ d => by simp [apply_ite fuses]
@[simp] theorem fuses_attachStep (o) :
    (attachStep o d).fuses = d.fuses := 
  fuses_serve d _ _ fun _ _ _ _ d => by dsimp only; split <;> simp [apply_ite fuses]
@[simp] theorem fuses_detachStep (o) :
    (detachStep o d).fuses = d.fuses := 
  fuses_serve d _ _ fun _ _ _ _ d => by simp [apply_ite fuses]
@[simp] theorem fuses_openExpiryStep (id) : (openExpiryStep id d).fuses = d.fuses :=
  by unfold openExpiryStep; split <;> simp [apply_ite fuses]
@[simp] theorem fuses_sessionTimeoutStep (id) : (sessionTimeoutStep id d).fuses = d.fuses :=
  by unfold sessionTimeoutStep; split <;> simp [apply_ite fuses]
@[simp] theorem fuses_authLockoutExpiryStep (o) : (authLockoutExpiryStep o d).fuses = d.fuses :=
  by unfold authLockoutExpiryStep; split <;> simp [apply_ite fuses]
@[simp] theorem fuses_acceptFrame (o b) : (d.acceptFrame o b).fuses = d.fuses := by simp [acceptFrame, apply_ite fuses]
@[simp] theorem fuses_streamFrameArrivalStep (o h canId pdu) : (streamFrameArrivalStep o h canId pdu d).fuses = d.fuses :=
  by simp [streamFrameArrivalStep, apply_ite fuses]
@[simp] theorem fuses_streamTimeoutStep (s) : (streamTimeoutStep s d).fuses = d.fuses :=
  by simp [streamTimeoutStep, apply_ite fuses]
@[simp] theorem fuses_streamTransmitStep (s) : (streamTransmitStep s d).fuses = d.fuses :=
  by simp [streamTransmitStep, apply_ite fuses]
@[simp] theorem fuses_lowReply (n mac payload) : (d.lowReply n mac payload).fuses = d.fuses := rfl
@[simp] theorem fuses_arpRequestStep (n mac ip) : (arpRequestStep n mac ip d).fuses = d.fuses :=
  by simp [arpRequestStep, apply_ite fuses]
@[simp] theorem fuses_neighbourSolicitationStep (n mac target) :
    (neighbourSolicitationStep n mac target d).fuses = d.fuses := by simp [neighbourSolicitationStep, apply_ite fuses]
@[simp] theorem fuses_echoRequestStep (n h data) : (echoRequestStep n h data d).fuses = d.fuses :=
  by simp [echoRequestStep, apply_ite fuses]
@[simp] theorem fuses_ipv4LinkLocalClaimStep (n addr conflict) :
    (ipv4LinkLocalClaimStep n addr conflict d).fuses = d.fuses := by simp [ipv4LinkLocalClaimStep, apply_ite fuses]
@[simp] theorem fuses_busOffStep : (busOffStep d).fuses = d.fuses := by simp [busOffStep, apply_ite fuses]
@[simp] theorem fuses_busOffRecoveryStep : (busOffRecoveryStep d).fuses = d.fuses :=
  by simp [busOffRecoveryStep, apply_ite fuses]
@[simp] theorem fuses_n3TakeoverStep : (n3TakeoverStep d).fuses = d.fuses := by simp [n3TakeoverStep, apply_ite fuses]
@[simp] theorem fuses_n3TakeoverCompleteStep : (n3TakeoverCompleteStep d).fuses = d.fuses :=
  by simp [n3TakeoverCompleteStep, apply_ite fuses]

/-! ### FuseOps -/

@[simp] theorem fuses_putMargins : (d.putMargins).fuses = d.fuses := by simp [putMargins]
@[simp] theorem fuses_otpEnds (res) : (d.otpEnds res).fuses = d.fuses := rfl
@[simp] theorem fuses_otpBegins (op status w) : (d.otpBegins op status w).fuses = d.fuses := rfl
@[simp] theorem fuses_programWordStep : (programWordStep d).fuses = d.fuses := by unfold programWordStep; split <;> simp
@[simp] theorem fuses_lockRegionStep : (lockRegionStep d).fuses = d.fuses := by unfold lockRegionStep; split <;> simp
@[simp] theorem fuses_putLocks : (d.putLocks).fuses = d.fuses := rfl
@[simp] theorem fuses_takeShadows : (d.takeShadows).fuses = d.fuses := by simp [takeShadows, apply_ite fuses]

/-! ### ChainPort -/

@[simp] theorem fuses_putSources : (d.putSources).fuses = d.fuses := rfl
@[simp] theorem fuses_setLink (o k) : (d.setLink o k).fuses = d.fuses := by unfold setLink; split <;> simp
@[simp] theorem fuses_putChainFlags : (d.putChainFlags).fuses = d.fuses := rfl
@[simp] theorem fuses_loadUnit (o cap) : (d.loadUnit o cap).fuses = d.fuses := by unfold loadUnit; split <;> simp
@[simp] theorem fuses_consumeUnit (o) : (d.consumeUnit o).fuses = d.fuses :=
  by unfold consumeUnit; split <;> simp [apply_ite fuses]
@[simp] theorem fuses_countUnit (o sub) : (d.countUnit o sub).fuses = d.fuses := by unfold countUnit; split <;> simp
@[simp] theorem fuses_assembled (o b) : (d.assembled o b).fuses = d.fuses := by simp [assembled, apply_ite fuses]
@[simp] theorem fuses_badUnit (o) : (d.badUnit o).fuses = d.fuses := by simp [badUnit]
@[simp] theorem fuses_takeUnit (o u) : (d.takeUnit o u).fuses = d.fuses :=
  by unfold takeUnit; (repeat' split) <;> simp [apply_ite fuses]
@[simp] theorem fuses_chainCsnFallStep (sckHigh) : (chainCsnFallStep sckHigh d).fuses = d.fuses :=
  by simp [chainCsnFallStep, apply_ite fuses]
@[simp] theorem fuses_chainCsnRiseStep (sckHigh edges bits) : (chainCsnRiseStep sckHigh edges bits d).fuses = d.fuses :=
  by unfold chainCsnRiseStep; dsimp only; (repeat' split) <;> simp
@[simp] theorem fuses_chainUnit (kind) : (d.chainUnit kind).fuses = d.fuses :=
  by unfold chainUnit; split <;> simp [apply_ite fuses]
@[simp] theorem fuses_chainStartUnitStep : (chainStartUnitStep d).fuses = d.fuses := by simp [chainStartUnitStep]
@[simp] theorem fuses_chainDataUnitStep : (chainDataUnitStep d).fuses = d.fuses := by simp [chainDataUnitStep]
@[simp] theorem fuses_chainAbortUnitStep : (chainAbortUnitStep d).fuses = d.fuses := by simp [chainAbortUnitStep]
@[simp] theorem fuses_chainBoundary : (d.chainBoundary).fuses = d.fuses := by simp [chainBoundary, apply_ite fuses]

/-! ### Engine -/

@[simp] theorem fuses_setEngine (e x) : (d.setEngine e x).fuses = d.fuses := rfl
@[simp] theorem fuses_issued (e t c) : (d.issued e t c).fuses = d.fuses := rfl
@[simp] theorem fuses_issueReg (e t lat dst v) : (d.issueReg e t lat dst v).fuses = d.fuses := rfl
@[simp] theorem fuses_aluStep (e t op dst a b c) : (aluStep e t op dst a b c d).fuses = d.fuses :=
  by simp [aluStep, apply_ite fuses]
@[simp] theorem fuses_multiplyStep (e t op dst a b c) : (multiplyStep e t op dst a b c d).fuses = d.fuses :=
  by simp [multiplyStep, apply_ite fuses]
@[simp] theorem fuses_sineCosineStep (e t dstSin dstCos angle) :
    (sineCosineStep e t dstSin dstCos angle d).fuses = d.fuses := by simp [sineCosineStep, apply_ite fuses]
@[simp] theorem fuses_divideSquareRootStep (e t sqrt sat dst a b) :
    (divideSquareRootStep e t sqrt sat dst a b d).fuses = d.fuses := by simp [divideSquareRootStep, apply_ite fuses]
@[simp] theorem fuses_eccCheck (e x) : (d.eccCheck e x).fuses = d.fuses := by cases x <;> simp [eccCheck]
@[simp] theorem fuses_scratchpadAccessStep (e t op wide addr ecc) :
    (scratchpadAccessStep e t op wide addr ecc d).fuses = d.fuses := by simp [scratchpadAccessStep, apply_ite fuses]
@[simp] theorem fuses_sharedSramAccessStep (e t op addr ecc) : (sharedSramAccessStep e t op addr ecc d).fuses = d.fuses :=
  by unfold sharedSramAccessStep; (repeat' split) <;> simp
@[simp] theorem fuses_stagePortAccessStep (e t op) : (stagePortAccessStep e t op d).fuses = d.fuses :=
  by unfold stagePortAccessStep; (repeat' split) <;> simp [apply_ite fuses]
@[simp] theorem fuses_sendRecord (p T r) : (d.sendRecord p T r).fuses = d.fuses := rfl
@[simp] theorem fuses_crosswindSendStep (p t r) : (crosswindSendStep p t r d).fuses = d.fuses :=
  by simp [crosswindSendStep, apply_ite fuses]
@[simp] theorem fuses_branchStep (e t taken target) : (branchStep e t taken target d).fuses = d.fuses :=
  by simp [branchStep, apply_ite fuses]
@[simp] theorem fuses_loopSetUpStep (e t second count) : (loopSetUpStep e t second count d).fuses = d.fuses :=
  by simp [loopSetUpStep, apply_ite fuses]
@[simp] theorem fuses_monRecord (e kernel h t ofs marker) : (d.monRecord e kernel h t ofs marker).fuses = d.fuses := rfl
@[simp] theorem fuses_engineTimingFaultStep (e ev) : (engineTimingFaultStep e ev d).fuses = d.fuses :=
  by unfold engineTimingFaultStep; (repeat' split) <;> simp

/-! ### Profiles -/

@[simp] theorem fuses_withValues (recs) : (d.withValues recs).fuses = d.fuses := by simp [withValues]
@[simp] theorem fuses_putDirectory (n) : (d.putDirectory n).fuses = d.fuses := rfl
@[simp] theorem fuses_afterLoad : (d.afterLoad).fuses = d.fuses := by simp -implicitDefEqProofs [afterLoad, apply_ite fuses]
@[simp] theorem fuses_selectProfileStep : (selectProfileStep d).fuses = d.fuses :=
  by unfold selectProfileStep; split <;> simp
@[simp] theorem fuses_opFailed (cause) : (d.opFailed cause).fuses = d.fuses := rfl
@[simp] theorem fuses_opDone : (d.opDone).fuses = d.fuses := rfl
@[simp] theorem fuses_putReason (v) : (d.putReason v).fuses = d.fuses := by unfold putReason; split <;> simp
@[simp] theorem fuses_profileLoadCompleteStep : (profileLoadCompleteStep d).fuses = d.fuses :=
  by unfold profileLoadCompleteStep; (repeat' split) <;> simp [apply_ite fuses]
@[simp] theorem fuses_saveProfileStep : (saveProfileStep d).fuses = d.fuses := by unfold saveProfileStep; split <;> simp
@[simp] theorem fuses_profileSaveCompleteStep (differs) : (profileSaveCompleteStep differs d).fuses = d.fuses :=
  by unfold profileSaveCompleteStep; (repeat' split) <;> simp [apply_ite fuses]
@[simp] theorem fuses_eraseProfileStep : (eraseProfileStep d).fuses = d.fuses := by unfold eraseProfileStep; split <;> simp
@[simp] theorem fuses_profileEraseCompleteStep : (profileEraseCompleteStep d).fuses = d.fuses :=
  by unfold profileEraseCompleteStep; split <;> simp [apply_ite fuses]
@[simp] theorem fuses_deviceRecordWriteStep : (deviceRecordWriteStep d).fuses = d.fuses :=
  by unfold deviceRecordWriteStep; split <;> simp [apply_ite fuses]
@[simp] theorem fuses_bankEraseCompleteStep : (bankEraseCompleteStep d).fuses = d.fuses :=
  by simp [bankEraseCompleteStep, apply_ite fuses]
@[simp] theorem fuses_verifyInactiveBankStep : (verifyInactiveBankStep d).fuses = d.fuses :=
  by unfold verifyInactiveBankStep; split <;> simp
@[simp] theorem fuses_bankVerificationCompleteStep : (bankVerificationCompleteStep d).fuses = d.fuses :=
  by simp [bankVerificationCompleteStep, apply_ite fuses]
@[simp] theorem fuses_switchBanksStep : (switchBanksStep d).fuses = d.fuses := by unfold switchBanksStep; split <;> simp

/-! ### FreezeUnit -/

@[simp] theorem fuses_enterFreeze (trigger) : (d.enterFreeze trigger).fuses = d.fuses :=
  by simp -implicitDefEqProofs [enterFreeze]
@[simp] theorem fuses_trigger (kind) : (d.trigger kind).fuses = d.fuses := by simp [trigger, apply_ite fuses]
@[simp] theorem fuses_lullNTriggerStep (low) : (lullNTriggerStep low d).fuses = d.fuses :=
  by simp [lullNTriggerStep, apply_ite fuses]
@[simp] theorem fuses_reachStandby : (d.reachStandby).fuses = d.fuses := by simp [reachStandby, apply_ite fuses]
@[simp] theorem fuses_freezeCommandStep : (freezeCommandStep d).fuses = d.fuses :=
  by unfold freezeCommandStep; split <;> simp
@[simp] theorem fuses_selfDumpStartStep (quietUs) : (selfDumpStartStep quietUs d).fuses = d.fuses :=
  by unfold selfDumpStartStep; split <;> simp [apply_ite fuses]
@[simp] theorem fuses_selfDumpCompleteStep : (selfDumpCompleteStep d).fuses = d.fuses :=
  by simp [selfDumpCompleteStep, apply_ite fuses]
@[simp] theorem fuses_releaseCaptureStep : (releaseCaptureStep d).fuses = d.fuses :=
  by unfold releaseCaptureStep; dsimp only; (repeat' split) <;> simp
@[simp] theorem fuses_captureEraseCompleteStep : (captureEraseCompleteStep d).fuses = d.fuses :=
  by unfold captureEraseCompleteStep; split <;> simp [apply_ite fuses]
@[simp] theorem fuses_putTraces : (d.putTraces).fuses = d.fuses := by unfold putTraces; split <;> simp
@[simp] theorem fuses_traceRecordWriteStep : (traceRecordWriteStep d).fuses = d.fuses :=
  by unfold traceRecordWriteStep; split <;> simp [apply_ite fuses]
@[simp] theorem fuses_putConsent (on ident) : (d.putConsent on ident).fuses = d.fuses := rfl
@[simp] theorem fuses_returnConsentSetStep : (returnConsentSetStep d).fuses = d.fuses :=
  by unfold returnConsentSetStep; split <;> simp [apply_ite fuses]
@[simp] theorem fuses_returnConsentClearStep : (returnConsentClearStep d).fuses = d.fuses :=
  by unfold returnConsentClearStep; split <;> simp [apply_ite fuses]
@[simp] theorem fuses_putFlashStatus : (d.putFlashStatus).fuses = d.fuses :=
  by unfold putFlashStatus; dsimp only; split <;> simp

/-! ### Tap -/

@[simp] theorem fuses_tapInstr (code bscan out) : (d.tapInstr code bscan out).fuses = d.fuses := rfl
@[simp] theorem fuses_bscanCoast : (d.bscanCoast).fuses = d.fuses := by simp [bscanCoast]
@[simp] theorem fuses_freezeStep : (freezeStep d).fuses = d.fuses := by simp [freezeStep, apply_ite fuses]
@[simp] theorem fuses_fzStatusStep : (fzStatusStep d).fuses = d.fuses := by simp [fzStatusStep, apply_ite fuses]
@[simp] theorem fuses_dumpAddrStep (v) : (dumpAddrStep v d).fuses = d.fuses := by simp [dumpAddrStep, apply_ite fuses]
@[simp] theorem fuses_shiftWord : (d.shiftWord).fuses = d.fuses := rfl
@[simp] theorem fuses_dumpDataStep (words) : (dumpDataStep words d).fuses = d.fuses :=
  by simp -implicitDefEqProofs [dumpDataStep, apply_ite fuses]
@[simp] theorem fuses_mendCommit : (d.mendCommit).fuses = d.fuses := by unfold mendCommit; split <;> simp [apply_ite fuses]
@[simp] theorem fuses_withdrawFreeze (p) : (d.withdrawFreeze p).fuses = d.fuses := by simp [withdrawFreeze, apply_ite fuses]
@[simp] theorem fuses_resumeStep : (resumeStep d).fuses = d.fuses := by simp [resumeStep, apply_ite fuses]
@[simp] theorem fuses_idcodeStep : (idcodeStep d).fuses = d.fuses := by simp [idcodeStep, apply_ite fuses]
@[simp] theorem fuses_extestStep (pins drive) : (extestStep pins drive d).fuses = d.fuses :=
  by simp [extestStep, apply_ite fuses]
@[simp] theorem fuses_samplePreloadStep (pins preload) : (samplePreloadStep pins preload d).fuses = d.fuses :=
  by simp [samplePreloadStep, apply_ite fuses]
@[simp] theorem fuses_highzStep : (highzStep d).fuses = d.fuses := by simp [highzStep, apply_ite fuses]
@[simp] theorem fuses_clampStep : (clampStep d).fuses = d.fuses := by simp [clampStep, apply_ite fuses]
@[simp] theorem fuses_bypassStep (code tdi) : (bypassStep code tdi d).fuses = d.fuses :=
  by simp [bypassStep, apply_ite fuses]
@[simp] theorem fuses_objStep (cycles word) : (objStep cycles word d).fuses = d.fuses := by simp [objStep, apply_ite fuses]
@[simp] theorem fuses_tapResetStep : (tapResetStep d).fuses = d.fuses := rfl

/-! ### Boot -/

@[simp] theorem fuses_otpAlarms (l) : (d.otpAlarms l).fuses = d.fuses := by simp [otpAlarms, apply_ite fuses]
@[simp] theorem fuses_putIdentity (l) : (d.putIdentity l).fuses = d.fuses :=
  by simp -implicitDefEqProofs [putIdentity, apply_ite fuses]
@[simp] theorem fuses_bistLost (l) : (d.bistLost l).fuses = d.fuses := by simp [bistLost]
@[simp] theorem fuses_releaseLane (l out bistOk) : (d.releaseLane l out bistOk).fuses = d.fuses :=
  by simp [releaseLane, apply_ite fuses]
@[simp] theorem fuses_bistEnds : (d.bistEnds).fuses = d.fuses := by simp [bistEnds]
@[simp] theorem fuses_loadRecord : (d.loadRecord).fuses = d.fuses := by simp [loadRecord, apply_ite fuses]
@[simp] theorem fuses_loadBank : (d.loadBank).fuses = d.fuses := by simp [loadBank, apply_ite fuses]
@[simp] theorem fuses_checkJournal : (d.checkJournal).fuses = d.fuses :=
  by unfold checkJournal; dsimp only; split <;> simp [apply_ite fuses]
@[simp] theorem fuses_startJournal : (d.startJournal).fuses = d.fuses := by simp [startJournal, apply_ite fuses]
@[simp] theorem fuses_loadSettings (recs n source) : (d.loadSettings recs n source).fuses = d.fuses := by simp [loadSettings]
@[simp] theorem fuses_loadFactory : (d.loadFactory).fuses = d.fuses := by simp [loadFactory]
@[simp] theorem fuses_loadFallback : (d.loadFallback).fuses = d.fuses :=
  by unfold loadFallback; dsimp only; split <;> simp
@[simp] theorem fuses_loadSelected : (d.loadSelected).fuses = d.fuses :=
  by unfold loadSelected; dsimp only; split <;> simp [apply_ite fuses]
@[simp] theorem fuses_calibratePorts : (d.calibratePorts).fuses = d.fuses := by simp [calibratePorts, apply_ite fuses]
@[simp] theorem fuses_calibrateGcs : (d.calibrateGcs).fuses = d.fuses := by simp [calibrateGcs, apply_ite fuses]
@[simp] theorem fuses_startFlash : (d.startFlash).fuses = d.fuses := by simp -implicitDefEqProofs [startFlash]
@[simp] theorem fuses_startClocks : (d.startClocks).fuses = d.fuses := by simp [startClocks, apply_ite fuses]
@[simp] theorem fuses_measureLfo (lfoA lfoB) : (d.measureLfo lfoA lfoB).fuses = d.fuses :=
  by simp [measureLfo, apply_ite fuses]
@[simp] theorem fuses_rootClockQualifiedStep (lfoA lfoB) : (rootClockQualifiedStep lfoA lfoB d).fuses = d.fuses :=
  by simp [rootClockQualifiedStep, apply_ite fuses]
@[simp] theorem fuses_rootQualificationTimeoutStep (lfoA lfoB) :
    (rootQualificationTimeoutStep lfoA lfoB d).fuses = d.fuses := by simp [rootQualificationTimeoutStep, apply_ite fuses]
@[simp] theorem fuses_bootActivate (im source) : (d.bootActivate im source).fuses = d.fuses := by simp [bootActivate]
@[simp] theorem fuses_imageHyperframeStartStep : (imageHyperframeStartStep d).fuses = d.fuses :=
  by unfold imageHyperframeStartStep; split <;> simp -implicitDefEqProofs [apply_ite fuses]
@[simp] theorem fuses_startupImageCheckCompleteStep : (startupImageCheckCompleteStep d).fuses = d.fuses :=
  by unfold startupImageCheckCompleteStep; dsimp only; (repeat' split) <;> simp
@[simp] theorem fuses_autoRunStep : (autoRunStep d).fuses = d.fuses :=
  by unfold autoRunStep; dsimp only; (repeat' split) <;> simp

/-! ### Modulation -/

@[simp] theorem fuses_judgeDuty (p) : (d.judgeDuty p).fuses = d.fuses := by simp [judgeDuty, apply_ite fuses]
@[simp] theorem fuses_finishPeriod (p next k o) : (d.finishPeriod p next k o).fuses = d.fuses :=
  by simp [finishPeriod, apply_ite fuses]
@[simp] theorem fuses_driverPeriod (p o) : (d.driverPeriod p o).fuses = d.fuses := rfl
@[simp] theorem fuses_openPeriod (p q) : (d.openPeriod p q).fuses = d.fuses := rfl
@[simp] theorem fuses_carrierPeriodStartStep (p o) : (carrierPeriodStartStep p o d).fuses = d.fuses :=
  by simp [carrierPeriodStartStep, apply_ite fuses]

/-! ### Kernels0 -/

@[simp] theorem fuses_onE0 (p f) : (d.onE0 p f).fuses = d.fuses := rfl
@[simp] theorem fuses_kernel (p r id t) {f : Dev → Dev} (hf : ∀ d, (f d).fuses = d.fuses) :
    (kernel p r id t f d).fuses = d.fuses := by simp [kernel, apply_ite fuses, hf]
@[simp] theorem fuses_kIinBody (p t) : (kIinBody p t d).fuses = d.fuses := by simp [kIinBody]
@[simp] theorem fuses_kAngInBody (p) : (kAngInBody p d).fuses = d.fuses := by simp [kAngInBody]
@[simp] theorem fuses_kVbusInBody (p) : (kVbusInBody p d).fuses = d.fuses := by simp [kVbusInBody]
@[simp] theorem fuses_kClarkeBody (p) : (kClarkeBody p d).fuses = d.fuses := rfl
@[simp] theorem fuses_kParkBody (p) : (kParkBody p d).fuses = d.fuses := rfl
@[simp] theorem fuses_kPiDqBody (p) : (kPiDqBody p d).fuses = d.fuses := by simp [kPiDqBody, apply_ite fuses]
@[simp] theorem fuses_kDecoupleBody (p) : (kDecoupleBody p d).fuses = d.fuses := rfl
@[simp] theorem fuses_kHfiInjBody (p) : (kHfiInjBody p d).fuses = d.fuses := by simp [kHfiInjBody, apply_ite fuses]
@[simp] theorem fuses_kMtpaBody (p n) : (kMtpaBody p n d).fuses = d.fuses := rfl
@[simp] theorem fuses_kFwVlimCalc (p w) : (kFwVlimCalc p w d).fuses = d.fuses := rfl
@[simp] theorem fuses_kFwVlimBody (p t) : (kFwVlimBody p t d).fuses = d.fuses := by simp [kFwVlimBody, apply_ite fuses]
@[simp] theorem fuses_resume0 (p) : (d.resume0 p).fuses = d.fuses := by unfold resume0; split <;> simp [apply_ite fuses]
@[simp] theorem fuses_inFrame (p) : (d.inFrame p).fuses = d.fuses := by simp [inFrame, apply_ite fuses]
@[simp] theorem fuses_begin0 (p) : (d.begin0 p).fuses = d.fuses := by simp [begin0]
@[simp] theorem fuses_kernel0 (p id t) {f : Dev → Dev} (hf : ∀ d, (f d).fuses = d.fuses) :
    (kernel0 p id t f d).fuses = d.fuses := by simp [kernel0, hf]
@[simp] theorem fuses_kIparkBody (p) : (kIparkBody p d).fuses = d.fuses := rfl
@[simp] theorem fuses_kOvmBody (p) : (kOvmBody p d).fuses = d.fuses := by simp [kOvmBody, apply_ite fuses]
@[simp] theorem fuses_kDtcompBody (p) : (kDtcompBody p d).fuses = d.fuses := by simp [kDtcompBody, apply_ite fuses]
@[simp] theorem fuses_setDuty (p v) : (d.setDuty p v).fuses = d.fuses := rfl
@[simp] theorem fuses_kSvm7Body (p) : (kSvm7Body p d).fuses = d.fuses := rfl
@[simp] theorem fuses_kSvm5Body (p) : (kSvm5Body p d).fuses = d.fuses := rfl
@[simp] theorem fuses_kZvvBody (p) : (kZvvBody p d).fuses = d.fuses := rfl
@[simp] theorem fuses_kDutyOutBody (p t) : (kDutyOutBody p t d).fuses = d.fuses := rfl

/-! ### StartUp -/

@[simp] theorem fuses_onE1 (p f) : (d.onE1 p f).fuses = d.fuses := rfl
@[simp] theorem fuses_beginPhase (p ph) : (d.beginPhase p ph).fuses = d.fuses := by simp [beginPhase, apply_ite fuses]
@[simp] theorem fuses_startPhaseBoundaryStep (p) : (startPhaseBoundaryStep p d).fuses = d.fuses :=
  by simp [startPhaseBoundaryStep, apply_ite fuses]
@[simp] theorem fuses_startAttemptFailureStep (p) : (startAttemptFailureStep p d).fuses = d.fuses :=
  by simp [startAttemptFailureStep, apply_ite fuses]
@[simp] theorem fuses_polarityDecisionStep (p) : (polarityDecisionStep p d).fuses = d.fuses :=
  by simp [polarityDecisionStep, apply_ite fuses]
@[simp] theorem fuses_handoverReachedStep (p) : (handoverReachedStep p d).fuses = d.fuses :=
  by simp [handoverReachedStep, apply_ite fuses]
@[simp] theorem fuses_lossRequest (p slot c) : (d.lossRequest p slot c).fuses = d.fuses :=
  by simp [lossRequest, apply_ite fuses]
@[simp] theorem fuses_rotorLossDetectedStep (p) : (rotorLossDetectedStep p d).fuses = d.fuses :=
  by simp [rotorLossDetectedStep, apply_ite fuses]
@[simp] theorem fuses_catchConfirmedStep (p) : (catchConfirmedStep p d).fuses = d.fuses :=
  by simp [catchConfirmedStep, apply_ite fuses]

/-! ### Kernels1 -/

@[simp] theorem fuses_onE1Fb (p f) : (d.onE1Fb p f).fuses = d.fuses := rfl
@[simp] theorem fuses_kQepInBody (p) : (kQepInBody p d).fuses = d.fuses := rfl
@[simp] theorem fuses_kHallInBody (p) : (kHallInBody p d).fuses = d.fuses := rfl
@[simp] theorem fuses_kHallInterpBody (p) : (kHallInterpBody p d).fuses = d.fuses :=
  by simp [kHallInterpBody, apply_ite fuses]
@[simp] theorem fuses_kSentInBody (p n) : (kSentInBody p n d).fuses = d.fuses := by simp [kSentInBody, apply_ite fuses]
@[simp] theorem fuses_kAngScaleBody (p t) : (kAngScaleBody p t d).fuses = d.fuses := rfl
@[simp] theorem fuses_kSpdEstBody (p) : (kSpdEstBody p d).fuses = d.fuses := by simp [kSpdEstBody, apply_ite fuses]
@[simp] theorem fuses_kObsBemfBody (p t) : (kObsBemfBody p t d).fuses = d.fuses := by simp [kObsBemfBody, apply_ite fuses]
@[simp] theorem fuses_kPllAngBody (p) : (kPllAngBody p d).fuses = d.fuses := by simp [kPllAngBody, apply_ite fuses]
@[simp] theorem fuses_kObsHfiBody (p taps) : (kObsHfiBody p taps d).fuses = d.fuses := rfl
@[simp] theorem fuses_kObsBlendBody (p) : (kObsBlendBody p d).fuses = d.fuses := rfl
@[simp] theorem fuses_kAlignBody (p) : (kAlignBody p d).fuses = d.fuses := by simp [kAlignBody, apply_ite fuses]
@[simp] theorem fuses_rampRequest (p t) : (d.rampRequest p t).fuses = d.fuses := by simp [rampRequest, apply_ite fuses]
@[simp] theorem fuses_kIfRampBody (p t) : (kIfRampBody p t d).fuses = d.fuses := by simp [kIfRampBody, apply_ite fuses]
@[simp] theorem fuses_kHandoverBody (p t) : (kHandoverBody p t d).fuses = d.fuses := by simp [kHandoverBody, apply_ite fuses]
@[simp] theorem fuses_kFlyCatchBody (p eu ev ew cyc) : (kFlyCatchBody p eu ev ew cyc d).fuses = d.fuses :=
  by simp [kFlyCatchBody, apply_ite fuses]
@[simp] theorem fuses_kRotorLossBody (p t) : (kRotorLossBody p t d).fuses = d.fuses :=
  by simp [kRotorLossBody, apply_ite fuses]
@[simp] theorem fuses_kAngOutBody (p t) : (kAngOutBody p t d).fuses = d.fuses := rfl

/-! ### Kernels2 -/

@[simp] theorem fuses_onE2 (p f) : (d.onE2 p f).fuses = d.fuses := rfl
@[simp] theorem fuses_onMo (p f) : (d.onMo p f).fuses = d.fuses := rfl
@[simp] theorem fuses_onOut (p f) : (d.onOut p f).fuses = d.fuses := rfl
@[simp] theorem fuses_onPair (p f) : (d.onPair p f).fuses = d.fuses := rfl
@[simp] theorem fuses_oncePerFrame (p id) {f : Dev → Dev} (hf : ∀ d, (f d).fuses = d.fuses) :
    (d.oncePerFrame p id f).fuses = d.fuses := by simp [oncePerFrame, apply_ite fuses, hf]
@[simp] theorem fuses_readState (p) : (d.readState p).fuses = d.fuses := rfl
@[simp] theorem fuses_readAng2 (p) : (d.readAng2 p).fuses = d.fuses := by simp [readAng2]
@[simp] theorem fuses_readCur2 (p) : (d.readCur2 p).fuses = d.fuses := by simp [readCur2]
@[simp] theorem fuses_readDuty2 (p) : (d.readDuty2 p).fuses = d.fuses := by simp [readDuty2]
@[simp] theorem fuses_kProcInJudge (p w) : (kProcInJudge p w d).fuses = d.fuses := by simp [kProcInJudge, apply_ite fuses]
@[simp] theorem fuses_kProcInBody (p t bs) : (kProcInBody p t bs d).fuses = d.fuses := by simp [kProcInBody, apply_ite fuses]
@[simp] theorem fuses_rampFrame (p f) : (d.rampFrame p f).fuses = d.fuses := by simp [rampFrame, apply_ite fuses]
@[simp] theorem fuses_kRampBody (p) : (kRampBody p d).fuses = d.fuses := by simp [kRampBody]
@[simp] theorem fuses_kScurveBody (p) : (kScurveBody p d).fuses = d.fuses := by simp [kScurveBody]
@[simp] theorem fuses_kSpdPiBody (p) :
    (kSpdPiBody p d).fuses = d.fuses := 
  (fuses_oncePerFrame _ _ _ fun d => by simp [apply_ite fuses]).trans (fuses_readAng2 ..)
@[simp] theorem fuses_kTrqSetBody (p) : (kTrqSetBody p d).fuses = d.fuses := by simp [kTrqSetBody, apply_ite fuses]
@[simp] theorem fuses_kLimBudgetCalc (p b slot) : (kLimBudgetCalc p b slot d).fuses = d.fuses := rfl
@[simp] theorem fuses_kLimBudgetBody (p t) : (kLimBudgetBody p t d).fuses = d.fuses :=
  by simp [kLimBudgetBody, apply_ite fuses]
@[simp] theorem fuses_kCheckDqBody (p t) : (kCheckDqBody p t d).fuses = d.fuses := by simp [kCheckDqBody, apply_ite fuses]
@[simp] theorem fuses_putLinkStale (p) : (d.putLinkStale p).fuses = d.fuses := rfl
@[simp] theorem fuses_readXw (p) : (d.readXw p).fuses = d.fuses := by simp [readXw, apply_ite fuses]
@[simp] theorem fuses_kXwExchBody (p t) : (kXwExchBody p t d).fuses = d.fuses :=
  by unfold kXwExchBody; dsimp only; (repeat' split) <;> simp
@[simp] theorem fuses_applyVerdict (p t v) : (d.applyVerdict p t v).fuses = d.fuses :=
  by unfold applyVerdict; split <;> simp [apply_ite fuses]
@[simp] theorem fuses_startPlaus (p t) : (d.startPlaus p t).fuses = d.fuses := by simp [startPlaus]
@[simp] theorem fuses_kXwPlausBody (p t) : (kXwPlausBody p t d).fuses = d.fuses :=
  by unfold kXwPlausBody; dsimp only; split <;> simp [apply_ite fuses]
@[simp] theorem fuses_kSuperviseBody (p t c) : (kSuperviseBody p t c d).fuses = d.fuses :=
  by simp [kSuperviseBody, apply_ite fuses]
@[simp] theorem fuses_kSetOutBody (p t) : (kSetOutBody p t d).fuses = d.fuses := by simp [kSetOutBody, apply_ite fuses]
@[simp] theorem fuses_kStatusOutBody (p t bs) : (kStatusOutBody p t bs d).fuses = d.fuses := rfl
@[simp] theorem fuses_request2 (p t goal keepArm) : (d.request2 p t goal keepArm).fuses = d.fuses := by simp [request2]
@[simp] theorem fuses_refuseStart (p) : (d.refuseStart p).fuses = d.fuses := rfl
@[simp] theorem fuses_seqOff (p t) : (d.seqOff p t).fuses = d.fuses := by simp [seqOff, apply_ite fuses]
@[simp] theorem fuses_seqArmed (p t) : (d.seqArmed p t).fuses = d.fuses := by simp [seqArmed, apply_ite fuses]
@[simp] theorem fuses_streamStopped (p) : (d.streamStopped p).fuses = d.fuses := rfl
@[simp] theorem fuses_seqDriving (p t) : (d.seqDriving p t).fuses = d.fuses := by simp [seqDriving, apply_ite fuses]
@[simp] theorem fuses_seqCoast (p t) : (d.seqCoast p t).fuses = d.fuses := by simp [seqCoast, apply_ite fuses]
@[simp] theorem fuses_seqTripped (p t) : (d.seqTripped p t).fuses = d.fuses := by simp [seqTripped, apply_ite fuses]
@[simp] theorem fuses_kStopSeqBody (p t) :
    (kStopSeqBody p t d).fuses = d.fuses := 
  (fuses_oncePerFrame _ _ _ fun d => by dsimp only; split <;> simp).trans (fuses_readAng2 ..)
@[simp] theorem fuses_resume2 (p) : (d.resume2 p).fuses = d.fuses :=
  by unfold resume2; dsimp only; (repeat' split) <;> simp
@[simp] theorem fuses_resumed (p) : (d.resumed p).fuses = d.fuses := by simp [resumed]
@[simp] theorem fuses_kernel2 (p id t) {f : Dev → Dev} (hf : ∀ d, (f d).fuses = d.fuses) :
    (kernel2 p id t f d).fuses = d.fuses := by simp [kernel2, hf]

/-! ### Slots -/

@[simp] theorem fuses_speedFlagDue (p) : (d.speedFlagDue p).fuses = d.fuses :=
  by unfold speedFlagDue; split <;> simp [apply_ite fuses]
@[simp] theorem fuses_putRow (idx sub vs) : (d.putRow idx sub vs).fuses = d.fuses := by simp -implicitDefEqProofs [putRow]
@[simp] theorem fuses_putFeedback (p) : (d.putFeedback p).fuses = d.fuses := fuses_putRow ..
@[simp] theorem fuses_putObserver (p) : (d.putObserver p).fuses = d.fuses := rfl
@[simp] theorem fuses_putActual (p) : (d.putActual p).fuses = d.fuses := rfl
@[simp] theorem fuses_putStatus (p slot) : (d.putStatus p slot).fuses = d.fuses := by simp -implicitDefEqProofs [putStatus]
@[simp] theorem fuses_putResults (g) : (d.putResults g).fuses = d.fuses := by simp -implicitDefEqProofs [putResults]
@[simp] theorem fuses_putStreams (l) : (d.putStreams l).fuses = d.fuses := by simp [putStreams]
@[simp] theorem fuses_lateCommands (p) : (d.lateCommands p).fuses = d.fuses := by simp [lateCommands, apply_ite fuses]
@[simp] theorem fuses_portBoundary (p) : (d.portBoundary p).fuses = d.fuses := by simp [portBoundary]
@[simp] theorem fuses_advanceLane (l) : (d.advanceLane l).fuses = d.fuses := rfl
@[simp] theorem fuses_laneOpens (l) : (d.laneOpens l).fuses = d.fuses := by simp [laneOpens]
@[simp] theorem fuses_laneBoundary (l) : (d.laneBoundary l).fuses = d.fuses := by simp [laneBoundary, apply_ite fuses]
@[simp] theorem fuses_drainTx (o) : (d.drainTx o).fuses = d.fuses := by simp [drainTx, apply_ite fuses]
@[simp] theorem fuses_putNetSense (net) : (d.putNetSense net).fuses = d.fuses := by simp [putNetSense, apply_ite fuses]
@[simp] theorem fuses_commonBoundary (gpio net) : (d.commonBoundary gpio net).fuses = d.fuses := by simp [commonBoundary]
@[simp] theorem fuses_carrierUnlocked (b) : (d.carrierUnlocked b).fuses = d.fuses :=
  by simp -implicitDefEqProofs [carrierUnlocked]
@[simp] theorem fuses_gridCheck : (d.gridCheck).fuses = d.fuses := by simp [gridCheck, apply_ite fuses]
@[simp] theorem fuses_gridLock (e) : (d.gridLock e).fuses = d.fuses := by simp [gridLock, apply_ite fuses]
@[simp] theorem fuses_keepTrim : (d.keepTrim).fuses = d.fuses := rfl
@[simp] theorem fuses_gridPhaseMeasurementStep : (gridPhaseMeasurementStep d).fuses = d.fuses :=
  by unfold gridPhaseMeasurementStep; dsimp only; (repeat' split) <;> simp -implicitDefEqProofs
@[simp] theorem fuses_crossBases (ticks) : (d.crossBases ticks).fuses = d.fuses := rfl
@[simp] theorem fuses_slotBoundaryStep (l ticks gpio net) : (slotBoundaryStep l ticks gpio net d).fuses = d.fuses :=
  by simp [slotBoundaryStep, apply_ite fuses]
@[simp] theorem fuses_allocate (rem ps) :
    (d.allocate rem ps).fuses = d.fuses := by
  induction ps generalizing d rem with
  | nil => rfl
  | cons p ps ih => simp [allocate, ih]
@[simp] theorem fuses_budgetAllocationStep (l) : (budgetAllocationStep l d).fuses = d.fuses :=
  by simp -implicitDefEqProofs [budgetAllocationStep, apply_ite fuses]
@[simp] theorem fuses_csStartCalibrationStep (p) : (csStartCalibrationStep p d).fuses = d.fuses :=
  by unfold csStartCalibrationStep; (repeat' split) <;> simp

/-! ### OverCurrent -/

@[simp] theorem fuses_overcurrentTripStep (p obs) : (overcurrentTripStep p obs d).fuses = d.fuses :=
  by simp [overcurrentTripStep, apply_ite fuses]

end Sys2Proof.Machine.Dev
end

section
/-! SUPPORT. Fuse arrays that differ by bits set: the order in which every programming leads upwards (R413, R419 to R421). -/

namespace Sys2Proof.Machine

/-- Every bit of the first array, of its words and of its check row, is set in the second. -/
structure Fuses.Grows (f g : Fuses) : Prop where
  words : ∀ w, f.word w &&& g.word w = f.word w
  checks : ∀ w, f.check w &&& g.check w = f.check w

theorem and_or_absorb (x y : Word) : x &&& (x ||| y) = x := by
  ext i h
  simp only [BitVec.getElem_and, BitVec.getElem_or]
  cases x[i] <;> rfl

namespace Fuses

variable {f g h : Fuses}

theorem grows_of_eq (hw : ∀ w, g.word w = f.word w) (hc : ∀ w, g.check w = f.check w) : f.Grows g :=
  ⟨fun w => by rw [hw, BitVec.and_self], fun w => by rw [hc, BitVec.and_self]⟩

theorem grows_refl (f : Fuses) : f.Grows f := grows_of_eq (fun _ => rfl) fun _ => rfl

theorem Grows.trans (h₁ : f.Grows g) (h₂ : g.Grows h) : f.Grows h :=
  ⟨fun w => by rw [← h₁.words, BitVec.and_assoc, h₂.words], fun w => by rw [← h₁.checks, BitVec.and_assoc, h₂.checks]⟩

/-! ### What programs a word -/

theorem check_put (f : Fuses) (w x : Nat) (v : Word) : (f.put w v).check x = f.check x := by
  unfold put; split_ifs <;> rfl

theorem word_pulseChecks (f : Fuses) (w x : Nat) (v mask : Word) : (f.pulseChecks w v mask).word x = f.word x := by
  unfold pulseChecks; split_ifs <;> rfl

theorem grows_put_or (f : Fuses) (w : Nat) (v : Word) : f.Grows (f.put w (f.word w ||| v)) where
  words x := by
    rw [word_put]
    split_ifs with hx
    · rw [hx, and_or_absorb]
    · exact BitVec.and_self
  checks x := by rw [check_put, BitVec.and_self]

theorem grows_pulseChecks (f : Fuses) (w : Nat) (v mask : Word) : f.Grows (f.pulseChecks w v mask) where
  words x := by rw [word_pulseChecks, BitVec.and_self]
  checks x := by
    unfold pulseChecks check
    split_ifs
    · dsimp only
      rw [wordGet_wordSet]
      split_ifs with hx
      · rw [hx, and_or_absorb]
      · exact BitVec.and_self
    · exact BitVec.and_self

theorem grows_close (f : Fuses) (w : Nat) : f.Grows (f.close w) := by
  unfold close
  split_ifs
  · exact grows_of_eq (fun _ => rfl) fun _ => rfl
  · exact grows_refl f

/-- A reading of the array clears none of its bits where it does not say what they read as. -/
theorem grows_readWords (f : Fuses) (ws weak broken : List Nat) : f.Grows (f.readWords ws weak broken) :=
  grows_of_eq (fun _ => rfl) fun _ => rfl

/-- A word redirected to a spare row that holds at least its bits (R421). -/
theorem Grows.redirect (hg : f.Grows g) {w : Nat} {v : Word} (hv : f.word w &&& v = f.word w) :
    f.Grows { g with rows := (w, v) :: g.rows } where
  words x := by
    by_cases hx : x = w
    · subst hx
      calc f.word x &&& _ = f.word x &&& v := by simp [word]
        _ = f.word x := hv
    · have hne : (x == w) = false := beq_eq_false_iff_ne.mpr hx
      calc f.word x &&& _ = f.word x &&& g.word x := by simp [word, List.lookup, hne]
        _ = f.word x := hg.words x
  checks := hg.checks

/-- A programming, finished or not, only sets bits (R419 to R421). -/
theorem grows_program (f : Fuses) (down : Bool) (w : Nat) (value : Word) (r : OtpEnd) :
    f.Grows (f.program down w value r).1 := by
  have hleft : f.Grows ((f.put w (pulsedWord (f.word w) value r.pulsed)).pulseChecks w value (BitVec.ofNat 32 r.checks)) :=
    (grows_put_or ..).trans (grows_pulseChecks ..)
  have hdone : f.Grows (((f.put w (f.word w ||| value)).pulseChecks w value (BitVec.allOnes 32)).close w) :=
    ((grows_put_or ..).trans (grows_pulseChecks ..)).trans (grows_close ..)
  unfold program
  dsimp only
  split_ifs
  · exact hleft
  · exact hleft
  · exact hdone
  · exact hleft
  · exact hleft.redirect (and_or_absorb ..)
  · exact hleft

/-- A programming that a reset cuts off only sets bits (R413, R421). -/
theorem grows_cutOff (f : Fuses) (op : Option OtpOp) (ix : Nat) : f.Grows (f.cutOff op ix) := by
  have hpart : ∀ w v mask m, f.Grows ((f.put w (f.word w ||| (v &&& mask))).pulseChecks w v m) := fun w v mask m =>
    (grows_put_or ..).trans (grows_pulseChecks ..)
  have hclose : ∀ {g w c} [Decidable c], f.Grows g → f.Grows (if c then g.close w else g) := fun {g w _ _} hg => by
    split_ifs
    · exact hg.trans (grows_close g w)
    · exact hg
  cases op with
  | none => exact grows_refl f
  | some op => cases op <;> exact hclose (hpart ..)

end Fuses

/-! ### The commands that end a fuse operation, and the resets -/

namespace Dev

variable (d : Dev)

theorem grows_programFuse (w : Nat) (value : Word) (r : OtpEnd) : d.fuses.Grows (d.programFuse w value r).fuses := by
  have hq := fun down r => d.fuses.grows_program down w value r
  unfold programFuse
  dsimp only
  simp only [fuses_putMargins, apply_ite fuses, putBit_fuses, ite_self, fuses_otpEnds]
  split
  · exact (hq ..).trans (Fuses.grows_readWords ..)
  · exact hq ..

theorem grows_otpProgramComplete (r : OtpEnd) : d.fuses.Grows (otpProgramCompleteStep r d).fuses := by
  unfold otpProgramCompleteStep
  split
  · split_ifs
    · exact Fuses.grows_refl _
    · exact d.grows_programFuse ..
  · exact Fuses.grows_refl _

theorem grows_otpLockComplete (x : WordsRead) (r : OtpEnd) : d.fuses.Grows (otpLockCompleteStep x r d).fuses := by
  unfold otpLockCompleteStep
  dsimp only
  split
  · split_ifs
    · exact Fuses.grows_refl _
    · simpa using Fuses.grows_readWords ..
    · refine Fuses.Grows.trans ?_ (grows_programFuse ..)
      simpa using Fuses.grows_readWords ..
    · simpa using Fuses.grows_readWords ..
  · exact Fuses.grows_refl _

theorem grows_ordinaryWordsRead (weak : List Nat) : d.fuses.Grows (ordinaryWordsReadStep weak d).fuses := by
  unfold ordinaryWordsReadStep
  dsimp only
  split
  · exact Fuses.grows_refl _
  · split_ifs
    · exact Fuses.grows_refl _
    · simpa using Fuses.grows_readWords ..

theorem grows_keep : d.fuses.Grows (Dev.atReset.keep d).fuses := Fuses.grows_cutOff ..

/-- A reset cuts a fuse operation off at most. -/
theorem grows_resetWith (cause wake : Nat) : d.fuses.Grows (d.resetWith cause wake).fuses := by
  have hk := d.grows_keep
  unfold resetWith
  dsimp only
  split_ifs <;> simpa using hk

theorem grows_wakeBy (src cycle : Nat) : d.fuses.Grows (d.wakeBy src cycle).fuses := by
  unfold wakeBy
  dsimp only
  split
  · split_ifs <;> exact Fuses.grows_refl _
  · split
    · exact d.grows_resetWith ..
    · split_ifs <;> exact Fuses.grows_refl _

theorem grows_lowPowerEntry : d.fuses.Grows (lowPowerEntryStep d).fuses := by
  unfold lowPowerEntryStep
  dsimp only
  split
  · split
    · exact d.grows_resetWith ..
    · exact d.grows_keep
  · exact Fuses.grows_refl _

theorem grows_vbatReconnect (mv lowUs cycle : Nat) : d.fuses.Grows (vbatReconnectStep mv lowUs cycle d).fuses := by
  unfold vbatReconnectStep
  split_ifs
  · exact d.grows_resetWith ..
  · exact d.grows_resetWith ..
  · exact d.grows_wakeBy ..
  · exact Fuses.grows_refl _

theorem grows_ite {c : Prop} [Decidable c] {e : Dev} (h : d.fuses.Grows e.fuses) :
    d.fuses.Grows (if c then e else d).fuses := by
  split_ifs
  · exact h
  · exact Fuses.grows_refl _

theorem grows_resetNPulse (lowNs : Nat) : d.fuses.Grows (resetNPulseStep lowNs d).fuses := by
  unfold resetNPulseStep
  split_ifs
  · exact d.grows_resetWith ..
  · exact Fuses.grows_refl _
  · exact d.stamped.grows_resetWith ..
  · exact Fuses.grows_refl _

theorem grows_deviceReset : d.fuses.Grows (deviceResetStep d).fuses := by
  unfold deviceResetStep
  split
  · exact Fuses.grows_refl _
  · have h := d.closeAll.commitEvents.grows_resetWith 3 0
    rwa [fuses_commitEvents, fuses_closeAll] at h

/-! ### Every command -/

/-- A command that a freeze holds. -/
theorem grows_of_awake {s u : State} {f : Dev → Dev} (hf : ∀ d : Dev, d.fuses.Grows (f d).fuses)
    (h : (Host.Outcome.next (s.awake f) : Host.Outcome State Fault Refusal) = .next u) : s.dev.fuses.Grows u.dev.fuses := by
  cases h
  unfold State.awake State.upd
  dsimp only
  split
  · exact Fuses.grows_refl _
  · exact hf _

/-- A command that acts in a freeze too. -/
theorem grows_of_upd {s u : State} {f : Dev → Dev} (hf : ∀ d : Dev, d.fuses.Grows (f d).fuses)
    (h : (Host.Outcome.next (s.upd f) : Host.Outcome State Fault Refusal) = .next u) : s.dev.fuses.Grows u.dev.fuses := by
  cases h
  exact hf _

theorem grows_of_fuses_eq {f : Dev → Dev} (h : ∀ d, (f d).fuses = d.fuses) (d : Dev) : d.fuses.Grows (f d).fuses := by
  rw [h]
  exact Fuses.grows_refl _

end Dev

/-- Beside the readings of the whole array, the commands that end a fuse operation or a read and those that reset the block are
the only ones that reach the array. -/
theorem grows_of_exec (c : Instr) (s u : State) (h : exec c s = .next u)
    (hread : ∀ x done, c ≠ .otpPeriodicReread x done) (hboot : ∀ a b psel x p q, c ≠ .resetRelease a b psel x p q) :
    s.dev.fuses.Grows u.dev.fuses := by
  cases c
  case otpPeriodicReread x done => exact absurd rfl (hread x done)
  case resetRelease a b psel x p q => exact absurd rfl (hboot a b psel x p q)
  case otpProgramComplete r => exact Dev.grows_of_awake (Dev.grows_otpProgramComplete · r) h
  case otpLockComplete x r => exact Dev.grows_of_awake (Dev.grows_otpLockComplete · x r) h
  case ordinaryWordsRead weak => exact Dev.grows_of_awake (Dev.grows_ordinaryWordsRead · weak) h
  case lowPowerEntry => exact Dev.grows_of_awake Dev.grows_lowPowerEntry h
  case wakePin => exact Dev.grows_of_awake (fun d => (d.grows_ite (d.grows_wakeBy ..))) h
  case wakeTimer => exact Dev.grows_of_awake (fun d => (d.grows_ite (d.grows_wakeBy ..))) h
  case canWakeUp => exact Dev.grows_of_awake (fun d => (d.grows_ite (d.grows_wakeBy ..))) h
  case vbatReconnect => exact Dev.grows_of_awake (Dev.grows_vbatReconnect · ..) h
  case deviceReset => exact Dev.grows_of_awake Dev.grows_deviceReset h
  case powerOnReset => exact Dev.grows_of_upd (Dev.grows_resetWith · ..) h
  case resetNPulse => exact Dev.grows_of_upd (Dev.grows_resetNPulse · ..) h
  case bothLanesLost => exact Dev.grows_of_upd (fun d => d.grows_ite (d.grows_resetWith ..)) h
  case sysreset => exact Dev.grows_of_upd (fun d => d.grows_ite ((d.tapInstr 0x45 false [false]).grows_resetWith ..)) h
  case scratchpadAccess e t op wide addr ecc =>
    simp only [exec, execScratchpadAccess] at h
    split at h
    · exact Dev.grows_of_awake (Dev.grows_of_fuses_eq (by simp)) h
    · cases h
  case sharedSramAccess e t op addr ecc =>
    simp only [exec, execSharedSramAccess] at h
    split at h
    · exact Dev.grows_of_awake (Dev.grows_of_fuses_eq (by simp)) h
    · cases h
  case gdSupplyFault | desaturation | phaseNodeCheck | gdFeedbackFault | safeStateCommand | busOv3 | supplyUv | laneSupplyReturn |
      overtemp | vgdBelow7v | freeze | fzStatus | dumpAddr | dumpData | resume | idcode | extest | samplePreload | highz |
      clamp | bypass | obj | tapReset | lullNTrigger | selfDumpStart | selfDumpComplete =>
    exact Dev.grows_of_upd (Dev.grows_of_fuses_eq (by simp)) h
  all_goals exact Dev.grows_of_awake (Dev.grows_of_fuses_eq (by simp -implicitDefEqProofs)) h

end Sys2Proof.Machine
end

section
/-! PROOF. O53: fuse bits are never cleared (R413, R419 to R421). -/

namespace Sys2Proof.Machine

/-- Settles O53: every command but a reading of the array leaves it or programs it, and a programming only sets bits. -/
theorem fuseBitsAreNeverCleared : Obligations.FuseBitsAreNeverCleared := fun c s u h hread hboot w =>
  have hgrows := grows_of_exec c s u h hread hboot
  ⟨hgrows.words w, hgrows.checks w⟩

end Sys2Proof.Machine
end

section
/-! SUPPORT. Sessions that end: what closing them leaves of the block (R344, R352, R372). -/

namespace Sys2Proof.Machine

/-- Two blocks that differ at most in objects, the network, the journal writer and the choices left open. -/
structure Dev.NetOnly (d e : Dev) : Prop where
  eq : e = { d with objs := e.objs, wr := e.wr, net := e.net, freeIx := e.freeIx }

namespace Dev

variable {d e f : Dev}

namespace NetOnly

theorem refl (d : Dev) : NetOnly d d := ⟨rfl⟩

theorem trans (h : NetOnly d e) (h' : NetOnly e f) : NetOnly d f := ⟨by rw [h'.eq, h.eq]⟩

theorem ite {c : Prop} [Decidable c] (h : NetOnly d e) (h' : NetOnly d f) : NetOnly d (if c then e else f) := by
  split_ifs
  · exact h
  · exact h'

theorem foldl {α : Type} {g : Dev → α → Dev} {xs : List α} (h : ∀ d x, NetOnly d (g d x)) (d : Dev) :
    NetOnly d (xs.foldl g d) := by
  induction xs generalizing d with
  | nil => exact refl d
  | cons x xs ih => exact (h d x).trans (ih _)

theorem journalEvent (d : Dev) (c : Ctx) (code key : Nat) (new : List Byte) : NetOnly d (d.journalEvent c code key new) :=
  ite ⟨rfl⟩ ⟨rfl⟩

theorem detach (d : Dev) (s : Nat) : NetOnly d (d.detach s) := by
  have hevent : NetOnly d (if d.num (streamIdx s) 0x10 = 2 then d.streamEvent s 0x12 else d) :=
    ite (journalEvent ..) (refl d)
  unfold Dev.detach
  exact ite (refl d) (hevent.trans (trans (ite ⟨rfl⟩ (refl _)) ⟨rfl⟩))

theorem dropSession (d : Dev) (id : Nat) : NetOnly d (d.dropSession id) := ⟨rfl⟩

theorem closeSession (d : Dev) (id cause : Nat) : NetOnly d (d.closeSession id cause) := by
  have hdetach := foldl (g := fun d s => if d.nat (streamIdx s) 0x11 = id then d.detach s else d) (xs := List.range 16)
    (fun d s => ite (detach d s) (refl d)) d
  exact (hdetach.trans (journalEvent _ (d.sessionCtx id) 0x03 0 (toLE 1 cause))).trans (dropSession _ id)

theorem closeAll (d : Dev) : NetOnly d d.closeAll := by
  unfold Dev.closeAll
  refine foldl (fun d s => ?_) d
  split
  · exact closeSession ..
  · exact dropSession ..

variable (h : NetOnly d e)
include h

theorem ports : e.ports = d.ports := by rw [h.eq]
theorem lanes : e.lanes = d.lanes := by rw [h.eq]
theorem boot : e.boot = d.boot := by rw [h.eq]
theorem published : e.published = d.published := by rw [h.eq]
theorem flash : e.flash = d.flash := by rw [h.eq]
theorem fuses : e.fuses = d.fuses := by rw [h.eq]
theorem tap : e.tap = d.tap := by rw [h.eq]
theorem otp : e.otp = d.otp := by rw [h.eq]
theorem frozen : e.frozen = d.frozen := by rw [h.eq]
theorem image : e.image = d.image := by rw [h.eq]

end NetOnly

/-! ### The events that wait are committed before a reset -/

/-- What committing the waiting events leaves (R344). -/
theorem commitEvents_leaves (d : Dev) : d.commitEvents.boot = d.boot ∧ d.commitEvents.tap = d.tap ∧
    d.commitEvents.flash.recA = d.flash.recA ∧ d.commitEvents.flash.halves = d.flash.halves := by
  unfold commitEvents
  dsimp only
  split
  · exact ⟨rfl, rfl, rfl, rfl⟩
  · have hkeep : ∀ {β : Type} (g : Dev → β), (∀ d j, g (d.program j) = g d) → ∀ js : List JournalJob,
        g (js.foldl (fun d j => if d.flash.free = 0 then d else d.program j) d) = g d := fun g hg js =>
      foldl_keeps g (fun j _ d => by split_ifs <;> [rfl; exact hg d j]) d
    exact ⟨hkeep Dev.boot (fun _ _ => rfl) _, hkeep Dev.tap (fun _ _ => rfl) _,
      hkeep (fun d => d.flash.recA) (fun _ _ => rfl) _, hkeep (fun d => d.flash.halves) (fun _ _ => rfl) _⟩

end Dev
end Sys2Proof.Machine
end

section
/-! PROOF. O26: the entry into low power, the wake sources and the resets (R276, R280 to R282, R285, R292, R293, R462). -/

namespace Sys2Proof.Machine

/-! ### Low power and wakes -/

namespace Dev

variable {d : Dev}

/-- A wake source that fires in SLEEP starts the device and stays latched (R280, R281). -/
theorem wakeBy_of_low (hlow : d.boot.phase = .low) (hisl : d.boot.island.unpowered = false) (ht : d.boot.target = 1)
    (src cycle : Nat) : d.wakeBy src cycle =
      { d.resetWith 4 src with boot := { (d.resetWith 4 src).boot with
          island := { (d.resetWith 4 src).boot.island with latched := src, cycle := cycle } } } := by
  unfold wakeBy
  dsimp only
  rw [if_neg (by simp [hlow]), if_pos ⟨hlow, hisl⟩, if_pos ht]

theorem wakeBy_leaves (hlow : d.boot.phase = .low) (hisl : d.boot.island.unpowered = false) (ht : d.boot.target = 1)
    (src cycle : Nat) : (d.wakeBy src cycle).frozen = false ∧
      (d.wakeBy src cycle).boot.island = { d.boot.island with latched := src, cycle := cycle } := by
  have hheld : d.boot.phase ≠ .held := by simp [hlow]
  obtain ⟨-, -, -, -, -, hfrozen, -⟩ := resetWith_leaves hheld 4 src
  rw [wakeBy_of_low hlow hisl ht, boot_resetWith_wake src (.inl rfl)]
  exact ⟨hfrozen, rfl⟩

theorem sleepWakes_of_low (hlow : d.boot.phase = .low) (ht : d.boot.target = 1) : d.sleepWakes = true := by
  simp [sleepWakes, hlow, ht]

/-- A wake that a second source joins within its cycle reports the higher one (R280). -/
theorem wakeBy_of_held (hheld : d.boot.phase = .held) {src cycle : Nat} : (d.wakeBy src cycle).num 0x2000 4 =
    if d.boot.island.latched ≠ 0 ∧ d.boot.island.cycle = cycle ∧ src < d.boot.island.latched then (src : Int)
    else d.num 0x2000 4 := by
  unfold wakeBy
  dsimp only
  rw [if_neg (by simp [hheld]), if_neg (by simp [hheld])]
  by_cases h : d.boot.island.latched ≠ 0 ∧ d.boot.island.cycle = cycle ∧ src < d.boot.island.latched
  · rw [if_pos ⟨hheld, h⟩, if_pos h]
    exact num_put ..
  · rw [if_neg fun hc => h hc.2, if_neg h]

end Dev

/-- What a wake from SLEEP leaves. -/
def WokenBy (src : Int) (d e : Dev) : Prop :=
  e.boot.phase = .held ∧ e.num 0x2000 3 = 4 ∧ e.num 0x2000 4 = src ∧
    e.ports = (if d.tap.bscan then Dev.atReset.unitsCoast else Dev.atReset).ports ∧ e.flash.traces = d.flash.traces

theorem wokenBy_wakeBy {d : Dev} (hf : d.frozen = false) (hlow : d.boot.phase = .low)
    (hisl : d.boot.island.unpowered = false) (ht : d.boot.target = 1) (src cycle : Nat) :
    WokenBy src d (d.wakeBy src cycle) := by
  have hheld : d.boot.phase ≠ .held := by simp [hlow]
  obtain ⟨hcause, hwake, hports, -, -, -, -, hflash, -⟩ := Dev.resetWith_leaves hheld 4 src
  rw [Dev.wakeBy_of_low hlow hisl ht]
  refine ⟨?_, hcause, hwake, ?_, (congrArg Flash.traces hflash).trans (d.flash_keep.2.2 hf)⟩
  · exact congrArg Boot.phase (Dev.boot_resetWith_wake src (.inl rfl))
  · exact hports.trans (congrArg Dev.ports (by simp))

theorem lowPowerKeepsFlashAndIsland : Says.LowPowerKeepsFlashAndIsland := by
  intro s hs hdown
  refine ⟨fun hl => ?_, fun hl => ?_⟩
  · refine answers_of_awake hs rfl fun u hu => ?_
    rw [hu, lowPowerEntryStep, if_pos hdown, if_neg (not_not.mpr hl)]
    exact ⟨rfl, congrArg Int.toNat (Dev.num_put ..), rfl, rfl, rfl, rfl, s.dev.flash_keep.2.2 hs, s.dev.spares_keep⟩
  · refine answers_of_awake hs rfl fun u hu => ?_
    have hheld : s.dev.boot.phase ≠ .held := by simp [hdown]
    rw [hu, lowPowerEntryStep, if_pos hdown, if_pos hl]
    obtain ⟨hcause, hwake, -⟩ := Dev.resetWith_leaves hheld (if s.dev.boot.target = 1 then 4 else 5)
      s.dev.boot.island.latched
    refine ⟨?_, hcause.trans (Nat.cast_ite ..), hwake⟩
    exact congrArg Boot.phase (Dev.boot_resetWith_wake _ (by split_ifs <;> decide))

theorem wakeSourcesStartTheDevice : Says.WakeSourcesStartTheDevice := by
  intro s hs hlow ht hisl
  have hwoken : ∀ {u : State} {src c : Nat}, u.dev = s.dev.wakeBy src c → WokenBy src s.dev u.dev := fun hu =>
    hu ▸ wokenBy_wakeBy hs hlow hisl ht _ _
  have hsleep := Dev.sleepWakes_of_low hlow ht
  refine ⟨fun held c hh he => ?_, fun held c hh r => ?_, fun ms c h0 hms => ?_, fun c hc => ?_, fun mv us c hmv hus => ?_,
    fun ms held c c' h0 hms hh he => ?_, ?_⟩
  · refine answers_of_awake hs rfl fun u hu => ?_
    have hstep : u.dev = s.dev.wakeBy 1 c := hu.trans (if_pos (by simp [hh, hsleep, he]))
    exact hwoken hstep
  · exact exec_of_fixed rfl (if_neg (by simp [hh]))
  · refine answers_of_awake hs rfl fun u hu => ?_
    have hstep : u.dev = s.dev.wakeBy 2 c := hu.trans (if_pos ⟨hsleep, h0, hms⟩)
    exact hwoken hstep
  · refine answers_of_awake hs rfl fun u hu => ?_
    have hstep : u.dev = s.dev.wakeBy 3 c := hu.trans (if_pos ⟨hsleep, hc⟩)
    exact hwoken hstep
  · refine answers_of_awake hs rfl fun u hu => ?_
    have hstep : u.dev = s.dev.wakeBy 4 c := hu.trans ((if_pos ⟨hmv, hus⟩).trans (if_neg (by simp [hisl])))
    exact hwoken hstep
  · refine answers_of_awake hs rfl fun u hu => ?_
    have hstep : u.dev = s.dev.wakeBy 2 c := hu.trans (if_pos ⟨hsleep, h0, hms⟩)
    obtain ⟨hheld, hcause, hwake, -⟩ : WokenBy 2 s.dev u.dev := hwoken hstep
    obtain ⟨hfrozen, hisland⟩ := Dev.wakeBy_leaves hlow hisl ht 2 c
    rw [← hstep] at hfrozen hisland
    refine answers_of_awake hfrozen rfl fun v hv => ?_
    have hjoin : v.dev = u.dev.wakeBy 1 c' := hv.trans (if_pos (by simp [hh, Dev.sleepWakes, hheld, hcause, hisland, he]))
    rw [hjoin, Dev.wakeBy_of_held hheld, hwake, hisland]
    simp [eq_comm]
  · refine answers_of_awake hs rfl fun u hu => ?_
    rw [hu, islandUnpoweredStep, if_pos hlow]
    exact ⟨rfl, rfl, rfl, rfl⟩

/-! ### Resets -/

/-- What a reset leaves. -/
def ResetsTo (cause : Int) (s u : State) : Prop :=
  u.dev.boot = { Dev.atReset.boot with lullLow := s.dev.boot.lullLow, laneB := s.dev.boot.laneB } ∧
    u.dev.num 0x2000 3 = cause ∧
    u.dev.ports = (if cause ≠ 1 ∧ s.dev.tap.bscan = true then Dev.atReset.unitsCoast else Dev.atReset).ports ∧
    u.dev.lanes = Dev.atReset.lanes ∧ u.dev.image = none ∧ u.dev.frozen = false ∧ u.dev.published = [] ∧
    u.dev.flash.recA = s.dev.flash.recA ∧ u.dev.flash.halves = s.dev.flash.halves ∧
    u.dev.fuses.spares = s.dev.fuses.spares ∧ u.pending = s.pending

/-- A reset of a block with the start-up, TAP, records and spare rows of s. -/
theorem resetsTo_of_resetWith {s u : State} {d : Dev} (hheld : s.dev.boot.phase ≠ .held) {cause : Nat} (h4 : cause ≠ 4)
    (h5 : cause ≠ 5) (hu : u.dev = d.resetWith cause 0) (hpending : u.pending = s.pending) (hboot : d.boot = s.dev.boot)
    (htap : d.tap = s.dev.tap) (hrec : d.flash.recA = s.dev.flash.recA) (hhalves : d.flash.halves = s.dev.flash.halves)
    (hspares : d.fuses.spares = s.dev.fuses.spares) : ResetsTo cause s u := by
  obtain ⟨hcause, -, hports, hlanes, himage, hfrozen, hpub, hflash, hfuses⟩ := Dev.resetWith_leaves (hboot ▸ hheld) cause 0
  obtain ⟨hrec', hhalves', -⟩ := d.flash_keep
  unfold ResetsTo
  rw [← hboot, ← hrec, ← hhalves, ← hspares, ← htap]
  refine ⟨?_, ?_, ?_, ?_, ?_, ?_, ?_, ?_, ?_, ?_, hpending⟩ <;> rw [hu]
  · exact Dev.boot_resetWith 0 h4 h5
  · exact hcause
  · exact hports.trans (congrArg Dev.ports (by simp))
  · exact hlanes
  · exact himage
  · exact hfrozen
  · exact hpub
  · exact (congrArg Flash.recA hflash).trans hrec'
  · exact (congrArg Flash.halves hflash).trans hhalves'
  · exact (congrArg Fuses.spares hfuses).trans d.spares_keep

theorem resetsKeepFlashAndFuses : Says.ResetsKeepFlashAndFuses := by
  intro s hheld
  have hreset : ∀ {cause : Nat} {u : State}, cause ≠ 4 → cause ≠ 5 → u.dev = s.dev.resetWith cause 0 →
      u.pending = s.pending → ResetsTo cause s u := fun h4 h5 hu hp =>
    resetsTo_of_resetWith hheld h4 h5 hu hp rfl rfl rfl rfl rfl
  refine ⟨⟨_, rfl, hreset (cause := 1) (by decide) (by decide) rfl rfl⟩, fun ns hns => ⟨_, rfl, ?_⟩, fun ns hns => ?_,
    fun v session origin rest hs hp => ⟨_, rfl, ?_⟩, fun hl hd => ⟨_, rfl, ?_⟩, fun hl hd hh ha hb => ⟨_, rfl, ?_⟩⟩
  · exact hreset (cause := 2) (by decide) (by decide) (if_pos hns) rfl
  · exact next_upd_of_fixed ((if_neg (by omega)).trans (if_pos hns))
  · have hclose := Dev.NetOnly.closeAll s.dev
    obtain ⟨hboot, htap, hrec, hhalves⟩ := s.dev.closeAll.commitEvents_leaves
    refine resetsTo_of_resetWith (d := s.dev.closeAll.commitEvents) (cause := 3) hheld (by decide) (by decide) ?_ rfl
      (hboot.trans hclose.boot) (htap.trans hclose.tap) (hrec.trans (congrArg Flash.recA hclose.flash))
      (hhalves.trans (congrArg Flash.halves hclose.flash)) (by simp)
    refine (State.awake_dev s deviceResetStep hs).trans ?_
    rw [deviceResetStep, Dev.pubOf_head hp]
  · exact hreset (cause := 7) (by decide) (by decide) (if_pos ⟨hl, hd, .inl rfl⟩) rfl
  · exact hreset (cause := 7) (by decide) (by decide) (if_pos ⟨hl, hd, .inr ⟨hh, ha, hb⟩⟩) rfl

/-- Settles O26. -/
theorem lowPowerWakeAndResets : Obligations.LowPowerWakeAndResets :=
  ⟨lowPowerKeepsFlashAndIsland, wakeSourcesStartTheDevice, resetsKeepFlashAndFuses⟩

end Sys2Proof.Machine
end

section
/-! SUPPORT. Published mode requests: when they act, are dropped or wait, and what their bodies leave (R276, R278, R281). -/

namespace Sys2Proof.Machine

variable {d : Dev} {idx v session origin : Nat} {w : Int} {rest : List Published} {f : Dev → Dev}

/-- A published write of a mode-request object. -/
def modePub (idx : Nat) (v : Int) (session origin : Nat) : Published := ⟨objKey idx 0, .num v, session, origin⟩

/-- The block with the first published value gone. -/
def Dev.withPublished (d : Dev) (rest : List Published) : Dev := { d with published := rest }

namespace Dev

theorem firstModeRequest_head (hp : d.published = modePub idx w session origin :: rest) (hi : idx = 0x2001 ∨ idx = 0x2003) :
    d.firstModeRequest = some (modePub idx w session origin) := by
  unfold firstModeRequest
  rw [hp]
  exact List.find?_cons_of_pos (by rcases hi with rfl | rfl <;> rfl)

theorem dropPub_modePub (hp : d.published = modePub idx w session origin :: rest) :
    d.dropPub idx 0 = d.withPublished rest :=
  congrArg d.withPublished (published_dropPub_head hp)

section
variable (hp : d.published = modePub idx (v : Int) session origin :: rest) (hi : idx = 0x2001 ∨ idx = 0x2003)
include hp hi

theorem modeStep_acts (hup : d.powered = true) (hslot : d.boot.modeSlot ≠ some d.slotNow) (hres : d.modeRes idx v = .ok) :
    d.modeStep idx v f = ({ f (d.withPublished rest) with
      boot := { (f (d.withPublished rest)).boot with modeSlot := some d.slotNow } } : Dev).show := by
  unfold modeStep
  rw [firstModeRequest_head hp hi, ← dropPub_modePub hp]
  dsimp only
  rw [if_pos (by simp [modePub, hup, hslot]), if_pos hres]

theorem modeStep_drops (hup : d.powered = true) (hslot : d.boot.modeSlot ≠ some d.slotNow) (hres : d.modeRes idx v ≠ .ok) :
    d.modeStep idx v f = d.withPublished rest := by
  unfold modeStep
  rw [firstModeRequest_head hp hi, ← dropPub_modePub hp]
  dsimp only
  rw [if_pos (by simp [modePub, hup, hslot]), if_neg hres]

theorem modeStep_waits (hslot : d.boot.modeSlot = some d.slotNow) : d.modeStep idx v f = d := by
  unfold modeStep
  rw [firstModeRequest_head hp hi]
  exact if_neg (by simp [hslot])

end

/-- A request behind one for another object does not act. -/
theorem modeStep_behind {idx' : Nat} (hp : d.published = modePub idx' w session origin :: rest)
    (hi : idx' = 0x2001 ∨ idx' = 0x2003) (hne : idx' ≠ idx) : d.modeStep idx v f = d := by
  unfold modeStep
  rw [firstModeRequest_head hp hi]
  exact if_neg (by simp [modePub, objKey, hne])

/-! ### The judgement -/

theorem modeRes_of_standby (h : d.mode = 2) (hv : ¬(idx = 0x2001 ∧ v = 2)) (hrun : ¬(idx = 0x2001 ∧ v = 4)) :
    d.modeRes idx v = .ok := by
  rw [modeRes, if_neg hv, if_neg (by simp [h]), if_neg hrun]

theorem modeRes_run (h : d.mode = 2) (him : d.image.isSome = true) (h2 : d.bit 0x2000 2 2 = false)
    (h6 : d.bit 0x2000 2 6 = false) : d.modeRes 0x2001 4 = .ok := by
  simp [modeRes, h, h2, h6, Option.isSome_iff_ne_none.mp him]

theorem modeRes_of_other (h : d.mode ≠ 2) (hv : ¬(idx = 0x2001 ∧ v = 2)) : d.modeRes idx v ≠ .ok := by
  rw [modeRes, if_neg hv, if_pos h]
  decide

theorem modeRes_standby_of_run (h : d.mode = 4) (hm : d.anyMoving = false) : d.modeRes 0x2001 2 = .ok := by
  simp [modeRes, h, hm]

theorem modeRes_standby_of_configure (h : d.mode = 3) (hv : d.nat 0x2620 1 ≠ 2) : d.modeRes 0x2001 2 = .ok := by
  simp [modeRes, h, hv]

theorem modeRes_standby_of_other (h3 : d.mode ≠ 3) (h4 : d.mode ≠ 4) : d.modeRes 0x2001 2 ≠ .ok := by
  simp [modeRes, h3, h4]

theorem modeRes_standby_of_verify (h : d.mode = 3) (hv : d.nat 0x2620 1 = 2) : d.modeRes 0x2001 2 ≠ .ok := by
  simp [modeRes, h, hv]

/-! ### What the bodies do -/

theorem mode_put (d : Dev) (n : Nat) : (d.put 0x2000 1 n).mode = n := congrArg Int.toNat (num_put d 0x2000 1 n)

/-- A stopped converter leaves the objects of the timed actions (R263, R266). -/
theorem num_actions_gcStop (d : Dev) (g : GcId) : (d.gcStop g).num 0x2132 0 = d.num 0x2132 0 := by
  have hne : ∀ k, k < 256 → objKey 0x2132 0 ≠ objKey (gcIdx g 3) k := fun k hk h => by
    have := ((objKey_inj _ _ _ _ (by decide) hk).mp h).1
    unfold gcIdx at this
    omega
  refine (foldl_keeps (fun d : Dev => d.num 0x2132 0) (fun k _ d => num_putBit_ne _ _ _ _ _ _ _ (hne 3 (by decide))) _).trans
    ?_
  unfold gcPause
  rw [num_putBit_ne _ _ _ _ _ _ _ (hne 3 (by decide)), num_putBit_ne _ _ _ _ _ _ _ (hne 3 (by decide)),
    num_put_ne _ _ _ _ _ _ (hne 1 (by decide))]
  rfl

/-- A run of changes of the objects alone. -/
theorem foldl_withObjs {α : Type} (g : ObjStore → α → ObjStore) (xs : List α) (d : Dev) :
    xs.foldl (fun d e => { d with objs := g d.objs e }) d = { d with objs := xs.foldl g d.objs } := by
  induction xs generalizing d with
  | nil => rfl
  | cons x xs ih => exact ih _

/-- The timed actions discarded leave everything but the objects and the timed entries (R281). -/
theorem discardActions_leaves (d : Dev) : d.discardActions.published = d.published ∧ d.discardActions.flash = d.flash ∧
    d.discardActions.num 0x2132 0 = 0 := by
  unfold discardActions
  dsimp only
  rw [foldl_withObjs fun o e => (o.erase (objKey 0x2130 (e + 1))).erase (objKey 0x2131 (e + 1))]
  generalize List.foldl _ _ _ = o
  exact ⟨rfl, rfl, num_put ..⟩

/-- The two lanes without power. -/
def lanesOff (d : Dev) : Dev :=
  (d.onLane .a fun x => { x with alive := false }).onLane .b fun x => { x with alive := false }

theorem powerDown_eq (d : Dev) (target : Nat) : d.powerDown target =
    let e := ((((d.closeAll.discardActions.gcStop .g0).gcStop .g1).gcStop .g2).gcStop .g3).lanesOff
    { e with boot := { e.boot with
      phase := .goingDown, target := target, autoAt := none
      island := ⟨d.nat 0x2006 1, d.nat 0x2006 2, d.num 0x2006 3 == 1, false, 0, 0⟩ } } := by
  simp only [powerDown, List.foldl_cons, List.foldl_nil, lanesOff]

/-- The entry into SLEEP or STORAGE (R281). -/
theorem powerDown_leaves (d : Dev) (target : Nat) : (d.powerDown target).boot.phase = .goingDown ∧
    (d.powerDown target).boot.target = target ∧ (∀ l, ((d.powerDown target).lane l).alive = false) ∧
    (d.powerDown target).published = d.published ∧ (d.powerDown target).num 0x2132 0 = 0 ∧
    (d.powerDown target).flash = d.flash ∧ (d.powerDown target).fuses = d.fuses := by
  have hclose := NetOnly.closeAll d
  obtain ⟨hpub, hflash, hcount⟩ := d.closeAll.discardActions_leaves
  have hfuses : d.closeAll.discardActions.fuses = d.fuses := by simp
  rw [powerDown_eq]
  generalize d.closeAll.discardActions = e at hpub hflash hcount hfuses ⊢
  have hstopped : (((((e.gcStop .g0).gcStop .g1).gcStop .g2).gcStop .g3).published = e.published ∧
      ((((e.gcStop .g0).gcStop .g1).gcStop .g2).gcStop .g3).flash = e.flash ∧
      ((((e.gcStop .g0).gcStop .g1).gcStop .g2).gcStop .g3).fuses = e.fuses) ∧
      ((((e.gcStop .g0).gcStop .g1).gcStop .g2).gcStop .g3).num 0x2132 0 = 0 :=
    ⟨⟨rfl, rfl, rfl⟩, by simp only [num_actions_gcStop, hcount]⟩
  generalize (((e.gcStop .g0).gcStop .g1).gcStop .g2).gcStop .g3 = x at hstopped
  obtain ⟨⟨hpub', hflash', hfuses'⟩, hactions⟩ := hstopped
  exact ⟨rfl, rfl, fun l => by cases l <;> rfl, hpub'.trans (hpub.trans hclose.published), hactions,
    hflash'.trans (hflash.trans hclose.flash), hfuses'.trans hfuses⟩

theorem published_abandonPass (d : Dev) (p : PortId) : (d.abandonPass p).published = d.published := by
  unfold abandonPass; split <;> rfl

/-- The register of an ARMED port told to pass to OFF. -/
def toldOff (d : Dev) (p : PortId) : Dev :=
  d.onPort p fun x => { x with reg := { x.reg with state := .off, entrySlot := d.slotOf p } }

theorem disarm_of_armed {p : PortId} (h : d.pstate p = .armed) :
    d.disarm p = (d.toldOff p).entered p .armed ⟨d.slotOf p, .off, false, false⟩ := by
  unfold disarm
  rw [if_pos (by simp [h])]
  rfl

theorem disarm_of_other {p : PortId} (h : d.pstate p ≠ .armed) : d.disarm p = d := by
  unfold disarm
  rw [if_neg (by simpa using h)]

/-- An ARMED port alone passes to OFF (R276). -/
theorem pstate_disarm (d : Dev) (p q : PortId) :
    (d.disarm p).pstate q = if p = q ∧ d.pstate p = .armed then .off else d.pstate q := by
  by_cases h : d.pstate p = .armed
  · have hkept := (RegKept.refl (p := p) (d.toldOff p)).entered (q := ⟨d.slotOf p, .off, false, false⟩) (src := .armed)
    rw [disarm_of_armed h]
    by_cases hq : p = q
    · subst hq
      rw [if_pos ⟨rfl, h⟩]
      exact (congrArg PortReg.state hkept.reg).trans (by simp [toldOff])
    · rw [if_neg fun hc => hq hc.1]
      exact congrArg (fun x : Port => x.reg.state) ((hkept.others q (Ne.symm hq)).trans (port_onPort_ne _ _ _ _ (Ne.symm hq)))
  · rw [disarm_of_other h, if_neg fun hc => h hc.2]

theorem published_disarm (d : Dev) (p : PortId) : (d.disarm p).published = d.published := by
  by_cases h : d.pstate p = .armed
  · rw [disarm_of_armed h]
    exact published_abandonPass ..
  · rw [disarm_of_other h]

theorem published_foldl_disarm (d : Dev) : (PortId.all.foldl (fun d p => d.disarm p) d).published = d.published :=
  foldl_keeps Dev.published (fun p _ d => d.published_disarm p) d

/-- Every ARMED port passes to OFF, and every other port stays (R276). -/
theorem pstate_foldl_disarm (d : Dev) (p : PortId) : (PortId.all.foldl (fun d p => d.disarm p) d).pstate p =
    if d.pstate p = .armed then .off else d.pstate p := by
  have hall : PortId.all = [.m1, .m2, .m3, .m4] := rfl
  simp only [hall, List.foldl_cons, List.foldl_nil, pstate_disarm]
  cases p <;> simp

end Dev
end Sys2Proof.Machine
end

section
/-! PROOF. O25: mode requests (R251, R276 to R278, R281). -/

namespace Sys2Proof.Machine

theorem modeRequestsChangeTheMode : Says.ModeRequestsChangeTheMode := by
  intro s session origin rest hs hup hslot
  refine ⟨fun hp hm => ?_, fun hp hm => ?_, fun hp hm => ?_, fun hp hm hmov => ?_, fun hp hm hv => ?_,
    fun hp hm him h2 h6 => ?_⟩
  · refine answers_of_awake hs rfl fun u hu => ?_
    rw [hu, modeRequestSleepStep, Dev.modeStep_acts hp (.inl rfl) hup hslot (Dev.modeRes_of_standby hm (by decide) (by decide))]
    have hdown := Dev.powerDown_leaves (s.dev.withPublished rest) 1
    generalize Dev.powerDown _ 1 = e at hdown
    exact hdown
  · refine answers_of_awake hs rfl fun u hu => ?_
    rw [hu, privilegedRequestStorageStep,
      Dev.modeStep_acts hp (.inr rfl) hup hslot (Dev.modeRes_of_standby hm (by decide) (by decide))]
    obtain ⟨hphase, htarget, hlanes, hpub, -, hflash, hfuses⟩ := Dev.powerDown_leaves (s.dev.withPublished rest) 0
    generalize Dev.powerDown _ 0 = e at hphase htarget hlanes hpub hflash hfuses
    exact ⟨hphase, htarget, hlanes, hpub, hflash, hfuses⟩
  · refine answers_of_awake hs rfl fun u hu => ?_
    rw [hu, privilegedRequestConfigureStep,
      Dev.modeStep_acts hp (.inr rfl) hup hslot (Dev.modeRes_of_standby hm (by decide) (by decide))]
    exact ⟨Dev.mode_put _ 3, rfl, rfl, rfl⟩
  · refine answers_of_awake hs rfl fun u hu => ?_
    rw [hu, modeRequestStandbyStep, Dev.modeStep_acts hp (.inl rfl) hup hslot (Dev.modeRes_standby_of_run hm hmov)]
    have hstate := Dev.pstate_foldl_disarm (s.dev.withPublished rest)
    have hpub := Dev.published_foldl_disarm (s.dev.withPublished rest)
    rw [if_pos (c := (s.dev.withPublished rest).mode = 4) hm]
    generalize List.foldl _ _ _ = e at hstate hpub
    exact ⟨Dev.mode_put _ 2, hpub, fun p hp => (hstate p).trans (if_pos hp), fun p hp => (hstate p).trans (if_neg hp)⟩
  · refine answers_of_awake hs rfl fun u hu => ?_
    rw [hu, modeRequestStandbyStep, Dev.modeStep_acts hp (.inl rfl) hup hslot (Dev.modeRes_standby_of_configure hm hv)]
    rw [if_neg (c := (s.dev.withPublished rest).mode = 4) fun h4 => absurd (hm.symm.trans h4) (by decide)]
    exact ⟨Dev.mode_put _ 2, rfl, rfl, rfl⟩
  · refine answers_of_awake hs rfl fun u hu => ?_
    rw [hu, modeRequestRunStep, Dev.modeStep_acts hp (.inl rfl) hup hslot (Dev.modeRes_run hm him h2 h6)]
    refine ⟨?_, rfl, rfl, rfl⟩
    refine (congrArg Int.toNat ((Dev.num_putBit_ne _ _ _ _ _ _ _ (by decide)).trans (Dev.num_put ..))).trans ?_
    exact apply_ite Int.toNat (s.dev.degradeDue = true) 5 4

theorem modeRequestsOfAnotherModeAreDropped : Says.ModeRequestsOfAnotherModeAreDropped := by
  intro s session origin rest hs hup
  have hdrop : ∀ {c : Instr} {f : Dev → Dev}, exec c s = .next (s.awake f) →
      f s.dev = (s.dev.withPublished rest) → exec c s = .next (s.upd fun d => { d with published := rest }) :=
    fun {c f} hc hf => by
      rw [hc, State.awake_eq_upd hs (g := fun d => { d with published := rest }) hf]
  have hends : ∀ {c : Instr} {i v : Nat} {f : Dev → Dev} {from' : List Nat},
      exec c s = .next (s.awake fun d => d.modeStep i v f) → (i = 0x2001 ∨ i = 0x2003) →
      (s.dev.mode ∉ from' → s.dev.modeRes i v ≠ .ok) → s.dev.published = modePub i v session origin :: rest →
      (s.dev.boot.modeSlot ≠ some s.dev.slotNow → s.dev.mode ∉ from' →
        exec c s = .next (s.upd fun d => { d with published := rest })) ∧
      (s.dev.boot.modeSlot = some s.dev.slotNow → exec c s = .next s) := fun hc hi hres hp =>
    ⟨fun hslot hm => hdrop hc (Dev.modeStep_drops hp hi hup hslot (hres hm)),
      fun hslot => exec_of_fixed hc (Dev.modeStep_waits hp hi hslot)⟩
  have hbehind : ∀ {c : Instr} {i i' v : Nat} {w : Int} {f : Dev → Dev}, exec c s = .next (s.awake fun d => d.modeStep i v f) →
      (i' = 0x2001 ∨ i' = 0x2003) → i' ≠ i → s.dev.published = modePub i' w session origin :: rest →
      exec c s = .next s := fun hc hi hne hp => exec_of_fixed hc (Dev.modeStep_behind hp hi hne)
  refine ⟨hends rfl (.inl rfl) fun hm => ?_, hends rfl (.inl rfl) fun hm => ?_, hends rfl (.inl rfl) fun hm => ?_,
    hends rfl (.inr rfl) fun hm => ?_, hends rfl (.inr rfl) fun hm => ?_, fun hp hslot hm hv => ?_, fun ⟨v, hp⟩ => ?_,
    fun ⟨v, hp⟩ => ?_⟩
  · exact Dev.modeRes_of_other (by simpa using hm) (by decide)
  · exact Dev.modeRes_standby_of_other (by simp_all) (by simp_all)
  · exact Dev.modeRes_of_other (by simpa using hm) (by decide)
  · exact Dev.modeRes_of_other (by simpa using hm) (by decide)
  · exact Dev.modeRes_of_other (by simpa using hm) (by decide)
  · exact hdrop rfl (Dev.modeStep_drops hp (.inl rfl) hup hslot (Dev.modeRes_standby_of_verify hm hv))
  · exact ⟨hbehind rfl (.inr rfl) (by decide) hp, hbehind rfl (.inr rfl) (by decide) hp,
      hbehind rfl (.inr rfl) (by decide) hp⟩
  · exact ⟨hbehind rfl (.inl rfl) (by decide) hp, hbehind rfl (.inl rfl) (by decide) hp⟩

/-- Settles O25. -/
theorem modeRequestsChangeTheModeOrAreDropped : Obligations.ModeRequestsChangeTheModeOrAreDropped :=
  ⟨modeRequestsChangeTheMode, modeRequestsOfAnotherModeAreDropped⟩

end Sys2Proof.Machine
end

section
/-! SUPPORT. A lane that becomes lost: its converters, its ports and the event of R251 (R239, R250, R251, R266). -/

namespace Sys2Proof.Machine
namespace Dev

variable (d : Dev) (l m : LaneId) (f : FaultId) (p q : PortId)

/-! ### Converters that stop -/

theorem gcIdx_ne {g : GcId} {blk i : Nat} (hblk : blk < 16) (h : i < 0x2200 ∨ 0x2240 ≤ i) : i ≠ gcIdx g blk := by
  unfold gcIdx
  cases g <;> dsimp only [GcId.num] <;> omega

theorem num_gcStop_ne {i s : Nat} (g : GcId) (h : i < 0x2200 ∨ 0x2240 ≤ i) (hs : s < 256) :
    (d.gcStop g).num i s = d.num i s := by
  have hne : ∀ k, k < 256 → objKey i s ≠ objKey (gcIdx g 3) k := fun k hk hc =>
    gcIdx_ne (by decide) h ((objKey_inj _ _ _ _ hs hk).mp hc).1
  refine (foldl_keeps (fun d : Dev => d.num i s) (fun k _ d => num_putBit_ne _ _ _ _ _ _ _ (hne 3 (by decide))) _).trans ?_
  unfold gcPause
  rw [num_putBit_ne _ _ _ _ _ _ _ (hne 3 (by decide)), num_putBit_ne _ _ _ _ _ _ _ (hne 3 (by decide)),
    num_put_ne _ _ _ _ _ _ (hne 1 (by decide))]
  rfl

theorem num_gcLost_ne {i s : Nat} (h : i < 0x2200 ∨ 0x2240 ≤ i) (hs : s < 256) : (d.gcLost l).num i s = d.num i s :=
  foldl_keeps (fun d : Dev => d.num i s) (fun g _ d => d.num_gcStop_ne g h hs) d

theorem gcLost_leaves : (d.gcLost l).ports = d.ports ∧ (d.gcLost l).lanes = d.lanes ∧
    (d.gcLost l).degradeDue = d.degradeDue :=
  ⟨foldl_keeps (f := gcStop) Dev.ports (fun _ _ _ => rfl) d, foldl_keeps (f := gcStop) Dev.lanes (fun _ _ _ => rfl) d,
    foldl_keeps (f := gcStop) Dev.degradeDue (fun _ _ _ => rfl) d⟩

/-- The converters of a lost lane convert nothing (R266). -/
theorem job_gcLost {g : GcId} (h : g.lane = l) : ((d.gcLost l).gcs.get g).job = none := by
  subst h
  cases g <;> rfl

/-! ### What the loss of a lane has in common -/

/-- The loss of a lane as the rest of the device sees it: an event of R251, the serial ports and the converters (R250). -/
def partLost (code : Nat) : Dev := ((d.degradeEvent code).serialLost l).gcLost l

theorem serialLost_leaves : (d.serialLost l).ports = d.ports ∧ (d.serialLost l).lanes = d.lanes ∧
    (d.serialLost l).degradeDue = d.degradeDue ∧ (d.serialLost l).objs = d.objs := by
  cases l <;> exact ⟨rfl, rfl, rfl, rfl⟩

theorem degradeDue_degradeEvent (code : Nat) : (d.degradeEvent code).degradeDue = true := by
  unfold degradeEvent
  split_ifs with h
  · exact h
  · rfl

theorem ports_degradeEvent (code : Nat) : (d.degradeEvent code).ports = d.ports := by
  unfold degradeEvent; split_ifs <;> rfl

theorem num_congr_objs {d e : Dev} (h : e.objs = d.objs) (i s : Nat) : e.num i s = d.num i s := by
  unfold num; rw [h]

theorem num_partLost_ne {i s : Nat} (code : Nat) (h : i < 0x2200 ∨ 0x2240 ≤ i) (h0 : i ≠ 0x2000) (hs : s < 256) :
    (d.partLost l code).num i s = d.num i s := by
  rw [partLost, num_gcLost_ne _ _ h hs, num_congr_objs (serialLost_leaves ..).2.2.2, num_degradeEvent_of_idx_ne d code h0 hs]

theorem partLost_leaves (code : Nat) : (d.partLost l code).ports = d.ports ∧ (d.partLost l code).lanes = d.lanes ∧
    (d.partLost l code).degradeDue = true := by
  obtain ⟨hports, hlanes, hdue⟩ := ((d.degradeEvent code).serialLost l).gcLost_leaves l
  obtain ⟨hports', hlanes', hdue', -⟩ := (d.degradeEvent code).serialLost_leaves l
  exact ⟨hports.trans (hports'.trans (d.ports_degradeEvent code)), hlanes.trans (hlanes'.trans (lanes_degradeEvent ..)),
    hdue.trans (hdue'.trans (d.degradeDue_degradeEvent code))⟩

theorem laneLost_partLost (code : Nat) : (d.partLost l code).laneLost m = d.laneLost m :=
  congrArg (· == (1 : Int)) (d.num_partLost_ne l code (by decide) (by decide) (by cases m <;> decide))

/-- A lost lane's converters neither convert nor run (R266). -/
theorem gcs_partLost (code : Nat) (h : d.laneLost l = true) {g : GcId} (hg : g.lane = l) :
    ((d.partLost l code).gcs.get g).job = none ∧ (d.partLost l code).gcRuns g = false := by
  refine ⟨job_gcLost _ l hg, ?_⟩
  rw [gcRuns, hg, laneLost_partLost, h]
  exact Bool.and_false _

/-! ### The ports of a lost lane -/

theorem port_losePort_ne (h : q ≠ p) : (d.losePort p).port q = d.port q := by
  unfold losePort
  rw [port_onPort_ne _ _ _ _ h]
  exact port_onPort_ne _ _ _ _ h

/-- A lost lane's port has its fault and is commanded (R239, R250). -/
theorem losePort_commands : ((d.losePort p).port p).unit.arriving =
    (d.port p).unit.arriving ++ [⟨13, none, false, false⟩] ∧ ((d.losePort p).port p).faults = (d.port p).faults := by
  unfold losePort
  rw [port_onPort, command, commandUnit, port_onPort]
  exact ⟨rfl, rfl⟩

/-- A step of each port of a lane, each of which acts on its own port alone. -/
theorem port_foldl_lane {g : Dev → PortId → Dev} (h : ∀ d p q, q ≠ p → (g d p).port q = d.port q) {β : Type} (v : Port → β)
    (w : β → β) (hw : ∀ d : Dev, v ((g d p).port p) = w (v (d.port p))) :
    v ((p.lane.ports.foldl g d).port p) = w (v (d.port p)) := by
  have hp := (portSibling_ne p).symm
  rcases lanePorts_eq p with hl | hl <;> rw [hl, List.foldl_cons, List.foldl_cons, List.foldl_nil]
  · rw [h _ _ _ hp, hw]
  · rw [hw, h _ _ _ hp]

/-- The ports of a lost lane, commanded. -/
def portsLost : Dev := l.ports.foldl (fun d p => d.losePort p) d

theorem num_portsLost (i s : Nat) : (d.portsLost l).num i s = d.num i s :=
  foldl_keeps (f := losePort) (fun d : Dev => d.num i s) (fun _ _ _ => rfl) d

/-- A lane lost with a fault: its ports, the other lane's flag and the lane's state (R250). -/
def lostWith : Dev :=
  ((((((d.recordLaneFault l f).portsLost l).onLane l.other fun x => { x with otherLost := true }).put 0x2500 (laneStateSub l)
    1).put 0x2500 (laneStateSub l + 2) f.code).putBit (0x2800 + l.num) 7 2 true)

theorem loseLane_eq : d.loseLane l f = (d.lostWith l f).partLost l f.code := rfl

theorem laneLost_lostWith : (d.lostWith l f).laneLost l = true := by
  have hnum : (d.lostWith l f).num 0x2500 (laneStateSub l) = 1 := by
    unfold lostWith
    rw [num_putBit_ne _ _ _ _ _ _ _ (by cases l <;> decide), num_put_ne _ _ _ _ _ _ (by cases l <;> decide)]
    exact num_put ..
  exact beq_iff_eq.mpr hnum

theorem arriving_recordLaneFault : ((d.recordLaneFault l f).port p).unit = (d.port p).unit :=
  recordLaneFault_keeps d p l f (g := Port.unit) fun _ _ => rfl

/-- What the ports of a lane lost with a fault show. -/
theorem lostWith_ports (h : p.lane = l) : (d.lostWith l f).faulted p f = true ∧
    ((d.lostWith l f).port p).unit.arriving = (d.port p).unit.arriving ++ [⟨13, none, false, false⟩] := by
  subst h
  have hport : (d.lostWith p.lane f).port p = ((d.recordLaneFault p.lane f).portsLost p.lane).port p := rfl
  constructor
  · refine Eq.trans ?_ (faulted_recordLaneFault d p p.lane f (mem_lanePorts p))
    rw [faulted, faulted, hport]
    refine congrArg (List.contains · f.code) ?_
    exact port_foldl_lane _ p (fun d p q h => d.port_losePort_ne p q h) Port.faults id fun d => (d.losePort_commands p).2
  · rw [hport, ← arriving_recordLaneFault d p.lane f p]
    exact port_foldl_lane _ p (fun d p q h => d.port_losePort_ne p q h) (fun x : Port => x.unit.arriving)
      (· ++ [⟨13, none, false, false⟩]) fun d => (d.losePort_commands p).1

/-- The loss of a lane with a fault (R239, R250, R251, R266). -/
theorem loseLane_loses : (d.loseLane l f).laneLost l = true ∧ ((d.loseLane l f).lane l.other).otherLost = true ∧
    (d.loseLane l f).degradeDue = true ∧
    (∀ g : GcId, g.lane = l → ((d.loseLane l f).gcs.get g).job = none ∧ (d.loseLane l f).gcRuns g = false) ∧
    ∀ p, p.lane = l → (d.loseLane l f).faulted p f = true ∧ ((d.loseLane l f).port p).unit.arriving =
      (d.port p).unit.arriving ++ [⟨13, none, false, false⟩] := by
  obtain ⟨hports, hlanes, hdue⟩ := (d.lostWith l f).partLost_leaves l f.code
  have hlost := d.laneLost_lostWith l f
  rw [loseLane_eq]
  refine ⟨(laneLost_partLost ..).trans hlost, ?_, hdue, fun g hg => gcs_partLost _ l _ hlost hg, fun p hp => ?_⟩
  · have hother : ((d.lostWith l f).lane l.other).otherLost = true :=
      congrArg Lane.otherLost (lane_onLane ((d.recordLaneFault l f).portsLost l) l.other fun x => { x with otherLost := true })
    exact (congrArg (fun q : Duo Lane => (q.get l.other).otherLost) hlanes).trans hother
  · have hport : ((d.lostWith l f).partLost l f.code).port p = (d.lostWith l f).port p :=
      congrArg (fun q : Quad Port => q.get p) hports
    rw [faulted, hport]
    exact d.lostWith_ports l f p hp

/-- The lane's supply objects but its flags stay. -/
theorem num_loseLane_supply : (d.loseLane l f).num (0x2800 + l.num) 8 = d.num (0x2800 + l.num) 8 := by
  rw [loseLane_eq, num_partLost_ne _ _ _ (by cases l <;> decide) (by cases l <;> decide) (by decide)]
  unfold lostWith
  rw [num_putBit_ne _ _ _ _ _ _ _ (by cases l <;> decide), num_put_ne _ _ _ _ _ _ (by cases l <;> decide),
    num_put_ne _ _ _ _ _ _ (by cases l <;> decide), onLane_num, num_portsLost]
  exact num_recordLaneFault_ne d l f (fun p => by cases l <;> cases p <;> decide) (by decide) (by cases l <;> decide)

end Dev
end Sys2Proof.Machine
end

section
/-! PROOF. O27: lanes lost by supply, temperature, late release or the partner's silence, and DEGRADED (R239, R241, R250, R251,
R266, R276, R283, R284, R289, R295, R297). -/

namespace Sys2Proof.Machine
/-- A port commanded for its sensor supply, where it has a feedback interface (R283). -/
def Port.sensed (x : Port) (sensorless : Bool) : Port :=
  if sensorless then x else { x with unit := { x.unit with arriving := x.unit.arriving ++ [⟨17, none, false, false⟩] } }

namespace Dev

variable (d : Dev) (p q : PortId)

/-! ### The sensor supply -/

/-- A port with a feedback interface commanded for its sensor supply (R283). -/
def sensorCommand : Dev := if d.sensorless p then d else d.command p 17

theorem sensorless_congr {d e : Dev} (h : e.pnum p 0x70 1 = d.pnum p 0x70 1) : e.sensorless p = d.sensorless p := by
  unfold sensorless; rw [h]

theorem sensorless_sensorCommand : (d.sensorCommand q).sensorless p = d.sensorless p := by
  unfold sensorCommand
  split_ifs <;> rfl

theorem port_sensorCommand_ne (h : q ≠ p) : (d.sensorCommand p).port q = d.port q := by
  unfold sensorCommand
  split_ifs
  · rfl
  · exact port_onPort_ne _ _ _ _ h

theorem num_sensorCommand (i s : Nat) : (d.sensorCommand p).num i s = d.num i s := by
  unfold sensorCommand
  split_ifs <;> rfl

theorem port_sensorCommand : (d.sensorCommand p).port p = (d.port p).sensed (d.sensorless p) := by
  unfold sensorCommand Port.sensed
  split_ifs
  · rfl
  · exact port_onPort ..

/-- A port's own command, with the sibling's before or after it. -/
theorem port_foldl_sensorCommand :
    (p.lane.ports.foldl (fun d p => d.sensorCommand p) d).port p = (d.port p).sensed (d.sensorless p) := by
  have hp := (portSibling_ne p).symm
  rcases lanePorts_eq p with h | h <;> rw [h, List.foldl_cons, List.foldl_cons, List.foldl_nil]
  · rw [port_sensorCommand_ne _ _ _ hp, port_sensorCommand]
  · rw [port_sensorCommand, port_sensorCommand_ne _ _ _ hp, sensorless_sensorCommand]

/-- The sensor supply's cause shown, unless the lane is lost (R297). -/
def sensorCause (l : LaneId) (mv : Nat) : Dev :=
  if d.laneLost l then d else d.put (0x2800 + l.num) 8 (5 + 128 * b2n (decide (5400 < mv)) : Nat)

theorem sensorSupplyFaultStep_acts {l : LaneId} {mv ma held : Nat} (ha : (d.lane l).alive = true) (hh : 5000 ≤ held)
    (hv : mv < 4600 ∨ 5400 < mv ∨ 75 < ma) : sensorSupplyFaultStep l mv ma held d =
      l.ports.foldl (fun d p => d.sensorCommand p) ((d.sensorCause l mv).recordLaneFault l .sensorSupply) := by
  unfold sensorSupplyFaultStep
  rw [if_pos (by simp [ha, hh]; tauto)]
  rfl

theorem num_sensorCause (l : LaneId) (mv : Nat) : (d.sensorCause l mv).num (0x2800 + l.num) 8 =
    if d.laneLost l then d.num (0x2800 + l.num) 8 else 5 + 128 * (b2n (decide (5400 < mv)) : Int) := by
  unfold sensorCause
  split_ifs
  · rfl
  · exact (num_put ..).trans (by push_cast; rfl)

theorem sensorCause_port (l : LaneId) (mv : Nat) : (d.sensorCause l mv).port p = d.port p := by
  unfold sensorCause
  split_ifs <;> rfl

theorem sensorless_sensorCause (l : LaneId) (mv : Nat) : (d.sensorCause l mv).sensorless p = d.sensorless p := by
  unfold sensorCause
  split_ifs
  · rfl
  · exact sensorless_congr p (num_put_of_idx_ne _ _ (by cases l <;> cases p <;> decide) (by decide) (by decide))

theorem sensorless_recordLaneFault (l : LaneId) (f : FaultId) : (d.recordLaneFault l f).sensorless p = d.sensorless p :=
  sensorless_congr p (num_recordLaneFault_ne d l f (fun q => by cases p <;> cases q <;> decide) (by decide)
    (by cases p <;> decide))

/-- The other lane treated as lost (R241). -/
def partnerLost (l : LaneId) : Dev :=
  ((d.onLane l fun x => { x with otherLost := true }).put 0x2500 (laneStateSub l.other) 1).putBit (0x2800 + l.other.num) 7 2 true

theorem laneLost_partnerLost (l : LaneId) : (d.partnerLost l).laneLost l.other = true :=
  beq_iff_eq.mpr ((num_putBit_ne _ _ _ _ _ _ _ (by cases l <;> decide)).trans (num_put ..))

theorem partnerLaneLostStep_acts {d : Dev} {p : PortId} {l : LaneId} (ha : (d.lane l).alive = true)
    (ho : (d.lane l).otherLost = false) (hp : p.lane = l) (hpair : d.paired p = true)
    (hline : (d.port p).pair.partnerLine = true) (hign : (d.port p).pair.lineIgnored = false)
    (hstale : 2 ≤ (d.port p).pair.staleFrames) :
    partnerLaneLostStep l d = (d.partnerLost l).partLost l.other 0 := by
  subst hp
  have hany : (p.lane.ports.any fun p => d.paired p && (d.port p).pair.partnerLine && !(d.port p).pair.lineIgnored &&
      2 ≤ (d.port p).pair.staleFrames) = true :=
    List.any_eq_true.mpr ⟨p, mem_lanePorts p, by simp [hpair, hline, hign, hstale]⟩
  unfold partnerLaneLostStep
  rw [if_pos (by rw [ha, ho, hany]; rfl)]
  rfl

/-- A clamped lane's gates are off (R284). -/
theorem gateOn_of_clamped (h : (d.lane p.lane).clamped = true) (g : Gate) (boot : Option Nat) : d.gateOn p g boot = false := by
  simp [gateOn, h]

end Dev

theorem lane_of_mem_ports {p : PortId} {l : LaneId} (h : p ∈ l.ports) : p.lane = l := by
  cases l <;> cases p <;> simp_all [LaneId.ports, PortId.lane]

theorem supplyAndTemperatureLossLoseTheLane : Says.SupplyAndTemperatureLossLoseTheLane := by
  intro s l
  refine ⟨fun ha hl => ⟨fun rail mv held hh hv => ?_, fun t held ht hh => ?_⟩, fun mv hl hmv => ?_, fun mv hmv => ?_⟩
  · refine answers_of_upd rfl fun u hu => ?_
    rw [hu, supplyUvStep, if_pos (by simp [ha, hl, hh, hv])]
    obtain ⟨hlost, hother, hdue, hgcs, hports⟩ := Dev.loseLane_loses
      (s.dev.put (0x2800 + l.num) 8 (railCode rail + 128 * b2n (railAbove rail mv) : Nat)) l .supplyUv
    refine ⟨hlost, ?_, hother, hdue, hgcs, hports⟩
    rw [Dev.num_loseLane_supply, Dev.num_put]
    push_cast
    rfl
  · refine answers_of_upd rfl fun u hu => ?_
    rw [hu, overtempStep, if_pos (by simp [ha, hl, hh, ht])]
    obtain ⟨hlost, -, hdue, hgcs, hports⟩ := s.dev.loseLane_loses l .overtemp
    exact ⟨hlost, hdue, hgcs, fun p hp => (hports p hp).1⟩
  · refine answers_of_upd rfl fun u hu => ?_
    rw [hu, laneSupplyReturnStep, if_pos (by simp [hl, hmv])]
    have hlane := Dev.lane_onLane s.dev l fun x => { x with alive := false, clamped := true }
    refine ⟨congrArg Lane.alive hlane, hl, rfl, fun p g boot hp => Dev.gateOn_of_clamped _ p ?_ g boot⟩
    rw [hp]
    exact congrArg Lane.clamped hlane
  · exact next_upd_of_fixed (if_neg (by simp [hmv]))

theorem sensorSupplyAndLateLanes : Says.SensorSupplyAndLateLanes := by
  intro s l hs
  refine ⟨fun mv ma held ha hh hv => ?_, fun hphase ha hb hl hlane => ?_⟩
  · refine answers_of_awake hs rfl fun u hu => ?_
    rw [hu, Dev.sensorSupplyFaultStep_acts _ ha hh hv]
    have hnum : ((s.dev.sensorCause l mv).recordLaneFault l .sensorSupply).num (0x2800 + l.num) 8 =
        (s.dev.sensorCause l mv).num (0x2800 + l.num) 8 :=
      Dev.num_recordLaneFault_ne _ l _ (fun q => by cases l <;> cases q <;> decide) (by decide) (by cases l <;> decide)
    refine ⟨?_, fun p hp => ?_⟩
    · exact (foldl_keeps (fun d : Dev => d.num _ _) (fun p _ d => d.num_sensorCommand p _ _) _).trans
        (hnum.trans (s.dev.num_sensorCause l mv))
    · subst hp
      have hport := Dev.port_foldl_sensorCommand ((s.dev.sensorCause p.lane mv).recordLaneFault p.lane .sensorSupply) p
      have hunit : (((s.dev.sensorCause p.lane mv).recordLaneFault p.lane .sensorSupply).port p).unit = (s.dev.port p).unit :=
        (Dev.arriving_recordLaneFault ..).trans (congrArg Port.unit (s.dev.sensorCause_port p p.lane mv))
      rw [Dev.sensorless_recordLaneFault, Dev.sensorless_sensorCause] at hport
      refine ⟨?_, fun h => ?_, fun h => ?_⟩
      · refine Eq.trans ?_ (Dev.faulted_recordLaneFault (s.dev.sensorCause p.lane mv) p p.lane .sensorSupply (mem_lanePorts p))
        rw [Dev.faulted, hport, Port.sensed]
        split_ifs <;> rfl
      · rw [hport, h]
        exact hunit
      · rw [hport, h, ← hunit]
        rfl
  · refine answers_of_awake hs rfl fun u hu => ?_
    rw [hu, laneNotReadyStep, if_pos (by simp [ha, hb, hl, hphase, hlane, or_assoc])]
    have hcause : (((((s.dev.putBit 0x2000 2 (9 + l.num) true).onLane l.other fun x => { x with otherLost := true }).put 0x2500
        (laneStateSub l) 1).put 0x2500 (laneStateSub l + 2) 0x0603).putBit (0x2800 + l.num) 7 2 true).num 0x2500
        (laneStateSub l + 2) = 0x0603 :=
      (Dev.num_putBit_ne _ _ _ _ _ _ _ (by cases l <;> decide)).trans (Dev.num_put ..)
    have hstate : (((((s.dev.putBit 0x2000 2 (9 + l.num) true).onLane l.other fun x => { x with otherLost := true }).put 0x2500
        (laneStateSub l) 1).put 0x2500 (laneStateSub l + 2) 0x0603).putBit (0x2800 + l.num) 7 2 true).num 0x2500
        (laneStateSub l) = 1 :=
      (Dev.num_putBit_ne _ _ _ _ _ _ _ (by cases l <;> decide)).trans
        ((Dev.num_put_ne _ _ _ _ _ _ (by cases l <;> decide)).trans (Dev.num_put ..))
    have hother := Dev.lane_onLane (s.dev.putBit 0x2000 2 (9 + l.num) true) l.other fun x => { x with otherLost := true }
    refine ⟨beq_iff_eq.mpr ?_, ?_, ?_, Dev.degradeDue_degradeEvent ..⟩
    · exact (Dev.num_degradeEvent_of_idx_ne _ _ (by decide) (by cases l <;> decide)).trans hstate
    · exact (Dev.num_degradeEvent_of_idx_ne _ _ (by decide) (by cases l <;> decide)).trans hcause
    · rw [Dev.lane, Dev.lanes_degradeEvent]
      exact congrArg Lane.otherLost hother

theorem lostPartnerLaneLeadsToDegraded : Says.LostPartnerLaneLeadsToDegraded := by
  intro s l hs
  refine ⟨fun p hp ha ho hpair hline hign hstale => ?_, fun h => ?_, fun hdue hm => ?_, fun hdue => ?_⟩
  · refine answers_of_awake hs rfl fun u hu => ?_
    rw [hu, Dev.partnerLaneLostStep_acts ha ho hp hpair hline hign hstale]
    obtain ⟨hports, hlanes, hdue⟩ := (s.dev.partnerLost l).partLost_leaves l.other 0
    have hlost := s.dev.laneLost_partnerLost l
    refine ⟨?_, (Dev.laneLost_partLost ..).trans hlost, hdue, fun g hg => Dev.gcs_partLost _ _ _ hlost hg, hports⟩
    have hother := Dev.lane_onLane s.dev l fun x => { x with otherLost := true }
    exact (congrArg (fun q : Duo Lane => (q.get l).otherLost) hlanes).trans (congrArg Lane.otherLost hother)
  · refine exec_of_fixed rfl (if_neg ?_)
    have hnone : (l.ports.any fun p => s.dev.paired p && (s.dev.port p).pair.partnerLine &&
        !(s.dev.port p).pair.lineIgnored && 2 ≤ (s.dev.port p).pair.staleFrames) = false :=
      List.any_eq_false.mpr fun p hp => by simp [h p (lane_of_mem_ports hp)]
    rw [hnone]
    simp
  · refine answers_of_awake hs rfl fun u hu => ?_
    rw [hu, degradedEntryStep, if_pos (by simp [hdue, hm])]
    exact ⟨Dev.mode_put _ 5, rfl, rfl⟩
  · exact exec_of_fixed rfl (if_neg (by simp [hdue]))

/-- Settles O27. -/
theorem lanesAreLostAndTheDeviceDegrades : Obligations.LanesAreLostAndTheDeviceDegrades :=
  ⟨supplyAndTemperatureLossLoseTheLane, sensorSupplyAndLateLanes, lostPartnerLaneLeadsToDegraded⟩

end Sys2Proof.Machine
end

section
/-! PROOF. O23: the fault line, the pair register and the pair's supervision (R240, R241, R244, R246, R247, R472). -/

namespace Sys2Proof.Machine

variable {d : Dev} {p : PortId}

namespace Dev

/-! ### The fault line -/

/-- A port that has found its partner's line asserted, with the writes that follow (R240). -/
def lineLatched (d : Dev) (p : PortId) (ws : List PairWrite) : Dev :=
  d.onPort p fun x => { x with pair := { x.pair with partnerLine := true, lineDriving := 0, writes := x.pair.writes ++ ws } }

theorem faultLineReceivedStep_latches (ha : (d.lane p.lane).alive = true) (hp : d.paired p = true)
    (hl : d.partnerAsserts p = true) (hline : (d.port p).pair.partnerLine = false)
    (hign : (d.port p).pair.lineIgnored = false) {n : Nat} (hw : d.lineWrite p = some n) :
    faultLineReceivedStep p d = (d.lineLatched p [⟨d.slotOf p, 0, n, false, false⟩]).pairObjects p := by
  unfold faultLineReceivedStep
  dsimp only
  rw [if_pos (by simp [ha, hp, hl, hline, hign]), hw]
  rfl

theorem pair_lineLatched (ws : List PairWrite) : (((d.lineLatched p ws).pairObjects p).port p).pair =
    { (d.port p).pair with partnerLine := true, lineDriving := 0, writes := (d.port p).pair.writes ++ ws } := by
  rw [port_pairObjects, lineLatched, port_onPort]

/-- From SHARED the receiving lane becomes the survivor, or the pair is lost with its own port (R240, R246). -/
theorem lineWrite_of_shared (h : (d.port p).pair.state = 0) : d.lineWrite p =
    some (if d.pstate p == .tripped || d.pstate p == .shorted || (d.port p).pair.ownLine then 3 else soloOf p.lane) :=
  if_pos h

/-- The asserting lane is the survivor: the pair is lost (R246). -/
theorem lineWrite_of_partner_solo (h : (d.port p).pair.state = soloOf p.partner.lane) : d.lineWrite p = some 3 := by
  have hne : (d.port p).pair.state ≠ 0 := by rw [h]; exact Nat.succ_ne_zero _
  exact (if_neg hne).trans (if_pos h)

/-! ### The pair register -/

theorem prevailing_singleton (w : PairWrite) : prevailing [w] = some w := by
  unfold prevailing
  by_cases h0 : w.prio = 0 <;> by_cases h3 : w.state = 3 <;> by_cases h1 : w.prio = 1 <;> simp [h0, h1, h3]

/-- The register with its earlier writes taken. -/
def writesTaken (d : Dev) (p : PortId) : Dev :=
  d.onPort p fun x => { x with pair := { x.pair with writes := x.pair.writes.filter fun w => d.slotOf p ≤ w.slot } }

/-- A write that acts on the pair register: the register, the count of SOLO, the objects (R246, R247). -/
def writeApplied (d : Dev) (p : PortId) (n : Nat) (w : PairWrite) : Dev :=
  let e := d.onPort p fun x => { x with pair := x.pair.apply (soloOf p.lane) n w }
  (if w.state = soloOf p.lane then e.inc (pairIdx p.pair) 0x12 else e).pairObjects p

theorem pairStateTransitionStep_of_write {w : PairWrite} (hw : (d.port p).pair.writes = [w]) (hs : w.slot < d.slotOf p) :
    pairStateTransitionStep p d = if pairMay (d.port p).pair.state w then (d.writesTaken p).writeApplied p (d.slotOf p) w
      else d.writesTaken p := by
  unfold pairStateTransitionStep
  dsimp only
  rw [hw, List.filter_cons_of_pos (by simpa using hs), List.filter_nil, prevailing_singleton]
  rfl

theorem pair_writesTaken {w : PairWrite} (hw : (d.port p).pair.writes = [w]) (hs : w.slot < d.slotOf p) :
    ((d.writesTaken p).port p).pair = { (d.port p).pair with writes := [] } := by
  unfold writesTaken
  rw [port_onPort, hw, List.filter_cons_of_neg (by simpa using hs)]
  rfl

theorem port_writeApplied (n : Nat) (w : PairWrite) (q : PortId) : (d.writeApplied p n w).port q =
    if q = p then { d.port p with pair := (d.port p).pair.apply (soloOf p.lane) n w } else d.port q := by
  unfold writeApplied
  dsimp only
  rw [port_pairObjects]
  have hinc : ∀ e : Dev, (if w.state = soloOf p.lane then e.inc (pairIdx p.pair) 0x12 else e).port q = e.port q := fun e => by
    split_ifs <;> rfl
  rw [hinc]
  split_ifs with h
  · rw [h, port_onPort]
  · exact port_onPort_ne _ _ _ _ h

/-- The pair's objects leave its count of SOLO. -/
theorem num_pairObjects_solo (d : Dev) (p : PortId) :
    (d.pairObjects p).num (pairIdx p.pair) 0x12 = d.num (pairIdx p.pair) 0x12 := by
  have hport : ∀ r, pairIdx p.pair ≠ pidx r 0xB0 := fun r => by
    cases p <;> cases r <;> decide
  unfold pairObjects
  dsimp only
  rw [num_putBit_ne _ _ _ _ _ _ _ (by cases p <;> decide), num_put_ne _ _ _ _ _ _ (by cases p <;> decide)]
  split_ifs
  · rw [num_pput_of_idx_ne _ _ (hport _) (by decide) (by decide), num_pput_of_idx_ne _ _ (hport _) (by decide) (by decide)]
  · rw [num_pput_of_idx_ne _ _ (hport _) (by decide) (by decide)]

theorem num_writeApplied_solo (n : Nat) {w : PairWrite} (h : w.state = soloOf p.lane) :
    (d.writeApplied p n w).num (pairIdx p.pair) 0x12 = min (d.num (pairIdx p.pair) 0x12 + 1) 4294967295 := by
  unfold writeApplied
  dsimp only
  rw [num_pairObjects_solo, if_pos h, num_inc, onPort_num]

/-! ### Supervision -/

theorem xwLineFaultStep_acts (hp : d.paired p = true) (hline : (d.port p).pair.partnerLine = true)
    (hign : (d.port p).pair.lineIgnored = false) (hdrv : 2 ≤ (d.port p).pair.lineDriving) : xwLineFaultStep p d =
      ((d.onPort p fun x => { x with pair := { x.pair with
        lineIgnored := true, lineDriving := 0
        writes := x.pair.writes ++ [⟨max (d.slotOf p) (d.port p).pair.exchSlot, 2, 0, true, false⟩] } }).recordFault p
          .xwLine).pairObjects p := by
  unfold xwLineFaultStep
  dsimp only
  rw [if_pos (by simp [hp, hline, hign, hdrv])]

/-- A blamed partner that drives on: the write into LOST (R244). -/
def blamed (d : Dev) (p : PortId) : Dev :=
  d.onPort p fun x => { x with pair := { x.pair with
    verdictAge := 0
    writes := x.pair.writes ++ [⟨max (d.slotOf p) (d.port p).pair.plausSlot, 1, 3, false, false⟩] } }

theorem blamedPartnerDrivingStep_acts (hp : d.paired p = true) (hage : 3 ≤ (d.port p).pair.verdictAge)
    (hstale : (d.port p).pair.stale = false) (hdrv : (d.port p).pair.record.driving = true) :
    blamedPartnerDrivingStep p d =
      (d.blamed p).commandAt p ((d.port p).pair.plausCmd - d.slotOf p) ⟨13, none, false, false⟩ 0 := by
  unfold blamedPartnerDrivingStep
  dsimp only
  rw [if_pos (by simp [hp, hage, hstale, hdrv])]
  rfl

theorem port_blamed : (d.blamed p).port p = { d.port p with pair := { (d.port p).pair with
    verdictAge := 0
    writes := (d.port p).pair.writes ++ [⟨max (d.slotOf p) (d.port p).pair.plausSlot, 1, 3, false, false⟩] } } :=
  port_onPort ..

theorem overloadTimeExpiryStep_ends {n : Nat} (h0 : (d.port p).pair.overloadSlot = some n)
    (hover : (d.port p).pair.overloadOver = none) (hend : n + d.nat (pairIdx p.pair) 4 * 2000 ≤ d.slotOf p) :
    overloadTimeExpiryStep p d = d.onPort p fun x =>
      { x with pair := { x.pair with overloadOver := some (n + d.nat (pairIdx p.pair) 4 * 2000) } } := by
  unfold overloadTimeExpiryStep
  dsimp only
  rw [h0, hover]
  exact if_pos hend

end Dev

theorem faultLineLeavesASurvivor : Says.FaultLineLeavesASurvivor := by
  intro s p hs
  refine ⟨fun ha hp hl hline hign h0 => ?_, fun ha hp hl hline hign hsolo => ?_, fun hline => ?_⟩
  · refine answers_of_awake hs rfl fun u hu => ?_
    rw [hu, Dev.faultLineReceivedStep_latches ha hp hl hline hign (Dev.lineWrite_of_shared h0)]
    dsimp only
    rw [Dev.pair_lineLatched]
    refine ⟨rfl, fun hbad => ?_, fun hgood => ?_, rfl⟩
    · dsimp only
      rw [if_pos (by simpa [or_assoc] using hbad)]
    · dsimp only
      rw [if_neg (by simpa [or_assoc] using hgood)]
  · refine answers_of_awake hs rfl fun u hu => ?_
    rw [hu, Dev.faultLineReceivedStep_latches ha hp hl hline hign (Dev.lineWrite_of_partner_solo hsolo),
      Dev.pair_lineLatched]
    exact ⟨rfl, rfl⟩
  · exact exec_of_fixed rfl (if_neg (by simp [hline]))

theorem pairRegisterFollowsItsWrites : Says.PairRegisterFollowsItsWrites := by
  intro s p w hs v hw hslot
  have htaken := Dev.pair_writesTaken hw hslot
  refine ⟨fun hmay => ?_, fun hmay => ?_, fun h3 h0 => ?_⟩
  · refine answers_of_awake hs rfl fun u hu => ?_
    rw [hu, Dev.pairStateTransitionStep_of_write hw hslot, if_pos hmay]
    have hport := fun q => Dev.port_writeApplied (d := s.dev.writesTaken p) (p := p) (s.dev.slotOf p) w q
    rw [hport, if_pos rfl, htaken]
    refine ⟨rfl, rfl, fun hsolo => ⟨?_, ?_⟩, fun h3 hr => ?_, fun q hq => ?_⟩
    · exact if_pos hsolo
    · rw [Dev.num_writeApplied_solo _ hsolo]
      rfl
    · simp [PairUnit.apply, h3, hr]
    · rw [hport, if_neg hq]
      exact Dev.port_onPort_ne _ _ _ _ hq
  · refine answers_of_awake hs rfl fun u hu => ?_
    rw [hu, Dev.pairStateTransitionStep_of_write hw hslot, if_neg (by rw [show pairMay _ _ = false from hmay]; decide), htaken]
    exact ⟨rfl, rfl⟩
  · have h3' : (s.dev.port p).pair.state = 3 := h3
    unfold pairMay
    rw [if_neg h0, h3']
    split_ifs <;> rfl

theorem pairSupervisionActs : Says.PairSupervisionActs := by
  intro s p hs
  refine ⟨fun hp hline hign hdrv => ?_, fun hp hage hstale hdrv => ?_, fun s0 h0 hover hend => ?_⟩
  · refine answers_of_awake hs rfl fun u hu => ?_
    rw [hu, Dev.xwLineFaultStep_acts hp hline hign hdrv, Dev.faulted, Dev.port_pairObjects]
    refine ⟨Dev.faulted_recordFault .., ?_⟩
    rw [Dev.port_recordFault, Dev.port_onPort]
    exact ⟨rfl, rfl⟩
  · refine answers_of_awake hs rfl fun u hu => ?_
    rw [hu, Dev.blamedPartnerDrivingStep_acts hp hage hstale hdrv]
    have hport := Dev.port_blamed (d := s.dev) (p := p)
    by_cases hnow : (s.dev.port p).pair.plausCmd ≤ s.dev.slotOf p
    · rw [if_pos hnow, Nat.sub_eq_zero_of_le hnow, Dev.commandAt_now, Dev.commandUnit, Dev.port_onPort, hport]
      exact ⟨rfl, rfl⟩
    · have hlater := Dev.port_commandAt_later (s.dev.blamed p) p (due := (s.dev.port p).pair.plausCmd) ⟨13, none, false, false⟩ 0
        (not_le.mp hnow)
      have hslot : (s.dev.blamed p).slotOf p = s.dev.slotOf p := rfl
      rw [hslot] at hlater
      rw [if_neg hnow, hlater, hport]
      exact ⟨rfl, rfl⟩
  · refine answers_of_awake hs rfl fun u hu => ?_
    rw [hu, Dev.overloadTimeExpiryStep_ends h0 hover hend, Dev.port_onPort]
    exact ⟨rfl, rfl⟩

/-- Settles O23. -/
theorem pairsKeepASurvivor : Obligations.PairsKeepASurvivor :=
  ⟨faultLineLeavesASurvivor, pairRegisterFollowsItsWrites, pairSupervisionActs⟩

end Sys2Proof.Machine
end

section
/-! PROOF. O28: measurements and derating, the loss of the root, and the comparisons of the lanes' clocks (R27, R49, R250, R251,
R294, R297, R298, R301 to R309). -/

namespace Sys2Proof.Machine

variable {d : Dev} {l : LaneId}

/-! ### Measurements -/

namespace Dev

/-- The lane supervisor's voltages and temperatures in their objects (R297, R298). -/
def measured (d : Dev) (l : LaneId) (o : LaneObs) (th : Int) : Dev :=
  let y := 0x2800 + l.num
  let z := 0x2802 + l.num
  let d := ((((((d.put y 1 o.vbat).put y 2 o.vpre).put y 3 o.vcore).put y 4 o.vio).put y 5 o.vsens).put y 6 o.vgd)
  let d := (d.putBit y 7 0 (decide (62000 < o.vbat))).putBit y 7 1 (decide (d.num 0x2820 1 < th))
  (((d.put z 1 o.drv1).put z 2 o.drv2).put z 3 o.engines).put z 4 o.regulators

/-- The highest temperature and the derating factor shown (R294). -/
def derated (d : Dev) (l : LaneId) (th g : Int) : Dev :=
  ((d.put (0x2802 + l.num) 5 th).put 0x2820 (deratingSub l) g).noteWindow

/-- The root's deviation, which lane A shows on the root (R309). -/
def rootShown (d : Dev) (l : LaneId) (o : LaneObs) : Dev :=
  if l = .a ∧ d.onRoot .a = true then d.put 0x2110 6 (rootDeviation o.rootWin) else d

theorem thermalMeasurementStep_acts {o : LaneObs} (ha : (d.lane l).alive = true) (hl : d.laneLost l = false) :
    thermalMeasurementStep l o d =
      let th := max (max o.drv1 o.drv2) (max o.engines o.regulators)
      let g := deratingOf th (d.num 0x2820 1) (d.num 0x2820 2) (d.num 0x2820 3)
      let old := d.num 0x2820 (deratingSub l)
      ((d.measured l o th).derated l th (if g < old then g else min g (old + 1))).rootShown l o := by
  unfold thermalMeasurementStep
  rw [if_pos (by simp [ha, hl])]
  rfl

theorem rootShown_leaves (o : LaneObs) {i s : Nat} (hi : i ≠ 0x2110) (hs : s < 256) :
    (d.rootShown l o).num i s = d.num i s ∧ (d.rootShown l o).ports = d.ports ∧ (d.rootShown l o).lanes = d.lanes := by
  unfold rootShown
  split_ifs
  · exact ⟨num_put_of_idx_ne _ _ hi.symm (by decide) hs, rfl, rfl⟩
  · exact ⟨rfl, rfl, rfl⟩

theorem num_noteWindow (i s : Nat) : d.noteWindow.num i s = d.num i s := rfl

theorem num_measured (o : LaneObs) (th : Int) : (d.measured l o th).num (0x2800 + l.num) 1 = o.vbat ∧
    (d.measured l o th).num (0x2800 + l.num) 6 = o.vgd ∧ (d.measured l o th).num (0x2802 + l.num) 1 = o.drv1 := by
  cases l <;> simp (disch := decide) only [measured, num_putBit_ne, num_put_ne, num_put, and_self]

theorem num_derated (th g : Int) : (d.derated l th g).num (0x2802 + l.num) 5 = th ∧
    (d.derated l th g).num 0x2820 (deratingSub l) = g ∧
    ∀ i s, s < 256 → s ≠ 5 ∨ i ≠ 0x2802 + l.num → i ≠ 0x2820 → (d.derated l th g).num i s = d.num i s := by
  unfold derated
  refine ⟨?_, ?_, fun i s hs h h20 => ?_⟩
  · rw [num_noteWindow, num_put_ne _ _ _ _ _ _ (by cases l <;> decide), num_put]
  · rw [num_noteWindow, num_put]
  · rw [num_noteWindow, num_put_of_idx_ne _ _ h20.symm (by cases l <;> decide) hs, num_put_ne]
    rw [ne_eq, objKey_inj _ _ _ _ hs (by decide)]
    omega

theorem onRoot_measured (o : LaneObs) (th g : Int) : ((d.measured l o th).derated l th g).onRoot .a = d.onRoot .a := by
  have hnum : ((d.measured l o th).derated l th g).num 0x2110 2 = d.num 0x2110 2 := by
    cases l <;> simp (disch := decide) only [derated, measured, num_noteWindow, num_putBit_ne, num_put_ne, deratingSub]
  unfold onRoot nat
  rw [hnum]

end Dev

theorem measurementsAreReportedAndDerate : Says.MeasurementsAreReportedAndDerate := by
  intro s l o hs ha hl
  set th := max (max o.drv1 o.drv2) (max o.engines o.regulators) with hthdef
  set g := deratingOf th (s.dev.num 0x2820 1) (s.dev.num 0x2820 2) (s.dev.num 0x2820 3) with hgdef
  set old := s.dev.num 0x2820 (deratingSub l) with holddef
  refine answers_of_awake hs rfl fun u hu => ?_
  rw [hu, Dev.thermalMeasurementStep_acts ha hl]
  obtain ⟨hvbat, hvgd, hdrv⟩ := Dev.num_measured (d := s.dev) (l := l) o th
  obtain ⟨hth, hg, hother⟩ := Dev.num_derated (d := s.dev.measured l o th) (l := l) th (if g < old then g else min g (old + 1))
  set e := (s.dev.measured l o th).derated l th (if g < old then g else min g (old + 1)) with he
  have hnum : ∀ {i k}, i ≠ 0x2110 → k < 256 → (e.rootShown l o).num i k = e.num i k := fun hi hk =>
    (Dev.rootShown_leaves o hi hk).1
  obtain ⟨-, hports, hlanes⟩ := Dev.rootShown_leaves (d := e) (l := l) o (i := 0) (s := 0) (by decide) (by decide)
  refine ⟨?_, ?_, ?_, ?_, fun hlt => ?_, fun hle => ?_, fun h hroot => ?_, hports, hlanes⟩
  · rw [hnum (by cases l <;> decide) (by decide), hother _ _ (by decide) (.inl (by decide)) (by cases l <;> decide), hvbat]
  · rw [hnum (by cases l <;> decide) (by decide), hother _ _ (by decide) (.inl (by decide)) (by cases l <;> decide), hvgd]
  · rw [hnum (by cases l <;> decide) (by decide), hother _ _ (by decide) (.inl (by decide)) (by cases l <;> decide), hdrv]
  · rw [hnum (by cases l <;> decide) (by decide), hth]
  · rw [hnum (by decide) (by cases l <;> decide), hg, if_pos hlt]
  · rw [hnum (by decide) (by cases l <;> decide), hg, if_neg (not_lt.mpr hle)]
  · have hr : e.onRoot .a = true := (Dev.onRoot_measured o th _).trans hroot
    unfold Dev.rootShown
    rw [if_pos ⟨h, hr⟩, Dev.num_put]

/-! ### The root -/

namespace Dev

/-- A lane switched to its backup by a detector's code (R303, R304). -/
def onBackup (d : Dev) (l : LaneId) (o : RootObs) (code : Nat) : Dev :=
  let d := (((d.put 0x2110 (srcSub l) 2).put 0x2110 4 code).put 0x2110 1 2).putBit 0x2110 9 0 true
  let d := if l = .a then d.put 0x2110 6 (rootDeviation o.win2) else d
  d.onLane l fun x => { x with mon := { x.mon with steerSlot := none } }

theorem num_onBackup (o : RootObs) (code : Nat) : (d.onBackup l o code).num 0x2110 (srcSub l) = 2 ∧
    (d.onBackup l o code).num 0x2110 4 = code ∧ (d.onBackup l o code).num 0x2110 1 = 2 ∧
    (l = .a → (d.onBackup l o code).num 0x2110 6 = rootDeviation o.win2) ∧
    (d.onBackup l o code).num 0x2110 (trimSub l) = d.num 0x2110 (trimSub l) := by
  cases l <;>
    simp (disch := decide) [onBackup, srcSub, trimSub, num_putBit_ne, num_put_ne]

theorem slots_onBackup (o : RootObs) (code : Nat) : ((d.onBackup l o code).lane l).slots = (d.lane l).slots := by
  unfold onBackup
  dsimp only
  rw [lane_onLane]
  split_ifs <;> rfl

theorem onRoot_eq (d : Dev) (l : LaneId) : d.onRoot l = (d.nat 0x2110 (srcSub l) == 1) := by cases l <;> rfl

theorem rootClockLossStep_first {o : RootObs} {code : Nat} (ha : (d.lane l).alive = true) (hroot : d.onRoot l = true)
    (hfirst : d.nat 0x2110 1 = 1) (hcode : detectorOf o = some code) : rootClockLossStep l o d =
      (((d.onBackup l o code).put 0x2110 5 d.stampNow).stamped).deviceFault .rootClock := by
  unfold rootClockLossStep
  rw [hcode]
  dsimp only
  rw [if_pos (by simp [ha, hroot]), if_pos (by simp [hfirst])]
  rfl

theorem detectorOf_fires {o : RootObs}
    (h : 200 ≤ o.noEdgeNs ∨ (windowOff o.win1 = true ∧ windowOff o.win2 = true) ∨ o.unlocked = true) :
    detectorOf o = some (if 200 ≤ o.noEdgeNs then 1 else if windowOff o.win1 && windowOff o.win2 then 2 else 3) := by
  unfold detectorOf
  by_cases h1 : 200 ≤ o.noEdgeNs
  · simp [h1]
  · by_cases h2 : windowOff o.win1 = true ∧ windowOff o.win2 = true
    · simp [h1, h2]
    · have h3 : o.unlocked = true := (h.resolve_left h1).resolve_left h2
      simp only [h1, h3, if_false, if_true, Bool.and_eq_true, h2]

theorem detectorOf_quiet {o : RootObs} (h1 : o.noEdgeNs < 200) (h2 : windowOff o.win1 = false ∨ windowOff o.win2 = false)
    (h3 : o.unlocked = false) : detectorOf o = none := by
  unfold detectorOf
  rw [if_neg (by omega), if_neg (by rcases h2 with h | h <;> simp [h]), if_neg (by simp [h3])]

theorem steered_of_due {ppm : Int} (hst : d.steers l = true)
    (hdue : ∀ s0, (d.lane l).mon.steerSlot = some s0 → s0 + 20000 ≤ (d.lane l).slots) : backupSteeringStepStep l ppm d =
      ((d.onLane l fun x => { x with mon := { x.mon with steerSlot := some x.slots } }).put 0x2110 (trimSub l)
        (clampAbs 500 (d.num 0x2110 (trimSub l) - if 50 < absI ppm then sgn ppm else 0))).putBit 0x2110 9 2 true := by
  unfold backupSteeringStepStep
  dsimp only
  cases h : (d.lane l).mon.steerSlot with
  | none => rw [if_pos (by simp [hst])]; rfl
  | some s0 => rw [if_pos (by simp [hst, hdue s0 h])]; rfl

/-! ### Comparisons -/

theorem clockOff_otherLane (n : Nat) : d.clockOff l .otherLane n = decide (28 < absI ((n : Int) - 800)) := by
  unfold clockOff
  exact decide_eq_decide.mpr (by omega)

theorem clockOff_lfo {n : Nat} (h : (d.lane l).mon.lfoCount ≠ 0) : d.clockOff l .lfoCycle n =
    decide (35 * ((d.lane l).mon.lfoCount : Int) < 1000 * absI ((n : Int) * 4096 - (d.lane l).mon.lfoCount)) := by
  unfold clockOff
  dsimp only
  rw [show (((d.lane l).mon.lfoCount : Int) != 0) = true by simpa using h, Bool.true_and]

/-- A window against the other lane on the root, with the run of bad ones after it (R306). -/
def windowTaken (d : Dev) (l : LaneId) (bad : Bool) (run : Nat) : Dev :=
  d.onLane l fun x => { x with mon := { x.mon with
    winRun := run, winRoot := true, winAll := (x.mon.winAll || !x.mon.winSeen) && bad, winSeen := true
    faultDue := x.mon.faultDue || decide (2 ≤ run) } }

theorem laneClockComparisonStep_otherLane {n : Nat} (ha : (d.lane l).alive = true) (hl : d.laneLost l = false)
    (hother : (d.lane l.other).alive = true) (hlost : d.laneLost l.other = false) (hroot : d.onRoot l.other = true) :
    laneClockComparisonStep l .otherLane n d = d.windowTaken l (decide (28 < absI ((n : Int) - 800)))
      (if 28 < absI ((n : Int) - 800) ∧ (d.lane l).mon.winRoot = true then (d.lane l).mon.winRun + 1 else 0) := by
  simp [laneClockComparisonStep, windowTaken, ha, hl, hother, hlost, hroot, clockOff_otherLane]

/-- A cycle of the LFO without the other lane (R302, R306). -/
theorem laneClockComparisonStep_lfo {n : Nat} (ha : (d.lane l).alive = true) (hl : d.laneLost l = false)
    (hother : (d.lane l.other).alive = false) : laneClockComparisonStep l .lfoCycle n d =
      d.onLane l fun x => { x with mon := { x.mon with
        winAll := false, winSeen := false, faultDue := x.mon.faultDue || d.clockOff l .lfoCycle n } } := by
  simp [laneClockComparisonStep, ha, hl, hother]

theorem num_loseLane_cause (f : FaultId) : (d.loseLane l f).num 0x2500 (laneStateSub l + 2) = f.code := by
  rw [loseLane_eq, num_partLost_ne _ _ _ (by decide) (by decide) (by cases l <;> decide)]
  unfold lostWith
  rw [num_putBit_ne _ _ _ _ _ _ _ (by cases l <;> decide)]
  exact num_put ..

/-- The fault of the common time base is a device fault and an event of R251 (R27). -/
theorem deviceFault_commonTime (h : d.devFaulted .commonTime = false) :
    (d.deviceFault .commonTime).devFaulted .commonTime = true ∧ (d.deviceFault .commonTime).degradeDue = true := by
  have hlist : (d.recordDeviceFault .commonTime).devFaults = d.devFaults ++ [FaultId.commonTime.code] :=
    if_neg (by simpa [devFaulted] using h)
  unfold deviceFault
  rw [if_neg (by simp [h]), if_pos (.inr rfl)]
  refine ⟨?_, degradeDue_degradeEvent ..⟩
  rw [devFaulted, putBit_devFaults, devFaults_degradeEvent, hlist]
  simp

end Dev

theorem rootLossTakesTheLaneToBackup : Says.RootLossTakesTheLaneToBackup := by
  intro s l hs ha
  refine ⟨fun o hfires hroot hfirst => ?_, fun o h1 h2 h3 => ?_, fun dev hroot => ?_, fun ppm hst hdue => ?_,
    fun ppm s0 h0 hlt => ?_, fun ppm hat => ?_⟩
  · refine answers_of_awake hs rfl fun u hu => ?_
    rw [hu, Dev.rootClockLossStep_first ha hroot hfirst (Dev.detectorOf_fires hfires)]
    obtain ⟨code, hdef⟩ : ∃ code : Nat, code = if 200 ≤ o.noEdgeNs then 1
      else if windowOff o.win1 && windowOff o.win2 then 2 else 3 := ⟨_, rfl⟩
    rw [← hdef]
    obtain ⟨hsrc, hcode, hstate, hdev, htrim⟩ := Dev.num_onBackup (d := s.dev) (l := l) o code
    have hnum : ∀ {k}, k < 256 → k ≠ 5 →
        ((((s.dev.onBackup l o code).put 0x2110 5 s.dev.stampNow).stamped).deviceFault .rootClock).num 0x2110 k =
          (s.dev.onBackup l o code).num 0x2110 k := fun hk h5 =>
      (Dev.num_clocks_deviceFault_rootClock _ hk).trans (Dev.num_put_of_sub_ne _ _ (Ne.symm h5) (by decide) hk)
    refine ⟨?_, ?_, ?_, fun h => ?_, Dev.devFaulted_deviceFault_rootClock _, ?_, ?_⟩
    · have h2 := (hnum (k := srcSub l) (by cases l <;> decide) (by cases l <;> decide)).trans hsrc
      rw [Dev.onRoot_eq, Dev.nat, h2]
      rfl
    · exact (hnum (by decide) (by decide)).trans (hcode.trans (by rw [hdef]; split_ifs <;> rfl))
    · exact (hnum (by decide) (by decide)).trans hstate
    · exact (hnum (by decide) (by decide)).trans (hdev h)
    · rw [Dev.lane, Dev.lanes_deviceFault_rootClock]
      exact Dev.slots_onBackup (d := s.dev) o code
    · exact (hnum (by cases l <;> decide) (by cases l <;> decide)).trans htrim
  · refine exec_of_fixed rfl ?_
    unfold rootClockLossStep
    rw [Dev.detectorOf_quiet h1 h2 h3]
  · refine answers_of_awake hs rfl fun u hu => ?_
    rw [hu, backupTrimAdjustStep, if_pos (by simp [ha, hroot])]
    exact ⟨Dev.num_put .., rfl⟩
  · refine answers_of_awake hs rfl fun u hu => ?_
    rw [hu, Dev.steered_of_due hst hdue]
    exact ⟨Dev.bit_putBit_same .., (Dev.num_putBit_ne _ _ _ _ _ _ _ (by cases l <;> decide)).trans (Dev.num_put ..)⟩
  · refine exec_of_fixed rfl ?_
    unfold backupSteeringStepStep
    dsimp only
    rw [h0]
    exact if_neg (by simp [hlt])
  · refine exec_of_fixed rfl (if_neg ?_)
    have hst : s.dev.steers l = false := by simp [Dev.steers, hat]
    simp [hst]

theorem clockComparisonsLoseTheLane : Says.ClockComparisonsLoseTheLane := by
  intro s l hs ha hl
  refine ⟨fun n hother hlost hroot => ?_, fun n hother hc => ?_, fun hdue => ?_, fun hdue => ?_, fun hf => ?_⟩
  · refine answers_of_awake hs rfl fun u hu => ?_
    rw [hu, Dev.laneClockComparisonStep_otherLane ha hl hother hlost hroot]
    have hlane := Dev.lane_onLane s.dev l
    refine ⟨?_, ?_, fun hbad hwin hrun => ?_, rfl⟩ <;> rw [Dev.windowTaken, hlane]
    dsimp only
    rw [if_pos ⟨hbad, hwin⟩]
    simp [hrun]
  · refine answers_of_awake hs rfl fun u hu => ?_
    rw [hu, Dev.laneClockComparisonStep_lfo ha hl hother, Dev.lane_onLane, Dev.clockOff_lfo hc]
    refine ⟨fun h => ?_, fun h => ?_⟩
    · simp [h]
    · simp [h]
  · refine answers_of_awake hs rfl fun u hu => ?_
    rw [hu, laneClockFaultStep, if_pos (by simp [ha, hdue, hl])]
    obtain ⟨hlost, -, -, -, hports⟩ := Dev.loseLane_loses
      (s.dev.onLane l fun x => { x with mon := { x.mon with faultDue := false } }) l .laneClock
    exact ⟨hlost, Dev.num_loseLane_cause .., fun p hp => (hports p hp).1⟩
  · exact exec_of_fixed rfl (if_neg (by simp [hdue]))
  · exact answers_of_awake hs rfl fun u hu => hu ▸ Dev.deviceFault_commonTime hf

/-- Settles O28. -/
theorem clocksAndTemperaturesAreSupervised : Obligations.ClocksAndTemperaturesAreSupervised :=
  ⟨measurementsAreReportedAndDerate, rootLossTakesTheLaneToBackup, clockComparisonsLoseTheLane⟩

end Sys2Proof.Machine
end

section
/-! REFUTATION. O24: a calibration pass that ends while the converter is marked as waiting for another (R269, R271). -/

namespace Sys2Proof.Machine

/-- Converter 0 at the end of a calibration pass, with another one asked for. -/
def calibratingAgain : State :=
  ⟨{ Dev.atReset with
      lanes := ⟨Lane.counted 3000, Lane.counted 3000⟩
      gcs := Gcs.atReset.set .g0 { Gc.atReset with cal := some 0, calReq := true } }, []⟩

/-- Sums of a converter without deviation: offset 0 and factor 1 at every gain. -/
def idealSums : GcSums := ⟨393216, 9437184, 393216, 9437184, 393216, 9437184⟩

/-- A converter that starts while a pass is asked for starts with that pass, however its entries are claimed (R269). -/
theorem Dev.cal_gcStart {d : Dev} (clk : Nat) (hi : (d.gcs.get .g0).inject = none) (hr : (d.gcs.get .g0).calReq = true) :
    ((d.gcStart .g0 clk).gcs.get .g0).cal = some clk := by
  have hstart : ∀ e : Dev, (e.gcs.get .g0).inject = none → (e.gcs.get .g0).calReq = true →
      ((match (e.gcs.get .g0).inject with
        | some i => (e.onGc .g0 fun c => { c with resume := 16 }).gcBeginInject .g0 i clk
        | none => if (e.gcs.get .g0).calReq then e.gcBeginCal .g0 clk
          else if e.gcMode .g0 = 0 then e else e.gcStartPass .g0 clk).gcs.get .g0).cal = some clk := fun e hi hr => by
    rw [hi, hr]
    rfl
  refine hstart _ ?_ ?_ <;> split_ifs
  · exact hi
  · exact hi
  · exact hr
  · exact hr

/-- The pass that waits starts as the first one ends. -/
theorem calibratingAgain_starts :
    ((gcCalibrationEndStep .g0 idealSums calibratingAgain.dev).gcs.get .g0).cal = some 150000 :=
  Dev.cal_gcStart (d := calibratingAgain.dev.gcFinishCal .g0 idealSums) 150000 (by decide +kernel) (by decide +kernel)

/-- Refutes O24: the clause on the end of a pass leaves a request that waits out; where calReq is set, the next pass starts at the
same instant, and a pass still runs. -/
theorem not_generalConvertersConvertAndCalibrate : ¬ Obligations.GeneralConvertersConvertAndCalibrate := by
  rintro ⟨-, -, hcal⟩
  obtain ⟨-, hends⟩ := hcal calibratingAgain .g0 (by rfl) (by decide +kernel)
  obtain ⟨hgood, -⟩ := hends 0 idealSums (by rfl) (by decide +kernel)
  obtain ⟨u, hu, -, -, -, -, hnone⟩ := hgood (by decide +kernel)
  have hdev : u.dev = gcCalibrationEndStep .g0 idealSums calibratingAgain.dev :=
    State.dev_of_exec_awake (s := calibratingAgain) rfl rfl hu
  rw [hdev, calibratingAgain_starts] at hnone
  exact absurd hnone (by decide)

end Sys2Proof.Machine
end

section
/-! SUPPORT. What the section of the chain passes on, and what a unit does to the chain's link (R397 to R408). -/

namespace Sys2Proof.Machine

theorem sdo_window_of_drop {α : Type} (w : List α) (b : α) (h : w ≠ []) : w.drop 1 ++ [b] = (w ++ [b]).drop 1 := by
  cases w with
  | nil => exact absurd rfl h
  | cons x w => rfl

namespace Chain

variable (c : Chain)

/-- The levels of SDI at the rising edges of a frame that begins with SCK low: the first of each two. -/
def atRises : List Bool → List Bool
  | [] => []
  | [b] => [b]
  | b :: _ :: r => b :: atRises r

/-- A chain with the section, SDO and SCK as edges leave them. -/
def moved (w : List Bool) (sdo sck : Bool) : Chain := { c with window := w, sdo := sdo, sck := sck }

theorem moved_moved (w v : List Bool) (x y a b : Bool) : (c.moved w x a).moved v y b = c.moved v y b := rfl

theorem edge_moves (b : Bool) : ∃ w sdo, c.edge b = c.moved w sdo (!c.sck) := ⟨_, _, rfl⟩

/-- Edges move the section, SDO and SCK alone. -/
theorem shift_moves (bits : List Bool) : ∃ w sdo sck, (c.shift bits).1 = c.moved w sdo sck := by
  induction bits generalizing c with
  | nil => exact ⟨_, _, _, rfl⟩
  | cons b r ih =>
    obtain ⟨w, sdo, hw⟩ := c.edge_moves b
    obtain ⟨w', sdo', sck', h'⟩ := ih (c.edge b)
    exact ⟨w', sdo', sck', h'.trans (by rw [hw, moved_moved])⟩

/-- In both-edge mode each edge shifts one bit into the section and launches the next one. -/
theorem edge_of_both (he : c.enable = true) (hr : c.rising = false) (b : Bool) :
    c.edge b = c.moved (c.window.drop 1 ++ [b]) ((c.window.drop 1 ++ [b]).headD false) (!c.sck) := by
  simp [edge, moved, he, hr]

/-- In both-edge mode the section holds the last bits, and SDO shows those that follow its first (R397, R403). -/
theorem shift_of_both (he : c.enable = true) (hr : c.rising = false) (hw : c.window ≠ []) (bits : List Bool) :
    (c.shift bits).1.window = (c.window ++ bits).drop bits.length ∧
    (c.shift bits).2 = ((c.window ++ bits).drop 1).take bits.length := by
  induction bits generalizing c with
  | nil => exact ⟨(List.append_nil _).symm, List.take_zero.symm⟩
  | cons b r ih =>
    obtain ⟨x, w, hxw⟩ := List.exists_cons_of_ne_nil hw
    have hedge := c.edge_of_both he hr b
    rw [hxw, List.drop_one, List.tail_cons] at hedge
    obtain ⟨hwin, hsdo⟩ := ih (c.moved (w ++ [b]) ((w ++ [b]).headD false) (!c.sck)) he hr (by simp [moved])
    unfold shift
    rw [hedge]
    dsimp only
    refine ⟨hwin.trans ?_, ?_⟩
    · rw [hxw]
      simp [moved]
    · rw [hsdo, hxw]
      cases w <;> simp [moved]

/-- In rising-edge mode a rising and a falling edge shift one bit between them. -/
theorem edge_edge_of_rising (he : c.enable = true) (hr : c.rising = true) (hs : c.sck = false) (b b' : Bool) :
    ∃ sdo, (c.edge b).edge b' = c.moved (c.window.drop 1 ++ [b]) sdo false := by
  simp [edge, moved, he, hr, hs]

theorem window_edge_of_rising (he : c.enable = true) (hs : c.sck = false) (b : Bool) :
    (c.edge b).window = c.window.drop 1 ++ [b] := by
  simp [edge, he, hs]

/-- In rising-edge mode the section holds the last bits of the rising edges (R398). -/
theorem window_shift_of_rising (he : c.enable = true) (hr : c.rising = true) (hw : c.window ≠ []) (hs : c.sck = false)
    (bits : List Bool) : (c.shift bits).1.window = (c.window ++ atRises bits).drop (atRises bits).length := by
  fun_induction atRises bits generalizing c with
  | case1 => exact (List.append_nil _).symm
  | case2 b => exact (c.window_edge_of_rising he hs b).trans (sdo_window_of_drop _ _ hw)
  | case3 b b' r ih =>
    obtain ⟨x, w, hxw⟩ := List.exists_cons_of_ne_nil hw
    obtain ⟨sdo, hedge⟩ := c.edge_edge_of_rising he hr hs b b'
    rw [hxw, List.drop_one, List.tail_cons] at hedge
    have h := ih (c.moved (w ++ [b]) sdo false) he hr (by simp [moved]) rfl
    unfold shift
    dsimp only
    unfold shift
    dsimp only
    rw [hedge, h, hxw]
    simp [moved]

theorem filterMap_even_eq_atRises (bits : List Bool) :
    ((List.range bits.length).filterMap fun i => if i % 2 = 0 then bits[i]? else none) = atRises bits := by
  fun_induction atRises bits with
  | case1 => rfl
  | case2 b => rfl
  | case3 b b' r ih =>
    rw [← ih, List.length_cons, List.length_cons, List.range_succ_eq_map, List.range_succ_eq_map]
    simp [List.filterMap_map, Function.comp_def, Nat.add_assoc]

/-- What a frame's edges make of the chain: the settings, the link and the shadow stand. -/
theorem shifted_eq (bits : List Bool) : ∃ w sdo sck, c.shifted bits = { c.moved w sdo sck with
    sdoOut := (c.shift bits).2, rstbOut := if c.rstb then sckLevels c.sck bits.length else [] } ∧
    w = (c.shift bits).1.window := by
  obtain ⟨w, sdo, sck, h⟩ := c.shift_moves bits
  refine ⟨w, sdo, sck, ?_, congrArg Chain.window h.symm⟩
  unfold shifted
  dsimp only
  rw [h]

end Chain

namespace Dev

variable {d : Dev}

/-! ### The chain's link -/

/-- What the flags' write leaves. -/
theorem putChainFlags_leaves (d : Dev) : d.putChainFlags.chain = d.chain ∧ d.putChainFlags.net = d.net ∧
    d.putChainFlags.lanes = d.lanes ∧
    ∀ s, s ≠ 1 → s < 256 → d.putChainFlags.num 0x2301 s = d.num 0x2301 s :=
  ⟨rfl, rfl, rfl, fun _ hs ht => num_put_of_sub_ne d _ hs.symm (by decide) ht⟩

theorem num_inc_of_sub_ne (d : Dev) {i j k : Nat} (h : j ≠ k) (hj : j < 256) (hk : k < 256) :
    (d.inc i j).num i k = d.num i k := num_put_of_sub_ne d _ h hj hk

/-- The outbound unit is put into the link, and changes no more. -/
theorem loadUnit_chain (d : Dev) (cap : Nat) : ∃ k out, d.loadUnit .chain cap =
    d.setLink .chain { d.chain.link with loaded := k, out := out } := by
  unfold loadUnit
  dsimp only
  cases d.outResponse .chain <;> exact ⟨_, _, rfl⟩

/-- The outbound unit consumed leaves the objects and the section, with the link's mark, assembly and latched unit. -/
theorem consumeUnit_chain (d : Dev) : ∃ k n net, d.consumeUnit .chain =
    { d.setLink .chain { d.chain.link with shown := k, loaded := n } with net := net } := by
  unfold consumeUnit
  dsimp only
  cases (d.reqPort .chain).tx with
  | nil => exact ⟨0, 0, d.net, rfl⟩
  | cons f rest =>
    dsimp only
    split_ifs
    · exact ⟨0, 0, _, rfl⟩
    · exact ⟨d.chain.link.shown + d.chain.link.loaded, 0, d.net, rfl⟩

/-! ### Assembly -/

/-- What an assembly of bytes leaves open. -/
theorem assembled_chain_of_open {b : List Byte}
    (h : b.length < 10 ∨ (leNat (slice b 8 2) ≤ 1024 ∧ (b.length < 16 ∨ b.length < pduLen b))) :
    d.assembled .chain b = d.setLink .chain { d.chain.link with asm := some b } := by
  unfold assembled
  rw [if_neg (by omega), if_neg (by omega)]
  rfl

/-- A payload above 1024 bytes drops the assembly and is counted (R406). -/
theorem assembled_chain_of_long {b : List Byte} (h : 10 ≤ b.length ∧ 1024 < leNat (slice b 8 2)) :
    d.assembled .chain b = (d.setLink .chain { d.chain.link with asm := none }).inc 0x2301 7 := by
  unfold assembled
  exact if_pos h

/-- A complete PDU waits for the boundary that stamps it (R407). -/
theorem assembled_chain_of_complete {b : List Byte}
    (h : 16 ≤ b.length ∧ leNat (slice b 8 2) ≤ 1024 ∧ pduLen b ≤ b.length) :
    d.assembled .chain b =
      let e := d.setLink .chain { d.chain.link with asm := none }
      if d.portUp .chain then e.requestArrives .chain unitPartner ⟨[], 0⟩ (b.take (pduLen b)) else e := by
  unfold assembled
  rw [if_neg (by omega), if_pos ⟨h.1, h.2.2⟩]
  rfl

/-! ### Units -/

theorem takeUnit_chain_of_start {u : List Byte} (hbad : unitBad u = false) (hkind : leNat (u.take 1) / 64 = 2) :
    d.takeUnit .chain u =
      let e := if d.chain.link.asm.isSome then d.inc 0x2301 7 else d
      e.setLink .chain { d.chain.link with asm := some ((u.drop 1).take (leNat (u.take 1) / 16 % 4)) } := by
  unfold takeUnit
  dsimp only
  rw [if_neg (by simp [hbad]), if_pos hkind, assembled_chain_of_open (.inl _)]
  · have hlink : d.link .chain = d.chain.link := rfl
    rw [hlink]
    split_ifs <;> rfl
  · exact (List.length_take_le ..).trans_lt (by omega)

theorem takeUnit_chain_of_data {u a : List Byte} (hbad : unitBad u = false) (hkind : leNat (u.take 1) / 64 = 1)
    (ha : d.chain.link.asm = some a) :
    d.takeUnit .chain u = d.assembled .chain (a ++ (u.drop 1).take (leNat (u.take 1) / 16 % 4)) := by
  have hasm : (d.link .chain).asm = some a := ha
  unfold takeUnit
  dsimp only
  rw [if_neg (by simp [hbad]), if_neg (by omega), if_pos hkind, hasm]

theorem takeUnit_chain_of_abort {u : List Byte} (hbad : unitBad u = false) (hkind : leNat (u.take 1) / 64 = 3) :
    d.takeUnit .chain u = d.setLink .chain { d.chain.link with asm := none } := by
  unfold takeUnit
  dsimp only
  rw [if_neg (by simp [hbad]), if_neg (by omega), if_neg (by omega), if_pos hkind]
  rfl

theorem chainUnit_of_kind {u : List Byte} (hp : d.powered = true) (hf : d.frozen = false)
    (hu : d.chain.link.inbound = some u) :
    d.chainUnit (leNat (u.take 1) / 64) =
      ((d.setLink .chain { d.chain.link with inbound := none }).takeUnit .chain u).putChainFlags := by
  unfold chainUnit
  rw [hu]
  dsimp only
  rw [if_pos (by simp [chainRuns, hp, hf])]

/-- A unit waits for its own row. -/
theorem chainUnit_of_kind_ne {u : List Byte} {n : Nat} (hu : d.chain.link.inbound = some u)
    (hn : leNat (u.take 1) / 64 ≠ n) : d.chainUnit n = d := by
  unfold chainUnit
  rw [hu]
  dsimp only
  rw [if_neg (by simp [hn])]

end Dev
end Sys2Proof.Machine
end

section
/-! PROOF. O46: frames of the chain and the units that assemble a request (R397 to R407). -/

namespace Sys2Proof.Machine

namespace Dev

variable {d : Dev}

/-! ### The fall of CSN -/

/-- The block as the fall of CSN finds it: settings taken, levels of SCK noted. -/
def chainBegun (d : Dev) (hi : Bool) : Dev :=
  { d.chainSettings with chain := { d.chainSettings.chain with low := true, sckHigh := hi, sck := hi } }

/-- The outbound unit of a frame, put into the link. -/
def chainLoaded (d : Dev) : Dev :=
  if d.chain.enable = false then d.setLink .chain { d.chain.link with loaded := 0, out := 0 }
  else if d.chain.pelnak then d.loadUnit .chain (d.chain.unitLen / 8 - 1)
  else d.setLink .chain { d.chain.link with loaded := 0, out := d.registerUnit d.chain.unitLen }

theorem chainLoaded_eq (d : Dev) : ∃ k out, d.chainLoaded = d.setLink .chain { d.chain.link with loaded := k, out := out } ∧
    (d.chain.enable = false → out = 0) ∧
    (d.chain.enable = true → d.chain.pelnak = false → out = d.registerUnit d.chain.unitLen) := by
  unfold chainLoaded
  split_ifs with he hk
  · exact ⟨_, _, rfl, fun _ => rfl, fun h => absurd (he.symm.trans h) (by decide)⟩
  · obtain ⟨k, out, h⟩ := d.loadUnit_chain (d.chain.unitLen / 8 - 1)
    exact ⟨k, out, h, fun h => absurd h he, fun _ h => absurd (hk.symm.trans h) (by decide)⟩
  · exact ⟨_, _, rfl, fun h => absurd h he, fun _ _ => rfl⟩

theorem chainCsnFallStep_of_runs (hp : d.powered = true) (hf : d.frozen = false) (hi : Bool) :
    chainCsnFallStep hi d =
      let e := (d.chainBegun hi).chainLoaded
      { e with chain := e.chain.filled } := by
  unfold chainCsnFallStep
  exact if_pos (by simp [chainRuns, hp, hf])

theorem chainCsnFallStep_begins (hp : d.powered = true) (hf : d.frozen = false) (hi : Bool) :
    let e := chainCsnFallStep hi d
    e.chain.low = true ∧ e.chain.sckHigh = hi ∧ e.chain.frameLen = d.nat 0x2300 3 ∧
    e.chain.unitLen = d.nat 0x2300 4 ∧ e.objs = d.objs ∧ e.chain.rising = (d.num 0x2300 5 == 1) ∧
    (d.tap.bscan = false → e.rstbDrive = if d.num 0x2300 7 = 1 then some hi else none) ∧
    (d.num 0x2300 1 = 1 → e.chain.window = bitsBE (d.nat 0x2300 4) e.chain.link.out ∧
      e.chain.sdo = e.chain.window.headD false) ∧
    (d.num 0x2300 1 = 1 → d.num 0x2300 2 ≠ 1 → e.chain.link.out = d.registerUnit (d.nat 0x2300 4)) ∧
    (d.num 0x2300 1 ≠ 1 → e.chain.link.out = 0 ∧ e.chain.sdo = false) := by
  obtain ⟨k, out, hload, hoff, hreg⟩ := (d.chainBegun hi).chainLoaded_eq
  rw [chainCsnFallStep_of_runs hp hf, hload]
  have hen : (d.chainBegun hi).chain.enable = (d.num 0x2300 1 == 1) := rfl
  have hpel : (d.chainBegun hi).chain.pelnak = (d.num 0x2300 2 == 1) := rfl
  refine ⟨rfl, rfl, rfl, rfl, rfl, rfl, fun hb => ?_, fun h1 => ?_, fun h1 h2 => ?_, fun h1 => ?_⟩
  · refine (if_pos (by exact hb)).trans ?_
    have hpow : ∀ x, (d.powered && (d.num 0x2300 7 == 1)) = x →
        (if x = true then some hi else none) = if d.num 0x2300 7 = 1 then some hi else none := by
      rintro x rfl
      simp [hp]
    exact hpow _ rfl
  · refine ⟨if_pos (by exact hen.trans (by simp [h1])), rfl⟩
  · exact hreg (hen.trans (by simp [h1])) (hpel.trans (by simp [h2]))
  · have hdis : (d.chainBegun hi).chain.enable = false := hen.trans (by simp [h1])
    refine ⟨hoff hdis, congrArg (fun w : List Bool => w.headD false) (if_neg (c := (d.chainBegun hi).chain.enable = true) ?_)⟩
    simp [hdis]

/-! ### The rise of CSN -/

/-- The block behind a frame's edges. -/
def chainPassed (d : Dev) (hi : Bool) (bits : List Bool) : Dev :=
  { d with chain := { d.chain.shifted bits with low := false, sck := hi } }

theorem chainPassed_eq (d : Dev) (hi : Bool) (bits : List Bool) : ∃ w sdo, d.chainPassed hi bits =
    { d with chain := { d.chain.moved w sdo hi with
        low := false, sdoOut := (d.chain.shift bits).2
        rstbOut := if d.chain.rstb then sckLevels d.chain.sck bits.length else [] } } ∧
    w = (d.chain.shift bits).1.window := by
  obtain ⟨w, sdo, sck, h, hw⟩ := d.chain.shifted_eq bits
  refine ⟨w, sdo, ?_, hw⟩
  unfold chainPassed
  rw [h]
  rfl

/-- What a frame's judgement leaves of the chain: the section, the levels and the settings. -/
structure SameFrame (c e : Chain) : Prop where
  window : e.window = c.window
  sdoOut : e.sdoOut = c.sdoOut
  rstbOut : e.rstbOut = c.rstbOut
  sck : e.sck = c.sck

/-- A failed frame: the mark, the assembly dropped, and its cause (R400, R406). -/
def chainFailed (d : Dev) (cause edges : Nat) : Dev :=
  ((((d.setLink .chain { d.chain.link with mark := true, asm := none }).inc 0x2301 3).put 0x2301 4 cause).put 0x2301 5
    (min edges 65535 : Nat)).putChainFlags

/-- A unit that a good frame latches. -/
def chainLatched (d : Dev) (u : List Byte) : Dev :=
  (if unitBad u then d.badUnit .chain
    else if leNat (u.take 1) / 64 = 0 then d
    else d.setLink .chain { d.chain.link with inbound := some u }).putChainFlags

/-- A good frame counted, its mark cleared (R400). -/
def chainGood (d : Dev) : Dev := (d.setLink .chain { d.chain.link with mark := false }).inc 0x2301 2

theorem chainCsnRiseStep_of_high (hl : d.chain.low = false) (hi : Bool) (edges : Nat) (bits : List Bool) :
    chainCsnRiseStep hi edges bits d = d := by
  unfold chainCsnRiseStep
  exact if_neg (by simp [hl])

section
variable (hp : d.powered = true) (hf : d.frozen = false) (hl : d.chain.low = true)
include hp hf hl

theorem chainCsnRiseStep_of_none (hi : Bool) (edges : Nat) (bits : List Bool)
    (h : d.chain.enable = false ∨ edges = 0) : chainCsnRiseStep hi edges bits d = d.chainPassed hi bits := by
  obtain ⟨w, sdo, sck, hc, -⟩ := d.chain.shifted_eq bits
  unfold chainCsnRiseStep
  rw [if_pos (by simp [chainRuns, hp, hf, hl])]
  refine if_pos ?_
  rw [hc]
  exact h

theorem chainCsnRiseStep_of_edges (hi : Bool) (edges : Nat) (bits : List Bool) (he : d.chain.enable = true)
    (hn : edges ≠ 0) :
    (∀ cause, frameCause (d.chain.sckHigh || hi) d.chain.frameLen edges = some cause →
      chainCsnRiseStep hi edges bits d = (d.chainPassed hi bits).chainFailed cause edges) ∧
    (frameCause (d.chain.sckHigh || hi) d.chain.frameLen edges = none →
      let g := (d.chainPassed hi bits).chainGood
      let v := ofBitsBE (d.chain.shift bits).1.window
      chainCsnRiseStep hi edges bits d = if d.chain.pelnak then
          (g.consumeUnit .chain).chainLatched (toLE (d.chain.unitLen / 8) v).reverse
        else ({ g with chain := { g.chain with shadow := v, shadowNew := true } } : Dev).putChainFlags) := by
  obtain ⟨w, sdo, sck, hc, hw⟩ := d.chain.shifted_eq bits
  unfold chainCsnRiseStep chainPassed
  rw [if_pos (by simp [chainRuns, hp, hf, hl]), hc]
  dsimp only
  rw [if_neg (by simp [Chain.moved, he, hn])]
  refine ⟨fun cause h => ?_, fun h => ?_⟩
  · have h' : frameCause ((d.chain.moved w sdo sck).sckHigh || hi) (d.chain.moved w sdo sck).frameLen edges = some cause := h
    rw [h']
    rfl
  · have h' : frameCause ((d.chain.moved w sdo sck).sckHigh || hi) (d.chain.moved w sdo sck).frameLen edges = none := h
    rw [h', ← hw]
    rfl

end

theorem chainFailed_says (d : Dev) (cause edges : Nat) :
    let e := d.chainFailed cause edges
    (e.num 0x2301 4 = cause ∧ e.num 0x2301 3 = min (d.num 0x2301 3 + 1) 4294967295 ∧ e.chain.link.mark = true ∧
      e.chain.link.asm = none ∧ e.chain.shadow = d.chain.shadow) ∧ SameFrame d.chain e.chain := by
  refine ⟨⟨?_, ?_, rfl, rfl, rfl⟩, rfl, rfl, rfl, rfl⟩ <;> unfold chainFailed
  · rw [(putChainFlags_leaves _).2.2.2 _ (by decide) (by decide), num_put_of_sub_ne _ _ (by decide) (by decide) (by decide),
      num_put]
  · rw [(putChainFlags_leaves _).2.2.2 _ (by decide) (by decide), num_put_of_sub_ne _ _ (by decide) (by decide) (by decide),
      num_put_of_sub_ne _ _ (by decide) (by decide) (by decide), num_inc]
    rfl

theorem num_chainGood (d : Dev) : d.chainGood.num 0x2301 2 = min (d.num 0x2301 2 + 1) 4294967295 := by
  unfold chainGood
  rw [num_inc]
  rfl

theorem badUnit_chain (d : Dev) :
    d.badUnit .chain = (d.setLink .chain { d.chain.link with asm := none }).inc 0x2301 6 := rfl

theorem chainLatched_says (d : Dev) (u : List Byte) :
    let e := d.chainLatched u
    e.num 0x2301 2 = d.num 0x2301 2 ∧ e.chain.link.mark = d.chain.link.mark ∧
    (unitBad u = true → e.chain.link.asm = none) ∧
    (unitBad u = false → leNat (u.take 1) / 64 ≠ 0 → e.chain.link.inbound = some u) ∧ SameFrame d.chain e.chain := by
  unfold chainLatched
  rw [badUnit_chain]
  split_ifs with hbad hkind
  · refine ⟨?_, rfl, fun _ => rfl, fun h => absurd (hbad.symm.trans h) (by decide), rfl, rfl, rfl, rfl⟩
    rw [(putChainFlags_leaves _).2.2.2 _ (by decide) (by decide), num_inc_of_sub_ne _ (by decide) (by decide) (by decide)]
    rfl
  · exact ⟨(putChainFlags_leaves _).2.2.2 _ (by decide) (by decide), rfl, fun h => absurd h hbad, fun _ h => absurd hkind h,
      rfl, rfl, rfl, rfl⟩
  · exact ⟨(putChainFlags_leaves _).2.2.2 _ (by decide) (by decide), rfl, fun h => absurd h hbad, fun _ _ => rfl,
      rfl, rfl, rfl, rfl⟩

/-- A good frame is counted and clears the mark; register mode latches the section, and Pelnak its unit (R400, R404, R406). -/
theorem chainCsnRiseStep_of_good (hp : d.powered = true) (hf : d.frozen = false) (hl : d.chain.low = true) (hi : Bool)
    (edges : Nat) (bits : List Bool) (he : d.chain.enable = true) (hn : edges ≠ 0)
    (hgood : frameCause (d.chain.sckHigh || hi) d.chain.frameLen edges = none) :
    let e := chainCsnRiseStep hi edges bits d
    (e.num 0x2301 2 = min (d.num 0x2301 2 + 1) 4294967295 ∧ e.chain.link.mark = false ∧
      (d.chain.pelnak = false → e.chain.shadow = ofBitsBE e.chain.window ∧ e.chain.shadowNew = true) ∧
      (d.chain.pelnak = true →
        let x := (toLE (d.chain.unitLen / 8) (ofBitsBE e.chain.window)).reverse
        (unitBad x = true → e.chain.link.asm = none) ∧
        (unitBad x = false → leNat (x.take 1) / 64 ≠ 0 → e.chain.link.inbound = some x))) ∧
    SameFrame (d.chainPassed hi bits).chain e.chain := by
  obtain ⟨w, sdo, hpass, hw⟩ := d.chainPassed_eq hi bits
  rw [(chainCsnRiseStep_of_edges hp hf hl hi edges bits he hn).2 hgood, ← hw]
  have hwin : (d.chainPassed hi bits).chain.window = w := congrArg (fun e : Dev => e.chain.window) hpass
  have hcount : (d.chainPassed hi bits).chainGood.num 0x2301 2 = min (d.num 0x2301 2 + 1) 4294967295 :=
    num_chainGood _
  generalize hg : (d.chainPassed hi bits).chainGood = g at hcount ⊢
  have hsame : SameFrame (d.chainPassed hi bits).chain g.chain := by
    subst hg
    exact ⟨rfl, rfl, rfl, rfl⟩
  have hmark : g.chain.link.mark = false := by
    subst hg
    rfl
  have hgw : g.chain.window = w := hsame.window.trans hwin
  cases hk : d.chain.pelnak with
  | false =>
    rw [if_neg Bool.false_ne_true]
    refine ⟨⟨?_, hmark, fun _ => ⟨congrArg ofBitsBE hgw.symm, rfl⟩, fun h => absurd h (by decide)⟩,
      hsame.window, hsame.sdoOut, hsame.rstbOut, hsame.sck⟩
    exact ((putChainFlags_leaves _).2.2.2 _ (by decide) (by decide)).trans hcount
  | true =>
    rw [if_pos rfl]
    obtain ⟨k, n, net, hcons⟩ := g.consumeUnit_chain
    obtain ⟨hnum, hmk, hbad, hin, hwin', hsdo', hrst', hsck'⟩ :=
      chainLatched_says (g.consumeUnit .chain) (toLE (d.chain.unitLen / 8) (ofBitsBE w)).reverse
    generalize (g.consumeUnit .chain).chainLatched (toLE (d.chain.unitLen / 8) (ofBitsBE w)).reverse = e at *
    rw [hcons] at hnum hmk hwin' hsdo' hrst' hsck'
    have hew : e.chain.window = w := hwin'.trans hgw
    dsimp only
    rw [hew]
    exact ⟨⟨hnum.trans hcount, hmk.trans hmark, fun h => absurd h (by decide), fun _ => ⟨hbad, hin⟩⟩,
      hwin'.trans hsame.window, hsdo'.trans hsame.sdoOut, hrst'.trans hsame.rstbOut, hsck'.trans hsame.sck⟩

/-- A frame's edges leave their section and levels, however it is judged. -/
theorem chainCsnRiseStep_sameFrame (hp : d.powered = true) (hf : d.frozen = false) (hl : d.chain.low = true) (hi : Bool)
    (edges : Nat) (bits : List Bool) : SameFrame (d.chainPassed hi bits).chain (chainCsnRiseStep hi edges bits d).chain := by
  by_cases h : d.chain.enable = false ∨ edges = 0
  · rw [chainCsnRiseStep_of_none hp hf hl hi edges bits h]
    exact ⟨rfl, rfl, rfl, rfl⟩
  · obtain ⟨he, hn⟩ := not_or.mp h
    rw [Bool.not_eq_false] at he
    cases hcause : frameCause (d.chain.sckHigh || hi) d.chain.frameLen edges with
    | none => exact (chainCsnRiseStep_of_good hp hf hl hi edges bits he hn hcause).2
    | some cause =>
      rw [(chainCsnRiseStep_of_edges hp hf hl hi edges bits he hn).1 cause hcause]
      exact (chainFailed_says _ cause edges).2

end Dev

theorem chainFramesAreJudged : Says.ChainFramesAreJudged := by
  unfold Says.ChainFramesAreJudged
  intro s hs hp
  refine ⟨fun hi => answers_of_awake hs rfl fun u hu => ?_, fun hi edges bits hl => ?_, fun hi edges bits hl hn => ?_,
    fun hi edges bits hl => answers_of_awake hs rfl fun u hu => ?_, fun hi edges bits hl he hn => ⟨fun cause hc => ?_, fun hc => ?_⟩⟩
  · rw [hu]
    exact Dev.chainCsnFallStep_begins hp hs hi
  · exact exec_of_fixed rfl (Dev.chainCsnRiseStep_of_high hl hi edges bits)
  · exact congrArg Host.Outcome.next (State.awake_eq_upd hs (g := fun d => d.chainPassed hi bits)
      (Dev.chainCsnRiseStep_of_none hp hs hl hi edges bits hn))
  · obtain ⟨w, sdo, hpass, hw⟩ := s.dev.chainPassed_eq hi bits
    obtain ⟨hwin, hsdo, hrst, hsck⟩ := Dev.chainCsnRiseStep_sameFrame hp hs hl hi edges bits
    rw [← hu, hpass] at hwin hsdo hrst hsck
    refine ⟨hsck, hrst, fun he hne hr => ?_, fun he hne hr hk => ?_⟩
    · obtain ⟨hw', hout⟩ := s.dev.chain.shift_of_both he hr hne bits
      exact ⟨hwin.trans (hw.trans hw'), hsdo.trans hout⟩
    · dsimp only
      rw [Chain.filterMap_even_eq_atRises]
      exact hwin.trans (hw.trans (s.dev.chain.window_shift_of_rising he hr hne hk bits))
  · refine answers_of_awake hs rfl fun u hu => ?_
    obtain ⟨w, sdo, hpass, -⟩ := s.dev.chainPassed_eq hi bits
    obtain ⟨hsays, -⟩ := Dev.chainFailed_says (s.dev.chainPassed hi bits) cause edges
    rw [hu, (Dev.chainCsnRiseStep_of_edges hp hs hl hi edges bits he hn).1 cause hc]
    rw [hpass] at hsays ⊢
    exact hsays
  · refine answers_of_awake hs rfl fun u hu => ?_
    rw [hu]
    exact (Dev.chainCsnRiseStep_of_good hp hs hl hi edges bits he hn hc).1

theorem chainUnitsAssembleARequest : Says.ChainUnitsAssembleARequest := by
  unfold Says.ChainUnitsAssembleARequest
  intro s x hs hp hx hbad
  dsimp only
  have hunit := Dev.chainUnit_of_kind (d := s.dev) hp hs hx
  set e := s.dev.setLink .chain { s.dev.chain.link with inbound := none } with he
  have hasm : e.chain.link.asm = s.dev.chain.link.asm := rfl
  have hflags := Dev.putChainFlags_leaves
  refine ⟨fun hk => ?_, fun a hk ha => ?_, fun hk => ?_, fun hk => ?_, fun hk => ?_, fun hk => ?_⟩
  · refine answers_of_awake hs rfl fun u hu => ?_
    rw [hk, Dev.takeUnit_chain_of_start hbad hk] at hunit
    rw [hu]
    refine ⟨?_, ?_, fun hsome => ?_⟩ <;> unfold chainStartUnitStep <;> rw [hunit]
    · rfl
    · rfl
    · rw [(hflags _).2.2.2 _ (by decide) (by decide), hasm, if_pos (Option.isSome_iff_ne_none.mpr hsome)]
      exact Dev.num_inc ..
  · rw [hk, Dev.takeUnit_chain_of_data hbad hk (hasm.trans ha)] at hunit
    refine ⟨fun hopen => ?_, fun h10 hlong => ?_, fun h16 hfit hfull => ?_⟩ <;> refine answers_of_awake hs rfl fun u hu => ?_
    · rw [Dev.assembled_chain_of_open hopen] at hunit
      rw [hu]
      refine ⟨?_, ?_, ?_⟩ <;> unfold chainDataUnitStep <;> rw [hunit] <;> rfl
    · rw [Dev.assembled_chain_of_long ⟨h10, hlong⟩] at hunit
      rw [hu]
      refine ⟨?_, ?_, ?_⟩ <;> unfold chainDataUnitStep <;> rw [hunit]
      · rfl
      · rw [(hflags _).2.2.2 _ (by decide) (by decide)]
        exact Dev.num_inc ..
      · rfl
    · have hup : e.portUp .chain = s.dev.portUp .chain := rfl
      have hnum : ∀ f : Dev, f.objs = s.dev.objs → f.putChainFlags.num 0x2301 7 = s.dev.num 0x2301 7 := fun f hf =>
        ((hflags f).2.2.2 _ (by decide) (by decide)).trans (Dev.num_congr_objs hf 0x2301 7)
      rw [Dev.assembled_chain_of_complete ⟨h16, hfit, hfull⟩, hup] at hunit
      rw [hu]
      unfold chainDataUnitStep
      rw [hunit]
      dsimp only
      split_ifs with h
      · exact ⟨rfl, hnum _ rfl, fun _ => rfl⟩
      · exact ⟨rfl, hnum _ rfl, fun h' => absurd h' h⟩
  · refine answers_of_awake hs rfl fun u hu => ?_
    rw [hk, Dev.takeUnit_chain_of_abort hbad hk] at hunit
    rw [hu]
    refine ⟨?_, ?_⟩ <;> unfold chainAbortUnitStep <;> rw [hunit] <;> rfl
  · exact exec_of_fixed rfl (Dev.chainUnit_of_kind_ne hx hk)
  · exact exec_of_fixed rfl (Dev.chainUnit_of_kind_ne hx hk)
  · exact exec_of_fixed rfl (Dev.chainUnit_of_kind_ne hx hk)

/-- Settles O46: the edges move the section alone, and a unit goes through the assembly's three cases. -/
theorem theChainPortCarriesUnits : Obligations.TheChainPortCarriesUnits := by
  unfold Obligations.TheChainPortCarriesUnits
  exact ⟨chainFramesAreJudged, chainUnitsAssembleARequest⟩

end Sys2Proof.Machine
end

section
/-! SUPPORT. What a programming makes of the array and of its objects (R413 to R428). -/

namespace Sys2Proof.Machine
namespace Fuses

theorem word_close (f : Fuses) (w x : Nat) : (f.close w).word x = f.word x := by
  unfold close
  split_ifs <;> rfl

theorem closed_put (f : Fuses) (w : Nat) (v : Word) : (f.put w v).closed = f.closed := by
  unfold put
  split_ifs <;> rfl

theorem closed_pulseChecks (f : Fuses) (w : Nat) (v mask : Word) : (f.pulseChecks w v mask).closed = f.closed := by
  unfold pulseChecks
  split_ifs <;> rfl

theorem mem_closed_close (f : Fuses) {w : Nat} (h : w < 16) : w ∈ (f.close w).closed := by
  unfold close
  rw [if_pos h]
  exact List.mem_cons_self

/-- The array with the bits that a programming has pulsed (R420). -/
def pulsedBy (f : Fuses) (w : Nat) (v : Word) (r : OtpEnd) : Fuses :=
  (f.put w (pulsedWord (f.word w) v r.pulsed)).pulseChecks w v (BitVec.ofNat 32 r.checks)

/-- The array with a word programmed (R420). -/
def programmed (f : Fuses) (w : Nat) (v : Word) : Fuses :=
  ((f.put w (f.word w ||| v)).pulseChecks w v (BitVec.allOnes 32)).close w

theorem word_pulsedBy (f : Fuses) (w : Nat) (v : Word) (r : OtpEnd) (x : Nat) :
    (f.pulsedBy w v r).word x = if x = w then f.word w ||| (v &&& BitVec.ofNat 32 r.pulsed) else f.word x := by
  rw [pulsedBy, word_pulseChecks, word_put]
  rfl

theorem word_programmed (f : Fuses) (w : Nat) (v : Word) (x : Nat) :
    (f.programmed w v).word x = if x = w then f.word w ||| v else f.word x := by
  rw [programmed, word_close, word_pulseChecks, word_put]

theorem closed_pulsedBy (f : Fuses) (w : Nat) (v : Word) (r : OtpEnd) : (f.pulsedBy w v r).closed = f.closed := by
  rw [pulsedBy, closed_pulseChecks, closed_put]

theorem spares_pulsedBy (f : Fuses) (w : Nat) (v : Word) (r : OtpEnd) : (f.pulsedBy w v r).spares = f.spares := by
  rw [pulsedBy, spares_pulseChecks, spares_put]

/-- A supply window that is left stops a programming (R420). -/
theorem program_of_window (f : Fuses) (w : Nat) (v : Word) {r : OtpEnd} (h : r.windowLeft = true) :
    f.program false w v r = (f.pulsedBy w v r, .otpSupplyWindow) := by
  unfold program
  rw [if_neg Bool.false_ne_true, if_pos h]
  rfl

section
variable (f : Fuses) (w : Nat) (v : Word) {r : OtpEnd} (hwin : r.windowLeft = false)
include hwin

theorem program_of_verified (h : r.verified = true) : f.program false w v r = (f.programmed w v, .ok) := by
  unfold program
  rw [if_neg Bool.false_ne_true, if_neg (by simp [hwin]), if_pos h]
  rfl

/-- A privileged word that does not verify has failed (R421). -/
theorem program_of_privileged (h : r.verified = false) (hw : w < 16) :
    f.program false w v r = (f.pulsedBy w v r, .otpProgramFailed) := by
  unfold program
  rw [if_neg Bool.false_ne_true, if_neg (by simp [hwin]), if_neg (by simp [h]), if_pos hw]
  rfl

/-- An ordinary word that does not verify reads from a spare row (R414, R421). -/
theorem program_of_spare (h : r.verified = false) (hw : 16 ≤ w) (hs : f.spares < 32) (hok : r.spareOk = true) :
    f.program false w v r =
      ({ f.pulsedBy w v r with rows := (w, f.word w ||| v) :: (f.pulsedBy w v r).rows }, .ok) := by
  unfold program
  rw [if_neg Bool.false_ne_true, if_neg (by simp [hwin]), if_neg (by simp [h]), if_neg (by omega), if_pos ⟨hs, hok⟩]
  rfl

end

theorem word_redirected (f : Fuses) (w : Nat) (v : Word) (x : Nat) :
    ({ f with rows := (w, v) :: f.rows } : Fuses).word x = if x = w then v else f.word x := by
  unfold word
  by_cases h : x = w
  · simp [h]
  · simp [List.lookup, h, beq_eq_false_iff_ne.mpr h]

end Fuses

namespace Dev

variable {d : Dev}

/-! ### The objects of the OTP controller -/

theorem slotNow_congr {d e : Dev} (hl : e.lanes = d.lanes) (hs : e.num 0x2500 1 = d.num 0x2500 1) : e.slotNow = d.slotNow := by
  have hlane : ∀ l, e.lane l = d.lane l := fun l => by rw [lane, hl, lane]
  rw [slotNow, slotNow, clkLane_congr (by rw [hlane]) hs, hlane]

theorem slotNow_incBy_fuses (d : Dev) (s n : Nat) (h : s < 256) : (d.incBy 0x2400 s n).slotNow = d.slotNow :=
  slotNow_congr rfl <| by
    unfold incBy
    exact num_put_of_idx_ne d _ (by decide) h (by decide)

/-- The margin map as the array holds it (R415). -/
def marginMap (d : Dev) : ObjVal := .bytes ((List.range 64).map fun i =>
  BitVec.ofNat 8 (bitsToNat ((List.range 8).map fun k => d.fuses.weak.contains (8 * i + k))))

theorem putMargins_eq (d : Dev) : d.putMargins = (d.putVal 0x2401 0 d.marginMap).put 0x2400 8 d.fuses.spares := rfl

/-- The margin map's write leaves every number but that of the spare rows. -/
theorem putMargins_leaves (d : Dev) : d.putMargins.fuses = d.fuses ∧ d.putMargins.otp = d.otp ∧ d.putMargins.net = d.net ∧
    d.putMargins.lanes = d.lanes ∧ d.putMargins.num 0x2400 8 = d.fuses.spares ∧
    (∀ s, s ≠ 8 → s < 256 → d.putMargins.num 0x2400 s = d.num 0x2400 s) ∧
    ∀ i s, i ≠ 0x2400 → i ≠ 0x2401 → s < 256 → d.putMargins.num i s = d.num i s := by
  rw [putMargins_eq]
  generalize d.marginMap = map
  refine ⟨rfl, rfl, rfl, rfl, num_put .., fun s hs h => ?_, fun i s h0 h1 h => ?_⟩
  · rw [num_put_of_sub_ne _ _ hs.symm (by decide) h, num_putVal_of_idx_ne _ _ (by decide) (by decide) h]
  · rw [num_put_of_idx_ne _ _ h0.symm (by decide) h, num_putVal_of_idx_ne _ _ h1.symm (by decide) h]

/-- The end of a fuse operation in its objects (R420). -/
theorem otpEnds_says (d : Dev) (res : Res) : (d.otpEnds res).num 0x2405 1 = (if res = Res.ok then 3 else 4) ∧
    (d.otpEnds res).num 0x2405 2 = res.code ∧ (d.otpEnds res).otp = { d.otp with op := none } ∧
    (d.otpEnds res).fuses = d.fuses ∧ ∀ i s, i ≠ 0x2405 → s < 256 → (d.otpEnds res).num i s = d.num i s := by
  refine ⟨?_, ?_, rfl, rfl, fun i s h hs => ?_⟩ <;> unfold otpEnds
  · rw [num_put_of_sub_ne _ _ (by decide) (by decide) (by decide), num_put]
  · exact num_put ..
  · rw [num_put_of_idx_ne _ _ h.symm (by decide) hs, num_put_of_idx_ne _ _ h.symm (by decide) hs]
    rfl

/-- The start of a fuse operation in its objects (R420). -/
theorem otpBegins_says (d : Dev) (op : OtpOp) (status : Int) (w : Nat) :
    (d.otpBegins op status w).num 0x2405 1 = status ∧ (d.otpBegins op status w).num 0x2405 3 = w := by
  refine ⟨?_, ?_⟩ <;> unfold otpBegins
  · rw [num_put_of_sub_ne _ _ (by decide) (by decide) (by decide), num_put_of_sub_ne _ _ (by decide) (by decide) (by decide),
      num_put]
  · exact num_put ..

/-! ### A programming -/

/-- The end of a programming as its pulses found the supply window (R420). -/
def windowed (d : Dev) (r : OtpEnd) : OtpEnd := { r with windowLeft := r.windowLeft || d.otp.left }

/-- The array's end after a programming, read back where it succeeded. -/
def fusesAfter (q : Fuses × Res) (w : Nat) (r : OtpEnd) : Fuses :=
  if q.2 = .ok then q.1.readWords [w] (if r.weak then [w] else []) (if r.broken then [w] else []) else q.1

theorem fusesAfter_says (q : Fuses × Res) (w : Nat) (r : OtpEnd) : (∀ x, (fusesAfter q w r).word x = q.1.word x) ∧
    (fusesAfter q w r).closed = q.1.closed ∧ (fusesAfter q w r).spares = q.1.spares := by
  unfold fusesAfter
  split_ifs <;> exact ⟨fun _ => rfl, rfl, rfl⟩

/-- What the read-back of a programmed word counts (R413). -/
def readBack (d : Dev) (f : Fuses) (res : Res) (r : OtpEnd) (w : Nat) : Dev :=
  if res = .ok ∧ r.corrected = true ∧ f.closed.contains w = true then d.inc 0x2400 9 else d

/-- The block with an array and the words that the shadows are to take. -/
def withArray (d : Dev) (f : Fuses) (due : List (Nat × Nat)) : Dev :=
  { d with fuses := f, otp := { d.otp with due := due } }

/-- A programming that found no spare row is flagged (R421). -/
def spareless (d : Dev) (b : Bool) : Dev := if b then d.putBit 0x2400 5 1 true else d

theorem readBack_leaves (d : Dev) (f : Fuses) (res : Res) (r : OtpEnd) (w : Nat) :
    (d.readBack f res r w).slotNow = d.slotNow ∧ (d.readBack f res r w).otp = d.otp := by
  unfold readBack
  split_ifs
  · exact ⟨d.slotNow_incBy_fuses 9 1 (by decide), rfl⟩
  · exact ⟨rfl, rfl⟩

theorem spareless_leaves (d : Dev) (b : Bool) : (d.spareless b).fuses = d.fuses ∧ (d.spareless b).otp = d.otp ∧
    ∀ s, s < 256 → (d.spareless b).num 0x2405 s = d.num 0x2405 s := by
  unfold spareless
  split_ifs
  · exact ⟨rfl, rfl, fun s hs => num_put_of_idx_ne _ _ (by decide) (by decide) hs⟩
  · exact ⟨rfl, rfl, fun _ _ => rfl⟩

theorem programFuse_eq (hok : d.devFaulted .commonOtp = false) (w : Nat) (v : Word) (r : OtpEnd) {f : Fuses} {res : Res}
    (hq : d.fuses.program false w v (d.windowed r) = (f, res)) :
    d.programFuse w v r =
      let g := fusesAfter (f, res) w (d.windowed r)
      let c := d.readBack g res (d.windowed r) w
      (((c.withArray g (if res = .ok then c.otp.due ++ [(w, c.slotNow + 1)] else c.otp.due)).otpEnds res).spareless
        (d.fuses.exhausts false w (d.windowed r))).putMargins := by
  unfold windowed at hq
  unfold programFuse
  dsimp only
  rw [hok, hq]
  rfl

/-- What a programming reports: its result, and on success the shadows' turn at the next boundary (R420). -/
theorem programFuse_says (hok : d.devFaulted .commonOtp = false) (w : Nat) (v : Word) (r : OtpEnd) {f : Fuses} {res : Res}
    (hq : d.fuses.program false w v (d.windowed r) = (f, res)) :
    let e := d.programFuse w v r
    (∀ x, e.fuses.word x = f.word x) ∧ e.fuses.closed = f.closed ∧ e.fuses.spares = f.spares ∧
    e.num 0x2400 8 = f.spares ∧ e.num 0x2405 1 = (if res = .ok then 3 else 4) ∧ e.num 0x2405 2 = res.code ∧
    e.otp.op = none ∧ e.otp.due = (if res = .ok then d.otp.due ++ [(w, d.slotNow + 1)] else d.otp.due) := by
  obtain ⟨hword, hclosed, hspares⟩ := fusesAfter_says (f, res) w (d.windowed r)
  obtain ⟨hslot, hotp⟩ := d.readBack_leaves (fusesAfter (f, res) w (d.windowed r)) res (d.windowed r) w
  rw [programFuse_eq hok w v r hq]
  dsimp only
  rw [hslot, hotp]
  generalize fusesAfter (f, res) w (d.windowed r) = g at *
  generalize d.readBack g res (d.windowed r) w = c at *
  generalize (if res = .ok then d.otp.due ++ [(w, d.slotNow + 1)] else d.otp.due) = due
  obtain ⟨h1, h2, ho, hf, -⟩ := (c.withArray g due).otpEnds_says res
  obtain ⟨hxf, hxo, hxn⟩ := ((c.withArray g due).otpEnds res).spareless_leaves (d.fuses.exhausts false w (d.windowed r))
  generalize ((c.withArray g due).otpEnds res).spareless (d.fuses.exhausts false w (d.windowed r)) = m at *
  obtain ⟨hmf, hmo, -, -, hm8, -, hmn⟩ := m.putMargins_leaves
  have hfuses : m.fuses = g := hxf.trans hf
  rw [hmf, hmo, hm8, hmn _ _ (by decide) (by decide) (by decide), hmn _ _ (by decide) (by decide) (by decide), hfuses,
    hxo, ho, hxn _ (by decide), hxn _ (by decide)]
  exact ⟨hword, hclosed, hspares, congrArg Nat.cast hspares, h1, h2, rfl, rfl⟩

end Dev
end Sys2Proof.Machine
end

section
/-! PROOF. O45: fuse words are programmed, regions locked and the array re-read (R413 to R427). -/

namespace Sys2Proof.Machine
namespace Dev

variable {d : Dev}

/-! ### Words and regions -/

theorem programWordStep_of_pub {v : ObjVal} {session origin : Nat} {rest : List Published}
    (hp : d.published = ⟨objKey 0x2402 0, v, session, origin⟩ :: rest) :
    programWordStep d = ((d.dropPub 0x2402 0).otpBegins
      (.program (rdLE v.toBytes 0 2) (BitVec.ofNat 32 (rdLE v.toBytes 4 4))) 1 (rdLE v.toBytes 0 2)).show := by
  unfold programWordStep
  rw [pubOf_head hp]

theorem lockRegionStep_of_pub {v : ObjVal} {session origin : Nat} {rest : List Published}
    (hp : d.published = ⟨objKey 0x2403 0, v, session, origin⟩ :: rest) :
    lockRegionStep d = ((d.dropPub 0x2403 0).otpBegins (.lock v.toInt.toNat) 2 (lockRegion v.toInt.toNat).2.2.2).show := by
  unfold lockRegionStep
  rw [pubOf_head hp]

theorem otpProgramCompleteStep_of_program {w : Nat} {v : Word} (r : OtpEnd) (hop : d.otp.op = some (.program w v))
    (hp : d.powered = true) (hf : d.frozen = false) : otpProgramCompleteStep r d = d.programFuse w v r := by
  unfold otpProgramCompleteStep
  rw [hop]
  exact if_neg (by simp [hp, hf])

/-- The block behind the reading of a region that is to be locked (R423). -/
def regionRead (d : Dev) (n : Nat) (x : WordsRead) : Dev :=
  { d with fuses := d.fuses.readWords (regionWords n) x.weak x.broken }.incBy 0x2400 9 x.corrected

theorem otpLockCompleteStep_of_lock {n : Nat} (x : WordsRead) (r : OtpEnd) (hop : d.otp.op = some (.lock n))
    (hp : d.powered = true) (hf : d.frozen = false) (hok : d.devFaulted .commonOtp = false) :
    otpLockCompleteStep x r d =
      if (d.fuses.readWords (regionWords n) x.weak x.broken).lockTest n x.weak then
        (d.regionRead n x).programFuse (lockRegion n).2.2.2 0x4C4F434B#32 r
      else ((d.regionRead n x).otpEnds .otpLockRefused).putMargins := by
  have hok' : ¬ (d.regionRead n x).devFaulted .commonOtp = true := Bool.not_eq_true _ ▸ hok
  unfold otpLockCompleteStep
  rw [hop]
  dsimp only
  rw [if_neg (by simp [hp, hf])]
  exact if_neg hok'

theorem regionRead_says (d : Dev) (n : Nat) (x : WordsRead) :
    (∀ w, (d.regionRead n x).fuses.word w = d.fuses.word w) ∧ (d.regionRead n x).otp = d.otp ∧
    (d.regionRead n x).slotNow = d.slotNow ∧
    (d.regionRead n x).num 0x2400 9 = min (d.num 0x2400 9 + x.corrected) 4294967295 :=
  ⟨fun _ => rfl, rfl, slotNow_incBy_fuses _ _ _ (by decide), num_incBy ..⟩

/-! ### The periodic re-read -/

/-- A drifted word noted (R426). -/
def driftNoted (d : Dev) (w : Nat) : Dev := ((d.inc 0x2400 6).put 0x2400 7 w).putBit 0x2400 5 0 true

/-- Drifted words noted one after the other. -/
def driftsNoted (d : Dev) (ws : List Nat) : Dev := ws.foldl driftNoted d

theorem num_driftNoted (d : Dev) (w : Nat) : (d.driftNoted w).num 0x2400 9 = d.num 0x2400 9 := by
  unfold driftNoted
  rw [num_putBit_ne _ _ _ _ _ _ _ (by decide), num_put_of_sub_ne _ _ (by decide) (by decide) (by decide),
    num_inc_of_sub_ne _ (by decide) (by decide) (by decide)]

theorem num_driftsNoted (d : Dev) (ws : List Nat) : (d.driftsNoted ws).num 0x2400 9 = d.num 0x2400 9 :=
  foldl_keeps (fun d : Dev => d.num 0x2400 9) (fun w _ d => num_driftNoted d w) d

theorem driftsNoted_leaves (d : Dev) (ws : List Nat) : (d.driftsNoted ws).fuses = d.fuses ∧ (d.driftsNoted ws).otp = d.otp :=
  ⟨foldl_keeps (f := driftNoted) fuses (fun _ _ _ => rfl) d, foldl_keeps (f := driftNoted) otp (fun _ _ _ => rfl) d⟩

/-- A re-read that finds drifted words says so (R426). -/
theorem bit_driftsNoted (d : Dev) {ws : List Nat} (h : ws ≠ []) : (d.driftsNoted ws).bit 0x2400 5 0 = true := by
  induction ws using List.reverseRecOn with
  | nil => exact absurd rfl h
  | append_singleton ws w _ =>
    unfold driftsNoted
    rw [List.foldl_append]
    exact bit_putBit_same ..

/-- The words that drift in a re-read. -/
def drifted (d : Dev) (before : List Nat) : List Nat := (List.range 512).filter fun w => d.drifts before w

theorem otpPeriodicRereadStep_of_due (hm : d.mode = 4 ∨ d.mode = 5) (hp : d.powered = true) (hf : d.frozen = false)
    (hdue : d.otp.reread + 20000000 ≤ d.slotNow) (x : OtpReading) (done : Bool) :
    otpPeriodicRereadStep x done d =
      let e : Dev := { d with otp := { d.otp with reread := d.slotNow } }
      let g : Dev := { e with fuses := e.fuses.readAll x }
      if done then ((g.driftsNoted (g.drifted d.fuses.weak)).incBy 0x2400 9 x.corrected).putMargins
      else e.deviceFault .commonOtp := by
  unfold otpPeriodicRereadStep
  exact if_pos ⟨hm, hp, hf, hdue⟩

theorem drifts_congr {d e : Dev} (hf : e.fuses = d.fuses) (hs : e.otp.shadows = d.otp.shadows) (hb : e.boot = d.boot)
    (before : List Nat) (w : Nat) : e.drifts before w = d.drifts before w := by
  unfold drifts lanesPresent shadowWord
  rw [hf, hs, hb]

theorem bit_congr {d e : Dev} {i s : Nat} (h : e.num i s = d.num i s) (k : Nat) : e.bit i s k = d.bit i s k := by
  unfold bit nat
  rw [h]

theorem devFaulted_deviceFault_commonOtp (d : Dev) : (d.deviceFault .commonOtp).devFaulted .commonOtp = true := by
  unfold deviceFault
  rw [if_neg (c := FaultId.commonOtp = .commonFlash ∨ FaultId.commonOtp = .commonTime) (by decide)]
  split_ifs with h
  · exact h
  · have hlist : (d.recordDeviceFault .commonOtp).devFaults = d.devFaults ++ [FaultId.commonOtp.code] :=
      if_neg (by simpa [devFaulted] using h)
    rw [devFaulted, devFaults_degradeEvent, hlist]
    simp

/-! ### A read of ordinary words -/

/-- Behind a transmit queue with room a success with its payload is the last frame. -/
theorem tx_respond_ok {d : Dev} {y : Reply} (hroom : (d.reqPort (originOf y.origin)).tx.length < txRoom (originOf y.origin))
    (payload : List Byte) : ((d.respond y .ok payload).reqPort (originOf y.origin)).tx =
      (d.reqPort (originOf y.origin)).tx ++ [d.response y .ok payload] := by
  have hsession : ∀ (e : Dev) f o, ((if y.session = 0 then e else e.onSession y.session f).reqPort o).tx = (e.reqPort o).tx :=
    fun e f o => by split_ifs <;> rfl
  have hstream : ∀ o pdu, (d.framed o 1 y.partner y.back pdu).stream = false := fun o _ => by cases o <;> rfl
  unfold respond response
  dsimp only
  rw [hsession, transmit, reqPort_onReqPort, if_neg (Nat.not_le.mpr hroom)]
  simp [hstream]

/-- The ordinary words that a read of n bytes from an offset covers (R427). -/
def ordinaryWords (off n : Nat) : List Nat := (List.range ((off + n + 3) / 4 - off / 4)).map fun i => 16 + off / 4 + i

theorem ordinaryWordsReadStep_of_waits {y : Reply} {off n : Nat} {rest : List (Reply × Nat × Nat)} (weak : List Nat)
    (hw : d.otp.waits = (y, off, n) :: rest) (hp : d.powered = true) (hf : d.frozen = false) :
    ordinaryWordsReadStep weak d =
      let e : Dev := { d with otp := { d.otp with waits := rest }, fuses := d.fuses.readWords (ordinaryWords off n) weak [] }
      (e.respond y .ok (toLE 4 1984 ++
        slice ((ordinaryWords off n).flatMap fun w => toLE 4 (d.fuses.word w).toNat) (off % 4) n)).putMargins := by
  unfold ordinaryWordsReadStep
  rw [hw]
  exact if_neg (by simp [hp, hf])

end Dev

theorem fuseWordsAreProgrammed : Says.FuseWordsAreProgrammed := by
  unfold Says.FuseWordsAreProgrammed
  intro s hs
  refine ⟨fun v session origin rest => ?_, fun w v r hop hp hok => ?_⟩
  · intro w hpub
    refine answers_of_awake hs rfl fun u hu => ?_
    obtain ⟨h1, h3⟩ := (s.dev.dropPub 0x2402 0).otpBegins_says (.program w (BitVec.ofNat 32 (rdLE v.toBytes 4 4))) 1 w
    rw [hu, Dev.programWordStep_of_pub hpub]
    exact ⟨rfl, (Dev.show_num ..).trans h1, (Dev.show_num ..).trans h3, Dev.published_dropPub_head hpub, rfl⟩
  · intro old
    have hstep := Dev.otpProgramCompleteStep_of_program r hop hp hs
    have hsays := fun f res hq => Dev.programFuse_says (f := f) (res := res) hok w v r hq
    rw [← hstep] at hsays
    refine ⟨fun hwin => ?_, fun hnow hbefore => ?_⟩
    · refine answers_of_awake hs rfl fun u hu => ?_
      obtain ⟨hword, -, -, -, h1, h2, hend, -⟩ :=
        hsays _ _ (Fuses.program_of_window _ w v (by simpa [Dev.windowed] using hwin))
      rw [hu]
      exact ⟨fun x => (hword x).trans (Fuses.word_pulsedBy ..), h1, h2, hend⟩
    have hwin : (s.dev.windowed r).windowLeft = false := by simp [Dev.windowed, hnow, hbefore]
    refine ⟨fun hver => ?_, fun hver hw => ?_, fun hver hw hsp hspare => ?_⟩ <;> refine answers_of_awake hs rfl fun u hu => ?_
    · obtain ⟨hword, hclosed, -, -, h1, h2, hend, hdue⟩ := hsays _ _ (Fuses.program_of_verified _ w v hwin hver)
      rw [hu]
      exact ⟨fun x => (hword x).trans (Fuses.word_programmed ..), h1, h2, hend, hdue,
        fun hw => hclosed ▸ Fuses.mem_closed_close _ hw⟩
    · obtain ⟨hword, hclosed, -, -, h1, h2, -, hdue⟩ := hsays _ _ (Fuses.program_of_privileged _ w v hwin hver hw)
      rw [hu]
      exact ⟨fun x => (hword x).trans (Fuses.word_pulsedBy ..), h1, h2, hdue, hclosed.trans (Fuses.closed_pulsedBy ..)⟩
    · obtain ⟨hword, -, hspares, h8, -⟩ := hsays _ _ (Fuses.program_of_spare _ w v hwin hver hw hsp hspare)
      rw [hu]
      refine ⟨hspares.trans (congrArg Nat.succ (Fuses.spares_pulsedBy ..)), h8.trans (congrArg Nat.cast hspares.symm), fun x => ?_⟩
      rw [hword, Fuses.word_redirected, Fuses.word_pulsedBy]
      split_ifs <;> rfl

theorem regionsAreLockedAndReread : Says.RegionsAreLockedAndReread := by
  unfold Says.RegionsAreLockedAndReread
  intro s hs
  refine ⟨fun v session origin rest hpub => ?_, fun n w r hop hp hok => ⟨fun hpass hver hwin hbefore => ?_, fun hfail => ?_⟩,
    fun x hm hp hdue => ⟨?_, ?_⟩, fun y off n rest weak hw hp hroom => ?_⟩ <;> refine answers_of_awake hs rfl fun u hu => ?_
  · obtain ⟨h1, h3⟩ := (s.dev.dropPub 0x2403 0).otpBegins_says (.lock v.toInt.toNat) 2 (lockRegion v.toInt.toNat).2.2.2
    rw [hu, Dev.lockRegionStep_of_pub hpub]
    exact ⟨rfl, (Dev.show_num ..).trans h1, (Dev.show_num ..).trans h3, Dev.published_dropPub_head hpub⟩
  · obtain ⟨hword, hotp, hslot, -⟩ := s.dev.regionRead_says n w
    have hwin' : ((s.dev.regionRead n w).windowed r).windowLeft = false := by simp [Dev.windowed, hotp, hwin, hbefore]
    obtain ⟨hprog, -, -, -, h1, -, -, hdue⟩ := Dev.programFuse_says (d := s.dev.regionRead n w) hok (lockRegion n).2.2.2
      0x4C4F434B#32 r (Fuses.program_of_verified _ _ _ hwin' hver)
    rw [hu, Dev.otpLockCompleteStep_of_lock w r hop hp hs hok, if_pos hpass]
    refine ⟨fun x => (hprog x).trans ((Fuses.word_programmed ..).trans ?_), h1, ?_⟩
    · simp only [hword]
    · rw [hdue, hslot]
      simp
  · obtain ⟨hword, hotp, -, h9⟩ := s.dev.regionRead_says n w
    obtain ⟨h1, h2, ho, hf, hn⟩ := (s.dev.regionRead n w).otpEnds_says .otpLockRefused
    rw [hu, Dev.otpLockCompleteStep_of_lock w r hop hp hs hok, if_neg (by simp [hfail])]
    obtain ⟨hmf, hmo, -, -, -, hm, hmn⟩ := ((s.dev.regionRead n w).otpEnds .otpLockRefused).putMargins_leaves
    rw [hmf, hmo, hm _ (by decide) (by decide), hmn _ _ (by decide) (by decide) (by decide),
      hmn _ _ (by decide) (by decide) (by decide), hf, ho, hn _ _ (by decide) (by decide)]
    exact ⟨hword, h9, h1, h2, by rw [hotp]⟩
  · rw [hu, Dev.otpPeriodicRereadStep_of_due hm hp hs hdue]
    dsimp only
    rw [if_pos rfl]
    generalize hg : ({ { s.dev with otp := { s.dev.otp with reread := s.dev.slotNow } } with
      fuses := s.dev.fuses.readAll x } : Dev) = g
    have hgf : g.fuses = s.dev.fuses.readAll x := by rw [← hg]
    have hgo : g.otp = { s.dev.otp with reread := s.dev.slotNow } := by rw [← hg]
    have hg9 : g.num 0x2400 9 = s.dev.num 0x2400 9 := by rw [← hg]; rfl
    have hgb : g.boot = s.dev.boot := by rw [← hg]
    obtain ⟨hdf, hdo⟩ := g.driftsNoted_leaves (g.drifted s.dev.fuses.weak)
    have hd9 := g.num_driftsNoted (g.drifted s.dev.fuses.weak)
    have hbit := g.bit_driftsNoted (ws := g.drifted s.dev.fuses.weak)
    have hdr : ∀ w, g.drifts s.dev.fuses.weak w =
        ({ s.dev with fuses := s.dev.fuses.readAll x } : Dev).drifts s.dev.fuses.weak w := fun w =>
      Dev.drifts_congr (d := { s.dev with fuses := s.dev.fuses.readAll x }) hgf (by rw [hgo]) hgb _ w
    generalize hds : g.drifted s.dev.fuses.weak = ds at *
    generalize g.driftsNoted ds = e at *
    obtain ⟨hmf, hmo, -, -, -, hm, -⟩ := (e.incBy 0x2400 9 x.corrected).putMargins_leaves
    rw [hmf, hmo, hm _ (by decide) (by decide), Dev.num_incBy, hd9, hg9]
    refine ⟨(congrArg Otp.reread hdo).trans (congrArg Otp.reread hgo), hdf.trans hgf, rfl, fun ⟨w, hw, hdw⟩ => ?_⟩
    rw [Dev.bit_congr (hm 5 (by decide) (by decide)), Dev.bit_congr (Dev.num_incBy_ne _ _ _ _ _ _ (by decide))]
    refine hbit (List.ne_nil_of_mem (a := w) ?_)
    rw [← hds]
    exact List.mem_filter.mpr ⟨List.mem_range.mpr hw, (hdr w).trans hdw⟩
  · rw [hu, Dev.otpPeriodicRereadStep_of_due hm hp hs hdue]
    exact ⟨Dev.devFaulted_deviceFault_commonOtp _, Dev.fuses_deviceFault ..⟩
  · rw [hu, Dev.ordinaryWordsReadStep_of_waits weak hw hp hs]
    dsimp only
    generalize hl : toLE 4 1984 ++ _ = payload
    generalize he : ({ s.dev with otp := { s.dev.otp with waits := rest }
                                  fuses := s.dev.fuses.readWords (Dev.ordinaryWords off n) weak [] } : Dev) = e
    have her : e.reqPort (originOf y.origin) = s.dev.reqPort (originOf y.origin) := by rw [← he]; rfl
    have heresp : e.response y .ok payload = s.dev.response y .ok payload := by rw [← he]; rfl
    have htx := Dev.tx_respond_ok (d := e) (by rw [her]; exact hroom) payload
    rw [her, heresp] at htx
    have hotp : (e.respond y .ok payload).otp = e.otp := Dev.respond_keeps (g := Dev.otp) (fun _ _ _ => rfl) e y .ok payload
    have hfus : (e.respond y .ok payload).fuses = e.fuses := Dev.fuses_respond ..
    obtain ⟨hmf, hmo, hmnet, -⟩ := (e.respond y .ok payload).putMargins_leaves
    have hmr : (e.respond y .ok payload).putMargins.reqPort (originOf y.origin) =
        (e.respond y .ok payload).reqPort (originOf y.origin) := by rw [Dev.reqPort, hmnet, Dev.reqPort]
    rw [hmf, hmo, hmr, hotp, hfus, htx, ← he, ← hl]
    exact ⟨rfl, fun _ => rfl, rfl⟩

/-- Settles O45: a programming ends in one of four ways, and the readings leave what the words hold. -/
theorem fusesAreProgrammedLockedAndReread : Obligations.FusesAreProgrammedLockedAndReread := by
  unfold Obligations.FusesAreProgrammedLockedAndReread
  exact ⟨fuseWordsAreProgrammed, regionsAreLockedAndReread⟩

end Sys2Proof.Machine
end

section
/-! PROOF. O44: device records, banks, fault traces and return consent (R394, R395, R442 to R444). -/

namespace Sys2Proof.Machine
namespace Dev

variable {d : Dev}

theorem deviceRecordWriteStep_of_due {j : JournalJob} {c : Change} {rest : List JournalJob} (hdue : d.wr.recDue = j :: rest)
    (hj : j.change = some c) (hp : d.powered = true) (hf : d.frozen = false) :
    deviceRecordWriteStep d = { d with
      flash := d.flash.putRecord (d.recordWith c)
      wr := { d.wr with recDue := rest, done := d.wr.done ++ [(j, d.slotNow)] } } := by
  unfold deviceRecordWriteStep
  rw [hdue]
  dsimp only
  rw [if_neg (by simp [hp, hf]), hj]

/-- What is written into the inactive bank is in the bank that is not the active one. -/
theorem bank_setInactive (f : Flash) (active : Nat) (b : List Byte) : (f.setInactive active b).bank (1 - active) = b := by
  unfold Flash.setInactive Flash.bank
  split_ifs with h h'
  · omega
  · rfl
  · rfl
  · omega

theorem bankEraseCompleteStep_of_op (hop : d.wr.op = some .bankErase) (hp : d.powered = true) (hf : d.frozen = false) :
    bankEraseCompleteStep d = { d with
      wr := { d.wr with op := none }
      flash := d.flash.setInactive (d.nat 0x2640 4) (d.bytes 0x1410 0) }.put 0x1413 2 2 :=
  if_pos ⟨hop, hp, hf⟩

theorem bankVerificationCompleteStep_of_op (hop : d.wr.op = some .bankCheck) (hp : d.powered = true) (hf : d.frozen = false) :
    bankVerificationCompleteStep d = { d with wr := { d.wr with op := none } }.put 0x1413 2
      (if bankOk (d.flash.bank (1 - d.nat 0x2640 4)) then 4 else 5) :=
  if_pos ⟨hop, hp, hf⟩

section
variable {v : ObjVal} {session origin : Nat} {rest : List Published}

theorem verifyInactiveBankStep_of_pub (hp : d.published = ⟨objKey 0x1411 0, v, session, origin⟩ :: rest) :
    verifyInactiveBankStep d =
      (({ d.dropPub 0x1411 0 with wr := { d.wr with op := some .bankCheck, opDue := false } } : Dev).put 0x1413 2 3).show := by
  unfold verifyInactiveBankStep
  rw [pubOf_head hp]
  rfl

theorem switchBanksStep_of_pub (hp : d.published = ⟨objKey 0x1412 0, v, session, origin⟩ :: rest) :
    switchBanksStep d = ((d.dropPub 0x1412 0).put 0x1413 1 (1 - d.nat 0x2640 4 : Nat)).show := by
  unfold switchBanksStep
  rw [pubOf_head hp]

/-- A write of the consent object sets a consent or clears it (R443). -/
theorem returnConsentSetStep_of_pub (hp : d.published = ⟨objKey 0x2730 1, v, session, origin⟩ :: rest) :
    (v.toInt = 1 → ∃ ident, returnConsentSetStep d =
      ({ (d.dropPub 0x2730 1).putConsent true ident with freeIx := d.freeIx + 8 } : Dev).show) ∧
    (v.toInt ≠ 1 → returnConsentSetStep d = d) := by
  unfold returnConsentSetStep
  rw [pubOf_head hp]
  exact ⟨fun h => ⟨_, if_pos h⟩, fun h => if_neg h⟩

theorem returnConsentClearStep_of_pub (hp : d.published = ⟨objKey 0x2730 1, v, session, origin⟩ :: rest) :
    (v.toInt = 0 → returnConsentClearStep d = ((d.dropPub 0x2730 1).putConsent false 0).show) ∧
    (v.toInt ≠ 0 → returnConsentClearStep d = d) := by
  unfold returnConsentClearStep
  rw [pubOf_head hp]
  exact ⟨fun h => if_pos h, fun h => if_neg h⟩

end

theorem putConsent_says (d : Dev) (on : Bool) (ident : Nat) :
    (∃ c, (d.putConsent on ident).flash.consent = some c ∧ c.on = on ∧ c.ident = ident) ∧
    (d.putConsent on ident).num 0x2730 2 = ident ∧ (d.putConsent on ident).published = d.published :=
  ⟨⟨_, rfl, rfl, rfl⟩, num_put .., rfl⟩

/-! ### Traces -/

theorem putTraces_says (d : Dev) : d.putTraces.flash = d.flash ∧ d.putTraces.wr = d.wr ∧
    d.putTraces.num 0x2721 1 = d.flash.traceNo := by
  unfold putTraces
  split
  · exact ⟨rfl, rfl, (num_put_of_sub_ne _ _ (by decide) (by decide) (by decide)).trans (num_put ..)⟩
  · exact ⟨rfl, rfl, (num_put_of_sub_ne _ _ (by decide) (by decide) (by decide)).trans (num_put ..)⟩

theorem traceRecordWriteStep_of_queued {t : TraceRec} {rest : List TraceRec} (hq : d.wr.traceQ = t :: rest)
    (hp : d.powered = true) (hf : d.frozen = false) (hok : d.devFaulted .commonFlash = false) :
    traceRecordWriteStep d =
      ({ d with wr := { d.wr with traceQ := rest }, flash := d.flash.addTrace t } : Dev).putTraces := by
  unfold traceRecordWriteStep
  rw [hq]
  exact if_pos (by simp [hp, hf, hok])

end Dev

theorem recordsAndBanksAreWritten : Says.RecordsAndBanksAreWritten := by
  unfold Says.RecordsAndBanksAreWritten
  intro s hs
  refine ⟨fun hp => ⟨fun j c rest hdue hj => ?_, fun hop => ?_, fun hop => ?_⟩, fun hop => ⟨?_, ?_⟩,
    fun v session origin rest => ⟨fun hpub => ?_, fun hpub => ?_⟩⟩
  · refine answers_of_awake hs rfl fun u hu => ?_
    rw [hu, Dev.deviceRecordWriteStep_of_due hdue hj hp hs]
    exact ⟨rfl, rfl, rfl, rfl⟩
  · refine answers_of_awake hs rfl fun u hu => ?_
    rw [hu, Dev.bankEraseCompleteStep_of_op hop hp hs]
    exact ⟨rfl, Dev.num_put .., Dev.bank_setInactive ..⟩
  · refine answers_of_awake hs rfl fun u hu => ?_
    rw [hu, Dev.bankVerificationCompleteStep_of_op hop hp hs]
    exact ⟨rfl, rfl, Dev.num_put ..⟩
  · exact exec_of_fixed rfl (if_neg (by simp [hop]))
  · exact exec_of_fixed rfl (if_neg (by simp [hop]))
  · refine answers_of_awake hs rfl fun u hu => ?_
    rw [hu, Dev.verifyInactiveBankStep_of_pub hpub]
    exact ⟨rfl, (Dev.show_num ..).trans (Dev.num_put ..), Dev.published_dropPub_head hpub⟩
  · refine answers_of_awake hs rfl fun u hu => ?_
    rw [hu, Dev.switchBanksStep_of_pub hpub]
    exact ⟨(Dev.show_num ..).trans (Dev.num_put ..), Dev.published_dropPub_head hpub, rfl⟩

theorem tracesAndConsentAreRecorded : Says.TracesAndConsentAreRecorded := by
  unfold Says.TracesAndConsentAreRecorded
  intro s hs
  refine ⟨fun t rest hq hp hok => ?_, fun hq => ?_, fun v session origin rest hpub => ⟨fun hv => ⟨?_, ?_⟩, fun hv => ⟨?_, ?_⟩⟩⟩
  · refine answers_of_awake hs rfl fun u hu => ?_
    obtain ⟨hflash, hwr, hnum⟩ := Dev.putTraces_says
      { s.dev with wr := { s.dev.wr with traceQ := rest }, flash := s.dev.flash.addTrace t }
    rw [hu, Dev.traceRecordWriteStep_of_queued hq hp hs hok, hflash, hwr, hnum]
    exact ⟨rfl, rfl, rfl, rfl⟩
  · refine exec_of_fixed rfl ?_
    unfold traceRecordWriteStep
    rw [hq]
  · refine answers_of_awake hs rfl fun u hu => ?_
    obtain ⟨ident, hstep⟩ := (Dev.returnConsentSetStep_of_pub hpub).1 hv
    obtain ⟨⟨c, hc, hon, hid⟩, hnum, hrest⟩ := (s.dev.dropPub 0x2730 1).putConsent_says true ident
    rw [hu, hstep]
    exact ⟨⟨c, hc, hon, (Dev.show_num ..).trans (hnum.trans (congrArg Nat.cast hid.symm))⟩,
      hrest.trans (Dev.published_dropPub_head hpub)⟩
  · exact exec_of_fixed rfl ((Dev.returnConsentClearStep_of_pub hpub).2 (by simp [hv]))
  · refine answers_of_awake hs rfl fun u hu => ?_
    obtain ⟨hc, hnum, hrest⟩ := (s.dev.dropPub 0x2730 1).putConsent_says false 0
    rw [hu, (Dev.returnConsentClearStep_of_pub hpub).1 hv]
    exact ⟨hc, (Dev.show_num ..).trans hnum, hrest.trans (Dev.published_dropPub_head hpub)⟩
  · exact exec_of_fixed rfl ((Dev.returnConsentSetStep_of_pub hpub).2 (by simp [hv]))

/-- Settles O44: each command by the equation of its step where its condition is met. -/
theorem recordsBanksTracesAndConsent : Obligations.RecordsBanksTracesAndConsent := by
  unfold Obligations.RecordsBanksTracesAndConsent
  exact ⟨recordsAndBanksAreWritten, tracesAndConsentAreRecorded⟩

end Sys2Proof.Machine
end

section
/-! SUPPORT. What a load leaves once its values stand: the objects that profiles hold, and the image in activation (R82, R386,
R389, R474). -/

namespace Sys2Proof.Machine

/-- Whether no Configuration row has an object, so that no profile holds it (R386). -/
def statusKey (i s : Nat) : Bool :=
  objRows.all fun r => r.cls != .config || r.base != normIdx i || !(decide (r.lo ≤ s) && decide (s ≤ r.hi))

theorem not_mem_profileKeys_of_statusKey {i s : Nat} (hs : s < 256) (h : statusKey i s = true) : objKey i s ∉ profileKeys := by
  intro hmem
  obtain ⟨r, hr, hbase, hlo, hhi, hcls⟩ := config_row_of_mem_profileKeys hmem
  have hdiv : objKey i s / 256 = i := by unfold objKey; omega
  have hmod : objKey i s % 256 = s := by unfold objKey; omega
  rw [hdiv] at hbase
  rw [hmod] at hlo hhi
  have hrow := List.all_eq_true.mp h r hr
  simp [hcls, hbase, hlo, hhi] at hrow

/-- The objects of an index stand under the row of its first unit. -/
theorem statusKey_congr {i j : Nat} (h : normIdx i = normIdx j) (s : Nat) : statusKey i s = statusKey j s := by
  unfold statusKey
  rw [h]

theorem normIdx_of_port {i : Nat} (hlo : 0x3000 ≤ i) (hhi : i < 0x3400) (hpair : i % 256 ≠ 0x24) :
    normIdx i = 0x3000 + i % 256 := by
  unfold normIdx
  rw [if_pos ⟨hlo, hhi⟩, if_neg hpair]

theorem statusKey_pidx (p : PortId) {blk : Nat} (hblk : blk < 256) (hpair : blk ≠ 0x24) (s : Nat) :
    statusKey (pidx p blk) s = statusKey (0x3000 + blk) s := by
  have hp : p.num < 4 := by cases p <;> decide
  have hmod : pidx p blk % 256 = blk := by unfold pidx; omega
  have hmod' : (0x3000 + blk) % 256 = blk := by omega
  refine statusKey_congr ?_ s
  rw [normIdx_of_port (by unfold pidx; omega) (by unfold pidx; omega) (by omega),
    normIdx_of_port (by omega) (by omega) (by omega), hmod, hmod']

theorem statusKey_streamIdx {s : Nat} (hs : s < 16) (j : Nat) : statusKey (streamIdx s) j = statusKey 0x1160 j := by
  refine statusKey_congr ?_ j
  unfold normIdx streamIdx
  simp (disch := omega) only [if_neg, if_pos]

/-- The status objects that a load writes itself, those of a port at its first unit. -/
def loadKeys : List (Nat × Nat) :=
  [(0x1200, 5), (0x2100, 5), (0x2100, 6), (0x2100, 0xA), (0x2100, 0xC), (0x1400, 1), (0x1400, 2), (0x1400, 4),
    (0x1160, 0x10), (0x1160, 0x11), (0x1110, 0x10), (0x1110, 0x11), (0x1120, 0x10), (0x1120, 0x11), (0x2120, 0x10),
    (0x2121, 0x10), (0x2510, 0x14), (0x2511, 0x14), (0x3030, 0xC), (0x3040, 0x12), (0x2500, 1)]

theorem statusKey_of_mem_loadKeys : ∀ e ∈ loadKeys, statusKey e.1 e.2 = true := by decide +kernel

/-- The status objects that an image's activation writes, those of a port at its first unit. -/
def imageKeys : List (Nat × Nat) :=
  [(0x2600, 1), (0x2600, 2), (0x2600, 3), (0x2600, 4), (0x2630, 0), (0x2644, 0), (0x2132, 0), (0x3000, 1), (0x3000, 2),
    (0x3000, 3), (0x3000, 4), (0x3000, 5), (0x3000, 6), (0x3000, 7), (0x3000, 8), (0x3040, 0x10), (0x3040, 0x11),
    (0x3040, 0x12), (0x3040, 0x15)]

theorem statusKey_of_mem_imageKeys : ∀ e ∈ imageKeys, statusKey e.1 e.2 = true := by decide +kernel

theorem statusKey_busy : ∀ n < 12, statusKey 0x2643 (n + 1) = true := by decide +kernel

theorem statusKey_timed : ∀ n < 32, statusKey 0x2131 (n + 1) = true := by decide +kernel

theorem statusKey_gc : ∀ g : GcId, statusKey (gcIdx g 3) 1 = true ∧ statusKey (gcIdx g 3) 3 = true := by
  intro g
  cases g <;> decide +kernel

theorem statusKey_statusSubs : ∀ e ∈ statusSubs, statusKey (0x3000 + e.1) e.2 = true ∧ e.1 < 256 ∧ e.1 ≠ 0x24 ∧ e.2 < 256 := by
  decide +kernel

/-- What a load gives its values: the objects that profiles hold. -/
abbrev ProfileValues := { k : Nat // k ∈ profileKeys } → ObjVal

namespace Dev

/-- The values of the objects that profiles hold. -/
def held (d : Dev) : ProfileValues := fun k => d.objs.get k.1

theorem held_congr {d e : Dev} (h : e.objs = d.objs) : e.held = d.held := by
  unfold held
  rw [h]

/-! ### Writes of status objects -/

theorem held_putVal (d : Dev) {i s : Nat} (v : ObjVal) (h : statusKey i s = true) (hs : s < 256) :
    (d.putVal i s v).held = d.held := by
  refine funext fun k => ObjStore.get_put_ne _ _ _ _ fun heq => ?_
  exact not_mem_profileKeys_of_statusKey hs h (heq ▸ k.2)

theorem held_put (d : Dev) {i s : Nat} (v : Int) (h : statusKey i s = true) (hs : s < 256) : (d.put i s v).held = d.held :=
  held_putVal d _ h hs

theorem held_pput (d : Dev) (p : PortId) {blk s : Nat} (v : Int) (h : statusKey (0x3000 + blk) s = true) (hs : s < 256)
    (hblk : blk < 256) (hpair : blk ≠ 0x24) : (d.pput p blk s v).held = d.held :=
  held_put d v ((statusKey_pidx p hblk hpair s).trans h) hs

/-- A write of one of a load's status objects. -/
theorem held_put_load (d : Dev) {i s : Nat} (v : Int) (h : (i, s) ∈ loadKeys) (hs : s < 256) : (d.put i s v).held = d.held :=
  held_put d v (statusKey_of_mem_loadKeys _ h) hs

theorem held_pput_load (d : Dev) (p : PortId) {blk s : Nat} (v : Int) (h : (0x3000 + blk, s) ∈ loadKeys) (hs : s < 256)
    (hblk : blk < 256) (hpair : blk ≠ 0x24) : (d.pput p blk s v).held = d.held :=
  held_pput d p v (statusKey_of_mem_loadKeys _ h) hs hblk hpair

theorem held_putBit_load (d : Dev) {i s : Nat} (k : Nat) (b : Bool) (h : (i, s) ∈ loadKeys) (hs : s < 256) :
    (d.putBit i s k b).held = d.held := held_put_load d _ h hs

/-- A write of one of an image's status objects. -/
theorem held_put_image (d : Dev) {i s : Nat} (v : Int) (h : (i, s) ∈ imageKeys) (hs : s < 256) : (d.put i s v).held = d.held :=
  held_put d v (statusKey_of_mem_imageKeys _ h) hs

theorem held_pput_image (d : Dev) (p : PortId) {blk s : Nat} (v : Int) (h : (0x3000 + blk, s) ∈ imageKeys) (hs : s < 256)
    (hblk : blk < 256) (hpair : blk ≠ 0x24) : (d.pput p blk s v).held = d.held :=
  held_pput d p v (statusKey_of_mem_imageKeys _ h) hs hblk hpair

/-! ### The activation -/

theorem held_putTopology (d : Dev) (im : Image) (p : PortId) : (d.putTopology im p).held = d.held := by
  unfold putTopology
  simp (disch := decide) only [held_pput_image]

theorem held_putCarrier (d : Dev) (im : Image) (p : PortId) : (d.putCarrier im p).held = d.held := by
  unfold putCarrier
  simp (disch := decide) only [held_pput_image]

theorem held_putRadius (d : Dev) (p : PortId) : (d.putRadius p).held = d.held :=
  held_pput_load _ _ _ (by decide) (by decide) (by decide) (by decide)

theorem held_putImage (d : Dev) (im : Image) (source : Nat) (hbusy : im.busy.length = 12) :
    (d.putImage im source).held = d.held := by
  unfold putImage
  dsimp only
  rw [foldl_keeps held fun p _ d => by rw [held_putRadius, held_putCarrier, held_putTopology],
    foldl_keeps held fun e he d => ?_]
  · rw [held_put_image _ _ (by decide) (by decide), held_putVal _ _ (statusKey_of_mem_imageKeys (0x2630, 0) (by decide)) (by decide),
      held_put_image _ _ (by decide) (by decide), held_put_image _ _ (by decide) (by decide),
      held_putVal _ _ (statusKey_of_mem_imageKeys (0x2600, 2) (by decide)) (by decide), held_put_image _ _ (by decide) (by decide)]
  · have hlt := List.snd_lt_of_mem_zipIdx he
    exact held_put d _ (statusKey_busy _ (by omega)) (by omega)

theorem held_gcHold (d : Dev) (g : GcId) : (d.gcHold g).held = d.held := by
  obtain ⟨h1, h3⟩ := statusKey_gc g
  unfold gcHold gcPause
  dsimp only
  split_ifs
  · rw [putBit, held_put _ _ h3 (by decide), putBit, held_put _ _ h3 (by decide), held_put _ _ h1 (by decide)]
    rfl
  · rfl

theorem held_unboundStatus (d : Dev) (im : Image) (p : PortId) : (d.unboundStatus im p).held = d.held := by
  refine foldl_keeps held (fun e he d => ?_) d
  obtain ⟨hkey, hblk, hpair, hs⟩ := statusKey_statusSubs e he
  split_ifs
  · rfl
  · exact held_pput d p _ hkey hs hblk hpair

theorem held_putPhase (d : Dev) (e : Option Int) : (d.putPhase e).held = d.held :=
  foldl_keeps held (fun p _ d => held_pput_image d p _ (by decide) (by decide) (by decide) (by decide)) d

theorem held_cancelUnclaimed (d : Dev) : d.cancelUnclaimed.held = d.held := by
  refine foldl_keeps held (fun i hi d => ?_) d
  have hlt := List.mem_range.mp hi
  dsimp only
  split_ifs
  · unfold putTimed
    dsimp only
    rw [held_put_image _ _ (by decide) (by decide), held_putVal _ _ (statusKey_timed i hlt) (by omega)]
    rfl
  · rfl

theorem held_activate (d : Dev) (im : Image) (source : Nat) (hbusy : im.busy.length = 12) :
    (d.activate im source).held = d.held := by
  rw [activate_eq, held_cancelUnclaimed]
  unfold gridMoved oldImageStopped
  refine (held_congr rfl).trans ((held_putPhase ..).trans ?_)
  rw [foldl_keeps held fun g _ d => held_gcHold d g, foldl_keeps held fun p _ d => held_unboundStatus d im p,
    foldl_keeps (f := fun d p => d.onPort p fun x => x.imageStops (d.slotOf p)) held fun p _ d => held_congr rfl,
    held_putImage _ _ _ hbusy]
  rfl

/-! ### What follows from the values -/

theorem held_streamPut (d : Dev) {s : Nat} (hs : s < 16) (v : Int) : (d.put (streamIdx s) 0x10 v).held = d.held ∧
    (d.put (streamIdx s) 0x11 v).held = d.held :=
  ⟨held_put d v ((statusKey_streamIdx hs _).trans (statusKey_of_mem_loadKeys (0x1160, 0x10) (by decide))) (by decide),
    held_put d v ((statusKey_streamIdx hs _).trans (statusKey_of_mem_loadKeys (0x1160, 0x11) (by decide))) (by decide)⟩

theorem held_journalEvent (d : Dev) (c : Ctx) (code key : Nat) (new : List Byte) :
    (d.journalEvent c code key new).held = d.held := by
  unfold journalEvent
  dsimp only
  split_ifs
  · exact held_congr rfl
  · exact held_put_load d _ (by decide) (by decide)

theorem held_detach (d : Dev) {s : Nat} (hs : s < 16) : (d.detach s).held = d.held := by
  unfold detach streamEvent
  dsimp only
  split_ifs
  · rfl
  all_goals simp only [held_streamPut _ hs, held_journalEvent]

theorem held_streamEnabled (d : Dev) {s : Nat} (hs : s < 16) : (d.streamEnabled s).held = d.held := by
  unfold streamEnabled
  split_ifs
  · rw [(held_streamPut _ hs _).1, held_detach _ hs]
  · rw [(held_streamPut _ hs _).1]
    rfl
  · rfl

theorem held_comparePairs (d : Dev) : d.comparePairs.held = d.held := by
  refine foldl_keeps held (fun y _ d => ?_) d
  split_ifs
  · cases y <;> exact held_putBit_load d _ _ (by decide) (by decide)
  · rfl

theorem held_putIpv4 (d : Dev) {i : Nat} (hi : i ∈ [0x1110, 0x1120]) : (d.putIpv4 i).held = d.held := by
  have hkeys : ∀ i ∈ [0x1110, 0x1120], (i, 0x10) ∈ loadKeys ∧ (i, 0x11) ∈ loadKeys := by decide
  obtain ⟨h10, h11⟩ := hkeys i hi
  unfold putIpv4
  rw [held_putBit_load _ _ _ h10 (by decide), held_putBit_load _ _ _ h10 (by decide), held_put_load _ _ h11 (by decide)]

theorem held_setDomState (d : Dev) (x : DomId) (v : Nat) : (d.setDomState x v).held = d.held := by
  cases x <;> exact held_put_load d _ (by decide) (by decide)

theorem held_setAt (d : Dev) (st src : Nat) : (d.setAt st src).held = d.held := by
  unfold setAt
  rw [held_putBit_load _ _ _ (by decide) (by decide), held_put_load _ _ (by decide) (by decide),
    held_put_load _ _ (by decide) (by decide)]

theorem held_flagSetAt (d : Dev) (st src : Nat) (b : Bool) : ((d.setAt st src).putBit 0x2100 0xA 4 b).held = d.held :=
  (held_putBit_load _ _ _ (by decide) (by decide)).trans (held_setAt ..)

theorem held_atSwitch (d : Dev) (x : DomId) : (d.atSwitch x).held = d.held := by
  unfold atSwitch
  split_ifs
  · exact held_flagSetAt ..
  · exact held_flagSetAt ..
  · exact held_setAt ..

theorem held_retune (d : Dev) : d.retune.held = d.held :=
  (held_put_load _ _ (by decide) (by decide)).trans (held_congr rfl)

theorem held_atSelect (d : Dev) : d.atSelect.held = d.held := by
  unfold atSelect
  rw [held_retune]
  dsimp only
  split
  · split
    · rfl
    · exact (held_setAt ..).trans (held_congr rfl)
  · split_ifs
    · exact held_setAt ..
    · exact held_setAt ..
    · exact held_atSwitch ..
    · exact held_flagSetAt ..
    · exact held_flagSetAt ..
    · rfl
    · rfl
    · exact held_atSwitch ..

theorem held_with_time_grid (d : Dev) (t : TimeUnit) (g : Grid) : ({ d with time := t, grid := g } : Dev).held = d.held := rfl

/-- What a load makes of a port: its scalings, the limit's radius, the code forms and the feedback from its reset state. -/
def portLoaded (d : Dev) (p : PortId) : Dev :=
  (((d.putLsb p).putRadius p).convert p).onPort p fun x =>
    { x with fb := Feedback.atReset }.fbSelected ((d.lane p.lane).clk 0)

theorem held_portLoaded (d : Dev) (p : PortId) : (d.portLoaded p).held = d.held := by
  have hconvert : ∀ e : Dev, (e.convert p).held = e.held := fun e => held_congr (onPort_objs ..)
  unfold portLoaded
  rw [held_congr (onPort_objs ..), hconvert, held_putRadius, putLsb]
  exact held_pput_load d p _ (by decide) (by decide) (by decide) (by decide)

theorem held_afterLoad (d : Dev) : d.afterLoad.held = d.held := by
  have hdom : ∀ (x : DomId) (d : Dev), (if d.num (domIdx x) 1 = 0 then d.setDomState x 0
      else if d.domState x = 0 then d.setDomState x 1 else d).held = d.held := fun x d => by
    split_ifs
    · exact held_setDomState ..
    · exact held_setDomState ..
    · rfl
  have hip : ∀ i ∈ [0x1110, 0x1120], ∀ d : Dev, (if d.absent i then d else d.putIpv4 i).held = d.held := fun i hi d => by
    split_ifs
    · rfl
    · exact held_putIpv4 d hi
  unfold afterLoad
  dsimp only
  rw [held_atSelect, held_with_time_grid, foldl_keeps held fun x _ d => hdom x d, foldl_keeps held hip,
    foldl_keeps held fun s hs d => held_streamEnabled d (List.mem_range.mp hs), held_comparePairs]
  exact foldl_keeps (f := portLoaded) held (fun p _ d => held_portLoaded d p) d

end Dev
end Sys2Proof.Machine
end

section
/-! SUPPORT. The image in activation through a load, and the values that a load gives (R82, R389). -/

namespace Sys2Proof.Machine

/-- A list of writes gives each of its objects its own value. -/
theorem get_foldl_put_of_mem {ks : List Nat} (f : Nat → ObjVal) {k : Nat} (h : k ∈ ks) (st : ObjStore) :
    (ks.foldl (fun o k => o.put k (f k)) st).get k = f k := by
  induction ks generalizing st with
  | nil => exact absurd h List.not_mem_nil
  | cons j ks ih =>
    rw [List.foldl_cons]
    by_cases hk : k ∈ ks
    · exact ih hk _
    · obtain rfl := (List.mem_cons.mp h).resolve_right hk
      rw [ObjStore.get_foldl_put f hk, ObjStore.get_put_same]

namespace Dev

variable {d : Dev}

/-- The image and the slot in which its hyperframes begin. -/
def coming (d : Dev) : Option Image × Option Nat := (d.image, d.activeAt)

/-! ### What leaves the image -/

theorem coming_journalEvent (d : Dev) (c : Ctx) (code key : Nat) (new : List Byte) :
    (d.journalEvent c code key new).coming = d.coming := by
  unfold journalEvent
  dsimp only
  split_ifs <;> rfl

theorem coming_streamEnabled (d : Dev) (s : Nat) : (d.streamEnabled s).coming = d.coming := by
  have hput : ∀ (d : Dev) i j v, (d.put i j v).coming = d.coming := fun _ _ _ _ => rfl
  unfold streamEnabled detach streamEvent
  dsimp only
  split_ifs <;> simp only [hput, coming_journalEvent]
  rfl

theorem coming_comparePairs (d : Dev) : d.comparePairs.coming = d.coming :=
  foldl_keeps coming (fun _ _ d => by split_ifs <;> rfl) d

theorem coming_atSwitch (d : Dev) (x : DomId) : (d.atSwitch x).coming = d.coming := by
  unfold atSwitch
  split_ifs <;> rfl

theorem coming_retune (d : Dev) : d.retune.coming = d.coming := rfl

theorem coming_atSelect (d : Dev) : d.atSelect.coming = d.coming := by
  unfold atSelect
  rw [coming_retune]
  dsimp only
  split
  · split <;> rfl
  · split_ifs
    · rfl
    · rfl
    · exact coming_atSwitch ..
    · rfl
    · rfl
    · rfl
    · rfl
    · exact coming_atSwitch ..

theorem coming_with_time_grid (d : Dev) (t : TimeUnit) (g : Grid) :
    ({ d with time := t, grid := g } : Dev).coming = d.coming := rfl

theorem coming_portLoaded (d : Dev) (p : PortId) : (d.portLoaded p).coming = d.coming := by
  have hport : ∀ (d : Dev) (f : Port → Port), (d.onPort p f).coming = d.coming := fun _ _ => rfl
  have hput : ∀ (d : Dev) b s v, (d.pput p b s v).coming = d.coming := fun _ _ _ _ => rfl
  unfold portLoaded convert
  dsimp only
  rw [hport, hport, putRadius, hput, putLsb, hput]

theorem coming_afterLoad (d : Dev) : d.afterLoad.coming = d.coming := by
  have hdom : ∀ (x : DomId) (d : Dev), (if d.num (domIdx x) 1 = 0 then d.setDomState x 0
      else if d.domState x = 0 then d.setDomState x 1 else d).coming = d.coming := fun x d => by
    split_ifs <;> rfl
  have hip : ∀ (i : Nat) (d : Dev), (if d.absent i then d else d.putIpv4 i).coming = d.coming := fun i d => by
    split_ifs <;> rfl
  unfold afterLoad
  dsimp only
  rw [coming_atSelect, coming_with_time_grid, foldl_keeps coming fun x _ d => hdom x d,
    foldl_keeps coming fun i _ d => hip i d, foldl_keeps coming fun s _ d => coming_streamEnabled d s, coming_comparePairs]
  exact foldl_keeps (f := portLoaded) coming (fun p _ d => coming_portLoaded d p) d

theorem coming_activate (d : Dev) (im : Image) (source : Nat) :
    (d.activate im source).coming = (some im, some (d.slotNow + 2000)) := by
  obtain ⟨-, hdue, -⟩ := activate_awaits d im source
  unfold coming
  rw [image_activate, hdue]

/-! ### The values of a load -/

/-- A port whose sense gain is not the one it had has a calibration pass due (R389). -/
def gainMoved (d : Dev) (g : PortId × Int) : Dev :=
  if d.pnum g.1 0x30 1 = g.2 then d else d.onPort g.1 fun x => { x with fe := { x.fe with calDue := true } }

theorem gainMoved_leaves (d : Dev) (g : PortId × Int) : (d.gainMoved g).objs = d.objs ∧ (d.gainMoved g).lanes = d.lanes := by
  unfold gainMoved
  split_ifs
  · exact ⟨rfl, rfl⟩
  · exact ⟨onPort_objs .., rfl⟩

/-- The calibration passes of the ports whose sense gain a load changes. -/
def gainsMoved (d : Dev) (gains : List (PortId × Int)) : Dev := gains.foldl gainMoved d

theorem gainsMoved_leaves (d : Dev) (gains : List (PortId × Int)) : (d.gainsMoved gains).objs = d.objs ∧
    (d.gainsMoved gains).lanes = d.lanes :=
  ⟨foldl_keeps objs (fun g _ d => (gainMoved_leaves d g).1) d, foldl_keeps lanes (fun g _ d => (gainMoved_leaves d g).2) d⟩

/-- The block with the values of a load and the calibration passes that fall due (R389). -/
def valuesLoaded (d : Dev) (recs : List (Nat × List Byte)) : Dev :=
  (d.withValues recs).gainsMoved (PortId.all.map fun p => (p, d.pnum p 0x30 1))

theorem held_valuesLoaded (d : Dev) (recs : List (Nat × List Byte)) :
    (d.valuesLoaded recs).held = fun k => d.loadedVal recs k.1 := by
  have hobjs : (d.valuesLoaded recs).objs = (d.withValues recs).objs := (gainsMoved_leaves ..).1
  rw [held_congr hobjs]
  funext k
  simp only [held, withValues, get_foldl_put_of_mem (d.loadedVal recs) k.2]

theorem slotNow_valuesLoaded (d : Dev) (recs : List (Nat × List Byte)) : (d.valuesLoaded recs).slotNow = d.slotNow := by
  obtain ⟨hobjs, hlanes⟩ := (d.withValues recs).gainsMoved_leaves (PortId.all.map fun p => (p, d.pnum p 0x30 1))
  have hlost : objKey 0x2500 1 ∉ profileKeys :=
    not_mem_profileKeys_of_statusKey (by decide) (statusKey_of_mem_loadKeys (0x2500, 1) (by decide))
  have hnum : (d.withValues recs).num 0x2500 1 = d.num 0x2500 1 := by
    simp only [num, withValues, ObjStore.get_foldl_put _ hlost]
  exact slotNow_congr (hlanes.trans (by rw [withValues])) ((num_congr_objs hobjs 0x2500 1).trans hnum)

/-- An image that was checked has the busy ticks of twelve engines (R59). -/
theorem busy_of_readProfile {n : Nat} {recs : List (Nat × List Byte)} {im : Image} (h : d.readProfile n = .good recs im) :
    im.busy.length = 12 := by
  have haccept : ∀ b, d.checkImage b = .accepted im → im.busy.length = 12 := fun b hb => by
    unfold checkImage at hb
    dsimp only at hb
    split at hb
    · cases hb
      simp [parseImage]
    · cases hb
    · cases hb
  unfold readProfile at h
  dsimp only at h
  split_ifs at h
  split at h
  · cases h
  · split at h
    · cases h
    · split_ifs at h
      split at h
      · next himage =>
        cases h
        exact haccept _ himage
      · cases h

end Dev
end Sys2Proof.Machine
end

section
/-! PROOF. O43: profiles are loaded whole, saved and erased (R384 to R396). -/

namespace Sys2Proof.Machine

namespace Flash

/-! ### Halves of a slot -/

theorem half_setHalf_ne (f : Flash) {n h m k : Nat} (x : Half) (hne : 2 * m + k ≠ 2 * n + h) :
    (f.setHalf n h x).half m k = f.half m k := by
  unfold half setHalf
  simp only [List.getD_eq_getElem?_getD, List.getElem?_set_ne hne.symm]

theorem half_setHalf_same (f : Flash) {n h : Nat} (x : Half) (hlt : 2 * n + h < f.halves.length) :
    (f.setHalf n h x).half n h = x := by
  unfold half setHalf
  simp [List.getD_eq_getElem?_getD, hlt]

/-- A half that the flash does not have reads erased. -/
theorem half_setHalf_atReset (f : Flash) (n h : Nat) : (f.setHalf n h Half.atReset).half n h = Half.atReset := by
  by_cases hlt : 2 * n + h < f.halves.length
  · exact half_setHalf_same f _ hlt
  · unfold half setHalf
    simp [List.getD_eq_getElem?_getD, hlt]

end Flash

/-- What was read back wrong is no valid half (R392). -/
theorem valid_brokenHalf (b : HalfBytes) (n : Nat) : (brokenHalf b n).valid n = false := by
  unfold brokenHalf
  dsimp only
  split_ifs with h
  · simp [Half.valid]
  · exact Bool.eq_false_iff.mpr h

theorem brokenHalf_of_invalid {b : HalfBytes} {n : Nat} (h : (⟨b.header, b.records, b.image⟩ : Half).valid n = false) :
    brokenHalf b n = ⟨b.header, b.records, b.image⟩ := by
  unfold brokenHalf
  exact if_neg (by simp [h])

namespace Dev

variable {d : Dev}

/-! ### Operations begun and ended -/

/-- An operation of the flash begun, with its status (R391, R396). -/
def opBegun (d : Dev) (op : FlashOp) (status : Int) : Dev :=
  ({ d with wr := { d.wr with op := some op, opDue := false } }.put 0x1400 4 status).put 0x1400 5 0

theorem opBegun_says (d : Dev) (op : FlashOp) (status : Int) : (d.opBegun op status).show.num 0x1400 4 = status ∧
    (d.opBegun op status).show.num 0x1400 5 = 0 := by
  unfold opBegun
  rw [show_num, show_num, num_put_of_sub_ne _ _ (by decide) (by decide) (by decide), num_put, num_put]
  exact ⟨rfl, rfl⟩

theorem opFailed_says (d : Dev) (cause : Nat) : (d.opFailed cause).num 0x1400 4 = 5 ∧
    (d.opFailed cause).num 0x1400 5 = cause ∧ (d.opFailed cause).wr.op = none ∧ (d.opFailed cause).image = d.image ∧
    (d.opFailed cause).ports = d.ports ∧ (d.opFailed cause).flash = d.flash :=
  ⟨(num_put_of_sub_ne _ _ (by decide) (by decide) (by decide)).trans (num_put ..), num_put .., rfl, rfl, rfl, rfl⟩

theorem putReason_leaves (d : Dev) (v : Option Verdict) : (d.putReason v).image = d.image ∧ (d.putReason v).ports = d.ports := by
  unfold putReason putVerdict
  split
  · split <;> exact ⟨rfl, rfl⟩
  · exact ⟨rfl, rfl⟩

/-- A profile's directory entry leaves the flash, the operations and the status of the last one. -/
theorem putDirectory_leaves (d : Dev) (n : Nat) : (d.putDirectory n).flash = d.flash ∧ (d.putDirectory n).wr = d.wr ∧
    ∀ s, s < 256 → (d.putDirectory n).num 0x1400 s = d.num 0x1400 s := by
  unfold putDirectory
  generalize d.directoryEntry n = entry
  exact ⟨rfl, rfl, fun s hs => num_putVal_ne d _ _ _ _ _ (by unfold objKey; omega)⟩

section
variable {v : ObjVal} {session origin : Nat} {rest : List Published}

theorem selectProfileStep_of_pub (hp : d.published = ⟨objKey 0x1401 0, v, session, origin⟩ :: rest) :
    selectProfileStep d = ((d.dropPub 0x1401 0).opBegun (.load v.toInt.toNat) 1).show := by
  unfold selectProfileStep
  rw [pubOf_head hp]
  rfl

theorem eraseProfileStep_of_pub (hp : d.published = ⟨objKey 0x1403 0, v, session, origin⟩ :: rest) :
    eraseProfileStep d = ((d.dropPub 0x1403 0).opBegun (.erase v.toInt.toNat) 3).show := by
  unfold eraseProfileStep
  rw [pubOf_head hp]
  rfl

/-- The block with the half erased that a save is to program (R392). -/
def halfErased (d : Dev) (n h : Nat) : Dev := { d with flash := d.flash.setHalf n h Half.atReset }

theorem saveProfileStep_of_pub (hp : d.published = ⟨objKey 0x1402 0, v, session, origin⟩ :: rest) :
    saveProfileStep d = let n := v.toInt.toNat
      let h := d.flash.spareHalf n
      (((d.dropPub 0x1402 0).stamped.halfErased n h).opBegun (.save n h (d.savedHalf n)) 2).show := by
  unfold saveProfileStep
  rw [pubOf_head hp]
  rfl

end

/-! ### Loads -/

theorem profileLoadCompleteStep_of_bad {n cause : Nat} {v : Option Verdict} (hop : d.wr.op = some (.load n))
    (hp : d.powered = true) (hf : d.frozen = false) (h : d.readProfile n = .bad cause v) :
    profileLoadCompleteStep d = (d.putReason v).opFailed cause := by
  unfold profileLoadCompleteStep
  rw [hop]
  dsimp only
  rw [if_neg (by simp [hp, hf]), h]

theorem profileLoadCompleteStep_of_good {n : Nat} {recs : List (Nat × List Byte)} {im : Image}
    (hop : d.wr.op = some (.load n)) (hp : d.powered = true) (hf : d.frozen = false) (h : d.readProfile n = .good recs im) :
    profileLoadCompleteStep d =
      (((((d.valuesLoaded recs).activate im n).afterLoad.opDone).put 0x1400 1 n).put 0x1400 2 1).show := by
  unfold profileLoadCompleteStep
  rw [hop]
  dsimp only
  rw [if_neg (by simp [hp, hf]), h]
  rfl

/-- What a load's status leaves: the image in activation and the values. -/
theorem loadDone_says (d : Dev) (n : Nat) :
    let e := ((d.opDone.put 0x1400 1 n).put 0x1400 2 1).show
    e.num 0x1400 4 = 4 ∧ e.num 0x1400 1 = n ∧ e.num 0x1400 2 = 1 ∧ e.wr.op = none ∧ e.coming = d.coming ∧ e.held = d.held := by
  have hheld : ((d.opDone.put 0x1400 1 n).put 0x1400 2 1).held = d.held := by
    rw [held_put_load _ _ (by decide) (by decide), held_put_load _ _ (by decide) (by decide), opDone,
      held_put_load _ _ (by decide) (by decide)]
    rfl
  refine ⟨?_, ?_, (show_num ..).trans (num_put ..), rfl, rfl, hheld⟩
  · rw [show_num, num_put_of_sub_ne _ _ (by decide) (by decide) (by decide),
      num_put_of_sub_ne _ _ (by decide) (by decide) (by decide)]
    exact num_put ..
  · rw [show_num, num_put_of_sub_ne _ _ (by decide) (by decide) (by decide)]
    exact num_put ..

/-! ### Saves and erases -/

/-- The image's profile named by a save of the setup that start-up gave (R392). -/
def savedNamed (d : Dev) (n : Nat) : Dev := if d.num 0x2600 3 = 0x10 then d.put 0x2600 3 n else d

theorem savedNamed_leaves (d : Dev) (n : Nat) : (d.savedNamed n).flash = d.flash ∧ (d.savedNamed n).wr = d.wr ∧
    ∀ s, s < 256 → (d.savedNamed n).num 0x1400 s = d.num 0x1400 s := by
  unfold savedNamed
  split_ifs
  · exact ⟨rfl, rfl, fun s hs => num_put_of_idx_ne d _ (by decide) (by decide) hs⟩
  · exact ⟨rfl, rfl, fun _ _ => rfl⟩

theorem profileSaveCompleteStep_of_save {n h : Nat} {x : Half} (hop : d.wr.op = some (.save n h x)) (hp : d.powered = true)
    (hf : d.frozen = false) :
    profileSaveCompleteStep none d = (({ d with flash := d.flash.setHalf n h x }.opDone).savedNamed n).putDirectory n ∧
    ∀ b, profileSaveCompleteStep (some b) d =
      ({ d with flash := d.flash.setHalf n h (brokenHalf b n) }.opFailed 5).putDirectory n := by
  unfold profileSaveCompleteStep
  rw [hop]
  dsimp only
  rw [if_neg (by simp [hp, hf])]
  refine ⟨rfl, fun b => ?_⟩
  rw [if_neg (by simp [hp, hf])]

theorem profileEraseCompleteStep_of_erase {n : Nat} (hop : d.wr.op = some (.erase n)) (hp : d.powered = true)
    (hf : d.frozen = false) : profileEraseCompleteStep d =
      ({ d with flash := (d.flash.setHalf n 0 Half.atReset).setHalf n 1 Half.atReset }.opDone).putDirectory n := by
  unfold profileEraseCompleteStep
  rw [hop]
  dsimp only
  rw [if_neg (by simp [hp, hf])]

end Dev

theorem profilesAreLoadedWhole : Says.ProfilesAreLoadedWhole := by
  unfold Says.ProfilesAreLoadedWhole
  intro s hs
  refine ⟨fun v session origin rest hpub => ?_, fun n hop hp => ⟨fun cause v hbad => ?_, fun recs im hgood => ?_⟩,
    fun hop => ?_⟩
  · refine answers_of_awake hs rfl fun u hu => ?_
    obtain ⟨h4, h5⟩ := (s.dev.dropPub 0x1401 0).opBegun_says (.load v.toInt.toNat) 1
    rw [hu, Dev.selectProfileStep_of_pub hpub]
    exact ⟨rfl, h4, h5, Dev.published_dropPub_head hpub, rfl⟩
  · refine answers_of_awake hs rfl fun u hu => ?_
    obtain ⟨h4, h5, hop', him, hports, -⟩ := (s.dev.putReason v).opFailed_says cause
    obtain ⟨him', hports'⟩ := s.dev.putReason_leaves v
    rw [hu, Dev.profileLoadCompleteStep_of_bad hop hp hs hbad]
    exact ⟨h4, h5, hop', him.trans him', hports.trans hports'⟩
  · refine answers_of_awake hs rfl fun u hu => ?_
    obtain ⟨h4, h1, h2, hop', hcoming, hheld⟩ := ((s.dev.valuesLoaded recs).activate im n).afterLoad.loadDone_says n
    rw [Dev.coming_afterLoad, Dev.coming_activate, Dev.slotNow_valuesLoaded] at hcoming
    rw [Dev.held_afterLoad, Dev.held_activate _ _ _ (Dev.busy_of_readProfile hgood), Dev.held_valuesLoaded] at hheld
    rw [hu, Dev.profileLoadCompleteStep_of_good hop hp hs hgood]
    generalize (((((s.dev.valuesLoaded recs).activate im n).afterLoad.opDone).put 0x1400 1 n).put 0x1400 2 1).show = e at *
    exact ⟨h4, h1, h2, hop', congrArg Prod.fst hcoming, congrArg Prod.snd hcoming, fun k hk => congrFun hheld ⟨k, hk⟩⟩
  · refine exec_of_fixed rfl ?_
    unfold profileLoadCompleteStep
    rw [hop]

theorem profilesAreSavedAndErased : Says.ProfilesAreSavedAndErased := by
  unfold Says.ProfilesAreSavedAndErased
  intro s hs
  refine ⟨fun v session origin rest => ?_, fun v session origin rest hpub => ?_,
    fun hp => ⟨fun n h x hop hlt => ⟨?_, fun b => ?_⟩, fun n hop => ?_⟩⟩
  · intro n h hpub
    refine answers_of_awake hs rfl fun u hu => ?_
    obtain ⟨h4, -⟩ := ((s.dev.dropPub 0x1402 0).stamped.halfErased n h).opBegun_says (.save n h (s.dev.savedHalf n)) 2
    rw [hu, Dev.saveProfileStep_of_pub hpub]
    exact ⟨rfl, Flash.half_setHalf_atReset .., h4, Dev.published_dropPub_head hpub⟩
  · refine answers_of_awake hs rfl fun u hu => ?_
    obtain ⟨h4, -⟩ := (s.dev.dropPub 0x1403 0).opBegun_says (.erase v.toInt.toNat) 3
    rw [hu, Dev.eraseProfileStep_of_pub hpub]
    exact ⟨rfl, h4, Dev.published_dropPub_head hpub, rfl⟩
  · refine answers_of_awake hs rfl fun u hu => ?_
    rw [hu, (Dev.profileSaveCompleteStep_of_save hop hp hs).1]
    generalize he : ({ s.dev with flash := s.dev.flash.setHalf n h x } : Dev).opDone = e
    obtain ⟨hflash, hwr, hnum⟩ := (e.savedNamed n).putDirectory_leaves n
    obtain ⟨hflash', hwr', hnum'⟩ := e.savedNamed_leaves n
    rw [hflash, hwr, hnum 4 (by decide), hflash', hwr', hnum' 4 (by decide), ← he]
    exact ⟨Flash.half_setHalf_same _ _ hlt, Dev.num_put .., rfl⟩
  · refine answers_of_awake hs rfl fun u hu => ?_
    obtain ⟨h4, h5, hop', -, -, hflash'⟩ :=
      ({ s.dev with flash := s.dev.flash.setHalf n h (brokenHalf b n) } : Dev).opFailed_says 5
    rw [hu, (Dev.profileSaveCompleteStep_of_save hop hp hs).2 b]
    generalize ({ s.dev with flash := s.dev.flash.setHalf n h (brokenHalf b n) } : Dev).opFailed 5 = e at *
    obtain ⟨hflash, hwr, hnum⟩ := e.putDirectory_leaves n
    rw [hflash, hwr, hnum 4 (by decide), hnum 5 (by decide), hflash', Flash.half_setHalf_same _ _ hlt]
    refine ⟨fun hbad => brokenHalf_of_invalid hbad, valid_brokenHalf b n, fun m k hne hh hk => ?_, h4, h5, hop'⟩
    refine Flash.half_setHalf_ne _ _ fun heq => hne ?_
    obtain ⟨rfl, rfl⟩ : m = n ∧ k = h := by omega
    rfl
  · refine answers_of_awake hs rfl fun u hu => ?_
    rw [hu, Dev.profileEraseCompleteStep_of_erase hop hp hs]
    generalize he : ({ s.dev with
      flash := (s.dev.flash.setHalf n 0 Half.atReset).setHalf n 1 Half.atReset } : Dev).opDone = e
    have hflash : e.flash = (s.dev.flash.setHalf n 0 Half.atReset).setHalf n 1 Half.atReset := by
      rw [← he]
      rfl
    obtain ⟨hflash', hwr, hnum⟩ := e.putDirectory_leaves n
    rw [hflash', hwr, hnum 4 (by decide), hflash]
    refine ⟨?_, by rw [← he]; exact Dev.num_put .., by rw [← he]; rfl, fun m h hne hh => ?_⟩
    · unfold Flash.empty
      rw [Flash.half_setHalf_ne _ _ (by omega), Flash.half_setHalf_atReset, Flash.half_setHalf_atReset]
      rfl
    · rw [Flash.half_setHalf_ne _ _ (by omega), Flash.half_setHalf_ne _ _ (by omega)]

/-- Settles O43: a load's values stand through the activation and what follows from them, and a half is written alone. -/
theorem profilesAreLoadedSavedAndErased : Obligations.ProfilesAreLoadedSavedAndErased := by
  unfold Obligations.ProfilesAreLoadedSavedAndErased
  exact ⟨profilesAreLoadedWhole, profilesAreSavedAndErased⟩

end Sys2Proof.Machine
end

section
/-! SUPPORT. What the journal's operations leave: the bits of a status word, the flash, the queues (R373 to R380). -/

namespace Sys2Proof.Machine

/-! ### Bits beside the one that is set -/

theorem bitOf_add_two_pow_ne {n j k : Nat} (h : bitOf n k = false) (hne : j ≠ k) : bitOf (n + 2 ^ k) j = bitOf n j := by
  have heven : n / 2 ^ k % 2 ≠ 1 := by simpa [bitOf] using h
  unfold bitOf
  rcases Nat.lt_or_gt_of_ne hne with hlt | hlt
  · obtain ⟨m, rfl⟩ := Nat.exists_eq_add_of_lt hlt
    have hpow : 2 ^ (j + m + 1) = 2 ^ j * (2 * 2 ^ m) := by ring
    rw [hpow, Nat.add_mul_div_left _ _ (by positivity), Nat.add_mul_mod_self_left]
  · obtain ⟨m, rfl⟩ := Nat.exists_eq_add_of_lt hlt
    have hpow : 2 ^ (k + m + 1) = 2 ^ k * 2 * 2 ^ m := by ring
    have hhalf : (n / 2 ^ k + 1) / 2 = n / 2 ^ k / 2 := by omega
    rw [hpow, ← Nat.div_div_eq_div_mul, ← Nat.div_div_eq_div_mul, ← Nat.div_div_eq_div_mul, ← Nat.div_div_eq_div_mul,
      Nat.add_div_right _ (by positivity), hhalf]

theorem bitOf_sub_two_pow_ne {n j k : Nat} (h : bitOf n k = true) (hne : j ≠ k) : bitOf (n - 2 ^ k) j = bitOf n j := by
  obtain ⟨hle, hb⟩ := bitOf_sub_two_pow h
  have hadd := bitOf_add_two_pow_ne hb hne
  rw [Nat.sub_add_cancel hle] at hadd
  exact hadd.symm

namespace Dev

variable {d : Dev}

/-- A bit's change leaves the other bits of its object. -/
theorem bit_putBit_ne (d : Dev) (i s : Nat) {j k : Nat} (b : Bool) (hne : j ≠ k) :
    (d.putBit i s k b).bit i s j = d.bit i s j := by
  unfold putBit bit
  rw [nat, num_put]
  cases hn : bitOf (d.nat i s) k <;> cases b
  · simp
  · have he : ((d.nat i s : Int) + 2 ^ k).toNat = d.nat i s + 2 ^ k := by
      rw [← Nat.cast_two, ← Nat.cast_pow, ← Nat.cast_add, Int.toNat_natCast]
    simpa [he] using bitOf_add_two_pow_ne hn hne
  · have he : ((d.nat i s : Int) - 2 ^ k).toNat = d.nat i s - 2 ^ k := by
      rw [← Nat.cast_two, ← Nat.cast_pow, ← Nat.cast_sub (bitOf_sub_two_pow hn).1, Int.toNat_natCast]
    simpa [← sub_eq_add_neg, he] using bitOf_sub_two_pow_ne hn hne
  · simp

theorem bit_putVal_ne (d : Dev) {i s i' s' : Nat} (v : ObjVal) (k : Nat) (h : objKey i' s' ≠ objKey i s) :
    (d.putVal i s v).bit i' s' k = d.bit i' s' k := bit_congr (num_putVal_ne d _ _ _ _ v h) k

/-! ### The journal's objects -/

theorem journalObjects_leaves (d : Dev) : d.journalObjects.flash = d.flash ∧ d.journalObjects.wr = d.wr ∧
    d.journalObjects.devFaults = d.devFaults ∧ d.journalObjects.published = d.published := ⟨rfl, rfl, rfl, rfl⟩

/-- The journal's objects keep FLT_COMMON_FLASH's flag (R374, R380). -/
theorem bit_journalObjects (d : Dev) : d.journalObjects.bit 0x1300 8 3 = d.bit 0x1300 8 3 := by
  have hput : ∀ (d : Dev) {s : Nat} (v : Int), objKey 0x1300 8 ≠ objKey 0x1300 s →
      (d.put 0x1300 s v).bit 0x1300 8 3 = d.bit 0x1300 8 3 := fun d s v h => bit_putVal_ne d _ _ h
  unfold journalObjects
  dsimp only
  rw [bit_putBit_ne _ _ _ _ (by decide), bit_putBit_ne _ _ _ _ (by decide), bit_putBit_ne _ _ _ _ (by decide),
    bit_putVal_ne _ _ _ (by decide), hput _ _ (by decide), hput _ _ (by decide), hput _ _ (by decide), hput _ _ (by decide),
    hput _ _ (by decide), hput _ _ (by decide)]

theorem ringErase_leaves (d : Dev) : d.ringErase.flash = d.flash ∧ d.ringErase.objs = d.objs ∧
    d.ringErase.wr.running = d.wr.running ∧ d.ringErase.wr.done = d.wr.done ∧ d.ringErase.wr.recDue = d.wr.recDue := by
  unfold ringErase
  split
  · split_ifs <;> exact ⟨rfl, rfl, rfl, rfl, rfl⟩
  · exact ⟨rfl, rfl, rfl, rfl, rfl⟩

/-! ### Jobs that are dropped -/

/-- What a dropped job leaves: all of the writer but the order of its queue, the flash, the device faults and the journal's
flags (R374). -/
structure DropLeaves (d e : Dev) : Prop where
  running : e.wr.running = d.wr.running
  queue : e.wr.queue.length = d.wr.queue.length
  done : e.wr.done = d.wr.done
  flash : e.flash = d.flash
  devFaults : e.devFaults = d.devFaults
  bit : ∀ k, e.bit 0x1300 8 k = d.bit 0x1300 8 k

theorem DropLeaves.refl (d : Dev) : DropLeaves d d := ⟨rfl, rfl, rfl, rfl, rfl, fun _ => rfl⟩

theorem DropLeaves.trans {d e f : Dev} (h : DropLeaves d e) (h' : DropLeaves e f) : DropLeaves d f :=
  ⟨h'.running.trans h.running, h'.queue.trans h.queue, h'.done.trans h.done, h'.flash.trans h.flash,
    h'.devFaults.trans h.devFaults, fun k => (h'.bit k).trans (h.bit k)⟩

/-- A write of another object. -/
theorem dropLeaves_put (d : Dev) {i s : Nat} (v : Int) (h : objKey 0x1300 8 ≠ objKey i s) : DropLeaves d (d.put i s v) :=
  ⟨rfl, rfl, rfl, rfl, rfl, fun k => bit_congr (num_put_ne d _ _ _ _ v h) k⟩

theorem dropLeaves_autoRefused (d : Dev) (c : Change) : DropLeaves d (d.autoRefused c) := by
  unfold autoRefused
  split_ifs
  · exact dropLeaves_put d _ (by decide)
  · exact DropLeaves.refl d

theorem dropLeaves_release (d : Dev) (c : Change) (res : Res) : DropLeaves d (d.release c res) := by
  unfold release
  split
  · next r _ =>
    obtain ⟨n, h, -⟩ := d.exists_respond r res []
    rw [h]
    exact ⟨rfl, rfl, rfl, rfl, rfl, fun _ => rfl⟩
  · exact DropLeaves.refl d

theorem dropLeaves_settleQueue (d : Dev) (gone : List Nat) : DropLeaves d (d.settleQueue gone) :=
  ⟨rfl, length_recount .., rfl, rfl, rfl, fun _ => rfl⟩

theorem dropJob_leaves (d : Dev) (j : JournalJob) (res : Res) : DropLeaves d (d.dropJob j res) := by
  unfold dropJob
  split
  · exact ((dropLeaves_autoRefused ..).trans (dropLeaves_release ..)).trans (dropLeaves_settleQueue ..)
  · split_ifs
    · exact dropLeaves_put d _ (by decide)
    · exact DropLeaves.refl d

end Dev
end Sys2Proof.Machine
end

section
/-! PROOF. O36: the change journal (R365 to R379). -/

namespace Sys2Proof.Machine
namespace Dev

variable {d : Dev}

/-! ### The start of a commit -/

/-- The block with the first job taken out of the queue. -/
def jobTaken (d : Dev) (rest : List JournalJob) : Dev := { d with wr := { d.wr with queue := rest } }

/-- A job judged with the changes that are still ahead of it keeps its entry, and so does one that records no write. -/
theorem renewed_of_settled {j : JournalJob} (h : j.write = none ∨ j.rejudge = false) : d.renewed j = j := by
  unfold renewed
  split
  · next hre _ hw => rcases h with h | h <;> simp_all
  · rfl

/-- What the writer makes of the first job that has reached its queue (R373, R374). -/
def jobStarted (d : Dev) (j : JournalJob) : Dev := { d with wr := { d.wr with running := some j } }

theorem journalCommitStartStep_of_waits {j : JournalJob} {rest : List JournalJob} (hrun : d.wr.running = none)
    (hq : d.wr.queue = j :: rest) (hr : j.reach = none) (hphase : d.boot.phase ≠ .goingDown) :
    journalCommitStartStep d = d := by
  unfold journalCommitStartStep
  rw [hrun, hq]
  exact if_neg (by simp [hr, hphase])

section
variable {j : JournalJob} {rest : List JournalJob} (hp : d.powered = true) (hf : d.frozen = false)
  (hrun : d.wr.running = none) (hq : d.wr.queue = j :: rest) (hreach : j.reach.isSome = true)
include hp hf hrun hq hreach

theorem journalCommitStartStep_of_down (hdown : d.journalDown = true) :
    journalCommitStartStep d =
      (d.jobTaken rest).dropJob ((d.jobTaken rest).renewed j) .journalUnavailable := by
  unfold journalCommitStartStep
  rw [hrun, hq]
  dsimp only
  rw [if_pos (by simp [writerRuns, hp, hf, hreach])]
  exact if_pos hdown

theorem journalCommitStartStep_of_room (hup : d.journalDown = false) (hfull : d.flash.full = false)
    (h : (j.change = none ∧ j.write = none) ∨ j.rejudge = false) :
    journalCommitStartStep d = (d.jobTaken rest).jobStarted j := by
  have hren : (d.jobTaken rest).renewed j = j := renewed_of_settled (h.imp_left And.right)
  have hdown : ¬ (d.jobTaken rest).journalDown = true := Bool.not_eq_true _ ▸ hup
  unfold journalCommitStartStep
  rw [hrun, hq]
  dsimp only
  rw [if_pos (by simp [writerRuns, hp, hf, hreach])]
  unfold jobTaken at hren hdown
  rw [hren, if_neg hdown]
  split
  · next c hc =>
    have hre : j.rejudge = false := h.resolve_left fun hn => by simp [hn.1] at hc
    rw [hre, if_neg Bool.false_ne_true, if_neg (by simp), if_neg (by simp [hfull])]
    rfl
  · rw [if_neg (by simp [hfull])]
    rfl

/-- A full journal commits no change that may not use its reserve (R376). -/
theorem journalCommitStartStep_of_full (hup : d.journalDown = false) (hfull : d.flash.full = true) (hres : j.reserve = false)
    (hc : j.change ≠ none) (hre : j.rejudge = false) :
    journalCommitStartStep d = ((d.jobTaken rest).dropJob j .journalFull).putBit 0x1300 8 0 true := by
  obtain ⟨c, hc⟩ := Option.ne_none_iff_exists'.mp hc
  have hren : (d.jobTaken rest).renewed j = j := renewed_of_settled (.inr hre)
  have hdown : ¬ (d.jobTaken rest).journalDown = true := Bool.not_eq_true _ ▸ hup
  unfold journalCommitStartStep
  rw [hrun, hq]
  dsimp only
  rw [if_pos (by simp [writerRuns, hp, hf, hreach])]
  unfold jobTaken at hren hdown
  rw [hren, if_neg hdown, hc]
  dsimp only
  rw [hre, if_neg Bool.false_ne_true, if_neg (by simp), if_pos ⟨hfull, .inl hres⟩]
  rfl

end

/-! ### The end of a commit -/

/-- The flash with a job's entry in its next unit (R367, R370). -/
def entryFlash (d : Dev) (j : JournalJob) : Flash :=
  let f := d.flash
  let pre := toLE 4 f.number ++ j.body
  let tag := cmac8 d.chainKey (f.tag ++ pre)
  { f with
    units := mapInsert f.head (pre ++ tag) f.units
    head := (f.head + 1) % journalUnits
    number := nextNumber f.number
    tag := tag }

theorem program_says (d : Dev) (j : JournalJob) : (d.program j).flash = d.entryFlash j ∧ (d.program j).wr = d.wr ∧
    (d.program j).slotNow = d.slotNow :=
  ⟨rfl, rfl, slotNow_congr rfl (num_putBit_ne _ _ _ _ _ _ _ (by decide))⟩

theorem markOp_leaves (d : Dev) (key : Nat) : (d.markOp key).flash = d.flash ∧ (d.markOp key).wr.running = d.wr.running ∧
    (d.markOp key).wr.done = d.wr.done ∧ (d.markOp key).wr.recDue = d.wr.recDue := by
  unfold markOp
  split_ifs <;> exact ⟨rfl, rfl, rfl, rfl⟩

/-- What a commit's end makes of the writer: it is free, and the change waits for the next boundary or for its copy (R373,
R394). -/
theorem committedJob_says (d : Dev) (j : JournalJob) : (d.committedJob j).flash = d.flash ∧
    (d.committedJob j).wr.running = none ∧
    (∀ c, j.change = some c → recordKey c.key = false → (d.committedJob j).wr.done = d.wr.done ++ [(j, d.slotNow)]) ∧
    ∀ c, j.change = some c → recordKey c.key = true → (d.committedJob j).wr.recDue = d.wr.recDue ++ [j] := by
  unfold committedJob
  dsimp only
  cases hc : j.change with
  | none => exact ⟨rfl, rfl, fun c h => absurd h (by simp), fun c h => absurd h (by simp)⟩
  | some c =>
    obtain ⟨hflash, hrun, hdone, hrec⟩ := ({ d with wr := { d.wr with running := none } } : Dev).markOp_leaves c.key
    dsimp only
    split_ifs with hk
    · refine ⟨hflash, hrun, fun c' h hk' => ?_, fun _ _ _ => congrArg (· ++ [j]) hrec⟩
      cases h
      simp [hk] at hk'
    · refine ⟨hflash, hrun, fun _ _ _ => congrArg (· ++ [(j, d.slotNow)]) hdone, fun c' h hk' => ?_⟩
      cases h
      exact absurd hk' hk

/-- A job's entry programmed, its change committed, and what follows in the journal (R373, R377, R380). -/
def entryCommitted (d : Dev) (j : JournalJob) : Dev := (((d.program j).committedJob j).ringErase).journalObjects

theorem entryCommitted_says (d : Dev) (j : JournalJob) :
    (d.entryCommitted j).flash = d.entryFlash j ∧ (d.entryCommitted j).wr.running = none ∧
    (∀ c, j.change = some c → recordKey c.key = false → (d.entryCommitted j).wr.done = d.wr.done ++ [(j, d.slotNow)]) ∧
    ∀ c, j.change = some c → recordKey c.key = true → (d.entryCommitted j).wr.recDue = d.wr.recDue ++ [j] := by
  obtain ⟨hpf, hpw, hps⟩ := d.program_says j
  obtain ⟨hcf, hcr, hcd, hcc⟩ := (d.program j).committedJob_says j
  obtain ⟨hrf, -, hrr, hrd, hrc⟩ := ((d.program j).committedJob j).ringErase_leaves
  obtain ⟨hjf, hjw, -⟩ := (((d.program j).committedJob j).ringErase).journalObjects_leaves
  rw [hpw, hps] at hcd
  rw [hpw] at hcc
  unfold entryCommitted
  rw [hjf, hjw, hrf, hcf, hpf, hrr, hcr, hrd, hrc]
  exact ⟨rfl, rfl, hcd, hcc⟩

/-- A job that is not committed, as its unit differs at both attempts (R374). -/
def commitFailed (d : Dev) (j : JournalJob) : Dev :=
  (({ d.voidUnit.voidUnit with wr := { d.wr with running := none } }.deviceFault .commonFlash).dropJob j
    .journalUnavailable).journalObjects

theorem voidUnit_leaves (d : Dev) : d.voidUnit.flash.tag = d.flash.tag ∧ d.voidUnit.flash.number = d.flash.number ∧
    d.voidUnit.wr = d.wr ∧ d.voidUnit.devFaults = d.devFaults := by
  unfold voidUnit
  dsimp only
  split_ifs <;> exact ⟨rfl, rfl, rfl, rfl⟩

theorem journalCommitCompleteStep_of_running {j : JournalJob} (hp : d.powered = true) (hf : d.frozen = false)
    (hrun : d.wr.running = some j) (first second : Bool) : journalCommitCompleteStep first second d =
      if first then d.entryCommitted j
      else if second ∧ 1 < d.flash.free then d.voidUnit.entryCommitted j
      else d.commitFailed j := by
  unfold journalCommitCompleteStep
  rw [hrun]
  dsimp only
  rw [if_neg (by simp [writerRuns, hp, hf])]
  rfl

theorem voidUnit_of_free (h : 1 < d.flash.free) : d.voidUnit = { d with flash := { d.flash with
    units := mapInsert d.flash.head (List.replicate 64 0) d.flash.units
    head := (d.flash.head + 1) % journalUnits
    voided := min (d.flash.voided + 1) 4294967295 } } := by
  unfold voidUnit
  exact if_neg (by omega)

/-- A device fault of the flash: listed, flagged where it is new, and the commits and the flash as they were (R374). -/
theorem deviceFault_commonFlash (d : Dev) : (d.deviceFault .commonFlash).devFaulted .commonFlash = true ∧
    (d.deviceFault .commonFlash).flash = d.flash ∧ (d.deviceFault .commonFlash).wr.running = d.wr.running ∧
    (d.deviceFault .commonFlash).wr.done = d.wr.done ∧
    (d.devFaulted .commonFlash = false → (d.deviceFault .commonFlash).bit 0x1300 8 3 = true) := by
  unfold deviceFault
  rw [if_pos (c := FaultId.commonFlash = .commonFlash ∨ FaultId.commonFlash = .commonTime) (.inl rfl)]
  split_ifs with h
  · exact ⟨h, rfl, rfl, rfl, fun h' => absurd (h.symm.trans h') (by decide)⟩
  · have hlist : (d.recordDeviceFault .commonFlash).devFaults = d.devFaults ++ [FaultId.commonFlash.code] :=
      if_neg (by simpa [devFaulted] using h)
    obtain ⟨hflash, hrun, hdone⟩ : (d.recordDeviceFault .commonFlash).flash = d.flash ∧
        (d.recordDeviceFault .commonFlash).wr.running = d.wr.running ∧
        (d.recordDeviceFault .commonFlash).wr.done = d.wr.done := by
      unfold recordDeviceFault queueTrace
      dsimp only
      split_ifs <;> exact ⟨rfl, rfl, rfl⟩
    have hdeg : ∀ (e : Dev) n, (e.degradeEvent n).flash = e.flash ∧ (e.degradeEvent n).wr = e.wr := fun e n => by
      unfold degradeEvent
      split_ifs <;> exact ⟨rfl, rfl⟩
    obtain ⟨hdf, hdw⟩ := hdeg (d.recordDeviceFault .commonFlash) FaultId.commonFlash.code
    refine ⟨?_, hdf.trans hflash, (congrArg Writer.running hdw).trans hrun, (congrArg Writer.done hdw).trans hdone,
      fun _ => bit_putBit_same ..⟩
    rw [devFaulted, putBit_devFaults, devFaults_degradeEvent, hlist]
    simp

theorem commitFailed_says (d : Dev) (j : JournalJob) : (d.commitFailed j).devFaulted .commonFlash = true ∧
    (d.commitFailed j).flash.tag = d.flash.tag ∧ (d.commitFailed j).flash.number = d.flash.number ∧
    (d.commitFailed j).wr.running = none ∧ (d.commitFailed j).wr.done = d.wr.done ∧
    (d.devFaulted .commonFlash = false → (d.commitFailed j).bit 0x1300 8 3 = true) := by
  obtain ⟨htag, hnum, -, hfaults⟩ := d.voidUnit_leaves
  obtain ⟨htag', hnum', -, hfaults'⟩ := d.voidUnit.voidUnit_leaves
  unfold commitFailed
  generalize he : ({ d.voidUnit.voidUnit with wr := { d.wr with running := none } } : Dev) = e
  obtain ⟨het, hen, her, hed, hef⟩ : e.flash.tag = d.flash.tag ∧ e.flash.number = d.flash.number ∧ e.wr.running = none ∧
      e.wr.done = d.wr.done ∧ e.devFaults = d.devFaults := by
    rw [← he]
    exact ⟨htag'.trans htag, hnum'.trans hnum, rfl, rfl, hfaults'.trans hfaults⟩
  obtain ⟨hdf, hdflash, hdrun, hddone, hdbit⟩ := e.deviceFault_commonFlash
  obtain ⟨hrun, -, hdone, hflash, hlist, hbit⟩ := (e.deviceFault .commonFlash).dropJob_leaves j .journalUnavailable
  generalize (e.deviceFault .commonFlash).dropJob j .journalUnavailable = m at *
  obtain ⟨hjf, hjw, hjl, -⟩ := m.journalObjects_leaves
  have hfaulted : ∀ {a b : Dev}, a.devFaults = b.devFaults → a.devFaulted .commonFlash = b.devFaulted .commonFlash :=
    fun h => by rw [devFaulted, h, devFaulted]
  rw [hfaulted (hjl.trans hlist), hjf, hjw, hflash, hdflash, het, hen, hrun, hdrun, her, hdone, hddone, hed,
    bit_journalObjects, hbit]
  exact ⟨hdf, rfl, rfl, rfl, rfl, fun h => hdbit ((hfaulted hef).trans h)⟩

/-! ### Blocks -/

/-- The block of the journal that is erased taken out of the flash (R377, R379). -/
def blockErased (d : Dev) (b : Nat) (rest : List Nat) : Dev :=
  let f := d.flash
  let gone := ((f.inBlock b).map entryNumber).filter fun n => !f.covered n
  { d with
    wr := { d.wr with erases := rest }
    flash := { f with
      units := f.units.filter fun u => blockOf u.1 ≠ b
      oldest := match (f.inBlock b).getLast? with
        | some e => nextNumber (entryNumber e)
        | none => f.oldest
      anchor := match (f.inBlock b).getLast? with
        | some e => entryTag e
        | none => f.anchor
      lost := min (f.lost + gone.length) 4294967295 } }

theorem flash_journalBlockEraseCompleteStep {b : Nat} {rest : List Nat} (h : d.wr.erases = b :: rest) :
    (journalBlockEraseCompleteStep d).flash = (d.blockErased b rest).flash := by
  have hevent : ∀ (e : Dev) c code key new, (e.journalEvent c code key new).ringErase.journalObjects.flash = e.flash :=
    fun e c code key new => (ringErase_leaves _).1.trans (NetOnly.flash (NetOnly.journalEvent ..))
  unfold journalBlockEraseCompleteStep
  rw [h]
  dsimp only
  split
  · exact hevent ..
  · exact (ringErase_leaves _).1

theorem acknowledgeStep_of_pub {v : ObjVal} {session origin : Nat} {rest : List Published}
    (hp : d.published = ⟨objKey 0x1310 2, v, session, origin⟩ :: rest) : acknowledgeStep d =
      let f := { d.flash with acked := leNat (v.toBytes.take 4) }
      ({ d.dropPub 0x1310 2 with
        flash := f, wr := { d.wr with erases := d.wr.erases ++ f.coveredBlocks d.wr.erases } } : Dev).journalObjects.show := by
  unfold acknowledgeStep
  rw [pubOf_head hp]
  rfl

end Dev

theorem commitsStartInOrder : Says.CommitsStartInOrder := by
  unfold Says.CommitsStartInOrder
  intro s j rest hs hp hrun hq
  refine ⟨fun hr hphase => exec_of_fixed rfl (Dev.journalCommitStartStep_of_waits hrun hq hr hphase), fun hreach =>
    ⟨fun hup hfull hj => ?_, fun hdown => ?_, fun hup hfull hres hc hre => ?_⟩⟩ <;> refine answers_of_awake hs rfl fun u hu => ?_
  · rw [hu, Dev.journalCommitStartStep_of_room hp hs hrun hq hreach hup hfull hj]
    exact ⟨rfl, rfl, rfl, rfl⟩
  · obtain ⟨hrun', hlen, hdone, hflash, -⟩ := (s.dev.jobTaken rest).dropJob_leaves ((s.dev.jobTaken rest).renewed j)
      .journalUnavailable
    rw [hu, Dev.journalCommitStartStep_of_down hp hs hrun hq hreach hdown]
    exact ⟨hrun'.trans hrun, hlen, hdone, hflash⟩
  · obtain ⟨hrun', -, -, hflash, -⟩ := (s.dev.jobTaken rest).dropJob_leaves j .journalFull
    rw [hu, Dev.journalCommitStartStep_of_full hp hs hrun hq hreach hup hfull hres hc hre]
    exact ⟨hrun'.trans hrun, Dev.bit_putBit_same .., hflash⟩

theorem commitsProgramTheChain : Says.CommitsProgramTheChain := by
  unfold Says.CommitsProgramTheChain
  intro s j hs hp hrun
  dsimp only
  have hstep := Dev.journalCommitCompleteStep_of_running hp hs hrun
  refine ⟨fun second => ?_, fun hfree => ?_, fun second hno => ?_⟩ <;> refine answers_of_awake hs rfl fun u hu => ?_
  · obtain ⟨hflash, hrun', hdone, hrec⟩ := s.dev.entryCommitted_says j
    rw [hu, hstep, if_pos rfl, hflash]
    exact ⟨mapFind_mapInsert_same .., rfl, rfl, rfl, hrun', hdone, hrec⟩
  · obtain ⟨hflash, hrun', hdone, hrec⟩ := s.dev.voidUnit.entryCommitted_says j
    have hslot : s.dev.voidUnit.slotNow = s.dev.slotNow := by rw [Dev.voidUnit_of_free hfree]; rfl
    rw [hslot, (Dev.voidUnit_leaves _).2.2.1] at hdone
    rw [(Dev.voidUnit_leaves _).2.2.1] at hrec
    rw [hu, hstep, if_neg Bool.false_ne_true, if_pos ⟨rfl, hfree⟩, hflash]
    rw [Dev.voidUnit_of_free hfree] at hrun' hdone hrec ⊢
    exact ⟨mapFind_mapInsert_same .., rfl, rfl, rfl, rfl, hrun', hdone, hrec⟩
  · rw [hu, hstep, if_neg Bool.false_ne_true, if_neg (by rcases hno with h | h <;> simp [h])]
    exact s.dev.commitFailed_says j

theorem journalBlocksAreErasedAndAcknowledged : Says.JournalBlocksAreErasedAndAcknowledged := by
  unfold Says.JournalBlocksAreErasedAndAcknowledged
  intro s hs
  refine ⟨fun b rest hb => ?_, fun hb => ?_, fun v session origin rest hpub => ?_⟩
  · refine answers_of_awake hs rfl fun u hu => ?_
    rw [hu, Dev.flash_journalBlockEraseCompleteStep hb]
    refine ⟨rfl, rfl, fun e he => ?_, rfl⟩
    unfold Dev.blockErased
    dsimp only
    rw [he]
    exact ⟨rfl, rfl⟩
  · refine exec_of_fixed rfl ?_
    unfold journalBlockEraseCompleteStep
    rw [hb]
  · refine answers_of_awake hs rfl fun u hu => ?_
    rw [hu, Dev.acknowledgeStep_of_pub hpub]
    exact ⟨rfl, Dev.published_dropPub_head hpub, rfl, rfl⟩

/-- Settles O36: each commit programs one entry behind the last, and a block's erase takes its entries alone. -/
theorem theJournalIsAChain : Obligations.TheJournalIsAChain := by
  unfold Obligations.TheJournalIsAChain
  exact ⟨commitsStartInOrder, commitsProgramTheChain, journalBlocksAreErasedAndAcknowledged⟩

end Sys2Proof.Machine
end

section
/-! REFUTATION. O39: an AUTH that comes too late within an open session (R342, R344, R346). -/

namespace Sys2Proof.Machine

/-- An Integrator's session of the TAP, reserved or open, from slot 0. -/
def tapSession (id : Nat) (isOpen : Bool) : Session :=
  { id := id, isOpen := isOpen, role := 1, origin := 5, partner := unitPartner, ip := [], key := [], nh := [], nd := []
    since := 0, high := 0, seen := [], cache := [], asm := none, base := 0 }

/-- An AUTH of reservation 7 in the open session 8, stamped more than 1 s after the reservation. -/
def lateAuth : Request :=
  ⟨0x11, 8, 1, [7, 0, 0, 0] ++ List.replicate 16 0, unitPartner, ⟨[], 0⟩, 2000001⟩

/-- The TAP's service slot, with that request in its queue and both sessions in the table. -/
def lateAuthWaits : State :=
  ⟨{ Dev.atReset with
      boot := { Boot.atReset with phase := .up }
      lanes := ⟨Lane.counted 2000205, Lane.counted 2000205⟩
      net := { Net.atReset with
        ports := { ReqPorts.atReset with tap := { ReqPort.atReset 1 with entries := [⟨unitPartner, true, [lateAuth], 0⟩] } }
        sessions := some (tapSession 7 false) :: some (tapSession 8 true) :: List.replicate 6 none } }, []⟩

/-- How many responses each session keeps. -/
def cachedResponses (d : Dev) : List Nat := (d.net.sessions.filterMap id).map fun x => x.cache.length

theorem chosen_lateAuthWaits : lateAuthWaits.dev.chosen .tap = some (0, lateAuth) := by decide +kernel

/-- The refusal is kept among the responses of the session that the AUTH came in. -/
theorem cachedResponses_lateAuth : cachedResponses lateAuthWaits.dev = [0, 0] ∧
    cachedResponses (authStep .tap lateAuthWaits.dev) = [0, 1] := by decide +kernel

/-- Refutes O39: the clause on an AUTH that comes too late keeps the whole session table, while the refusal is entered in the
response cache of the open session that carried the request (R346). -/
theorem not_sessionsOpenAndClose : ¬ Obligations.SessionsOpenAndClose := by
  intro h
  obtain ⟨c, hc⟩ : ∃ c, (lateAuthWaits.dev.taken .tap 0 lateAuth).reqCtx .tap lateAuth = some c :=
    Option.isSome_iff_exists.mp (by decide +kernel)
  obtain ⟨k, hk⟩ : ∃ k, (lateAuthWaits.dev.taken .tap 0 lateAuth).roleKey
      ((lateAuthWaits.dev.taken .tap 0 lateAuth).serveLane .tap) 1 = some k := ⟨_, rfl⟩
  obtain ⟨hserved, -⟩ := h lateAuthWaits .tap rfl
  obtain ⟨-, hauth, -⟩ := hserved 0 lateAuth c chosen_lateAuthWaits (by decide +kernel) hc
  obtain ⟨hlate, -⟩ := hauth (tapSession 7 false) k (by decide +kernel) (by decide +kernel) rfl rfl rfl hk
  obtain ⟨u, hu, hsessions, -⟩ := hlate (by decide +kernel)
  have hdev : u.dev = authStep .tap lateAuthWaits.dev := State.dev_of_exec_awake (s := lateAuthWaits) rfl rfl hu
  have hcached : cachedResponses u.dev = cachedResponses lateAuthWaits.dev := by
    unfold cachedResponses
    rw [hsessions]
  rw [hdev, cachedResponses_lateAuth.1, cachedResponses_lateAuth.2] at hcached
  exact absurd hcached (by decide)

end Sys2Proof.Machine
end

section
/-! PROOF. O41: the ports below Pelnak, bus-off and the takeover of N3 (R334, R336, R338). -/

namespace Sys2Proof.Machine
namespace Dev

variable {d : Dev} {n : NetPort}

/-- A reply of a T1S port is queued behind the frames that wait (R334, R350). -/
theorem lowReply_says (d : Dev) (n : NetPort) (mac payload : List Byte)
    (hroom : (d.reqPort (originOfNet n)).tx.length < 32) :
    ((d.lowReply n mac payload).reqPort (originOfNet n)).tx = (d.reqPort (originOfNet n)).tx ++
      [⟨false, .low, pad8 mac, payload, d.serveSlot (originOfNet n)⟩] ∧ (d.lowReply n mac payload).objs = d.objs := by
  have htx : txRoom (originOfNet n) = 32 := by cases n <;> rfl
  refine ⟨?_, rfl⟩
  unfold lowReply transmit
  rw [reqPort_onReqPort, htx, if_neg (by omega)]
  rfl

theorem arpRequestStep_of_own {mac : List Byte} {ip : Nat} (hup : d.portUp (originOfNet n) = true)
    (hbit : d.bit (netIdx (originOfNet n)) 0x10 1 = true) (hip : d.nat (netIdx (originOfNet n)) 0x11 = ip) :
    arpRequestStep n mac ip d = d.lowReply n mac (d.bytes (netIdx (originOfNet n)) 2) :=
  if_pos (by simp [hup, hbit, hip])

theorem arpRequestStep_of_other {mac : List Byte} {ip : Nat} (hip : d.nat (netIdx (originOfNet n)) 0x11 ≠ ip) :
    arpRequestStep n mac ip d = d :=
  if_neg (by simp [hip])

theorem echoRequestStep_of_due {h : FrameHead} {data : List Byte} (hup : d.portUp (originOfNet n) = true)
    (haddr : d.addressed (originOfNet n) h = true) (hecho : (d.reqPort (originOfNet n)).echoSlot = none) :
    echoRequestStep n h data d =
      (d.onReqPort (originOfNet n) fun x => { x with echoSlot := some (d.serveSlot (originOfNet n)) }).lowReply n h.mac data := by
  unfold echoRequestStep
  dsimp only
  rw [hecho]
  exact if_pos (by simp [hup, haddr])

/-- One echo request is answered in a millisecond (R334). -/
theorem echoRequestStep_of_early {h : FrameHead} {data : List Byte} {t : Nat}
    (hecho : (d.reqPort (originOfNet n)).echoSlot = some t) (ht : d.serveSlot (originOfNet n) < t + 2000) :
    echoRequestStep n h data d = d := by
  have hlate : ¬ t + 2000 ≤ d.serveSlot (originOfNet n) := by omega
  unfold echoRequestStep
  dsimp only
  rw [hecho]
  exact if_neg (by simp [hlate])

theorem echoRequestStep_of_other {h : FrameHead} {data : List Byte} (haddr : d.addressed (originOfNet n) h = false) :
    echoRequestStep n h data d = d := if_neg (by simp [haddr])

/-- A claim of a link-local address ends with the address in use, or with a conflict (R334). -/
theorem ipv4LinkLocalClaimStep_of_claim {addr : Nat} (hup : d.portUp (originOfNet n) = true)
    (hset : d.num (netIdx (originOfNet n)) 3 = 0) (haddr : addr / 65536 = 0xA9FE) (conflict : Bool) :
    ipv4LinkLocalClaimStep n addr conflict d =
      let x := netIdx (originOfNet n)
      if conflict then ((d.put x 0x11 0).putBit x 0x10 1 false).putBit x 0x10 2 true
      else ((d.put x 0x11 addr).putBit x 0x10 1 true).putBit x 0x10 2 false := by
  have hlt : addr < 4294967296 := by omega
  unfold ipv4LinkLocalClaimStep
  exact if_pos (by simp [hup, hset, haddr, hlt])

/-- An address in use with its flags, in their objects (R334). -/
theorem claimed_says (d : Dev) (i : Nat) (addr : Int) (b b' : Bool) :
    let e := ((d.put i 0x11 addr).putBit i 0x10 1 b).putBit i 0x10 2 b'
    e.num i 0x11 = addr ∧ e.bit i 0x10 1 = b ∧ e.bit i 0x10 2 = b' := by
  have hkey : objKey i 0x11 ≠ objKey i 0x10 := by unfold objKey; omega
  refine ⟨?_, ?_, bit_putBit_same ..⟩
  · rw [num_putBit_ne _ _ _ _ _ _ _ hkey, num_putBit_ne _ _ _ _ _ _ _ hkey, num_put]
  · rw [bit_putBit_ne _ _ _ _ (by decide), bit_putBit_same]

/-- Lane A's port N3 as lane B takes it over (R338). -/
def n3Emptied (d : Dev) : Dev :=
  d.onReqPort .n3 fun x => { x.emptied (d.lane .a).slots (d.lane .b).slots with served := none }

theorem n3TakeoverStep_of_lost (hlost : d.laneLost .a = true) (halive : (d.lane .b).alive = true)
    (hb : d.laneLost .b = false) (hfit : d.bit 0x2400 3 3 = true) (hown : d.num 0x1130 0x10 = 0)
    (hlatch : d.net.latchB = false) :
    n3TakeoverStep d = { d.n3Emptied with net := { d.n3Emptied.net.uncached [3] with latchB := true } } := by
  unfold n3TakeoverStep
  exact if_pos (by simp [hlost, halive, hb, hfit, hown, hlatch])

end Dev

/-- Settles O41: each event by the equation of its step where its condition is met, and where it is not. -/
theorem portsAnswerBelowPelnak : Obligations.PortsAnswerBelowPelnak := by
  unfold Obligations.PortsAnswerBelowPelnak
  intro s n hs
  dsimp only
  refine ⟨fun hup hroom => ⟨fun mac ip hbit hip => ?_, fun mac ip hip => ?_, fun mac => ?_, fun mac target ht => ?_,
    fun h data haddr hecho => ?_, fun h data haddr => ?_, fun h data t hecho ht => ?_⟩, fun addr hup hset haddr => ⟨?_, ?_⟩,
    fun hup hon => ?_, fun hoff => ?_, fun hlost halive hb hfit hown hlatch => ?_, fun hlatch hown hb => ?_⟩
  · refine answers_of_awake hs rfl fun u hu => ?_
    rw [hu, Dev.arpRequestStep_of_own hup hbit hip]
    exact Dev.lowReply_says _ _ _ _ hroom
  · exact exec_of_fixed rfl (Dev.arpRequestStep_of_other hip)
  · refine answers_of_awake hs rfl fun u hu => ?_
    have hstep : neighbourSolicitationStep n mac (s.dev.ipv6 (originOfNet n)) s.dev =
        s.dev.lowReply n mac (s.dev.bytes (netIdx (originOfNet n)) 2) := if_pos (by simp [hup])
    rw [hu, hstep]
    exact Dev.lowReply_says _ _ _ _ hroom
  · exact exec_of_fixed rfl (if_neg (by simp [ht]))
  · refine answers_of_awake hs rfl fun u hu => ?_
    rw [hu, Dev.echoRequestStep_of_due hup haddr hecho]
    have htx : ∀ x : ReqPort, ({ x with echoSlot := some (s.dev.serveSlot (originOfNet n)) } : ReqPort).tx = x.tx :=
      fun _ => rfl
    have hsays := Dev.lowReply_says (s.dev.onReqPort (originOfNet n)
      fun x => { x with echoSlot := some (s.dev.serveSlot (originOfNet n)) }) n h.mac data
    rw [Dev.reqPort_onReqPort, htx] at hsays
    exact hsays hroom
  · exact exec_of_fixed rfl (Dev.echoRequestStep_of_other haddr)
  · exact exec_of_fixed rfl (Dev.echoRequestStep_of_early hecho ht)
  · refine answers_of_awake hs rfl fun u hu => ?_
    rw [hu, Dev.ipv4LinkLocalClaimStep_of_claim hup hset haddr]
    exact Dev.claimed_says ..
  · refine answers_of_awake hs rfl fun u hu => ?_
    rw [hu, Dev.ipv4LinkLocalClaimStep_of_claim hup hset haddr]
    exact Dev.claimed_says ..
  · refine answers_of_awake hs rfl fun u hu => ?_
    have hstep : busOffStep s.dev = (s.dev.put 0x1130 0x11 2).inc 0x1130 0x18 := if_pos (by simp [hup, hon])
    rw [hu, hstep]
    refine ⟨(Dev.num_inc_of_sub_ne _ (by decide) (by decide) (by decide)).trans (Dev.num_put ..), ?_, rfl⟩
    rw [Dev.num_inc, Dev.num_put_of_sub_ne _ _ (by decide) (by decide) (by decide)]
  · refine answers_of_awake hs rfl fun u hu => ?_
    rw [hu, busOffRecoveryStep, if_pos hoff]
    exact ⟨Dev.num_put .., rfl⟩
  · refine answers_of_awake hs rfl fun u hu => ?_
    rw [hu, Dev.n3TakeoverStep_of_lost hlost halive hb hfit hown hlatch]
    refine ⟨rfl, rfl, fun e he => ?_, hown⟩
    obtain ⟨x, -, rfl⟩ := List.mem_map.mp he
    rfl
  · refine answers_of_awake hs rfl fun u hu => ?_
    have hstep : n3TakeoverCompleteStep s.dev = (s.dev.put 0x1130 0x11 0).put 0x1130 0x10 1 :=
      if_pos (by simp [hlatch, hown, hb])
    rw [hu, hstep]
    exact ⟨Dev.num_put .., rfl⟩

end Sys2Proof.Machine
end

section
/-! SUPPORT. What a stream's operations leave: an event of the journal, a request taken, a frame's publication (R351 to R355). -/

namespace Sys2Proof.Machine
namespace Dev

variable {d : Dev}

/-- A request taken is counted in the objects of its port alone. -/
theorem num_taken (d : Dev) (o : Origin) (i : Nat) (r : Request) {j t : Nat} (hj : j ≠ netIdx o) (ht : t < 256) :
    (d.taken o i r).num j t = d.num j t := by
  have hdiv : objKey j t / 256 = j := by unfold objKey; omega
  unfold num
  rw [get_objs_taken d o i r (by rw [hdiv]; exact hj)]

theorem streamIdx_ne_netIdx {k : Nat} (hk : k < 16) (o : Origin) : streamIdx k ≠ netIdx o := by
  unfold streamIdx netIdx
  cases o <;> dsimp only <;> omega

theorem nat_congr {d e : Dev} {i s : Nat} (h : e.num i s = d.num i s) : e.nat i s = d.nat i s := by
  unfold nat
  rw [h]

/-- An event of the journal leaves the network side and every object but the count of lost events. -/
theorem journalEvent_leaves (d : Dev) (c : Ctx) (code key : Nat) (new : List Byte) :
    (d.journalEvent c code key new).net = d.net ∧
    ∀ i s, i ≠ 0x1200 → s < 256 → (d.journalEvent c code key new).num i s = d.num i s := by
  unfold journalEvent
  dsimp only
  split_ifs
  · exact ⟨rfl, fun _ _ _ _ => rfl⟩
  · exact ⟨rfl, fun i s hi hs => num_put_of_idx_ne d _ hi.symm (by decide) hs⟩

theorem streamIdx_ne (k : Nat) (hk : k < 16) : streamIdx k ≠ 0x1200 := by unfold streamIdx; omega

theorem streamEvent_leaves (d : Dev) (s code : Nat) : (d.streamEvent s code).net = d.net ∧
    ∀ i t, i ≠ 0x1200 → t < 256 → (d.streamEvent s code).num i t = d.num i t := journalEvent_leaves ..

/-- A response leaves the objects. -/
theorem num_respond (d : Dev) (y : Reply) (res : Res) (b : List Byte) (i s : Nat) : (d.respond y res b).num i s = d.num i s :=
  num_congr_objs (objs_respond ..) i s

/-- A stream changed is the stream of its number. -/
theorem getD_onStream (d : Dev) {k : Nat} (f : Stream → Stream) (hk : k < d.net.streams.length) :
    (d.onStream k f).net.streams.getD k Stream.atReset = f (d.net.streams.getD k Stream.atReset) := by
  unfold onStream
  simp [List.getD_eq_getElem?_getD, hk]

/-! ### Frames that are taken -/

/-- The values of a frame on their way to the boundaries of their home lanes (R353). -/
def framePubs (d : Dev) (o : Origin) (b : List Byte) : List StreamPub :=
  let s := leNat (slice b 1 1)
  let l := d.serveLane o
  (cutValues (d.streamMap s) (slice b 16 (leNat (slice b 8 2)))).filterMap fun v =>
    let q := d.pubSlotOf l v.1
    if d.laneLost q.1 then none
    else match objRow (v.1 / 256) (v.1 % 256) with
      | some _ => some (⟨s, q.1, q.2, (d.lane l).slots + 1, v.1, v.2⟩ : StreamPub)
      | none => none

theorem due_pubSlotOf (d : Dev) (l : LaneId) (key : Nat) : (d.pubSlotOf l key).2 =
    (d.lane (d.pubSlotOf l key).1).slots + (if (d.pubSlotOf l key).1 = l then 2 else 3) := by
  unfold pubSlotOf
  split
  · next h _ => by_cases hl : h = l <;> simp [hl]
  · simp

theorem mem_framePubs {o : Origin} {b : List Byte} {q : StreamPub} (h : q ∈ d.framePubs o b) :
    q.stream = leNat (slice b 1 1) ∧ q.due = (d.lane q.lane).slots + (if q.lane = d.serveLane o then 2 else 3) := by
  obtain ⟨v, -, hv⟩ := List.mem_filterMap.mp h
  dsimp only at hv
  split_ifs at hv
  split at hv
  · cases hv
    exact ⟨rfl, due_pubSlotOf ..⟩
  · cases hv

/-- A value of a mapped object whose home works is on its way. -/
theorem framePubs_of_value {o : Origin} {b : List Byte} {v : Nat × List Byte}
    (hv : v ∈ cutValues (d.streamMap (leNat (slice b 1 1))) (slice b 16 (leNat (slice b 8 2))))
    (hrow : (objRow (v.1 / 256) (v.1 % 256)).isSome = true)
    (hlost : d.laneLost (d.pubSlotOf (d.serveLane o) v.1).1 = false) :
    (⟨leNat (slice b 1 1), (d.pubSlotOf (d.serveLane o) v.1).1, (d.pubSlotOf (d.serveLane o) v.1).2,
      (d.lane (d.serveLane o)).slots + 1, v.1, v.2⟩ : StreamPub) ∈ d.framePubs o b := by
  refine List.mem_filterMap.mpr ⟨v, hv, ?_⟩
  obtain ⟨r, hr⟩ := Option.isSome_iff_exists.mp hrow
  dsimp only
  rw [if_neg (by simp [hlost]), hr]

/-- A stream that carried a frame is LIVE, an event where it was not (R354). -/
def streamLive (d : Dev) (s : Nat) : Dev :=
  if d.nat (streamIdx s) 0x10 == 2 then d else (d.put (streamIdx s) 0x10 2).streamEvent s 0x10

theorem streamLive_says (d : Dev) {s : Nat} (hs : s < 16) : (d.streamLive s).net = d.net ∧
    (d.streamLive s).num (streamIdx s) 0x10 = 2 ∧ (d.streamLive s).num (streamIdx s) 0x12 = d.num (streamIdx s) 0x12 := by
  unfold streamLive
  split_ifs with h
  · refine ⟨rfl, ?_, rfl⟩
    have h2 : (d.num (streamIdx s) 0x10).toNat = 2 := by simpa [nat] using h
    omega
  · obtain ⟨hnet, hnum⟩ := (d.put (streamIdx s) 0x10 2).streamEvent_leaves s 0x10
    rw [hnet, hnum _ _ (streamIdx_ne s hs) (by decide), hnum _ _ (streamIdx_ne s hs) (by decide),
      num_put, num_put_of_sub_ne _ _ (by decide) (by decide) (by decide)]
    exact ⟨rfl, rfl, rfl⟩

/-- A frame on its way: its values, the stream changed by f, its count and its stamp (R353). -/
def frameTaken (d : Dev) (o : Origin) (b : List Byte) (f : Stream → Stream) : Dev :=
  let s := leNat (slice b 1 1)
  let stamp := (d.lane (d.serveLane o)).slots + 1
  ((({ d with net := { d.net with pubs := d.net.pubs ++ d.framePubs o b } }.onStream s f).inc (streamIdx s) 0x12).put
    (streamIdx s) 0x16 ((stamp % 2 ^ 32 : Nat) : Int)).onSession (leNat (slice b 2 2)) fun x => { x with since := stamp }

/-- A first frame of its slot (R353, R354). -/
theorem acceptFrame_of_fresh (o : Origin) (b : List Byte)
    (hgot : (d.net.streams.getD (leNat (slice b 1 1)) Stream.atReset).got = false) :
    ∃ f : Stream → Stream, (∀ x, (f x).seq = leNat (slice b 4 4) ∧ (f x).got = true) ∧
      d.acceptFrame o b = (d.frameTaken o b f).streamLive (leNat (slice b 1 1)) := by
  refine ⟨fun x => { x with
    got := true, seq := leNat (slice b 4 4), prevSeq := x.seq
    prevA := if x.got then some x.stampA else none
    prevB := if x.got then some x.stampB else none
    stampA := (d.lane .a).slots + 1, stampB := (d.lane .b).slots + 1 }, fun _ => ⟨rfl, rfl⟩, ?_⟩
  unfold acceptFrame
  dsimp only
  rw [hgot]
  rfl

end Dev
end Sys2Proof.Machine
end

section
/-! PROOF. O40: streams are attached, detached, received, timed out and sent (R351 to R355). -/

namespace Sys2Proof.Machine
namespace Dev

variable {d : Dev}

/-! ### Attach and detach -/

theorem lt_of_attachRes {c : Ctx} {k : Nat} (h : d.attachRes c k = .ok) : k < 16 := by
  unfold attachRes at h
  split_ifs at h with hrole hbad
  exact Nat.lt_of_not_le fun hk => hbad (.inl hk)

section
variable {o : Origin} {i : Nat} {r : Request} {c : Ctx} (h : d.chosen o = some (i, r)) (hwf : r.wellFormed = true)
  (hc : (d.taken o i r).reqCtx o r = some c)
include h hwf hc

/-- A request to attach as the port carries it out (R352). -/
theorem attachStep_of_chosen (hrow : r.row = 0x20) : attachStep o d =
    let e := d.taken o i r
    let k := leNat (r.payload.take 1)
    match e.attachRes c k with
    | .ok =>
      let a := e.put (streamIdx k) 0x11 c.session
      (if a.streamRx k then a else a.put (streamIdx k) 0x10 4).respond (d.replyNow o r) .ok []
    | res => e.respond (d.replyNow o r) res [] := by
  have hserve := serve_chosen h hwf hc fun _ c y r d =>
    let s := leNat (r.payload.take 1)
    match d.attachRes c s with
    | .ok =>
      let d := d.put (streamIdx s) 0x11 c.session
      (if d.streamRx s then d else d.put (streamIdx s) 0x10 4).respond y .ok []
    | res => d.respond y res []
  rw [hrow] at hserve
  exact hserve

/-- A request to detach as the port carries it out (R352). -/
theorem detachStep_of_chosen (hrow : r.row = 0x21) : detachStep o d =
    let e := d.taken o i r
    let k := leNat (r.payload.take 1)
    if k < 16 ∧ c.session ≠ 0 ∧ e.nat (streamIdx k) 0x11 = c.session then (e.detach k).respond (d.replyNow o r) .ok []
    else e.respond (d.replyNow o r) .inconsistent [] := by
  have hserve := serve_chosen h hwf hc fun _ c y r d =>
    let s := leNat (r.payload.take 1)
    if s < 16 ∧ c.session ≠ 0 ∧ d.nat (streamIdx s) 0x11 = c.session then (d.detach s).respond y .ok []
    else d.respond y .inconsistent []
  rw [hrow] at hserve
  exact hserve

end

/-- A stream attached to a session, sending where it transmits (R352). -/
def attached (d : Dev) (k session : Nat) : Dev :=
  let a := d.put (streamIdx k) 0x11 session
  if a.streamRx k then a else a.put (streamIdx k) 0x10 4

theorem attached_says (d : Dev) (k session : Nat) : (d.attached k session).num (streamIdx k) 0x11 = session ∧
    (d.streamRx k = false → (d.attached k session).num (streamIdx k) 0x10 = 4) ∧
    (d.attached k session).net = d.net ∧ (d.attached k session).lanes = d.lanes ∧
    ∀ i s, i ≠ streamIdx k → s < 256 → (d.attached k session).num i s = d.num i s := by
  have hrx : (d.put (streamIdx k) 0x11 session).streamRx k = d.streamRx k := by
    unfold streamRx
    rw [num_put_of_sub_ne _ _ (by decide) (by decide) (by decide)]
  unfold attached
  dsimp only
  rw [hrx]
  split_ifs with h
  · exact ⟨num_put .., fun h' => absurd (h.symm.trans h') (by decide), rfl, rfl,
      fun i s hi hs => num_put_of_idx_ne d _ hi.symm (by decide) hs⟩
  · refine ⟨?_, fun _ => num_put .., rfl, rfl, fun i s hi hs => ?_⟩
    · rw [num_put_of_sub_ne _ _ (by decide) (by decide) (by decide), num_put]
    · rw [num_put_of_idx_ne _ _ hi.symm (by decide) hs, num_put_of_idx_ne _ _ hi.symm (by decide) hs]

/-- An attachment does not change the frame of a response. -/
theorem response_attached (d : Dev) {k : Nat} (hk : k < 16) (session : Nat) (y : Reply) (res : Res) (b : List Byte) :
    (d.attached k session).response y res b = d.response y res b := by
  obtain ⟨-, -, -, hlanes, hnum⟩ := d.attached_says k session
  have hne : ∀ i, i = 0x2500 ∨ i = 0x1130 → i ≠ streamIdx k := fun i hi => by unfold streamIdx; omega
  exact response_congr hlanes (hnum _ _ (hne _ (.inl rfl)) (by decide)) (hnum _ _ (hne _ (.inr rfl)) (by decide))
    (hnum _ _ (hne _ (.inr rfl)) (by decide)) y res b

/-- A stream detached belongs to no session (R352). -/
theorem num_detach (d : Dev) (k : Nat) : (d.detach k).num (streamIdx k) 0x11 = 0 := by
  unfold detach
  dsimp only
  split_ifs with h0
  · exact h0
  all_goals exact num_put ..

/-! ### Frames -/

theorem streamFrameArrivalStep_of_deaf {o : Origin} {h : FrameHead} {can : Nat} {pdu : List Byte}
    (hno : d.busUp o = false ∨ d.takesFrame o h can 47121 2 = false) : streamFrameArrivalStep o h can pdu d = d := by
  unfold streamFrameArrivalStep
  refine if_neg ?_
  rcases hno with h | h <;> simp [h]

theorem streamFrameArrivalStep_of_heard {o : Origin} {h : FrameHead} {can : Nat} {pdu : List Byte}
    (hup : d.busUp o = true) (htakes : d.takesFrame o h can 47121 2 = true) :
    (d.frameOk o (partnerOf o h can) pdu = true → streamFrameArrivalStep o h can pdu d = d.acceptFrame o pdu) ∧
    (d.frameOk o (partnerOf o h can) pdu = false → 16 ≤ pdu.length → leNat (slice pdu 1 1) < 16 →
      streamFrameArrivalStep o h can pdu d = d.inc (streamIdx (leNat (slice pdu 1 1))) 0x13) := by
  unfold streamFrameArrivalStep
  rw [if_pos (by simp [hup, htakes])]
  exact ⟨fun hok => if_pos hok, fun hbad hlen hk => (if_neg (by simp [hbad])).trans (if_pos ⟨by omega, hk⟩)⟩

theorem lt_of_frameOk {o : Origin} {who b : List Byte} (h : d.frameOk o who b = true) : leNat (slice b 1 1) < 16 := by
  simp only [frameOk, Bool.and_eq_true, decide_eq_true_eq] at h
  tauto

theorem acceptFrame_says {o : Origin} {b : List Byte} (hk : leNat (slice b 1 1) < 16) (hlen : d.net.streams.length = 16)
    (hgot : (d.net.streams.getD (leNat (slice b 1 1)) Stream.atReset).got = false) :
    let k := leNat (slice b 1 1)
    let e := d.acceptFrame o b
    (e.net.streams.getD k Stream.atReset).seq = leNat (slice b 4 4) ∧ (e.net.streams.getD k Stream.atReset).got = true ∧
    e.num (streamIdx k) 0x10 = 2 ∧ e.num (streamIdx k) 0x12 = min (d.num (streamIdx k) 0x12 + 1) 4294967295 ∧
    e.net.pubs = d.net.pubs ++ d.framePubs o b := by
  obtain ⟨f, hf, heq⟩ := acceptFrame_of_fresh o b hgot
  obtain ⟨hnet, h10, h12⟩ := (d.frameTaken o b f).streamLive_says hk
  have hstream : (d.frameTaken o b f).net.streams.getD (leNat (slice b 1 1)) Stream.atReset =
      f (d.net.streams.getD (leNat (slice b 1 1)) Stream.atReset) :=
    getD_onStream { d with net := { d.net with pubs := d.net.pubs ++ d.framePubs o b } } f (by
      dsimp only
      rw [hlen]
      exact hk)
  have hcount : (d.frameTaken o b f).num (streamIdx (leNat (slice b 1 1))) 0x12 =
      min (d.num (streamIdx (leNat (slice b 1 1))) 0x12 + 1) 4294967295 :=
    (num_put_of_sub_ne _ _ (by decide) (by decide) (by decide)).trans (num_inc ..)
  dsimp only
  rw [heq, hnet, hstream, h10, h12, hcount]
  exact ⟨(hf _).1, (hf _).2, rfl, rfl, rfl⟩

/-! ### Timeouts and transmission -/

theorem mapped_of_whole {l : LaneId} {c : Ctx} {e : Nat} (hw : writeOnly (mapKey e) = false)
    (hlen : (d.visible l c (mapKey e)).length = mapLen e) : d.mapped l c e = d.visible l c (mapKey e) := by
  have htake : (d.visible l c (mapKey e)).take (mapLen e) = d.visible l c (mapKey e) := List.take_of_length_le hlen.le
  unfold mapped
  simp [hw, htake, hlen]

theorem streamTimeoutStep_of_late {k : Nat} (hk : k < 16) (hon : d.streamOn k = true) (hrx : d.streamRx k = true)
    (hlive : d.num (streamIdx k) 0x10 = 2)
    (hlate : (if d.streamLane k = .a then (d.net.streams.getD k Stream.atReset).stampA
      else (d.net.streams.getD k Stream.atReset).stampB) + d.streamSlots k < (d.lane (d.streamLane k)).slots) :
    streamTimeoutStep k d = ((d.put (streamIdx k) 0x10 3).inc (streamIdx k) 0x15).streamEvent k 0x11 := by
  unfold streamTimeoutStep
  exact if_pos ⟨hk, hon, hrx, hlive, hlate⟩

/-- The frame of a transmit stream: its mapping's values under the next sequence number (R355). -/
def streamPdu (d : Dev) (k : Nat) : List Byte :=
  let x := d.net.streams.getD k Stream.atReset
  let id := d.nat (streamIdx k) 0x11
  let data := (d.streamMap k).flatMap fun e => d.mapped (d.serveLane (d.streamPort k)) (d.sessionCtx id) e
  taggedPdu id (((d.openSession id).map fun x => x.key).getD []) (toLE 1 0x12 ++ toLE 1 k ++ toLE 2 id ++
    toLE 4 ((x.seq + 1) % 2 ^ 32) ++ toLE 2 data.length ++ List.replicate 6 0 ++ data)

/-- The stream behind a frame of its period. -/
def streamSent (d : Dev) (k : Nat) : Dev :=
  let x := d.net.streams.getD k Stream.atReset
  d.onStream k fun y => { y with seq := (x.seq + 1) % 2 ^ 32, sentSlot := some (d.serveSlot (d.streamPort k)) }

/-- The frame as it is queued, to its session's partner (R335, R337, R355). -/
def streamFrame (d : Dev) (k : Nat) : TxFrame :=
  let id := d.nat (streamIdx k) 0x11
  d.framed (d.streamPort k) 2 (d.sessionCtx id).partner ⟨((d.openSession id).map fun s => s.ip).getD [], 47121⟩ (d.streamPdu k)

theorem streamTransmitStep_of_due {k : Nat} (hk : k < 16) (hup : d.portUp (d.streamPort k) = true)
    (hsends : d.num (streamIdx k) 0x10 = 4) (hid : d.nat (streamIdx k) 0x11 ≠ 0)
    (hfirst : (d.net.streams.getD k Stream.atReset).sentSlot ≠ some (d.serveSlot (d.streamPort k)))
    (hslot : d.serveSlot (d.streamPort k) % (d.nat (streamIdx k) 4 * 2) = 0)
    (hroom : (d.reqPort (d.streamPort k)).tx.length < txRoom (d.streamPort k)) :
    streamTransmitStep k d = ((d.streamSent k).transmit (d.streamPort k) (d.streamFrame k)).inc (streamIdx k) 0x12 := by
  unfold streamTransmitStep
  dsimp only
  rw [if_pos]
  · exact if_neg (Nat.not_le.mpr hroom)
  · simp only [Bool.and_eq_true, decide_eq_true_eq, beq_iff_eq, bne_iff_ne]
    exact ⟨⟨⟨⟨⟨hk, hup⟩, hsends⟩, hid⟩, hfirst⟩, hslot⟩

/-- What the frame of a stream is: ahead of responses, of the present slot, to the session's partner, in the form of its port. -/
theorem streamFrame_says (d : Dev) (k : Nat) :
    let q := d.streamPort k
    let id := d.nat (streamIdx k) 0x11
    let f := d.streamFrame k
    f.stream = true ∧ f.slot = d.serveSlot q ∧ f.dest = (d.sessionCtx id).partner ∧
    f.pdu = (if q = .n3 then canData (d.streamPdu k) else d.streamPdu k) ∧
    ((q = .n1 ∨ q = .n2) → ∀ x, d.openSession id = some x → f.head = .udp x.ip 47121 47121) ∧
    (q = .n3 → f.head = .can (d.canIdOf 2 f.dest)) := by
  unfold streamFrame framed
  cases d.streamPort k <;> dsimp only
  · exact ⟨rfl, rfl, rfl, rfl, fun _ x hx => by rw [hx]; rfl, fun h => absurd h (by decide)⟩
  · exact ⟨rfl, rfl, rfl, rfl, fun _ x hx => by rw [hx]; rfl, fun h => absurd h (by decide)⟩
  · exact ⟨rfl, rfl, rfl, rfl, fun h => absurd h (by decide), fun _ => rfl⟩
  · exact ⟨rfl, rfl, rfl, rfl, fun h => absurd h (by decide), fun h => absurd h (by decide)⟩
  · exact ⟨rfl, rfl, rfl, rfl, fun h => absurd h (by decide), fun h => absurd h (by decide)⟩

theorem mem_transmit_stream {o : Origin} {f : TxFrame} (hf : f.stream = true) (hroom : (d.reqPort o).tx.length < txRoom o) :
    f ∈ ((d.transmit o f).reqPort o).tx := by
  unfold transmit
  rw [reqPort_onReqPort, if_neg (Nat.not_le.mpr hroom)]
  simp [hf]

end Dev

/-- Settles O40: each stream command by the equation of its step, and a frame's values through its publications. -/
theorem streamsCarryValues : Obligations.StreamsCarryValues := by
  unfold Obligations.StreamsCarryValues
  intro s o hs
  refine ⟨fun i r c hch hwf => ?_, fun h can pdu => ?_, fun k hk => ?_⟩
  · intro d k hc
    have hroom := Dev.room_of_chosen hch
    have hy : (s.dev.replyNow o r).origin = originCode o := rfl
    have hnum : ∀ {k t}, k < 16 → t < 256 → d.num (streamIdx k) t = s.dev.num (streamIdx k) t := fun hk ht =>
      Dev.num_taken _ _ _ _ (Dev.streamIdx_ne_netIdx hk o) ht
    refine ⟨fun hrow hres => ?_, fun hrow hres => ?_, fun hrow hk hses hid => ?_⟩ <;> refine answers_of_awake hs rfl fun u hu => ?_
    · have hk := Dev.lt_of_attachRes hres
      have hstep := Dev.attachStep_of_chosen hch hwf hc hrow
      dsimp only at hstep
      rw [hres] at hstep
      change attachStep o s.dev = (d.attached k c.session).respond (s.dev.replyNow o r) .ok [] at hstep
      obtain ⟨h11, h10, hnet, -⟩ := d.attached_says k c.session
      have hport : (d.attached k c.session).reqPort o = d.reqPort o := by rw [Dev.reqPort, hnet, Dev.reqPort]
      have htx := Dev.tx_respond (d := d.attached k c.session) hy (by rw [hport]; exact hroom) .ok
      have hrx : d.streamRx k = s.dev.streamRx k := by rw [Dev.streamRx, hnum hk (by decide), Dev.streamRx]
      rw [Dev.response_attached _ hk, hport] at htx
      rw [hu, hstep, Dev.num_respond, Dev.num_respond]
      exact ⟨h11, fun h => h10 (hrx.trans h), htx.trans (congrArg (· ++ _) (Dev.tx_taken ..))⟩
    · have hstep : ∀ res, d.attachRes c k = res → res ≠ .ok →
          attachStep o s.dev = d.respond (s.dev.replyNow o r) res [] := fun res h hne => by
        have hstep := Dev.attachStep_of_chosen hch hwf hc hrow
        dsimp only at hstep
        rw [hstep]
        change (match d.attachRes c k with | .ok => _ | res => _) = _
        rw [h]
        split
        · exact absurd rfl hne
        · rfl
      rw [hu, hstep _ rfl hres]
      exact Dev.objs_respond ..
    · have hstep := Dev.detachStep_of_chosen hch hwf hc hrow
      dsimp only at hstep
      rw [if_pos ⟨hk, hses, (Dev.nat_congr (hnum hk (by decide))).trans hid⟩] at hstep
      rw [hu, hstep, Dev.num_respond]
      exact Dev.num_detach ..
  · dsimp only
    refine ⟨fun hno => exec_of_fixed rfl (Dev.streamFrameArrivalStep_of_deaf hno), fun hup htakes =>
      ⟨fun hok hlen hgot => ?_, fun hbad hlen hk => ?_⟩⟩ <;> refine answers_of_awake hs rfl fun u hu => ?_
    · obtain ⟨hseq, hgot', h10, h12, hpubs⟩ := Dev.acceptFrame_says (o := o) (Dev.lt_of_frameOk hok) hlen hgot
      rw [hu, (Dev.streamFrameArrivalStep_of_heard hup htakes).1 hok, hpubs]
      refine ⟨hseq, hgot', h10, h12, fun q hq => ?_, fun v hv hrow hlost => ?_⟩
      · exact (List.mem_append.mp hq).imp_right Dev.mem_framePubs
      · exact List.mem_append_right _ (Dev.framePubs_of_value hv hrow hlost)
    · rw [hu, (Dev.streamFrameArrivalStep_of_heard hup htakes).2 hbad hlen hk]
      exact ⟨Dev.num_inc .., rfl⟩
  · dsimp only
    refine ⟨fun e _ hw hlen => Dev.mapped_of_whole hw hlen, fun hlive => ?_, fun hon hrx hlive hlate => ?_,
      fun hup hsends hid hfirst hslot hroom hlen => ?_⟩
    · exact exec_of_fixed rfl (if_neg fun h => hlive h.2.2.2.1)
    · refine answers_of_awake hs rfl fun u hu => ?_
      obtain ⟨-, hnum⟩ := ((s.dev.put (streamIdx k) 0x10 3).inc (streamIdx k) 0x15).streamEvent_leaves k 0x11
      rw [hu, Dev.streamTimeoutStep_of_late hk hon hrx hlive hlate, hnum _ _ (Dev.streamIdx_ne k hk) (by decide),
        hnum _ _ (Dev.streamIdx_ne k hk) (by decide), Dev.num_inc_of_sub_ne _ (by decide) (by decide) (by decide), Dev.num_put,
        Dev.num_inc, Dev.num_put_of_sub_ne _ _ (by decide) (by decide) (by decide)]
      exact ⟨rfl, rfl⟩
    · refine answers_of_awake hs rfl fun u hu => ?_
      rw [hu, Dev.streamTransmitStep_of_due hk hup hsends hid hfirst hslot hroom]
      have hstream := Dev.getD_onStream s.dev (k := k) (fun y => { y with
        seq := ((s.dev.net.streams.getD k Stream.atReset).seq + 1) % 2 ^ 32
        sentSlot := some (s.dev.serveSlot (s.dev.streamPort k)) }) (by omega)
      obtain ⟨hf, hsays⟩ := s.dev.streamFrame_says k
      refine ⟨⟨s.dev.streamFrame k, Dev.mem_transmit_stream (d := s.dev.streamSent k) hf hroom, hf, hsays⟩,
        congrArg Stream.seq hstream, congrArg Stream.sentSlot hstream, Dev.num_inc ..⟩

end Sys2Proof.Machine
end

section
/-! SUPPORT. The timed-action table: an entry replaced, an occurrence that has run or is refused, and a value that an
occurrence writes (R322 to R327). -/

namespace Sys2Proof.Machine

/-! ### Entries -/

/-- An entry after its next occurrence with a result, before it settles (R325). -/
def TimedEntry.occur (x : TimedEntry) (res : Res) : TimedEntry :=
  let y := { x with result := res.code, done := x.done + 1, arming := false }
  if res = .ok then { y with executed := sat32 (y.executed + 1) } else y.flag 3

theorem TimedEntry.settle_leaves (x : TimedEntry) (a : Action) :
    (x.settle a).done = x.done ∧ (x.settle a).result = x.result ∧ (x.settle a).executed = x.executed := by
  unfold settle
  split_ifs <;> exact ⟨rfl, rfl, rfl⟩

theorem TimedEntry.flag_leaves (x : TimedEntry) (k : Nat) :
    (x.flag k).done = x.done ∧ (x.flag k).result = x.result ∧ (x.flag k).executed = x.executed := by
  unfold flag
  split_ifs <;> exact ⟨rfl, rfl, rfl⟩

/-- What an occurrence leaves of an entry: it is counted as executed, or, refused, keeps its result (R325). -/
theorem TimedEntry.settle_occur (x : TimedEntry) (res : Res) (a : Action) :
    (((x.occur res).settle a).done = x.done + 1 ∧ ((x.occur res).settle a).result = res.code) ∧
    ((x.occur res).settle a).executed = if res = .ok then sat32 (x.executed + 1) else x.executed := by
  obtain ⟨hdone, hresult, hexec⟩ := (x.occur res).settle_leaves a
  rw [hdone, hresult, hexec]
  unfold occur
  dsimp only
  by_cases h : res = .ok
  · rw [if_pos h, if_pos h]
    exact ⟨⟨rfl, rfl⟩, rfl⟩
  · rw [if_neg h, if_neg h]
    exact ⟨⟨(flag_leaves ..).1, (flag_leaves ..).2.1⟩, (flag_leaves ..).2.2⟩

namespace Dev

variable {d : Dev} {e : Nat}

theorem occurred_eq (d : Dev) (e : Nat) (res : Res) :
    d.occurred e res = d.putTimed e (((d.timedEntry e).occur res).settle (d.action e)) := rfl

theorem timedEntry_putTimed_same (he : 1 ≤ e) (hlen : e ≤ d.time.entries.length) (x : TimedEntry) :
    (d.putTimed e x).timedEntry e = x := by
  have hlt : e - 1 < d.time.entries.length := by omega
  have hsucc : e - 1 + 1 = e := by omega
  simp [timedEntry, putTimed, put, putVal, List.getD_eq_getElem?_getD, hlt, hsucc]

theorem timedEntry_putTimed_ne {i : Nat} (hi : 1 ≤ i) (hne : i ≠ e) (x : TimedEntry) :
    (d.putTimed e x).timedEntry i = d.timedEntry i := by
  have hsucc : i - 1 + 1 ≠ e := by omega
  simp only [timedEntry, putTimed, put, putVal, List.getD_eq_getElem?_getD, List.getElem?_mapIdx, if_neg hsucc]
  cases d.time.entries[i - 1]? <;> rfl

theorem dueBefore_kind {k : Nat} {t : Int} (h : d.dueBefore e k t = true) : (d.action e).kind = k := by
  simp only [dueBefore, Bool.and_eq_true, beq_iff_eq] at h
  obtain ⟨⟨⟨-, hkind⟩, -⟩, -⟩ := h
  exact hkind

/-- The table of entries writes no object but its status records and the count of armed entries. -/
theorem get_putTimed {k : Nat} (x : TimedEntry) (he : e < 256) (h1 : k / 256 ≠ 0x2131) (h2 : k / 256 ≠ 0x2132) :
    (d.putTimed e x).objs.get k = d.objs.get k := by
  have hstatus : k ≠ objKey 0x2131 e := by unfold objKey; omega
  have hcount : k ≠ objKey 0x2132 0 := by unfold objKey; omega
  unfold putTimed put putVal
  dsimp only
  rw [ObjStore.get_put_ne _ _ _ _ hcount, ObjStore.get_put_ne _ _ _ _ hstatus]

/-- An occurrence that has run with a result. -/
theorem occurred_says (he : 1 ≤ e) (hlen : e ≤ d.time.entries.length) (res : Res) :
    (((d.occurred e res).timedEntry e).done = (d.timedEntry e).done + 1 ∧
      ((d.occurred e res).timedEntry e).result = res.code) ∧
    ((d.occurred e res).timedEntry e).executed =
      if res = .ok then sat32 ((d.timedEntry e).executed + 1) else (d.timedEntry e).executed := by
  rw [occurred_eq, timedEntry_putTimed_same he hlen]
  exact TimedEntry.settle_occur ..

/-- An occurrence that has run, on a block whose table is that of another. -/
theorem ran_of_entries {d' : Dev} (he : 1 ≤ e) (hlen : e ≤ d.time.entries.length) (h : d'.time.entries = d.time.entries) :
    ((d'.occurred e .ok).timedEntry e).done = (d.timedEntry e).done + 1 ∧ ((d'.occurred e .ok).timedEntry e).result = 0 ∧
    ((d'.occurred e .ok).timedEntry e).executed = sat32 ((d.timedEntry e).executed + 1) := by
  have hentry : d'.timedEntry e = d.timedEntry e := by rw [timedEntry, h, timedEntry]
  obtain ⟨⟨hdone, hres⟩, hexec⟩ := d'.occurred_says he (h ▸ hlen) .ok
  rw [hentry] at hdone hexec
  exact ⟨hdone, hres, hexec⟩

/-- A refused occurrence. -/
theorem refused_says {res : Res} (he : 1 ≤ e) (hlen : e ≤ d.time.entries.length) (hres : res ≠ .ok) :
    ((d.occurred e res).timedEntry e).done = (d.timedEntry e).done + 1 ∧
    ((d.occurred e res).timedEntry e).result = res.code ∧
    ((d.occurred e res).timedEntry e).executed = (d.timedEntry e).executed := by
  obtain ⟨⟨hdone, hcode⟩, hexec⟩ := d.occurred_says he hlen res
  exact ⟨hdone, hcode, hexec.trans (if_neg hres)⟩

/-! ### A value published -/

/-- The indices of the Process objects that RUN lets write, on their first unit: none has an effect at its publication. -/
def freeIdx (idx : Nat) : Prop :=
  (0x3000 ≤ idx ∧ idx < 0x3400 ∧ idx % 256 = 0x61) ∨ idx = 0x1310 ∨ idx = 0x2005 ∨ idx = 0x2010 ∨ idx = 0x2310

theorem freeIdx_of_normIdx {idx : Nat} (h : normIdx idx = 0x1310 ∨ normIdx idx = 0x2005 ∨ normIdx idx = 0x2010 ∨
    normIdx idx = 0x2310 ∨ normIdx idx = 0x3061) : freeIdx idx := by
  generalize hn : normIdx idx = n at h
  unfold normIdx at hn
  unfold freeIdx
  repeat' split at hn
  all_goals omega

/-- The Process objects that RUN lets write, of the table. -/
theorem base_of_process : ∀ r ∈ objRows, r.cls = .process → r.access = .rwa →
    r.base = 0x1310 ∨ r.base = 0x2005 ∨ r.base = 0x2010 ∨ r.base = 0x2310 ∨ r.base = 0x3061 := by decide +kernel

theorem freeIdx_of_process {key : Nat} {r : ObjRow} (hr : objRow (key / 256) (key % 256) = some r) (hcls : r.cls = .process)
    (hacc : r.access = .rwa) : freeIdx (key / 256) := by
  have hmem := List.mem_of_find?_eq_some hr
  have hfits := List.find?_some hr
  simp only [Bool.and_eq_true, beq_iff_eq] at hfits
  obtain ⟨⟨hbase, -⟩, -⟩ := hfits
  exact freeIdx_of_normIdx (hbase ▸ base_of_process r hmem hcls hacc)

theorem afterPublish_of_free {idx : Nat} (h : freeIdx idx) (sub : Nat) : d.afterPublish idx sub false = d := by
  unfold afterPublish
  rcases h with ⟨hlo, hhi, hblk⟩ | rfl | rfl | rfl | rfl
  · have hconv : convertsFrom (portOfIdx idx) idx = false := by
      simp only [convertsFrom, List.any_cons, List.any_nil, Bool.or_false, Bool.or_eq_false_iff, beq_eq_false_iff_ne, pidx]
      omega
    simp [hlo, hhi, hblk, hconv, pairBlocks]
  all_goals rfl

theorem modeChange_of_blk {idx : Nat} (h : idx % 256 ≠ 0x70 ∨ idx < 0x3000) (d : Dev) (sub : Nat) (v : ObjVal) :
    publish.modeChange d idx sub v = false := by
  unfold publish.modeChange
  rcases h with h | h
  · simp [h]
  · simp [show ¬ 0x3000 ≤ idx by omega]

/-- A value published: the object takes it, and what its publication brings about follows; the publications that wait may be
one more. -/
theorem publish_of_value {key session origin : Nat} {raw : List Byte} {r : ObjRow} {more : Bool}
    (hr : objRow (key / 256) (key % 256) = some r) (hcmd : r.cls ≠ .command) (hwo : r.access ≠ .wo)
    (hkey : key ≠ 0x131001) (hmode : ∀ d, publish.modeChange d (key / 256) (key % 256) (decodeVal r.type raw) = false) :
    ∃ ps, d.publish key raw session origin more =
      (({ d.noteApplied key with published := ps }).putVal (key / 256) (key % 256) (decodeVal r.type raw)).afterPublish
        (key / 256) (key % 256) more := by
  unfold publish
  dsimp only
  rw [hr]
  dsimp only
  have hvalue : ¬(r.cls = .command ∨ r.cls = .process ∧ r.access = .wo) := fun h => h.elim hcmd fun h => hwo h.2
  rw [if_neg hvalue, if_neg hkey]
  simp only [hmode, Bool.false_eq_true, if_false]
  split_ifs
  · exact ⟨_, rfl⟩
  · exact ⟨d.published, rfl⟩

/-- An occurrence that writes an object runs where the write is judged OK. -/
theorem applyEntry_of_ok {raw : List Byte}
    (h : d.judgeOn (d.committed 6) d.clkLane 0xFF 7000 false (d.entryKey e) raw = .ok) :
    d.applyEntry e raw = ((d.publish (d.entryKey e) raw 0 6 false).occurred e .ok).show := by
  unfold applyEntry
  dsimp only
  rw [h]

/-- Any other judgement refuses it. -/
theorem applyEntry_of_ne {raw : List Byte}
    (h : d.judgeOn (d.committed 6) d.clkLane 0xFF 7000 false (d.entryKey e) raw ≠ .ok) :
    d.applyEntry e raw =
      (d.occurred e (d.judgeOn (d.committed 6) d.clkLane 0xFF 7000 false (d.entryKey e) raw)).show := by
  unfold applyEntry
  dsimp only
  split
  · next hok => exact absurd hok h
  · rfl

end Dev
end Sys2Proof.Machine
end

section
/-! PROOF. O35: timed actions are armed, cancelled and run (R322 to R328). -/

namespace Sys2Proof.Machine

section
variable {d : Dev} {e : Nat} {v : ObjVal} {session origin : Nat} {rest : List Published}
  (hp : d.published = ⟨objKey 0x2130 e, v, session, origin⟩ :: rest)
include hp

theorem timedActionArmStep_of_pub (hk : (actionOf v.toBytes).kind ≠ 0) :
    timedActionArmStep e d = ((d.dropPub 0x2130 e).putTimed e
      (((actionOf v.toBytes).armed (d.baseNow (actionOf v.toBytes).base)).settle (actionOf v.toBytes))).show := by
  unfold timedActionArmStep
  rw [Dev.pubOf_head hp]
  exact if_neg hk

theorem timedActionArmStep_of_cancelling (hk : (actionOf v.toBytes).kind = 0) : timedActionArmStep e d = d := by
  unfold timedActionArmStep
  rw [Dev.pubOf_head hp]
  exact if_pos hk

theorem timedActionCancelStep_of_arming (hk : (actionOf v.toBytes).kind ≠ 0) : timedActionCancelStep e d = d := by
  unfold timedActionCancelStep
  rw [Dev.pubOf_head hp]
  exact if_neg hk

theorem timedActionCancelStep_of_armed (hk : (actionOf v.toBytes).kind = 0) (hst : (d.timedEntry e).state = 1) :
    timedActionCancelStep e d =
      ((d.dropPub 0x2130 e).putTimed e { d.timedEntry e with state := 3, arming := false }).show := by
  unfold timedActionCancelStep
  rw [Dev.pubOf_head hp]
  exact (if_pos hk).trans (if_pos hst)

theorem timedActionCancelStep_of_idle (hk : (actionOf v.toBytes).kind = 0) (hst : (d.timedEntry e).state ≠ 1) :
    timedActionCancelStep e d = d.dropPub 0x2130 e := by
  unfold timedActionCancelStep
  rw [Dev.pubOf_head hp]
  exact (if_pos hk).trans (if_neg hst)

end

/-- An entry replaced behind its publication: the entry is the new one, the others stay. -/
theorem Dev.putTimed_dropPub_show {d : Dev} {e : Nat} {v : ObjVal} {session origin : Nat} {rest : List Published}
    (hp : d.published = ⟨objKey 0x2130 e, v, session, origin⟩ :: rest) (he : 1 ≤ e) (hlen : e ≤ d.time.entries.length)
    (x : TimedEntry) :
    (((d.dropPub 0x2130 e).putTimed e x).show).timedEntry e = x ∧
    (((d.dropPub 0x2130 e).putTimed e x).show).published = rest ∧
    ∀ i, i ≠ e → 1 ≤ i → (((d.dropPub 0x2130 e).putTimed e x).show).timedEntry i = d.timedEntry i :=
  ⟨timedEntry_putTimed_same (d := d.dropPub 0x2130 e) he hlen x, published_dropPub_head hp,
    fun _ hne hi => timedEntry_putTimed_ne (d := d.dropPub 0x2130 e) hi hne x⟩

theorem timedActionsAreArmedAndCancelled : Says.TimedActionsAreArmedAndCancelled := by
  intro s e v session origin rest hs he _ hlen hp
  dsimp only
  have hreplaced := Dev.putTimed_dropPub_show hp he hlen
  refine ⟨fun hk => answers_of_awake hs rfl fun u hu => ?_, fun hk => exec_of_fixed rfl (timedActionCancelStep_of_arming hp hk),
    fun hk => exec_of_fixed rfl (timedActionArmStep_of_cancelling hp hk),
    fun hk hst => answers_of_awake hs rfl fun u hu => ?_, fun hk hst => answers_of_awake hs rfl fun u hu => ?_⟩
  · rw [hu, timedActionArmStep_of_pub hp hk]
    exact hreplaced _
  · rw [hu, timedActionCancelStep_of_armed hp hk hst]
    exact hreplaced _
  · rw [hu, timedActionCancelStep_of_idle hp hk hst]
    exact ⟨rfl, Dev.published_dropPub_head hp⟩

/-! ### Occurrences -/

section
variable {d : Dev} {e : Nat}

/-- A block with a pulse on an output, to the later end on an active one, which is counted (R326, R328). -/
def Dev.pulsed (d : Dev) (e : Nat) : Dev :=
  let a := d.action e
  let now := d.baseNow a.base
  let occ := a.occurrence (d.timedEntry e).done
  let till := d.time.dt.ns + (if occ < now then 0 else occ - now) + d.pulseWidth a.out
  let old := d.time.pulses.find? fun p => p.out == a.out
  let d := match old with
    | some _ => if a.out < 4 then d.inc 0x2140 (0x11 + a.out) else d
    | none => d
  let till := match old with
    | some p => max till p.till
    | none => till
  { d with time := { d.time with pulses := ⟨a.out, till⟩ :: d.time.pulses.filter fun p => p.out ≠ a.out } }

theorem Dev.entries_pulsed (d : Dev) (e : Nat) : (d.pulsed e).time.entries = d.time.entries := by
  unfold pulsed
  dsimp only
  split
  · split_ifs <;> rfl
  · rfl

theorem Dev.pulses_pulsed (d : Dev) (e : Nat) : ((d.pulsed e).time.pulses.any fun q => q.out == (d.action e).out) = true := by
  unfold pulsed
  simp

theorem syncPulseStep_of_due (h : d.dueBefore e 1 (d.baseNow (d.action e).base + 500) = true)
    (hlost : d.laneLost (outLane (d.action e).out) = false) : syncPulseStep e d = (d.pulsed e).occurred e .ok :=
  (if_pos h).trans (if_neg (ne_true_of_eq_false hlost))

theorem syncPulseStep_of_lost (h : d.dueBefore e 1 (d.baseNow (d.action e).base + 500) = true)
    (hlost : d.laneLost (outLane (d.action e).out) = true) : syncPulseStep e d = d.occurred e .wrongMode :=
  (if_pos h).trans (if_pos hlost)

theorem syncPulseEndStep_of_over {out : Nat} (h : ∃ q, q ∈ d.time.pulses ∧ q.out = out ∧ q.till < d.time.dt.ns + 500) :
    syncPulseEndStep out d =
      { d with time := { d.time with pulses := d.time.pulses.filter fun p => p.out ≠ out } } := by
  obtain ⟨q, hq, hout, htill⟩ := h
  refine if_pos (List.any_eq_true.mpr ⟨q, hq, ?_⟩)
  simp [hout, htill]

variable {k : Nat}

theorem Dev.executes_of_due (hpub : d.wr.pubSlot = some d.slotNow) (hdue : d.dueNow e k = true)
    (hfirst : d.firstInLine e = true) : d.executes e k = true := by
  simp [executes, hpub, hdue, hfirst]

/-- The judgement of an occurrence's write (R325). -/
def Dev.entryRes (d : Dev) (e : Nat) (raw : List Byte) : Res :=
  d.judgeOn (d.committed 6) d.clkLane 0xFF 7000 false (d.entryKey e) raw

/-- An occurrence shown writes no object but the status records and the count of armed entries. -/
theorem Dev.get_occurred_show {res : Res} {j : Nat} (he : e < 256) (h1 : j / 256 ≠ 0x2131) (h2 : j / 256 ≠ 0x2132) :
    (d.occurred e res).show.objs.get j = d.objs.get j :=
  get_putTimed _ he h1 h2

/-- A Process object that an occurrence writes takes the value. -/
theorem Dev.applyEntry_process {raw : List Byte} {r : ObjRow} (he : 1 ≤ e) (he32 : e ≤ 32) (hlen : e ≤ d.time.entries.length)
    (hok : d.entryRes e raw = .ok) (hr : objRow (d.entryKey e / 256) (d.entryKey e % 256) = some r)
    (hcls : r.cls = .process) (hacc : r.access = .rwa) (hkey : d.entryKey e ≠ 0x131001) :
    (((d.applyEntry e raw).timedEntry e).done = (d.timedEntry e).done + 1 ∧
      ((d.applyEntry e raw).timedEntry e).result = 0 ∧
      ((d.applyEntry e raw).timedEntry e).executed = sat32 ((d.timedEntry e).executed + 1)) ∧
    (d.applyEntry e raw).objs.get (d.entryKey e) = decodeVal r.type raw := by
  have hfree := freeIdx_of_process hr hcls hacc
  have hblk : d.entryKey e / 256 % 256 ≠ 0x70 ∨ d.entryKey e / 256 < 0x3000 := by
    unfold freeIdx at hfree
    omega
  have hstatus : d.entryKey e / 256 ≠ 0x2131 ∧ d.entryKey e / 256 ≠ 0x2132 := by
    unfold freeIdx at hfree
    omega
  obtain ⟨ps, hpub⟩ := publish_of_value (d := d) (session := 0) (origin := 6) (raw := raw) (more := false) hr
    (by rw [hcls]; decide) (by rw [hacc]; decide) hkey fun d => modeChange_of_blk hblk d _ _
  rw [afterPublish_of_free hfree] at hpub
  rw [applyEntry_of_ok hok, hpub]
  refine ⟨ran_of_entries he hlen rfl, ?_⟩
  have hk : objKey (d.entryKey e / 256) (d.entryKey e % 256) = d.entryKey e := by unfold objKey; omega
  rw [get_occurred_show (by omega) hstatus.1 hstatus.2]
  unfold putVal
  rw [hk]
  exact ObjStore.get_put_same ..

theorem row_gridAnchor : (objRow (0x215002 / 256) (0x215002 % 256)).map (fun r => (r.cls, r.access, r.type)) =
    some (.config, .rwa, .time80) := by decide +kernel

/-- The publication of the grid anchor moves the grid (R118). -/
theorem Dev.afterPublish_gridAnchor (d : Dev) :
    d.afterPublish (0x215002 / 256) (0x215002 % 256) false = { d with grid := { d.grid with moved := true } } := by
  simp [afterPublish]

theorem Dev.entries_noteApplied (d : Dev) (key : Nat) : (d.noteApplied key).time.entries = d.time.entries := rfl

theorem Dev.grid_occurred_show {res : Res} : (d.occurred e res).show.grid = d.grid := rfl

theorem Dev.ran_shown {d' : Dev} (he : 1 ≤ e) (hlen : e ≤ d.time.entries.length) (h : d'.time.entries = d.time.entries) :
    ((d'.occurred e .ok).show.timedEntry e).done = (d.timedEntry e).done + 1 ∧
    ((d'.occurred e .ok).show.timedEntry e).result = 0 ∧
    ((d'.occurred e .ok).show.timedEntry e).executed = sat32 ((d.timedEntry e).executed + 1) :=
  ran_of_entries he hlen h

/-- The grid anchor that an occurrence writes is stored, and the grid moves. -/
theorem Dev.applyEntry_anchor {raw : List Byte} (he : 1 ≤ e) (he32 : e ≤ 32) (hlen : e ≤ d.time.entries.length)
    (hok : d.entryRes e raw = .ok) (hkey : d.entryKey e = 0x215002) :
    (((d.applyEntry e raw).timedEntry e).done = (d.timedEntry e).done + 1 ∧
      ((d.applyEntry e raw).timedEntry e).result = 0 ∧
      ((d.applyEntry e raw).timedEntry e).executed = sat32 ((d.timedEntry e).executed + 1)) ∧
    (d.applyEntry e raw).objs.get 0x215002 = decodeVal .time80 raw ∧ (d.applyEntry e raw).grid.moved = true := by
  obtain ⟨r, hr, hfields⟩ := Option.map_eq_some_iff.mp row_gridAnchor
  obtain ⟨hcls, hacc, htype⟩ : r.cls = .config ∧ r.access = .rwa ∧ r.type = .time80 := by simpa using hfields
  obtain ⟨ps, hpub⟩ := publish_of_value (d := d) (session := 0) (origin := 6) (raw := raw) (more := false) hr
    (by rw [hcls]; decide) (by rw [hacc]; decide) (by decide) fun d => modeChange_of_blk (.inr (by decide)) d _ _
  rw [afterPublish_gridAnchor] at hpub
  rw [applyEntry_of_ok hok, hkey, hpub, htype]
  refine ⟨ran_shown he hlen (entries_noteApplied d 0x215002), ?_, congrArg Grid.moved grid_occurred_show⟩
  rw [get_occurred_show (by omega) (by decide) (by decide)]
  have hk : objKey (0x215002 / 256) (0x215002 % 256) = 0x215002 := by decide
  unfold putVal
  rw [hk]
  exact ObjStore.get_put_same ..

/-- A refused occurrence that writes keeps its result and publishes nothing. -/
theorem Dev.applyEntry_refused {raw : List Byte} (he : 1 ≤ e) (hlen : e ≤ d.time.entries.length)
    (hres : d.entryRes e raw ≠ .ok) :
    (((d.applyEntry e raw).timedEntry e).done = (d.timedEntry e).done + 1 ∧
      ((d.applyEntry e raw).timedEntry e).result = (d.entryRes e raw).code ∧
      ((d.applyEntry e raw).timedEntry e).executed = (d.timedEntry e).executed) ∧
    (d.applyEntry e raw).published = d.published := by
  rw [applyEntry_of_ne hres]
  exact ⟨refused_says (d := d) he hlen hres, rfl⟩

/-- The mode request that an entry issues. -/
def Dev.entryRequest (d : Dev) (e : Nat) : Published := ⟨d.entryKey e, .num (leNat ((d.action e).value.take 1)), 0, 6⟩

/-- The judgement of an entry's mode request. -/
def Dev.entryModeRes (d : Dev) (e : Nat) : Res :=
  (d.committed 6).modeRequestRes (d.entryKey e / 256) (leNat ((d.action e).value.take 1))

theorem timedModeRequestStep_of_ok (h : d.executes e 4 = true) (hok : d.entryModeRes e = .ok) :
    timedModeRequestStep e d =
      (({ d with published := d.published ++ [d.entryRequest e] }.noteApplied (d.entryKey e)).occurred e .ok).show := by
  unfold timedModeRequestStep
  rw [if_pos h]
  dsimp only
  rw [← Dev.entryModeRes, hok]
  rfl

theorem timedModeRequestStep_of_ne (h : d.executes e 4 = true) (hne : d.entryModeRes e ≠ .ok) :
    timedModeRequestStep e d = (d.occurred e (d.entryModeRes e)).show := by
  unfold timedModeRequestStep
  rw [if_pos h]
  dsimp only
  rw [← Dev.entryModeRes]
  split
  · next hok => exact absurd hok hne
  · rfl

end

theorem occurrencesRun : Says.OccurrencesRun := by
  intro s e hs he he32 hlen
  dsimp only
  refine ⟨fun hdue hlost => ?_, fun hdue hlost => ?_, fun out hover => ?_, fun hpub =>
    ⟨fun r hdue hfirst hok hr hcls hacc hkey => ?_, fun hdue hfirst hne => ?_, fun hdue hfirst hok => ?_,
      fun hdue hfirst => ⟨fun hok => ?_, fun hne => ?_⟩⟩⟩ <;> refine answers_of_awake hs rfl fun u hu => ?_
  · rw [hu, syncPulseStep_of_due hdue hlost]
    exact ⟨Dev.ran_of_entries he hlen (s.dev.entries_pulsed e), s.dev.pulses_pulsed e⟩
  · rw [hu, syncPulseStep_of_lost hdue hlost]
    exact ⟨Dev.refused_says he hlen (by decide), rfl⟩
  · rw [hu, syncPulseEndStep_of_over hover]
    exact ⟨List.any_eq_false.mpr fun q hq => by simpa using (List.mem_filter.mp hq).2, rfl⟩
  · have htarget : s.dev.entryKey e = (s.dev.action e).target := if_pos (Dev.dueBefore_kind hdue)
    have hstep : applyValueStep e s.dev = _ := if_pos (Dev.executes_of_due hpub hdue hfirst)
    rw [hu, hstep, ← htarget]
    rw [← htarget] at hr hkey
    exact Dev.applyEntry_process he he32 hlen hok hr hcls hacc hkey
  · have hstep : applyValueStep e s.dev = _ := if_pos (Dev.executes_of_due hpub hdue hfirst)
    rw [hu, hstep]
    exact Dev.applyEntry_refused he hlen hne
  · have hkind := Dev.dueBefore_kind hdue
    have hanchor : s.dev.entryKey e = 0x215002 := (if_neg (by rw [hkind]; decide)).trans (if_pos hkind)
    have hstep : reanchorCarrierGridStep e s.dev = _ := if_pos (Dev.executes_of_due hpub hdue hfirst)
    rw [hu, hstep]
    exact Dev.applyEntry_anchor he he32 hlen hok hanchor
  · rw [hu, timedModeRequestStep_of_ok (Dev.executes_of_due hpub hdue hfirst) hok]
    refine ⟨Dev.ran_of_entries he hlen rfl, rfl, ?_⟩
    have hmode : (0x200001 : Nat) / 256 ≠ 0x2131 ∧ (0x200001 : Nat) / 256 ≠ 0x2132 := by decide
    exact congrArg (fun v => (ObjVal.toInt v).toNat) (Dev.get_occurred_show (by omega) hmode.1 hmode.2)
  · rw [hu, timedModeRequestStep_of_ne (Dev.executes_of_due hpub hdue hfirst) hne]
    exact ⟨Dev.refused_says (d := s.dev) he hlen hne, rfl⟩

/-- Settles O35: arming and cancelling replace the entry alone; an occurrence writes through `applyEntry`, whose publication
of a Process object has no further effect. -/
theorem timedActionsRun : Obligations.TimedActionsRun :=
  ⟨timedActionsAreArmedAndCancelled, occurrencesRun⟩

end Sys2Proof.Machine
end

section
/-! REFUTATION. O33: a Sync receipt timeout while 0x212y.12 shows another grandmaster than the best Announce names (R317, R330). -/

namespace Sys2Proof.Machine

/-- The master of a port, of grandmaster 5, that sends a Sync every 2^-8 s. -/
def masterOfFive : PortMaster :=
  { PortMaster.atReset with known := true, gm := 5, annOut := false, syncLog := -8, syncOut := false }

/-- T0 is TRACKING with N1 as its slave port, whose last Sync is 30 000 slots old; 0x2120.12 shows no grandmaster. -/
def trackingUnshown : State :=
  ⟨(({ Dev.atReset with
      boot := { Boot.atReset with phase := .up }
      lanes := ⟨Lane.counted 30000, Lane.counted 30000⟩
      time := { TimeUnit.atReset with t0 := { TimeDomain.atReset with onN1 := masterOfFive } } }.put 0x2120 0x10 3).put
      0x2120 0x13 1).put 0x2120 3 1, []⟩

/-- The timeout shows the grandmaster that is left, another than before, and ACQUIRING comes in HOLDOVER's place. -/
theorem domState_trackingUnshown :
    (syncReceiptTimeoutStep .t0 .n1 trackingUnshown.dev).domState .t0 = 2 := by decide +kernel

/-- Refutes O33: the clause on a Sync that fails to come takes a TRACKING base to HOLDOVER, while the judgement of the
grandmaster that follows takes it on to ACQUIRING where 0x212y.12 shows another one. -/
theorem not_networkTimeDisciplinesTheBases : ¬ Obligations.NetworkTimeDisciplinesTheBases := by
  rintro ⟨-, -, htimeouts, -⟩
  obtain ⟨hsync, -⟩ := htimeouts trackingUnshown .t0 .n1 rfl (by decide +kernel) rfl
  obtain ⟨u, hu, -, -, hhold⟩ := hsync rfl (by decide +kernel)
  obtain ⟨hstate, -⟩ := hhold (by decide +kernel) (by decide +kernel) rfl
  have hdev : u.dev = syncReceiptTimeoutStep .t0 .n1 trackingUnshown.dev :=
    State.dev_of_exec_awake (s := trackingUnshown) rfl rfl hu
  rw [hdev, domState_trackingUnshown] at hstate
  exact absurd hstate (by decide)

end Sys2Proof.Machine
end

section
/-! PROOF. O34: application time, the domain enables and the setting of DT (R312, R316 to R318, R320, R328). -/

namespace Sys2Proof.Machine
namespace Dev

variable {d e f : Dev}

/-- e is d but for AT, the rate of DT and the objects of 0x2100. -/
structure AtOnly (d e : Dev) : Prop where
  num : ∀ {i s : Nat}, i ≠ 0x2100 → s < 256 → e.num i s = d.num i s
  dom : ∀ x, e.time.dom x = d.time.dom x
  published : e.published = d.published

namespace AtOnly

theorem refl (d : Dev) : AtOnly d d := ⟨fun _ _ => rfl, fun _ => rfl, rfl⟩

theorem trans (h : AtOnly d e) (h' : AtOnly e f) : AtOnly d f :=
  ⟨fun hi hs => (h'.num hi hs).trans (h.num hi hs), fun x => (h'.dom x).trans (h.dom x), h'.published.trans h.published⟩

theorem put (d : Dev) {j : Nat} (hj : j < 256) (v : Int) : AtOnly d (d.put 0x2100 j v) :=
  ⟨fun hi hs => num_put_of_idx_ne d v hi.symm hj hs, fun _ => rfl, rfl⟩

theorem ofTime {t : TimeUnit} (h : ∀ x, t.dom x = d.time.dom x) : AtOnly d { d with time := t } :=
  ⟨fun _ _ => rfl, h, rfl⟩

theorem domState (h : AtOnly d e) (x : DomId) : e.domState x = d.domState x :=
  nat_congr (h.num (by cases x <;> decide) (by decide))

end AtOnly

theorem atOnly_putBit (d : Dev) (k : Nat) (b : Bool) : AtOnly d (d.putBit 0x2100 0xA k b) := .put d (by decide) _

theorem atOnly_setAt (d : Dev) (st src : Nat) : AtOnly d (d.setAt st src) :=
  ((AtOnly.put d (by decide) _).trans (.put _ (by decide) _)).trans (atOnly_putBit ..)

theorem atOnly_setAtFlag (d : Dev) (st src : Nat) (b : Bool) : AtOnly d ((d.setAt st src).putBit 0x2100 0xA 4 b) :=
  (atOnly_setAt ..).trans (atOnly_putBit ..)

theorem atOnly_retune (d : Dev) : AtOnly d d.retune :=
  (AtOnly.ofTime fun x => by cases x <;> rfl).trans (.put _ (by decide) _)

theorem atOnly_atSwitch (d : Dev) (x : DomId) : AtOnly d (d.atSwitch x) := by
  unfold atSwitch
  split_ifs
  · exact atOnly_setAtFlag ..
  · exact atOnly_setAtFlag ..
  · exact atOnly_setAt ..

/-- AT's selection leaves the domains, their objects and the publications (R318). -/
theorem atOnly_atSelect (d : Dev) : AtOnly d d.atSelect := by
  unfold atSelect
  dsimp only
  refine AtOnly.trans ?_ (atOnly_retune _)
  split
  · split
    · exact .refl d
    · exact (AtOnly.ofTime fun y => by cases y <;> rfl).trans (atOnly_setAt ..)
  · split_ifs
    · exact atOnly_setAt ..
    · exact atOnly_setAt ..
    · exact atOnly_atSwitch ..
    · exact atOnly_setAtFlag ..
    · exact atOnly_setAtFlag ..
    · exact .refl d
    · exact .refl d
    · exact atOnly_atSwitch ..

/-- AT's increment is tuned without a change of AT, nor of its state and source. -/
theorem retune_says (d : Dev) : d.retune.time.at'.val = d.time.at'.val ∧
    d.retune.num 0x2100 5 = d.num 0x2100 5 ∧ d.retune.num 0x2100 6 = d.num 0x2100 6 :=
  ⟨rfl, num_put_ne _ _ _ _ _ _ (by decide), num_put_ne _ _ _ _ _ _ (by decide)⟩

/-- AT's state and source replaced (R318). -/
theorem setAt_says (d : Dev) (st src : Nat) : (d.setAt st src).time.at'.val = d.time.at'.val ∧
    (d.setAt st src).num 0x2100 5 = st ∧ (d.setAt st src).num 0x2100 6 = src := by
  refine ⟨rfl, ?_, ?_⟩ <;> unfold setAt <;> rw [num_putBit_ne _ _ _ _ _ _ _ (by decide)]
  · rw [num_put_ne _ _ _ _ _ _ (by decide), num_put]
  · rw [num_put]

theorem domState_setDomState (d : Dev) (x : DomId) (v : Nat) : (d.setDomState x v).domState x = v :=
  congrArg Int.toNat (d.num_put (domIdx x) 0x10 v)

theorem base_setDomState (d : Dev) (x : DomId) (v : Nat) :
    ((d.setDomState x v).time.dom x).base = (d.time.dom x).base := by cases x <;> rfl

/-- A domain as its enable leaves it (R317). -/
def enabled (d : Dev) (x : DomId) : Dev :=
  if d.num (domIdx x) 1 = 0 then d.setDomState x 0 else if d.domState x = 0 then d.setDomState x 1 else d

theorem enabled_says (d : Dev) (x : DomId) :
    (d.num (domIdx x) 1 = 0 → (d.enabled x).domState x = 0) ∧
    (d.num (domIdx x) 1 ≠ 0 → d.domState x = 0 → (d.enabled x).domState x = 1) ∧
    (d.num (domIdx x) 1 ≠ 0 → d.domState x ≠ 0 → (d.enabled x).domState x = d.domState x) ∧
    ((d.enabled x).time.dom x).base = (d.time.dom x).base ∧ (d.enabled x).published = d.published := by
  unfold enabled
  split_ifs with hoff hidle
  · exact ⟨fun _ => domState_setDomState .., fun h => absurd hoff h, fun h => absurd hoff h, base_setDomState .., rfl⟩
  · exact ⟨fun h => absurd h hoff, fun _ _ => domState_setDomState .., fun _ h => absurd hidle h, base_setDomState .., rfl⟩
  · exact ⟨fun h => absurd h hoff, fun _ h => absurd h hidle, fun _ _ => rfl, rfl, rfl⟩

end Dev

section
variable {d : Dev} {v : ObjVal} {session origin : Nat} {rest : List Published}

theorem domainEnableStep_of_pub {x : DomId} (hp : d.published = ⟨objKey (domIdx x) 1, v, session, origin⟩ :: rest) :
    domainEnableStep x d = ((d.dropPub (domIdx x) 1).enabled x).atSelect.show := by
  unfold domainEnableStep
  rw [Dev.pubOf_head hp]
  rfl

/-- The block with DT set: what DT has stamped moves with it (R312, R316, R320, R328). -/
def Dev.dtSet (d : Dev) (v : Int) : Dev :=
  ({ d with time := { d.time with
      dt := { d.time.dt with val := v * nsUnit }
      t0 := d.time.t0.shifted (v - d.time.dt.ns)
      t1 := d.time.t1.shifted (v - d.time.dt.ns)
      pulses := d.time.pulses.map fun (p : Pulse) => { p with till := p.till + (v - d.time.dt.ns) } } }.putBit
    0x2100 0xA 3 true).show

variable (hp : d.published = ⟨objKey 0x2100 0xD, v, session, origin⟩ :: rest)
include hp

theorem setDtStep_of_ok (h : d.setDtRes = .ok) : setDtStep d = (d.dropPub 0x2100 0xD).dtSet v.toInt := by
  unfold setDtStep
  rw [Dev.pubOf_head hp]
  exact if_pos h

theorem setDtStep_of_ne (h : d.setDtRes ≠ .ok) : setDtStep d = d.dropPub 0x2100 0xD := by
  unfold setDtStep
  rw [Dev.pubOf_head hp]
  exact if_neg h

end

theorem atRevertStep_of_due {d : Dev} {t : Nat}
    (htrack : (d.time.dom (domOf (d.nat 0x2100 7))).trackSlot = some t) (hon : d.num 0x2100 8 = 1) (hst : d.nat 0x2100 5 = 1)
    (hsrc : domOf (d.nat 0x2100 6) ≠ domOf (d.nat 0x2100 7)) (hdue : t + d.nat 0x2100 9 * 2000000 ≤ d.slotNow)
    (hfollow : d.mayFollow (domOf (d.nat 0x2100 7)) = true) :
    atRevertStep d = ((d.setAt 2 (domCode (domOf (d.nat 0x2100 7)))).putBit 0x2100 0xA 4 false).retune := by
  unfold atRevertStep
  dsimp only
  rw [htrack]
  exact if_pos ⟨hon, .inl hst, hsrc, hdue, hfollow⟩

/-- Settles O34: AT's selection leaves the domains, and tuning leaves AT's value, state and source. -/
theorem applicationTimeFollowsItsBase : Obligations.ApplicationTimeFollowsItsBase := by
  intro s hs
  dsimp only
  refine ⟨fun hst hnear => answers_of_awake hs rfl fun u hu => ?_, fun hfar => exec_of_fixed rfl ?_,
    fun t htrack hon hst hsrc hdue hfollow => answers_of_awake hs rfl fun u hu => ?_, fun hnone => exec_of_fixed rfl ?_,
    fun x v session origin rest hp => answers_of_awake hs rfl fun u hu => ?_, fun v session origin rest hp =>
      ⟨fun hok => answers_of_awake hs rfl fun u hu => ?_, fun hne => answers_of_awake hs rfl fun u hu => ?_⟩⟩
  · have hstep : atSwitchCompleteStep s.dev = (s.dev.setAt 1 (s.dev.nat 0x2100 6)).retune := if_pos ⟨hst, hnear⟩
    obtain ⟨hval, h5, h6⟩ := (s.dev.setAt 1 (s.dev.nat 0x2100 6)).retune_says
    obtain ⟨hval', h5', h6'⟩ := s.dev.setAt_says 1 (s.dev.nat 0x2100 6)
    rw [hu, hstep]
    exact ⟨h5.trans h5', (congrArg Int.toNat (h6.trans h6')).trans (Int.toNat_natCast _), hval.trans hval'⟩
  · exact if_neg fun h => absurd h.2 (not_le.mpr hfar)
  · generalize hpref : domCode (domOf (s.dev.nat 0x2100 7)) = src
    obtain ⟨hval, h5, h6⟩ := ((s.dev.setAt 2 src).putBit 0x2100 0xA 4 false).retune_says
    obtain ⟨hval', h5', h6'⟩ := s.dev.setAt_says 2 src
    rw [hu, atRevertStep_of_due htrack hon hst hsrc hdue hfollow, hpref, h5, h6, Dev.num_putBit_ne _ _ _ _ _ _ _ (by decide),
      Dev.num_putBit_ne _ _ _ _ _ _ _ (by decide)]
    exact ⟨h5', h6', hval.trans hval'⟩
  · unfold atRevertStep
    dsimp only
    rw [hnone]
  · have hsel := Dev.atOnly_atSelect ((s.dev.dropPub (domIdx x) 1).enabled x)
    obtain ⟨hoff, hon, hkeep, hbase, hpub⟩ := (s.dev.dropPub (domIdx x) 1).enabled_says x
    have hst := hsel.domState x
    rw [hu, domainEnableStep_of_pub hp]
    exact ⟨(hsel.published.trans hpub).trans (Dev.published_dropPub_head hp), fun h => hst.trans (hoff h),
      fun h h0 => hst.trans (hon h h0), fun h h0 => hst.trans (hkeep h h0), (congrArg TimeDomain.base (hsel.dom x)).trans hbase⟩
  · rw [hu, setDtStep_of_ok hp hok]
    exact ⟨rfl, Dev.bit_putBit_same .., Dev.published_dropPub_head hp, fun x n => by cases x <;> cases n <;> exact ⟨rfl, rfl, rfl⟩,
      rfl, rfl⟩
  · rw [hu, setDtStep_of_ne hp hne]
    exact ⟨rfl, Dev.published_dropPub_head hp⟩

end Sys2Proof.Machine
end
